-- ==== Sys2Proof/Word.lean ====
section
/-! DEFINITION. The word types of the part. A port transfers 32-bit words (R183), a frame is a string of
bytes, and the cipher works on blocks of 16 bytes (00_scope, "Units and conventions"). -/

namespace Sys2Proof

/-- One byte of a frame, a mailbox or a control message. -/
abbrev Byte := BitVec 8

/-- One word of an access point (R183). -/
abbrev Word := BitVec 32

/-- One block of 16 bytes; also a key's material (R24) and the root (R26). -/
abbrev Block := BitVec 128

end Sys2Proof
end

