-- ==== Sys2Proof/Syntax.lean ====
section
/-! DEFINITION. The commands of the part: one constructor per row of spec/opcode_table.json. A row is one
whole, indivisible step of the part (95_what_each_step_holds): an event of its clocks and timers, a start or
a completion of its engine, an access to one of its access points, or a command of a controller. -/

namespace Sys2Proof

/-- The two controller ports (R165): the S-port of the shop controller and the L-port of the line controller. -/
inductive Port where
  | s | l
  deriving DecidableEq, Repr

/-- The other port: the partner of R173. -/
def Port.other : Port → Port
  | .s => .l
  | .l => .s

/-- What a controller does at an access point (R165): it writes a word, or reads one. -/
inductive Access where
  | write (w : Word)
  | read
  deriving DecidableEq, Repr

/-- The steps of the part. Operands that name a slot are slot indices 1 to 23, operands that name a context
are context numbers 0 to 3 (WellFormed.lean). A command of R169 carries its port and its argument words,
laid out as R185 gives them; the first word of R184 is made by the model (log entry 18). -/
inductive Instr where
  /-- R176, R26. `written`: whether an update of the root transmit counter that was still being written to
  the non-volatile store when power was lost had completed (log entry 9). -/
  | powerOn (written : Bool)
  /-- R55 and the other tick-driven counts. -/
  | tick
  /-- R55: the age test of a slot. -/
  | keyAgeLimit (slot : Nat)
  /-- R56: the grace test of a slot. -/
  | keyGraceExpiry (slot : Nat)
  /-- R51. -/
  | accountIntervalEnd
  /-- R35: the drain end of a slot. -/
  | drainEnd (slot : Nat)
  /-- R42: the agreement window closes. -/
  | eraseWindowExpiry
  /-- R103. -/
  | quietWatchExpiry
  /-- R136: the reply timer of a context expires. -/
  | replyTimerExpiry (context : Nat)
  /-- R138: the backoff of a slot ends. -/
  | backoffEnd (slot : Nat)
  /-- R138: the boot backoff ends. -/
  | bootBackoffEnd
  /-- R135: a context left in COMPOSE asks for its message again. -/
  | contextComposeRetry (context : Nat)
  /-- R131: a BOOT trigger that found no place is listed anew. -/
  | bootTriggerRelisted
  /-- R158. -/
  | beaconCycleEnd
  /-- R134. -/
  | exchangeStart
  /-- R100: SELF CHECK is taken. -/
  | selfCheckStart
  /-- R176. `upset`: what a failing engine adds (by exclusive or) to its result; 0 for a sound engine
  (log entry 8). -/
  | selfCheckCompletion (upset : Block)
  /-- R82. -/
  | outboundDataStart
  /-- R84. -/
  | outboundControlStart
  /-- R88. -/
  | inboundStart
  /-- R100: the offered test frame is taken. -/
  | testStart
  /-- R96. -/
  | outboundCompletion
  /-- R97. -/
  | inboundCompletion
  /-- R111. `tagUpset`, `textUpset`: what a failing engine adds to the tag it recomputes and to the 64
  plaintext bytes it recovers; 0 for a sound engine (log entry 8). -/
  | testCompletion (tagUpset : BitVec 64) (textUpset : BitVec 512)
  /-- R166: a word written to FRAME IN. -/
  | frameInWrite (port : Port) (w : Word)
  /-- R167: a read of FRAME OUT. -/
  | frameOutRead (port : Port)
  /-- R168: a read of RESPONSE. -/
  | responseRead (port : Port)
  /-- R173: a word written to MAILBOX. -/
  | mailboxWrite (port : Port) (w : Word)
  /-- R173: a read of MAILBOX. -/
  | mailboxRead (port : Port)
  /-- R174: a read of STATUS. -/
  | statusRead (port : Port)
  /-- R165, R168, R190: an access by select code, whichever point it selects. A write, and the reads that have no row of
  their own: of FRAME IN, of COMMAND, and of codes 6 and 7, which select none (log entry 30). -/
  | registerWriteOther (port : Port) (select : BitVec 3) (access : Access)
  /-- R11, R12. -/
  | channelOpen (port : Port) (w2 w3 : Word)
  /-- R14, R15. -/
  | channelClose (port : Port) (w2 : Word)
  /-- R17. -/
  | channelFlags (port : Port) (w2 w3 : Word)
  /-- R18. -/
  | channelReset (port : Port) (w2 : Word)
  /-- R19. -/
  | channelRead (port : Port) (w2 : Word)
  /-- R41. -/
  | keyStatus (port : Port) (w2 : Word)
  /-- R162. -/
  | faultRead (port : Port) (w2 : Word)
  /-- R170. -/
  | partRead (port : Port) (w2 : Word)
  /-- R171. -/
  | renewNow (port : Port) (w2 : Word)
  /-- R73. -/
  | queueLimits (port : Port) (w2 : Word)
  /-- R74. -/
  | queueReset (port : Port) (w2 : Word)
  /-- R153. -/
  | faultDismiss (port : Port) (w2 : Word)
  /-- R155. -/
  | beaconSet (port : Port) (w2 : Word)
  /-- R156. -/
  | beaconCommit (port : Port)
  /-- R156. -/
  | beaconHalt (port : Port)
  /-- R39. -/
  | loadRoot (port : Port) (w2 w3 w4 w5 w6 : Word)
  /-- R178: the non-volatile write of LOAD ROOT completes. -/
  | loadRootWriteComplete
  /-- R181. -/
  | partReset (port : Port)
  /-- R180. -/
  | quiesce (port : Port)
  /-- R180. -/
  | resume (port : Port)
  /-- R110. -/
  | localLoop (port : Port) (w2 : Word)
  /-- R42. -/
  | erase (port : Port)
  deriving DecidableEq, Repr

end Sys2Proof
end

