-- ==== Sys2Proof/WellFormed.lean ====
section
/-! DEFINITION. Which commands are well formed: an operand that names a working slot names one of slots 1 to
23 (R24), an operand that names a renewal context names one of contexts 0 to 3 (R132). Every other operand is
a word, a bit field or a port, and every value of it is admitted. -/

namespace Sys2Proof

/-- R24: a working slot is one of 1 to 23. -/
def isWorkingSlot (x : Nat) : Bool := decide (1 ≤ x ∧ x ≤ 23)

/-- R132: a context is one of 0 to 3. -/
def isContext (c : Nat) : Bool := decide (c < 4)

/-- The commands whose operands name something the part has. -/
def Instr.wf : Instr → Bool
  | .keyAgeLimit x => isWorkingSlot x
  | .keyGraceExpiry x => isWorkingSlot x
  | .drainEnd x => isWorkingSlot x
  | .backoffEnd x => isWorkingSlot x
  | .replyTimerExpiry c => isContext c
  | .contextComposeRetry c => isContext c
  | .powerOn _ | .tick | .accountIntervalEnd | .eraseWindowExpiry | .quietWatchExpiry | .bootBackoffEnd
  | .bootTriggerRelisted | .beaconCycleEnd | .exchangeStart | .selfCheckStart | .selfCheckCompletion _
  | .outboundDataStart | .outboundControlStart | .inboundStart | .testStart | .outboundCompletion
  | .inboundCompletion | .testCompletion _ _ | .frameInWrite _ _ | .frameOutRead _ | .responseRead _
  | .mailboxWrite _ _ | .mailboxRead _ | .statusRead _ | .registerWriteOther _ _ _ | .channelOpen _ _ _
  | .channelClose _ _ | .channelFlags _ _ _ | .channelReset _ _ | .channelRead _ _ | .keyStatus _ _
  | .faultRead _ _ | .partRead _ _ | .renewNow _ _ | .queueLimits _ _ | .queueReset _ _ | .faultDismiss _ _
  | .beaconSet _ _ | .beaconCommit _ | .beaconHalt _ | .loadRoot _ _ _ _ _ _ | .loadRootWriteComplete
  | .partReset _ | .quiesce _ | .resume _ | .localLoop _ _ | .erase _ => true

end Sys2Proof
end

