-- ==== Sys2Proof/Decode.lean ====
section
/-! DEFINITION. The decoder the host asks for. No row of spec/opcode_table.json gives any bits (every row's
"fields" is empty), so no word spells a command and the decoder answers none for every word. The words by
which a controller writes a command to COMMAND (R184, R185) are not bits of the table: they are the operands
of the commands, and Machine/Commands.lean reads them. -/

namespace Sys2Proof

/-- The command that a word spells by the table's bits: none, since no row of the table gives bits. -/
def decodeTableWord (_nbits _w : Nat) : Option Instr := none

end Sys2Proof
end

