-- ==== Sys2Proof/Machine/Bytes.lean ====
section
/-! DEFINITION. Byte strings, words and blocks (R183): multi-byte fields are written most significant byte
first, a word carries its first byte in bits 31–24, and strings are padded with zero bytes. -/

namespace Sys2Proof.Machine

/-- A saturating count (00_scope, "Counts"): one more, but never above `max`. -/
def satInc (max n : Nat) : Nat := min (n + 1) max

/-- ceil(n / 4): the words that carry n bytes (R166). -/
def wordCount (n : Nat) : Nat := (n + 3) / 4

/-- ceil(n / 16): the blocks that carry n bytes (R46, R86). -/
def blockCount (n : Nat) : Nat := (n + 15) / 16

/-- The `n` low bytes of `v`, most significant first (R183). -/
def natBytes : Nat → Nat → List Byte
  | 0, _ => []
  | n + 1, v => BitVec.ofNat 8 (v / 256 ^ n) :: natBytes n v

/-- The number that a byte string spells, most significant byte first (R183). -/
def bytesNat (bs : List Byte) : Nat := bs.foldl (fun acc b => acc * 256 + b.toNat) 0

/-- The first `n` bytes, completed with zero bytes (R183). -/
def padTo (n : Nat) (bs : List Byte) : List Byte :=
  bs.take n ++ List.replicate (n - (bs.take n).length) 0

/-- The four bytes of a word, the first in bits 31–24 (R183). -/
def wordBytes (w : Word) : List Byte := natBytes 4 w.toNat

/-- `n` words from a byte string, the pad bytes zero (R183). -/
def packWords : Nat → List Byte → List Word
  | 0, _ => []
  | n + 1, bs => BitVec.ofNat 32 (bytesNat (padTo 4 bs)) :: packWords n (bs.drop 4)

/-- The bytes of `n` that a run of words carries; the pad bytes are dropped (R183). -/
def unpackWords (n : Nat) (ws : List Word) : List Byte := (ws.flatMap wordBytes).take n

/-- A block from up to 16 bytes, completed with zero bytes (R87, R183). -/
def blockOfBytes (bs : List Byte) : Block := BitVec.ofNat 128 (bytesNat (padTo 16 bs))

/-- The 16 bytes of a block. -/
def blockBytes (b : Block) : List Byte := natBytes 16 b.toNat

/-- The first `m` blocks of a byte string, the last one zero-padded (R87). -/
def blocksOf : Nat → List Byte → List Block
  | 0, _ => []
  | m + 1, bs => blockOfBytes (bs.take 16) :: blocksOf m (bs.drop 16)

/-- Byte-wise exclusive or, as long as the shorter string (R86). -/
def xorBytes (a b : List Byte) : List Byte := List.zipWith (fun x y => x ^^^ y) a b

/-- A word made of four byte fields, bits 31–24 first. -/
def word4 (a b c d : Nat) : Word :=
  BitVec.ofNat 8 a ++ BitVec.ofNat 8 b ++ BitVec.ofNat 8 c ++ BitVec.ofNat 8 d

/-- A word made of two 16-bit fields, bits 31–16 first. -/
def word2 (hi lo : Nat) : Word := BitVec.ofNat 16 hi ++ BitVec.ofNat 16 lo

/-- A word holding one 32-bit field. -/
def word1 (n : Nat) : Word := BitVec.ofNat 32 n

end Sys2Proof.Machine
end

