-- ==== Sys2Proof/Config.lean ====
section
/-! DEFINITION. What the spec fixes from outside the part's behaviour, and the values it leaves open.

The free values are opaque constants without a body: no proof can see what they are. -/

namespace Sys2Proof

/-- R176: the known-answer key. -/
def Config.knownAnswerKey : Block := 0x000102030405060708090A0B0C0D0E0F#128

/-- R176: the known-answer block. -/
def Config.knownAnswerBlock : Block := 0x00112233445566778899AABBCCDDEEFF#128

/-- R176: the known-answer value. -/
def Config.knownAnswerValue : Block := 0x7C3E90A25D14F6B8E0297A4C13D58B6F#128

/-- Free value (log entry 6): a keyed permutation of blocks, of which nothing is known. -/
opaque Config.blockTransform : Block → Equiv.Perm Block

/-- The block transform E (00_scope, "Scope of this manual"): a fixed keyed permutation, of which the
manual gives one known-answer pair and nothing else. Under the known-answer key the open permutation
is corrected by one swap, so that the pair holds; every keyed permutation with that pair is of this
form (log entry 6). -/
def Config.E (k : Block) : Equiv.Perm Block :=
  if k = Config.knownAnswerKey then
    (Config.blockTransform k).trans
      (Equiv.swap (Config.blockTransform k Config.knownAnswerBlock) Config.knownAnswerValue)
  else Config.blockTransform k

/-- Free value (log entry 7): the fixed internal test key of R100, whose value the manual does not give. -/
opaque Config.testKey : Block

/-- Free value (log entry 7): whether the header of a test frame has kind CONTROL. R186 gives it kind DATA or CONTROL,
and no rule says which. -/
opaque Config.testHeaderControl : Bool

/-- Free value (log entry 11): how CHANNEL READ (R185) shows a target of none. R185 codes an absent
slot field and an absent exchange, reason or frame number; the target of a channel is neither. -/
opaque Config.absentTarget : Byte

end Sys2Proof
end

