-- ==== Sys2Proof/Machine/State.lean ====
section
/-! DEFINITION. The state of the part as plain data: every field the spec's state tables name, block by
block, and the queue of commands that wait. Fields marked "model's own" are the model's bookkeeping for a
condition the spec states in words; INVENTORY.md lists every field with its rule and reset value. -/

namespace Sys2Proof.Machine

/-! ### Why a step can stop -/

/-- Why a step stops. Both are raised only by a command whose operand is not well formed (Instr.wf), so no
run of well-formed commands stops; each is safe, since the step then says nothing (log entry 3). -/
inductive Fault where
  /-- Raised by the event of a slot, for an operand that is not a working slot 1 to 23 (R24): there is no such
  slot to act on. Safe. -/
  | noSuchSlot (slot : Nat)
  /-- Raised by the event of a renewal context, for an operand above 3 (R132): there is no such context. Safe. -/
  | noSuchContext (context : Nat)
  deriving DecidableEq, Repr

/-- Why a command has no meaning. -/
inductive Refusal where
  /-- Raised by `exec` for a row that has no meaning yet; safe. No row of this model is left so. -/
  | notModelled (mnemonic : String)
  deriving DecidableEq, Repr

/-! ### Channel Table (R1) -/

/-- Kind of a descriptor (R1, R3). `aliased` is the kind ALIAS. -/
inductive ChanKind where
  | empty | data | aliased | control
  deriving DecidableEq, Repr

/-- State of a descriptor (R4). -/
inductive ChanState where
  | empty | opened | exhausted | closing
  deriving DecidableEq, Repr

/-- The three handling flags of a descriptor (R1, R8). -/
structure ChanFlags where
  hold : Bool := false
  notify : Bool := false
  urgent : Bool := false
  deriving DecidableEq, Repr

/-- One channel descriptor (R1). The default of each field is its EMPTY value. -/
structure Channel where
  kind : ChanKind := .empty
  level : Nat := 0
  state : ChanState := .empty
  flags : ChanFlags := {}
  current : Option Nat := none
  alternate : Option Nat := none
  target : Option Nat := none
  aliasCount : Nat := 0
  sent : Nat := 0
  received : Nat := 0
  refused : Nat := 0
  discarded : Nat := 0
  inEngine : Bool := false
  deriving DecidableEq, Repr

/-- Descriptor 0 after power-on and after ERASE (R2). -/
def Channel.control : Channel := { kind := .control, state := .opened }

/-! ### Key Store (R24, R26, R45) -/

/-- State of a working slot (R27). -/
inductive SlotState where
  | empty | staged | active | draining
  deriving DecidableEq, Repr

/-- One working slot with its account (R24, R45). The default of each field is its EMPTY value. -/
structure Slot where
  state : SlotState := .empty
  generation : Byte := 0
  level : Nat := 0
  material : Block := 0
  predecessor : Option Nat := none
  successor : Option Nat := none
  refs : Nat := 0
  txCounter : Nat := 0
  top : Nat := 0
  /-- Bit j says whether counter T − j has been accepted (R32). -/
  seen : BitVec 64 := 0
  spent : Bool := false
  suspect : Bool := false
  requested : Bool := false
  drain : Nat := 0
  engineUse : Bool := false
  tagFailures : Nat := 0
  replays : Nat := 0
  used : Nat := 0
  intervalCharge : Nat := 0
  rate : Nat := 0
  hard : Nat := 0
  soft : Nat := 0
  lead : Nat := 0
  maxAge : Nat := 0
  age : Nat := 0
  /-- Model's own: the age test that the last tick called for (R55) has not been made yet. -/
  ageTestDue : Bool := false
  /-- Model's own: the grace test that the last tick called for (R56) has not been made yet. -/
  graceTestDue : Bool := false
  deriving DecidableEq, Repr

/-- Slot 0 (R26). `unsavedCounter` holds the root transmit counter as the non-volatile store still has it
while its update is being written (R34, log entry 9). -/
structure Root where
  active : Bool := false
  material : Block := 0
  storeTag : Option (BitVec 16) := none
  txCounter : Nat := 0
  pendingRoot : Option Block := none
  unsavedCounter : Option Nat := none
  deriving DecidableEq, Repr

/-! ### Frames, queues and the pool (R60 to R75) -/

/-- Why an outbound data frame is refused (R7, R81; codes of R184). -/
inductive RefuseReason where
  | notReady | noChannel | level | held | keySpent
  deriving DecidableEq, Repr

/-- A frame of S-in: the fields of its descriptor word and the payload words written so far (R64, R166). -/
structure ShopFrame where
  channel : Nat
  level : Nat
  length : Nat
  words : List Word := []
  deriving DecidableEq, Repr

/-- A frame of L-rx: its byte count and the words written so far (R64, R166). -/
structure LineIn where
  count : Nat
  words : List Word := []
  deriving DecidableEq, Repr

/-- A frame of S-out (R167): delivered, with its payload, or a refusal notice with its reason (R68). -/
structure OutFrame where
  channel : Nat
  level : Nat
  length : Nat
  refusal : Option RefuseReason := none
  payload : List Byte := []
  deriving DecidableEq, Repr

/-- A composed control message (R69): its payload bytes, and (model's own) the serial number by which a
placement report finds the context whose latest message it is (R135, log entry 20). -/
structure CtrlMsg where
  payload : List Byte
  serial : Nat
  deriving DecidableEq, Repr

/-- What the pool holds for one port (R71, R72). -/
structure PoolPort where
  af : Nat := 6
  ae : Nat := 1
  overrun : Nat := 0
  raised : Bool := false
  deriving DecidableEq, Repr

/-- The pool (R60, R67, R70). -/
structure Pool where
  free : Nat := 96
  setAside : Bool := false
  low : Bool := false
  sPort : PoolPort := {}
  lPort : PoolPort := {}
  deriving DecidableEq, Repr

/-! ### Cipher Engine (R76) -/

inductive Direction where
  | outbound | inbound
  deriving DecidableEq, Repr

/-- Where a frame's key comes from: a working slot or slot 0. -/
inductive KeyRef where
  | slot (x : Nat)
  | root
  deriving DecidableEq, Repr

/-- The key of a frame in flight as it stood at the start (R77: the key stands from that moment). -/
structure WorkKey where
  ref : KeyRef
  material : Block
  generation : Byte
  deriving DecidableEq, Repr

/-- The work in flight (R76): its class with the buffer it occupies, its key, its counter value n and its
channels. The place of S-out set aside for an inbound frame is `Pool.setAside`. -/
inductive Work where
  | inbound (frame : LineIn) (key : WorkKey) (n : Nat) (channel : Nat)
  | outData (frame : ShopFrame) (key : WorkKey) (n : Nat) (resolved : Nat)
  | outControl (msg : CtrlMsg) (key : WorkKey) (n : Nat)
  | test (k : Nat)
  | selfCheck
  deriving DecidableEq, Repr

/-- The eight discard counts of R76. -/
structure DiscardCounts where
  notReady : Nat := 0
  unknownKey : Nat := 0
  suspect : Nat := 0
  replay : Nat := 0
  tagFail : Nat := 0
  noChannel : Nat := 0
  held : Nat := 0
  rootLimit : Nat := 0
  deriving DecidableEq, Repr

/-- The Cipher Engine (R76): BUSY exactly when it holds work. `burst` holds the replay burst mark of each
working slot. -/
structure Engine where
  work : Option Work := none
  lastDirection : Direction := .outbound
  discards : DiscardCounts := {}
  burst : Vector Bool 23 := Vector.replicate 23 false
  deriving DecidableEq, Repr

/-! ### Link Watch (R101) -/

inductive QuietTimer where
  | stopped | running | paused
  deriving DecidableEq, Repr

/-- The local loop test in progress (R101). -/
structure TestRecord where
  requested : Nat
  next : Nat := 1
  run : Nat := 0
  passed : Nat := 0
  firstFail : Option Nat := none
  offered : Bool := true
  deriving DecidableEq, Repr

/-- The Link Watch (R101). The test state is RUNNING exactly when there is a test record. -/
structure LinkWatch where
  quiet : QuietTimer := .stopped
  quietRemaining : Nat := 15
  quietMark : Bool := false
  malformed : Nat := 0
  foreign : Nat := 0
  overrun : Nat := 0
  lastMalformed : Nat := 0
  lastForeign : Nat := 0
  lastOverrun : Nat := 0
  malformedMark : Bool := false
  totalMalformed : Nat := 0
  totalForeign : Nat := 0
  totalOverrun : Nat := 0
  probesAnswered : Nat := 0
  probesDropped : Nat := 0
  test : Option TestRecord := none
  selfCheckMark : Bool := false
  deriving DecidableEq, Repr

/-! ### Control Messenger (R114) -/

/-- The Control Messenger (R114) with its 18 counts in the order of R185. -/
structure Messenger where
  nextExchange : Nat := 1
  finished : List Nat := []
  noSlotMark : Bool := false
  lastRefusal : Option (Nat × Nat) := none
  handedDelivery : Nat := 0
  handedCommit : Nat := 0
  handedRefuse : Nat := 0
  handedRenew : Nat := 0
  handedOrder : Nat := 0
  handedAck : Nat := 0
  handedProbe : Nat := 0
  unparseable : Nat := 0
  stale : Nat := 0
  rejectNotEmpty : Nat := 0
  rejectNoSlot : Nat := 0
  rejectLevel : Nat := 0
  rejectGeneration : Nat := 0
  rejectWrapCheck : Nat := 0
  rejectNoContext : Nat := 0
  rejectsNotSent : Nat := 0
  ordersApplied : Nat := 0
  ordersNotApplied : Nat := 0
  deriving DecidableEq, Repr

/-! ### Renewal Controller (R128) -/

/-- Trigger reasons (R129; codes of R184). -/
inductive Reason where
  | soft | projected | age | spent | suspect | order | locally | boot
  deriving DecidableEq, Repr

/-- An entry of the request list (R130). -/
structure Entry where
  slot : Option Nat
  urgency : Nat
  reason : Reason
  arrival : Nat
  deriving DecidableEq, Repr

inductive CtxState where
  | free | awaitDelivery | awaitCommit
  deriving DecidableEq, Repr

inductive CtxKind where
  | renewal | boot | install | root
  deriving DecidableEq, Repr

inductive SendState where
  | compose | queued | sent
  deriving DecidableEq, Repr

/-- A renewal context (R132). The default of each field is its FREE value. -/
structure Context where
  state : CtxState := .free
  exchange : Option Nat := none
  kind : Option CtxKind := none
  subject : Option Nat := none
  successor : Option Nat := none
  reason : Option Reason := none
  attempt : Nat := 1
  send : SendState := .compose
  reply : Nat := 0
  /-- Model's own: the serial number of the latest message the context has composed (R135). -/
  latest : Option Nat := none
  /-- Model's own: a tick has come since the context was left in COMPOSE (R135). -/
  retryDue : Bool := false
  deriving DecidableEq, Repr

/-- A backoff (R138). `endDue` (model's own): the count has reached 0 and its end has not been taken yet. -/
structure Backoff where
  remaining : Nat := 0
  endDue : Bool := false
  deriving DecidableEq, Repr

/-- A BOOT trigger that found no place on the list (R131): it waits for the next tick, then is due. -/
inductive Relist where
  | idle | waiting | due
  deriving DecidableEq, Repr

/-- The Renewal Controller (R128). `nextSerial` is the model's own (log entry 20). -/
structure Renewal where
  list : List Entry := []
  contexts : Vector Context 4 := Vector.replicate 4 {}
  backoff : Vector Backoff 23 := Vector.replicate 23 {}
  bootBackoff : Backoff := {}
  bootRelist : Relist := .idle
  received : Nat := 0
  notListed : Nat := 0
  replaced : Nat := 0
  started : Nat := 0
  completed : Nat := 0
  failed : Nat := 0
  refused : Nat := 0
  nextSerial : Nat := 0
  deriving DecidableEq, Repr

/-! ### Fault Monitor and Report Beacon (R148 to R159) -/

/-- The fault kinds in the order of R148. -/
inductive FaultKind where
  | linkQuiet | tagFails | replayBurst | malformedBurst | keySpent | keyAgeOver | renewalFailed
  | renewalRefused | noKeySlot | poolLow | portOverrun | selfCheckFail | restarted | erased
  deriving DecidableEq, Repr

/-- The subject of a fault event (R148). -/
inductive Subject where
  | link
  | slot (x : Nat)
  | port (p : Port)
  | nothing
  deriving DecidableEq, Repr

/-- A fault record (R149). Its severity is fixed by its kind (R148). -/
structure FaultRecord where
  id : Nat
  kind : FaultKind
  subject : Subject
  count : Nat := 1
  first : Nat
  last : Nat
  active : Bool := true
  acked : Nat := 0
  reported : Bool := false
  deriving DecidableEq, Repr

/-- The Fault Monitor's list state (R149). -/
structure Faults where
  records : List FaultRecord := []
  nextId : Nat := 1
  overflow : Bool := false
  overflowReports : List Nat := []
  deriving DecidableEq, Repr

inductive BeaconMode where
  | idle | oneShot | continuous
  deriving DecidableEq, Repr

/-- Beacon settings: mode, period and repeat (R155). -/
structure BeaconSettings where
  mode : BeaconMode := .continuous
  period : Nat := 60
  repeats : Nat := 0
  deriving DecidableEq, Repr

/-- The Report Beacon (R155). -/
structure Beacon where
  working : BeaconSettings := {}
  shadow : BeaconSettings := {}
  running : Bool := true
  remaining : Nat := 60
  cycleMode : BeaconMode := .continuous
  lastCycle : Bool := false
  oneShot : Nat := 0
  nextReport : Nat := 1
  marker : Option Nat := none
  deriving DecidableEq, Repr

/-! ### Controller Ports (R164) -/

inductive Push where
  | none
  | frame (remaining : Nat)
  | ignoring (remaining : Nat)
  deriving DecidableEq, Repr

/-- A command that stays IN PROGRESS after it is taken (R168): LOAD ROOT until its write completes, LOCAL
LOOP until its test ends, an ERASE that waits for the SELF CHECK or for the write of a LOAD ROOT. -/
inductive HeldCommand where
  | loadRoot (key : Block) (storeTag : BitVec 16)
  | localLoop
  | erase
  deriving DecidableEq, Repr

/-- Command progress (R164). -/
inductive CmdProgress where
  | idle
  | writing (words : List Word)
  | inProgress (c : HeldCommand)
  deriving DecidableEq, Repr

/-- A mailbox (R173). -/
structure Mailbox where
  length : Nat := 0
  content : List Byte := List.replicate 32 0
  full : Bool := false
  deriving DecidableEq, Repr

/-- Mailbox write progress (R164). -/
inductive MailWrite where
  | none
  | gathering (length : Nat) (words : List Word)
  | ignoring (remaining : Nat)
  deriving DecidableEq, Repr

/-- A set of the six attention causes (R174), as an enable set (R185). -/
structure Causes where
  inRoom : Bool := false
  outReady : Bool := false
  mail : Bool := true
  response : Bool := true
  fault : Bool := true
  lost : Bool := true
  deriving DecidableEq, Repr

/-- A port (R164). The empty list is the empty response slot. `mailbox` is the outgoing mailbox, `mailPos`
the words of the incoming mailbox already read (R173), `dataOut` the word last returned to the controller. -/
structure PortState where
  push : Push := .none
  pullPos : Nat := 0
  cmd : CmdProgress := .idle
  response : List Word := []
  responsePos : Nat := 0
  mailbox : Mailbox := {}
  mailWrite : MailWrite := .none
  mailPos : Nat := 0
  mailCause : Bool := false
  responseCause : Bool := false
  faultCause : Bool := false
  lostPush : Bool := false
  lostMail : Bool := false
  lostCommand : Bool := false
  enable : Causes := {}
  dataOut : Word := 0
  deriving DecidableEq, Repr

/-! ### The part -/

/-- The part states (R175). -/
inductive PartState where
  | boot | noRoot | bootstrap | run | quiesced | failed
  deriving DecidableEq, Repr

/-- The whole part. -/
structure State where
  pending : List Instr := []
  partState : PartState := .boot
  tick : Nat := 0
  intervalTicks : Nat := 0
  selfCheckPending : Bool := true
  eraseWindow : Option (Port × Nat) := none
  chans : Vector Channel 48 := (Vector.replicate 48 {}).setIfInBounds 0 Channel.control
  root : Root := {}
  slots : Vector Slot 23 := Vector.replicate 23 {}
  pool : Pool := {}
  sIn : List ShopFrame := []
  sOut : List OutFrame := []
  lRx : List LineIn := []
  lTx : List (List Byte) := []
  ctrl : List CtrlMsg := []
  engine : Engine := {}
  link : LinkWatch := {}
  messenger : Messenger := {}
  renewal : Renewal := {}
  faults : Faults := {}
  beacon : Beacon := {}
  sPort : PortState := {}
  lPort : PortState := {}
  deriving DecidableEq, Repr

/-- The part right after the power-on of a part fresh from the factory: every volatile field at its power-on
value (R176), slot 0 EMPTY in the non-volatile store (chapter 11, opening; log entry 10). -/
def State.reset : State := {}

end Sys2Proof.Machine
end

