-- ==== Sys2Proof/Machine/Cipher.lean ====
section
/-! DEFINITION. The line frame and its cipher (R85 to R87, R186), the receive window (R91), and the unwrapping
of delivered material (R38). -/

namespace Sys2Proof.Machine

/-- Direction bit (00_scope, "Units and conventions"): 0 outbound, 1 inbound. -/
def Direction.bit : Direction → Nat
  | .outbound => 0
  | .inbound => 1

/-- The fields from which the counter block of a frame is built (R86). -/
structure CounterFields where
  storeTag : BitVec 16
  slot : Nat
  generation : Byte
  direction : Direction
  channel : Nat
  counter : Nat
  deriving DecidableEq, Repr

/-- The counter block with block index i (R86), the first field in the most significant bits (log entry 12). -/
def CounterFields.block (f : CounterFields) (i : Nat) : Block :=
  f.storeTag ++ BitVec.ofNat 5 f.slot ++ f.generation ++ BitVec.ofNat 1 f.direction.bit
    ++ BitVec.ofNat 6 f.channel ++ BitVec.ofNat 48 f.counter ++ BitVec.ofNat 16 i ++ (0 : BitVec 28)

/-- The keystream of m blocks (R86). -/
def keystream (k : Block) (f : CounterFields) (m : Nat) : List Byte :=
  (List.range m).flatMap fun i => blockBytes (Config.E k (f.block (i + 1)))

/-- Enciphering and deciphering are the same operation (R86). -/
def encipher (k : Block) (f : CounterFields) (text : List Byte) : List Byte :=
  xorBytes text (keystream k f (blockCount text.length))

/-- The first 64 bits of a block. -/
def firstHalf (b : Block) : BitVec 64 := b.extractLsb' 64 64
/-- The last 64 bits of a block. -/
def lastHalf (b : Block) : BitVec 64 := b.extractLsb' 0 64

/-- The tag over the header block and the ciphertext (R87). -/
def frameTag (k : Block) (f : CounterFields) (header : Block) (cipher : List Byte) : BitVec 64 :=
  let chain := (blocksOf (blockCount cipher.length) cipher).foldl (fun x c => Config.E k (x ^^^ c)) (Config.E k header)
  firstHalf (chain ^^^ Config.E k (f.block 0))

/-- The fields of a line header (R85, R186). -/
structure LineHeader where
  storeTag : BitVec 16
  kind : Byte
  channel : Byte
  slot : Byte
  generation : Byte
  counter : BitVec 48
  length : BitVec 16
  zero : BitVec 16 := 0
  deriving DecidableEq, Repr

/-- The 16 header bytes as one block: the header block (R85, R186). -/
def LineHeader.block (h : LineHeader) : Block :=
  h.storeTag ++ h.kind ++ h.channel ++ h.slot ++ h.generation ++ h.counter ++ h.length ++ h.zero

/-- The header fields of a header block (R186). -/
def headerOf (b : Block) : LineHeader :=
  { storeTag := b.extractLsb' 112 16, kind := b.extractLsb' 104 8, channel := b.extractLsb' 96 8
    slot := b.extractLsb' 88 8, generation := b.extractLsb' 80 8, counter := b.extractLsb' 32 48
    length := b.extractLsb' 16 16, zero := b.extractLsb' 0 16 }

/-- Header kind codes (R184). -/
def kindData : Byte := 1
def kindControl : Byte := 2

/-- The counter fields that go with a header (R86). -/
def LineHeader.fields (h : LineHeader) (d : Direction) : CounterFields :=
  { storeTag := h.storeTag, slot := h.slot.toNat, generation := h.generation, direction := d
    channel := h.channel.toNat, counter := h.counter.toNat }

/-- A line frame built from its header and payload (R85): header, ciphertext, tag. -/
def buildFrame (k : Block) (h : LineHeader) (payload : List Byte) : List Byte :=
  let cipher := encipher k (h.fields .outbound) payload
  blockBytes h.block ++ cipher ++ natBytes 8 (frameTag k (h.fields .outbound) h.block cipher).toNat

/-- The parts of an inbound frame (R186). A frame shorter than its header reads as if completed with zero bytes;
step 1 of R89 then discards it, since no count below 25 is L + 24 with L from 1. -/
structure InFrame where
  header : LineHeader
  headerBlock : Block
  cipher : List Byte
  tag : BitVec 64
  deriving DecidableEq, Repr

def LineIn.bytes (f : LineIn) : List Byte := unpackWords f.count f.words

def LineIn.parts (f : LineIn) : InFrame :=
  let bs := f.bytes
  let b := blockOfBytes (bs.take 16)
  let h := headerOf b
  let l := h.length.toNat
  { header := h, headerBlock := b, cipher := (bs.drop 16).take l
    tag := BitVec.ofNat 64 (bytesNat ((bs.drop (16 + l)).take 8)) }

/-- Step 1 of the inbound checks (R89). -/
def LineIn.formed (f : LineIn) : Bool :=
  let h := f.parts.header
  let l := h.length.toNat
  decide (1 ≤ l ∧ l ≤ 1500 ∧ f.count = l + 24) && (h.kind == kindData || h.kind == kindControl)
    && decide (h.channel.toNat ≤ 47)

/-- The tag check under key material k, with direction 1 (R87, R89 step 6). -/
def LineIn.tagPasses (f : LineIn) (k : Block) : Bool :=
  let p := f.parts
  frameTag k (p.header.fields .inbound) p.headerBlock p.cipher == p.tag

/-- The deciphered payload of an inbound frame (R86, R97). -/
def LineIn.payload (f : LineIn) (k : Block) : List Byte :=
  let p := f.parts
  encipher k (p.header.fields .inbound) p.cipher

/-! ### Receive window (R91) -/

/-- The counter is a replay for a window with top T (R91). -/
def isReplay (n top : Nat) (seen : BitVec 64) : Bool :=
  n == 0 || decide (n + 64 ≤ top) || (decide (n ≤ top) && seen.getLsbD (top - n))

/-- The window after a frame with counter n has passed its tag check (R91). -/
def nextWindow (n top : Nat) (seen : BitVec 64) : Nat × BitVec 64 :=
  if top < n then (n, (if n - top < 64 then seen <<< (n - top) else 0#64) ||| 1#64)
  else if top - n < 64 then (top, seen ||| (1#64 <<< (top - n)))
  else (top, seen)

/-! ### Unwrapping (R38) -/

/-- Delivered material unwrapped and checked under the root: the delivered key, or none when the check fails.
`target` is the code of the delivery's target field. -/
def unwrap (root c1 c2 : Block) (target generation : Byte) : Option Block :=
  let p1 := (Config.E root).symm c1
  let p2 := (Config.E root).symm c2
  if firstHalf p2 = firstHalf (Config.E p1 0) ∧ lastHalf p2 = target ++ generation ++ (0 : BitVec 48) then some p1
  else none

/-! ### Test frames and the self check (R100, R111, R176) -/

/-- The fixed test pattern: 64 bytes 0x00 to 0x3F (R111). -/
def testPattern : List Byte := (List.range 64).map (BitVec.ofNat 8)

/-- The header of test frame k (R100): store tag, slot, generation and channel 0, counter k; kind 1 or 2 (R186). -/
def testHeader (k : Nat) : LineHeader :=
  { storeTag := 0, kind := if Config.testHeaderControl then kindControl else kindData, channel := 0, slot := 0, generation := 0
    counter := BitVec.ofNat 48 k, length := 64 }

/-- The result of test frame k (R100, R111): the recomputed tag equals the tag built and the deciphered text the
pattern. The upsets are what a failing engine adds to the two recomputed values (log entry 8). -/
def testPasses (k : Nat) (tagUpset : BitVec 64) (textUpset : BitVec 512) : Bool :=
  let h := testHeader k
  let f := h.fields .outbound
  let cipher := encipher Config.testKey f testPattern
  let tag := frameTag Config.testKey f h.block cipher
  let plain := encipher Config.testKey f cipher
  (frameTag Config.testKey f h.block cipher ^^^ tagUpset == tag)
    && (BitVec.ofNat 512 (bytesNat plain) ^^^ textUpset == BitVec.ofNat 512 (bytesNat testPattern))

/-- The self check (R176): E under the known-answer key on the known-answer block equals the known-answer value.
The upset is what a failing engine adds to its result (log entry 8). -/
def selfCheckPasses (upset : Block) : Bool :=
  Config.E Config.knownAnswerKey Config.knownAnswerBlock ^^^ upset == Config.knownAnswerValue

end Sys2Proof.Machine
end

