-- ==== Sys2Proof/Machine/Operands.lean ====
section
/-! DEFINITION. The fields of the words a controller writes (R184, R185, R187, R188) and of the codes of R184. -/

namespace Sys2Proof.Machine

/-! ### Fields of a word -/

/-- Bits 31–24. -/
def fieldA (w : Word) : Nat := (w.extractLsb' 24 8).toNat
/-- Bits 23–16. -/
def fieldB (w : Word) : Nat := (w.extractLsb' 16 8).toNat
/-- Bits 15–8. -/
def fieldC (w : Word) : Nat := (w.extractLsb' 8 8).toNat
/-- Bits 7–0. -/
def fieldD (w : Word) : Nat := (w.extractLsb' 0 8).toNat
/-- Bits 15–0. -/
def fieldLow (w : Word) : Nat := (w.extractLsb' 0 16).toNat

/-- A flag byte (R184): bit 0 HOLD, bit 1 NOTIFY, bit 2 URGENT; bits 7–3 ignored. -/
def flagsOf (n : Nat) : ChanFlags :=
  { hold := n.testBit 0, notify := n.testBit 1, urgent := n.testBit 2 }

/-- The flag byte that shows a descriptor's flags (R184, R185). -/
def flagByte (f : ChanFlags) : Nat := f.hold.toNat + 2 * f.notify.toNat + 4 * f.urgent.toNat

/-- An enable set (R185): bit 0 IN_ROOM, 1 OUT_READY, 2 MAIL, 3 RESPONSE, 4 FAULT, 5 LOST. -/
def causesOf (n : Nat) : Causes :=
  { inRoom := n.testBit 0, outReady := n.testBit 1, mail := n.testBit 2, response := n.testBit 3,
    fault := n.testBit 4, lost := n.testBit 5 }

/-- The byte that shows an enable set (R185). -/
def causesByte (c : Causes) : Nat :=
  c.inRoom.toNat + 2 * c.outReady.toNat + 4 * c.mail.toNat + 8 * c.response.toNat + 16 * c.fault.toNat
    + 32 * c.lost.toNat

/-! ### Descriptors -/

/-- S-port FRAME IN descriptor (R187): channel in bits 31–26. -/
def descChannel (w : Word) : Nat := (w.extractLsb' 26 6).toNat
/-- S-port FRAME IN descriptor (R187): source level in bits 25–24. -/
def descLevel (w : Word) : Nat := (w.extractLsb' 24 2).toNat
/-- Length or byte count in bits 10–0 (R186, R187). -/
def descLength (w : Word) : Nat := (w.extractLsb' 0 11).toNat

/-- Bit i of the channel mask of CHANNEL FLAGS (R185): word 2 for indices 0–31, bits 15–0 of word 3 for 32–47. -/
def inChannelMask (w2 w3 : Word) (i : Nat) : Bool := if i < 32 then w2.getLsbD i else w3.getLsbD (i - 32)

/-! ### Commands -/

/-- The commands of R169, in the order of their numbers (R184). -/
inductive Command where
  | channelOpen | channelClose | channelFlags | channelReset | channelRead | keyStatus | faultRead | partRead
  | renewNow | queueLimits | queueReset | faultDismiss | beaconSet | beaconCommit | beaconHalt | loadRoot
  | partReset | quiesce | resume | localLoop | erase
  deriving DecidableEq, Repr

/-- Number of a command (R184, R185). -/
def Command.number : Command → Nat
  | .channelOpen => 1 | .channelClose => 2 | .channelFlags => 3 | .channelReset => 4 | .channelRead => 5
  | .keyStatus => 6 | .faultRead => 7 | .partRead => 8 | .renewNow => 9 | .queueLimits => 10
  | .queueReset => 11 | .faultDismiss => 12 | .beaconSet => 13 | .beaconCommit => 14 | .beaconHalt => 15
  | .loadRoot => 16 | .partReset => 17 | .quiesce => 18 | .resume => 19 | .localLoop => 20 | .erase => 21

/-- The command a number names; a number of 0 or above 21 names none (R184). -/
def Command.ofNumber : Nat → Option Command
  | 1 => some .channelOpen | 2 => some .channelClose | 3 => some .channelFlags | 4 => some .channelReset
  | 5 => some .channelRead | 6 => some .keyStatus | 7 => some .faultRead | 8 => some .partRead
  | 9 => some .renewNow | 10 => some .queueLimits | 11 => some .queueReset | 12 => some .faultDismiss
  | 13 => some .beaconSet | 14 => some .beaconCommit | 15 => some .beaconHalt | 16 => some .loadRoot
  | 17 => some .partReset | 18 => some .quiesce | 19 => some .resume | 20 => some .localLoop
  | 21 => some .erase | _ => none

/-- The fixed word count of a command (R185, column Words). -/
def Command.words : Command → Nat
  | .channelOpen => 3 | .channelClose => 2 | .channelFlags => 3 | .channelReset => 2 | .channelRead => 2
  | .keyStatus => 2 | .faultRead => 2 | .partRead => 2 | .renewNow => 2 | .queueLimits => 2
  | .queueReset => 2 | .faultDismiss => 2 | .beaconSet => 2 | .beaconCommit => 1 | .beaconHalt => 1
  | .loadRoot => 6 | .partReset => 1 | .quiesce => 1 | .resume => 1 | .localLoop => 2 | .erase => 1

/-- Whether a port may issue a command at all (the table of R169). -/
def Command.permits : Command → Port → Bool
  | .channelRead, _ | .keyStatus, _ | .faultRead, _ | .partRead, _ | .queueLimits, _ | .queueReset, _
  | .erase, _ => true
  | .localLoop, p => p == .l
  | .channelOpen, p | .channelClose, p | .channelFlags, p | .channelReset, p | .renewNow, p | .faultDismiss, p
  | .beaconSet, p | .beaconCommit, p | .beaconHalt, p | .loadRoot, p | .partReset, p | .quiesce, p
  | .resume, p => p == .s

/-- Command number in bits 31–24 of a command's first word (R184). -/
def commandNumber (w : Word) : Nat := fieldA w
/-- Stated word count in bits 3–0 of a command's first word (R184). -/
def statedCount (w : Word) : Nat := (w.extractLsb' 0 4).toNat

/-- The first word of a command with the ignored bits zero (R184). -/
def Command.firstWord (c : Command) : Word :=
  BitVec.ofNat 8 c.number ++ (0 : BitVec 20) ++ BitVec.ofNat 4 c.words

/-! ### Codes (R184, R185) -/

/-- Response status codes (R184). -/
inductive Status where
  | done | refusedPort | refusedState | refusedRange | notFound
  deriving DecidableEq, Repr

def Status.code : Status → Word
  | .done => 1 | .refusedPort => 2 | .refusedState => 3 | .refusedRange => 4 | .notFound => 5

/-- S-out status codes (R184): 0 DELIVERED, else the refusal reason. -/
def outStatusCode : Option RefuseReason → Nat
  | none => 0
  | some .notReady => 1 | some .noChannel => 2 | some .level => 3 | some .held => 4 | some .keySpent => 5

def PartState.code : PartState → Nat
  | .boot => 0 | .noRoot => 1 | .bootstrap => 2 | .run => 3 | .quiesced => 4 | .failed => 5

def ChanKind.code : ChanKind → Nat
  | .empty => 0 | .data => 1 | .aliased => 2 | .control => 3

def ChanState.code : ChanState → Nat
  | .empty => 0 | .opened => 1 | .exhausted => 2 | .closing => 3

def SlotState.code : SlotState → Nat
  | .empty => 0 | .staged => 1 | .active => 2 | .draining => 3

def Reason.code : Reason → Nat
  | .soft => 1 | .projected => 2 | .age => 3 | .spent => 4 | .suspect => 5 | .order => 6 | .locally => 7
  | .boot => 8

/-- Code of an optional reason: one that holds none reads 0 (R185). -/
def reasonCode : Option Reason → Nat
  | none => 0
  | some r => r.code

def FaultKind.code : FaultKind → Nat
  | .linkQuiet => 1 | .tagFails => 2 | .replayBurst => 3 | .malformedBurst => 4 | .keySpent => 5
  | .keyAgeOver => 6 | .renewalFailed => 7 | .renewalRefused => 8 | .noKeySlot => 9 | .poolLow => 10
  | .portOverrun => 11 | .selfCheckFail => 12 | .restarted => 13 | .erased => 14

/-- Subject codes (R184): the slot, 0 and 1 for the ports, 0 for the link and for no subject. -/
def Subject.code : Subject → Nat
  | .slot x => x
  | .port .s => 0
  | .port .l => 1
  | .link => 0
  | .nothing => 0

/-- Record state codes (R184). -/
def recordStateCode (active : Bool) : Nat := if active then 1 else 2

def BeaconMode.code : BeaconMode → Nat
  | .idle => 0 | .oneShot => 1 | .continuous => 2

/-- The mode a BEACON SET names (R185); any other value is refused (R155). -/
def beaconModeOf : Nat → Option BeaconMode
  | 0 => some .idle | 1 => some .oneShot | 2 => some .continuous | _ => none

def QuietTimer.code : QuietTimer → Nat
  | .stopped => 0 | .running => 1 | .paused => 2

def CtxState.code : CtxState → Nat
  | .free => 0 | .awaitDelivery => 1 | .awaitCommit => 2

/-- Context kind codes, 0 for none (R185). -/
def ctxKindCode : Option CtxKind → Nat
  | none => 0
  | some .renewal => 1 | some .boot => 2 | some .install => 3 | some .root => 4

def SendState.code : SendState → Nat
  | .compose => 0 | .queued => 1 | .sent => 2

def Direction.code : Direction → Nat
  | .outbound => 0 | .inbound => 1

/-- Class of work in flight (R185, PART READ 3). -/
def workCode : Option Work → Nat
  | none => 0
  | some (.inbound ..) => 1 | some (.outData ..) => 2 | some (.outControl ..) => 3 | some (.test _) => 4
  | some .selfCheck => 5

/-- A slot field that holds none reads 0xFF (R185). -/
def slotCode : Option Nat → Nat
  | none => 0xFF
  | some x => x

/-- An exchange or frame number that holds none reads 0 (R185). -/
def numberCode : Option Nat → Nat
  | none => 0
  | some x => x

end Sys2Proof.Machine
end

