-- ==== Sys2Proof/Machine/Ops.lean ====
section
/-! DEFINITION. The named operations over the state: one update per block of the part, and the reads and
writes of its tables (channels R1, slots R24, contexts R132, backoffs R128, ports R164). -/

namespace Sys2Proof.Machine

/-! ### One update per block -/

def State.updRoot (f : Root → Root) (s : State) : State := { s with root := f s.root }
def State.updPool (f : Pool → Pool) (s : State) : State := { s with pool := f s.pool }
def State.updEngine (f : Engine → Engine) (s : State) : State := { s with engine := f s.engine }
def State.updLink (f : LinkWatch → LinkWatch) (s : State) : State := { s with link := f s.link }
def State.updMessenger (f : Messenger → Messenger) (s : State) : State := { s with messenger := f s.messenger }
def State.updRenewal (f : Renewal → Renewal) (s : State) : State := { s with renewal := f s.renewal }
def State.updFaults (f : Faults → Faults) (s : State) : State := { s with faults := f s.faults }
def State.updBeacon (f : Beacon → Beacon) (s : State) : State := { s with beacon := f s.beacon }
def State.updSPort (f : PortState → PortState) (s : State) : State := { s with sPort := f s.sPort }
def State.updLPort (f : PortState → PortState) (s : State) : State := { s with lPort := f s.lPort }
def State.updChans (f : Vector Channel 48 → Vector Channel 48) (s : State) : State := { s with chans := f s.chans }
def State.updSlots (f : Vector Slot 23 → Vector Slot 23) (s : State) : State := { s with slots := f s.slots }
def State.updSIn (f : List ShopFrame → List ShopFrame) (s : State) : State := { s with sIn := f s.sIn }
def State.updSOut (f : List OutFrame → List OutFrame) (s : State) : State := { s with sOut := f s.sOut }
def State.updLRx (f : List LineIn → List LineIn) (s : State) : State := { s with lRx := f s.lRx }
def State.updLTx (f : List (List Byte) → List (List Byte)) (s : State) : State := { s with lTx := f s.lTx }
def State.updCtrl (f : List CtrlMsg → List CtrlMsg) (s : State) : State := { s with ctrl := f s.ctrl }
def State.setPartState (p : PartState) (s : State) : State := { s with partState := p }
def State.setWindow (w : Option (Port × Nat)) (s : State) : State := { s with eraseWindow := w }

/-! ### Tables -/

/-- Entry i of a table of the working slots, which are numbered from 1 (R24). -/
def slotEntry {α : Type} (d : α) (v : Vector α 23) (x : Nat) : α := if x = 0 then d else v[x - 1]?.getD d

/-- Writes entry x of a table of the working slots; nothing for an x outside 1 to 23. -/
def setSlotEntry {α : Type} (x : Nat) (a : α) (v : Vector α 23) : Vector α 23 :=
  if x = 0 then v else v.setIfInBounds (x - 1) a

/-- Descriptor i (R1); an index outside 0 to 47 reads as EMPTY. -/
def State.chan (s : State) (i : Nat) : Channel := s.chans[i]?.getD {}

def State.setChan (i : Nat) (c : Channel) : State → State := State.updChans fun v => v.setIfInBounds i c

def State.updChan (i : Nat) (f : Channel → Channel) (s : State) : State := s.setChan i (f (s.chan i))

/-- Every descriptor updated at once, by its index. -/
def State.mapChans (f : Nat → Channel → Channel) : State → State := State.updChans fun v => v.mapIdx f

/-- Working slot x (R24); an index outside 1 to 23 reads as EMPTY. -/
def State.slot (s : State) (x : Nat) : Slot := slotEntry {} s.slots x

def State.setSlot (x : Nat) (v : Slot) : State → State := State.updSlots (setSlotEntry x v)

def State.updSlot (x : Nat) (f : Slot → Slot) (s : State) : State := s.setSlot x (f (s.slot x))

/-- Every working slot updated at once, by its index 1 to 23. -/
def State.mapSlots (f : Nat → Slot → Slot) : State → State :=
  State.updSlots fun v => v.mapIdx fun k a => f (k + 1) a

/-- The indices of the working slots in ascending order (R24). -/
def workingSlots : List Nat := (List.range 23).map (· + 1)

/-- Replay burst mark of slot x (R76). -/
def State.burst (s : State) (x : Nat) : Bool := slotEntry false s.engine.burst x

def State.setBurst (x : Nat) (b : Bool) : State → State :=
  State.updEngine fun e => { e with burst := setSlotEntry x b e.burst }

/-- Backoff of slot x (R128). -/
def State.backoff (s : State) (x : Nat) : Backoff := slotEntry {} s.renewal.backoff x

def State.setBackoff (x : Nat) (b : Backoff) : State → State :=
  State.updRenewal fun r => { r with backoff := setSlotEntry x b r.backoff }

/-- Renewal context c (R132); a number above 3 reads as FREE. -/
def State.ctx (s : State) (c : Nat) : Context := s.renewal.contexts[c]?.getD {}

def State.setCtx (c : Nat) (x : Context) : State → State :=
  State.updRenewal fun r => { r with contexts := r.contexts.setIfInBounds c x }

def State.updCtx (c : Nat) (f : Context → Context) (s : State) : State := s.setCtx c (f (s.ctx c))

/-- The context numbers in ascending order (R132). -/
def contextNumbers : List Nat := [0, 1, 2, 3]

/-- An open context is one not FREE (R132). -/
def Context.isOpen (c : Context) : Bool := c.state != .free

/-- The lowest-numbered context with a property. -/
def State.findCtx (s : State) (q : Context → Bool) : Option Nat := contextNumbers.find? fun c => q (s.ctx c)

/-- The port p (R164). -/
def State.port (s : State) : Port → PortState
  | .s => s.sPort
  | .l => s.lPort

def State.updPort (p : Port) (f : PortState → PortState) (s : State) : State :=
  match p with
  | .s => s.updSPort f
  | .l => s.updLPort f

/-- What the pool holds for port p (R71, R72). -/
def Pool.port (q : Pool) : Port → PoolPort
  | .s => q.sPort
  | .l => q.lPort

def State.updPoolPort (p : Port) (f : PoolPort → PoolPort) : State → State :=
  State.updPool fun q =>
    match p with
    | .s => { q with sPort := f q.sPort }
    | .l => { q with lPort := f q.lPort }

/-- The number of frames of the port's IN queue (R62), a filling frame included. -/
def State.inCount (s : State) : Port → Nat
  | .s => s.sIn.length
  | .l => s.lRx.length

/-- The number of frames of the port's OUT queue (R62), without a place set aside. -/
def State.outCount (s : State) : Port → Nat
  | .s => s.sOut.length
  | .l => s.lTx.length

/-! ### Numbers 1 to 255 that roll over and skip 0 (00_scope, "Modular values") -/

def nextNumber (n : Nat) : Nat := if n ≥ 255 then 1 else n + 1

/-- The first number, counting upwards from `n`, that is not in `used`; the first argument bounds the search. -/
def firstUnused : Nat → List Nat → Nat → Nat
  | 0, _, n => n
  | k + 1, used, n => if n ∈ used then firstUnused k used (nextNumber n) else n

/-! ### Ports: lost reasons, responses (R164, R168) -/

/-- PUSH joins the lost reasons of port p, latching LOST (R166). -/
def State.losePush (p : Port) : State → State := State.updPort p fun q => { q with lostPush := true }

/-- MAIL joins the lost reasons of port p (R173). -/
def State.loseMail (p : Port) : State → State := State.updPort p fun q => { q with lostMail := true }

/-- COMMAND joins the lost reasons of port p (R168). -/
def State.loseCommand (p : Port) : State → State := State.updPort p fun q => { q with lostCommand := true }

/-- A word returned to the controller at port p (R165). -/
def State.returnWord (p : Port) (w : Word) : State → State := State.updPort p fun q => { q with dataOut := w }

/-- The word that stands in the response slot at read position k (R168). -/
def wordAt (ws : List Word) (k : Nat) : Word := ws.getD k 0

end Sys2Proof.Machine
end

