-- ==== Sys2Proof/Machine/Flags.lean ====
section
/-! DEFINITION. The flags and outputs computed from the state: severities and ALARM (R148, R160), the state
causes, the attention lines and the status word (R72, R174, R188), room tests of the queues (R67, R72). -/

namespace Sys2Proof.Machine

/-- The severity a kind fixes (R148): true for MAJOR. -/
def FaultKind.major : FaultKind → Bool
  | .linkQuiet | .tagFails | .keySpent | .keyAgeOver | .renewalFailed | .noKeySlot | .selfCheckFail
  | .erased => true
  | .replayBurst | .malformedBurst | .renewalRefused | .poolLow | .portOverrun | .restarted => false

/-- Severity code of FAULT READ (R185): 1 MAJOR, 2 MINOR. -/
def FaultKind.severityCode (k : FaultKind) : Nat := if k.major then 1 else 2

/-- The ALARM output (R160): asserted while the list holds an ACTIVE record of severity MAJOR. -/
def State.alarm (s : State) : Bool := s.faults.records.any fun r => r.active && r.kind.major

/-- The places of a queue (R62). -/
def queuePlaces : Nat := 32

/-- The places of S-out that count as taken: its frames and a place set aside (R67). -/
def State.sOutTaken (s : State) : Nat := s.sOut.length + s.pool.setAside.toNat

/-- S-out has a free place, a place set aside counting as taken (R67, R68). -/
def State.sOutRoom (s : State) : Bool := decide (s.sOutTaken < queuePlaces)

/-- L-tx has a free place (R67). -/
def State.lTxRoom (s : State) : Bool := decide (s.lTx.length < queuePlaces)

/-- The IN_ROOM cause (R72): the IN queue has AF or more free places. -/
def State.inRoom (s : State) (p : Port) : Bool := decide ((s.pool.port p).af ≤ queuePlaces - s.inCount p)

/-- The OUT_READY cause (R72): the OUT queue holds AE or more frames. -/
def State.outReady (s : State) (p : Port) : Bool := decide ((s.pool.port p).ae ≤ s.outCount p)

/-- LOST holds while the lost reasons are not empty (R164). -/
def PortState.lost (q : PortState) : Bool := q.lostPush || q.lostMail || q.lostCommand

/-- The attention line of a port (R174): asserted while any cause in its enable set holds or is latched. -/
def State.attention (s : State) (p : Port) : Bool :=
  let q := s.port p
  (q.enable.inRoom && s.inRoom p) || (q.enable.outReady && s.outReady p) || (q.enable.mail && q.mailCause)
    || (q.enable.response && q.responseCause) || (q.enable.fault && q.faultCause) || (q.enable.lost && q.lost)

/-- A command is IN PROGRESS at the port (R164). -/
def CmdProgress.busy : CmdProgress → Bool
  | .inProgress _ => true
  | .idle | .writing _ => false

/-- The status word of port p as it stands (R174, R188). -/
def State.statusWord (s : State) (p : Port) : Word :=
  let q := s.port p
  BitVec.ofNat 3 s.partState.code ++ BitVec.ofNat 11 (s.inCount p * 33 + s.outCount p)
    ++ BitVec.ofNat 7 s.pool.free ++ BitVec.ofBool (s.inRoom p) ++ BitVec.ofBool (s.outReady p)
    ++ BitVec.ofBool q.mailCause ++ BitVec.ofBool q.responseCause ++ BitVec.ofBool q.faultCause
    ++ BitVec.ofBool q.lostPush ++ BitVec.ofBool q.lostMail ++ BitVec.ofBool q.lostCommand
    ++ BitVec.ofBool (s.port p.other).mailbox.full ++ BitVec.ofBool q.mailbox.full ++ BitVec.ofBool q.cmd.busy

/-- The payload length L of a frame of S-in is complete when its last word has been written (R63, R64). -/
def ShopFrame.complete (f : ShopFrame) : Bool := decide (wordCount f.length ≤ f.words.length)

/-- A frame of L-rx is complete when its last word has been written (R63, R64). -/
def LineIn.complete (f : LineIn) : Bool := decide (wordCount f.count ≤ f.words.length)

end Sys2Proof.Machine
end

