-- ==== Sys2Proof/Machine/FaultOps.lean ====
section
/-! DEFINITION. The Fault Monitor's operations (chapter 9): raise, clear, removal of a record, and what a change
does to the beacon and the ports. -/

namespace Sys2Proof.Machine

/-- The record of a kind and subject (R150, R151). -/
def FaultRecord.hits (k : FaultKind) (x : Subject) (r : FaultRecord) : Bool := r.kind == k && r.subject == x

/-- The FAULT cause latches at both ports (R161). -/
def State.latchFault (s : State) : State :=
  (s.updSPort fun q => { q with faultCause := true }).updLPort fun q => { q with faultCause := true }

/-- One-shot remaining is set to working repeat + 1 (R158). -/
def State.armOneShot : State → State := State.updBeacon fun b => { b with oneShot := b.working.repeats + 1 }

/-- The record before the one with identifier `id` in list order, if any (R159). -/
def precedingId (id : Nat) : Option Nat → List FaultRecord → Option Nat
  | _, [] => none
  | before, r :: rs => if r.id = id then before else precedingId id (some r.id) rs

/-- A record leaves the list (R152, R153); the position marker passes to the record before it (R159). -/
def State.removeRecord (id : Nat) (s : State) : State :=
  (s.updBeacon fun b =>
      if b.marker = some id then { b with marker := precedingId id none s.faults.records } else b).updFaults
    fun f => { f with records := f.records.filter fun r => r.id != id }

/-- A record is created at the tail with the next id (R150); `active` is false only for the born-CLEARED kinds
of R163. -/
def State.createRecord (k : FaultKind) (x : Subject) (active : Bool) (s : State) : State :=
  let id := firstUnused 17 (s.faults.records.map (·.id)) s.faults.nextId
  ((s.updFaults fun f =>
        { f with
          records := f.records ++ [{ id := id, kind := k, subject := x, first := s.tick, last := s.tick, active := active }]
          nextId := nextNumber id }).armOneShot).latchFault

/-- The raise of a record that is ACTIVE (R150). -/
def FaultRecord.raiseAgain (now : Nat) (r : FaultRecord) : FaultRecord :=
  if r.count < 255 then { r with count := r.count + 1, last := now, reported := false } else { r with last := now }

/-- The raise of a record that is CLEARED (R150). -/
def FaultRecord.reactivate (now : Nat) (r : FaultRecord) : FaultRecord :=
  { r with active := true, count := min (r.count + 1) 255, last := now, acked := 0, reported := false }

/-- The clear of a record that is ACTIVE (R151). -/
def FaultRecord.clear (r : FaultRecord) : FaultRecord := { r with active := false, acked := 0, reported := false }

/-- The record of a kind and subject is replaced by its image. -/
def State.updRecord (k : FaultKind) (x : Subject) (g : FaultRecord → FaultRecord) : State → State :=
  State.updFaults fun f => { f with records := f.records.map fun r => if r.hits k x then g r else r }

/-- Setting the overflow mark when it was clear (R152). -/
def State.setOverflow (s : State) : State :=
  if s.faults.overflow then s
  else ((s.updFaults fun f => { f with overflow := true, overflowReports := [] }).armOneShot).latchFault

/-- The Fault Monitor takes a raise (R150, R152). -/
def State.raiseFault (k : FaultKind) (x : Subject) (s : State) : State :=
  match s.faults.records.find? (·.hits k x) with
  | some r =>
    if r.active then
      let t := s.updRecord k x (·.raiseAgain s.tick)
      if r.count < 255 then t.armOneShot else t
    else ((s.updRecord k x (·.reactivate s.tick)).armOneShot).latchFault
  | none =>
    if s.faults.records.length < 16 then s.createRecord k x true
    else
      match s.faults.records.find? (fun r => !r.active) with
      | some old => (s.removeRecord old.id).createRecord k x true
      | none => s.setOverflow

/-- The Fault Monitor takes a clear (R151). -/
def State.clearFault (k : FaultKind) (x : Subject) (s : State) : State :=
  match s.faults.records.find? (·.hits k x) with
  | some r => if r.active then ((s.updRecord k x (·.clear)).armOneShot).latchFault else s
  | none => s

/-- The reset of the Fault Monitor and the Report Beacon by PART RESET and ERASE (R163): the list is emptied,
the settings return to their defaults, next id and next report number are kept, and the record of the reset
is created, born CLEARED. -/
def State.resetFaults (k : FaultKind) (s : State) : State :=
  ((s.updFaults fun f => { nextId := f.nextId }).updBeacon fun b => { nextReport := b.nextReport }).createRecord
    k .nothing false

end Sys2Proof.Machine
end

