-- ==== Sys2Proof/Machine/PoolOps.lean ====
section
/-! DEFINITION. The pool and the queues (chapter 4): returning buffers, refusal notices, ended pushes. -/

namespace Sys2Proof.Machine

/-- One buffer returns to the free set; while the pool-low mark is held, the return that brings the free count
to 16 or more clears POOL_LOW and releases the mark (R60, R70). -/
def State.returnBuffer (s : State) : State :=
  let t := s.updPool fun q => { q with free := q.free + 1 }
  if t.pool.low && decide (16 ≤ t.pool.free) then
    (t.updPool fun q => { q with low := false }).clearFault .poolLow .nothing
  else t

/-- `n` buffers return to the free set, one after another (R61). -/
def State.returnBuffers : Nat → State → State
  | 0, s => s
  | n + 1, s => State.returnBuffers n s.returnBuffer

/-- A buffer leaves the free set (R60). -/
def State.takeBuffer : State → State := State.updPool fun q => { q with free := q.free - 1 }

/-- The place of S-out set aside for an inbound frame (R67). -/
def State.setAsidePlace (b : Bool) : State → State := State.updPool fun q => { q with setAside := b }

/-- A push whose filling frame has been removed ends (R65, R166): the words it still lacked are ignored and
PUSH joins the lost reasons. -/
def State.endPush (p : Port) (s : State) : State :=
  match (s.port p).push with
  | .frame n => (s.updPort p fun q => { q with push := .ignoring n }).losePush p
  | .none | .ignoring _ => s

/-- A descriptor a shop frame can be charged to or notified by: index 0 to 47 and not EMPTY (R7 step 1). -/
def State.isOpenIndex (s : State) (i : Nat) : Bool := decide (i ≤ 47) && (s.chan i).kind != .empty

/-- A refused or removed shop frame hands back its buffer: as a refusal notice at the tail of S-out when the
descriptor it names has NOTIFY set and S-out has a free place, to the free set otherwise (R8, R68, R83). -/
def State.noticeOrFree (f : ShopFrame) (r : RefuseReason) (s : State) : State :=
  if s.isOpenIndex f.channel && (s.chan f.channel).flags.notify && s.sOutRoom then
    s.updSOut fun q => q ++ [{ channel := f.channel, level := f.level, length := f.length, refusal := some r }]
  else s.returnBuffer

/-- The shop frames that `q` picks out leave S-in, in S-in order, each as a notice with NO_CHANNEL or to the
free set (R14 step 1); the push of a filling frame among them ends (R65). -/
def State.removeShopFrames (q : ShopFrame → Bool) (s : State) : State :=
  let gone := s.sIn.filter q
  let t := s.updSIn fun l => l.filter fun f => !q f
  let t := if gone.any fun f => !f.complete then t.endPush .s else t
  gone.foldl (fun u f => u.noticeOrFree f .noChannel) t

end Sys2Proof.Machine
end

