-- ==== Sys2Proof/Machine/ChannelOps.lean ====
section
/-! DEFINITION. The Channel Table's operations (chapter 1): key levels, references, marking, rebinding, dropping,
opening and closing. -/

namespace Sys2Proof.Machine

/-- The key level of a descriptor (R3): its own, or its target's for an ALIAS. -/
def State.keyLevel (s : State) (i : Nat) : Nat :=
  let c := s.chan i
  if c.kind = .aliased then (s.chan (c.target.getD 0)).level else c.level

/-- A DATA or CONTROL descriptor: a descriptor that names its key (R5). -/
def Channel.namesKey (c : Channel) : Bool := c.kind == .data || c.kind == .control

/-- An ALIAS whose target is t (R3). -/
def Channel.aliasTo (t : Nat) (c : Channel) : Bool := c.kind == .aliased && c.target == some t

/-- A DATA or CONTROL descriptor whose current slot is x. -/
def Channel.currentIs (x : Nat) (c : Channel) : Bool := c.namesKey && c.current == some x

/-- Whether an ALIAS has a target with the property. -/
def State.targetHas (s : State) (q : Channel → Bool) (c : Channel) : Bool :=
  c.kind == .aliased && (match c.target with | some t => q (s.chan t) | none => false)

/-- The number of descriptors with a property. -/
def State.countChans (s : State) (q : Channel → Bool) : Nat := s.chans.toList.countP q

/-- One name of slot x added to its reference count (R5). -/
def State.addRefs (x n : Nat) : State → State := fun s => s.updSlot x fun v => { v with refs := v.refs + n }

/-- n names of slot x removed from its reference count (R5). -/
def State.dropRefs (x n : Nat) : State → State := fun s => s.updSlot x fun v => { v with refs := v.refs - n }

/-- A descriptor's name of a slot is removed from the slot's reference count (R5). -/
def State.dropName (o : Option Nat) (s : State) : State :=
  match o with
  | some x => s.dropRefs x 1
  | none => s

/-- Every OPEN descriptor whose current slot is x becomes EXHAUSTED, with the aliases of each (R20). -/
def State.markExhausted (x : Nat) (s : State) : State :=
  let hit (c : Channel) : Bool := c.currentIs x && c.state == .opened
  s.mapChans fun _ c => if hit c || s.targetHas hit c then { c with state := .exhausted } else c

/-- The descriptors whose current slot is x take current slot y and alternate slot x; EXHAUSTED ones return to
OPEN with their aliases; y's reference count increases by their number (R21). -/
def State.rebind (x y : Nat) (s : State) : State :=
  let n := s.countChans (Channel.currentIs x)
  (s.mapChans fun _ c =>
      if c.currentIs x then
        { c with current := some y, alternate := some x
                 state := if c.state = .exhausted then .opened else c.state }
      else if s.targetHas (Channel.currentIs x) c && c.state == .exhausted then { c with state := .opened }
      else c).addRefs y n

/-- Every descriptor whose alternate slot is x loses it (R22). -/
def State.dropAlternate (x : Nat) (s : State) : State :=
  let n := s.countChans fun c => c.alternate == some x
  (s.mapChans fun _ c => if c.alternate = some x then { c with alternate := none } else c).dropRefs x n

/-! ### Opening (R11, R12, R13) -/

/-- The fields a CHANNEL OPEN or an open CHANNEL ORDER carries. -/
structure OpenRequest where
  index : Nat
  kind : Nat
  level : Nat
  /-- The slot for DATA, the target for ALIAS. -/
  ref : Nat
  flags : ChanFlags
  deriving DecidableEq, Repr

/-- The checks of R11 and R12 in their order; `office` leaves out the steps that give REFUSED_PORT (R13). -/
def State.openCheck (office : Bool) (q : OpenRequest) (s : State) : Option Status :=
  if s.partState = .failed then some .refusedState
  else if q.index = 0 ∨ q.index > 47 then some .refusedRange
  else if (q.kind ≠ 1 ∧ q.kind ≠ 2) ∨ q.level > 3 then some .refusedRange
  else if !office ∧ q.level = 0 then some .refusedPort
  else if (s.chan q.index).kind ≠ .empty then some .refusedState
  else if q.kind = 1 then
    let v := s.slot q.ref
    if q.ref = 0 ∨ q.ref > 23 then some .refusedRange
    else if v.state = .empty then some .notFound
    else if v.state ≠ .active ∨ v.spent then some .refusedState
    else if v.level ≠ q.level then some .refusedState
    else none
  else
    let t := s.chan q.ref
    if q.ref = 0 ∨ q.ref > 47 then some .refusedRange
    else if t.kind = .empty then some .notFound
    else if t.kind = .aliased then some .refusedRange
    else if !office ∧ t.level = 0 then some .refusedPort
    else if t.state = .closing then some .refusedState
    else none

/-- The open itself (R11, R12). -/
def State.openChannel (q : OpenRequest) (s : State) : State :=
  if q.kind = 1 then
    (s.setChan q.index
        { kind := .data, level := q.level, state := .opened, flags := q.flags, current := some q.ref }).addRefs
      q.ref 1
  else
    (s.setChan q.index
        { kind := .aliased, level := q.level, state := (s.chan q.ref).state, flags := q.flags
          target := some q.ref }).updChan
      q.ref fun t => { t with aliasCount := t.aliasCount + 1 }

/-! ### Closing (R14, R15) -/

/-- The close of a DATA descriptor (R14). -/
def State.closeData (i : Nat) (s : State) : State :=
  let names (f : ShopFrame) : Bool := f.channel == i || (decide (f.channel ≤ 47) && (s.chan f.channel).aliasTo i)
  let t := s.removeShopFrames names
  let t := t.mapChans fun _ c => if c.aliasTo i then {} else c
  let t := (t.dropName (t.chan i).current).dropName (t.chan i).alternate
  t.updChan i fun c =>
    if c.inEngine then
      { c with state := .closing, flags := {}, aliasCount := 0, current := none, alternate := none }
    else {}

/-- The close of an ALIAS descriptor (R15). -/
def State.closeAlias (i : Nat) (s : State) : State :=
  let t := s.removeShopFrames fun f => f.channel == i
  let target := (t.chan i).target.getD 0
  (t.setChan i {}).updChan target fun c => { c with aliasCount := c.aliasCount - 1 }

/-- A close whose checks have passed. -/
def State.closeChannel (i : Nat) (s : State) : State :=
  if (s.chan i).kind = .aliased then s.closeAlias i else s.closeData i

/-- The checks of R14 and R18 that the S-port's CHANNEL CLOSE and CHANNEL RESET share. -/
def State.channelCheck (i : Nat) (s : State) : Option Status :=
  if s.partState = .failed then some .refusedState
  else if i = 0 ∨ i > 47 then some .refusedRange
  else if (s.chan i).kind = .empty then some .notFound
  else if s.keyLevel i = 0 then some .refusedPort
  else if (s.chan i).state = .closing then some .refusedState
  else none

/-- The conditions under which a close ordered by head office is applied (R13). -/
def State.orderedCloseApplies (i : Nat) (s : State) : Bool :=
  !(i == 0 || decide (i > 47)) && (s.chan i).kind != .empty && (s.chan i).state != .closing

end Sys2Proof.Machine
end

