-- ==== Sys2Proof/Machine/KeyOps.lean ====
section
/-! DEFINITION. The Key Store, the triggers of the Renewal Controller and the Account Unit (chapters 2, 3, 8):
emptying, discarding, switching and draining slots, listing triggers, charging frames and spending keys. -/

namespace Sys2Proof.Machine

/-! ### Emptying, discarding and draining (R31, R33, R35) -/

/-- A working slot takes its EMPTY values and every link naming it is removed (R33). A SUSPECT slot sends the
clear of TAG_FAILS (R93); a held replay burst mark sends the clear of REPLAY_BURST and is released (R94). -/
def State.emptySlot (x : Nat) (s : State) : State :=
  let suspect := (s.slot x).suspect
  let t := s.mapSlots fun y v =>
    if y = x then {}
    else
      { v with predecessor := if v.predecessor = some x then none else v.predecessor
               successor := if v.successor = some x then none else v.successor }
  let t := if suspect then t.clearFault .tagFails (.slot x) else t
  if s.burst x then (t.setBurst x false).clearFault .replayBurst (.slot x) else t

/-- A STAGED slot is discarded; any other slot is left as it is (R27, R31). -/
def State.discardSlot (y : Nat) (s : State) : State := if (s.slot y).state = .staged then s.emptySlot y else s

/-- A drain end (R35): with the engine-use mark clear, the Channel Table drops the slot (R22) and it is emptied;
with the mark set it waits, DRAINING with drain remaining 0. Nothing for a slot whose drain has not ended. -/
def State.endDrain (x : Nat) (s : State) : State :=
  let v := s.slot x
  if v.state = .draining ∧ v.drain = 0 ∧ v.engineUse = false then (s.dropAlternate x).emptySlot x else s

/-- The switch from the ACTIVE slot x to its STAGED successor y (R29, R58, R21); nothing when y is not STAGED. -/
def State.switchSlots (x y : Nat) (s : State) : State :=
  if (s.slot y).state = .staged ∧ (s.slot x).state = .active then
    let t := s.updSlot y fun v => { v with state := .active }
    let t := t.updSlot x fun v => { v with state := .draining, drain := 32 }
    let t := t.rebind x y
    t.updSlot y fun v =>
      { v with rate := (s.slot x).rate, used := 0, intervalCharge := 0, age := 0, requested := false }
  else s

/-! ### Triggers and the request list (R129 to R131) -/

/-- The urgency of a reason (R129). -/
def Reason.urgency : Reason → Nat
  | .spent | .suspect | .boot => 2
  | .order | .locally | .age => 1
  | .soft | .projected => 0

/-- What became of a trigger; the outcomes RENEW NOW reports (R171), and the two cases it cannot meet. -/
inductive Listing where
  | opened | listed | raised | unchanged | notListed | notActive | heldBack
  deriving DecidableEq, Repr

/-- The REQUESTED flag of a slot (R37); none for the BOOT trigger, which names no slot. -/
def State.setRequested (o : Option Nat) (b : Bool) (s : State) : State :=
  match o with
  | some x => s.updSlot x fun v => { v with requested := b }
  | none => s

/-- Entry e stands at or before the place of entry f: a higher urgency, or the same urgency and an arrival
number not newer (R130). -/
def Entry.before (f e : Entry) : Bool := decide (f.urgency < e.urgency) || (e.urgency == f.urgency && decide (e.arrival ≤ f.arrival))

/-- An entry takes its place in the list (R130). A raised entry whose arrival number equals that of entries of its new
urgency, as it may once the count of triggers received has saturated, stands after them (log entry 33). -/
def insertEntry (f : Entry) : List Entry → List Entry
  | [] => [f]
  | e :: es => if f.before e then e :: insertEntry f es else f :: e :: es

/-- A new entry is wanted (R130, R131). -/
def State.listNew (o : Option Nat) (r : Reason) (s : State) : State × Listing :=
  let e : Entry := { slot := o, urgency := r.urgency, reason := r, arrival := s.renewal.received }
  if s.renewal.list.length < 8 then
    (s.updRenewal fun n => { n with list := insertEntry e n.list }, .listed)
  else
    match s.renewal.list.getLast? with
    | some last =>
      if last.urgency < r.urgency then
        ((s.updRenewal fun n =>
            { n with list := insertEntry e n.list.dropLast
                     replaced := satInc 65535 n.replaced }).setRequested last.slot false, .listed)
      else
        ((s.updRenewal fun n =>
            { n with notListed := satInc 65535 n.notListed
                     bootRelist := if o = none then .waiting else n.bootRelist }).setRequested o false, .notListed)
    | none => (s, .notListed)

/-- The listing step (R129 case 4, R130). -/
def State.listTrigger (o : Option Nat) (r : Reason) (s : State) : State × Listing :=
  match s.renewal.list.find? (fun e => e.slot == o) with
  | some e =>
    if e.urgency < r.urgency then
      (s.updRenewal fun n =>
        { n with list := insertEntry { e with urgency := r.urgency, reason := r } (n.list.filter fun d => d.slot != o) },
        .raised)
    else (s, .unchanged)
  | none => s.listNew o r

/-- Whether an open context already serves the trigger (R129 case 1). -/
def Context.serves (o : Option Nat) (c : Context) : Bool :=
  c.isOpen && (match o with | some x => c.subject == some x | none => c.kind == some .boot)

/-- The backoff that holds a trigger back (R129 case 3). A backoff whose count has reached 0 holds until its end
is taken (log entry 25). -/
def Backoff.holds (b : Backoff) : Bool := decide (0 < b.remaining) || b.endDue

def State.backoffFor (s : State) : Option Nat → Backoff
  | some x => s.backoff x
  | none => s.renewal.bootBackoff

/-- ORDER and LOCAL end a backoff (R129 case 3). -/
def Reason.endsBackoff : Reason → Bool
  | .order | .locally => true
  | .soft | .projected | .age | .spent | .suspect | .boot => false

/-- The Renewal Controller receives a trigger (R129). -/
def State.receiveTrigger (o : Option Nat) (r : Reason) (s : State) : State × Listing :=
  let s := s.updRenewal fun n => { n with received := satInc 65535 n.received }
  if (s.findCtx (Context.serves o)).isSome then (s, .opened)
  else
    match o with
    | some x =>
      if (s.slot x).state ≠ .active then (s.setRequested o false, .notActive)
      else if (s.backoff x).holds then
        if r.endsBackoff then (s.setBackoff x {}).listTrigger o r else (s, .heldBack)
      else s.listTrigger o r
    | none => if s.renewal.bootBackoff.holds then (s, .heldBack) else s.listTrigger o r

/-- A trigger is sent: the sender sets REQUESTED (R37, R129) and the Renewal Controller handles it. -/
def State.sendTrigger (x : Nat) (r : Reason) (s : State) : State :=
  ((s.setRequested (some x) true).receiveTrigger (some x) r).1

/-- A BOOT trigger is sent (R131, R138, R179). -/
def State.sendBoot (s : State) : State := (s.receiveTrigger none .boot).1

/-! ### The Account Unit (R46 to R58) -/

/-- The cost of an outbound frame (R46). -/
def frameCost (len : Nat) : Nat := blockCount len + 2

/-- A slot is spent (R48, R56): SPENT, its channels EXHAUSTED, the fault event, the SPENT trigger. -/
def State.spendSlot (x : Nat) (k : FaultKind) (s : State) : State :=
  let t := s.updSlot x fun v => { v with spent := true }
  ((t.markExhausted x).raiseFault k (.slot x)).sendTrigger x .spent

/-- The soft-limit test after a taken charge (R49). -/
def State.softTest (x : Nat) (s : State) : State :=
  let v := s.slot x
  if v.soft ≤ v.used ∧ v.requested = false then s.sendTrigger x .soft else s

/-- A frame of cost c is charged to slot x (R47): the state after, and whether the charge was taken. -/
def State.charge (x c : Nat) (s : State) : State × Bool :=
  let v := s.slot x
  if v.spent then (s, false)
  else if v.hard < v.used + c then (s.spendSlot x .keySpent, false)
  else
    ((s.updSlot x fun w =>
        { w with used := w.used + c, intervalCharge := min (w.intervalCharge + c) 4294967295 }).softTest x, true)

/-- The rate after an interval with charge B (R52). -/
def nextRate (r b : Nat) : Nat := min (r - r / 8 + b / 8) 16777215

/-- The projection P in intervals (R53). -/
def projection (v : Slot) : Nat :=
  let q := v.hard - v.used
  if q = 0 then 0 else if v.rate = 0 then 65535 else min 65535 (q / v.rate)

/-- The rate update of a visited slot (R52). -/
def State.rateUpdate (x : Nat) : State → State := fun s =>
  s.updSlot x fun v => { v with rate := nextRate v.rate v.intervalCharge, intervalCharge := 0 }

/-- The projection of a visited slot sends PROJECTED (R53). A SPENT slot is left to the re-evaluation, which triggers it
with SPENT: so R53's last sentence and the worked example of chapter 8 have it, against the order of R51 (log entry 31). -/
def State.projects (s : State) (x : Nat) : Bool :=
  let v := s.slot x
  decide (projection v ≤ v.lead ∧ v.successor = none ∧ v.requested = false ∧ v.spent = false)

/-- The re-evaluation of a visited slot (R54). -/
def State.reevaluateSlot (x : Nat) (s : State) : State :=
  let v := s.slot x
  if v.requested = false ∧ v.successor = none then
    if v.spent then s.sendTrigger x .spent
    else if v.suspect then s.sendTrigger x .suspect
    else if v.soft ≤ v.used then s.sendTrigger x .soft
    else s
  else s

/-- The visit of a slot at an interval end (R51): only ACTIVE slots are visited. A slot for which the projection has
sent PROJECTED is not re-evaluated at this interval end (R54), be the trigger listed or not. -/
def State.visitSlot (s : State) (x : Nat) : State :=
  if (s.slot x).state = .active then
    let t := s.rateUpdate x
    if t.projects x then t.sendTrigger x .projected else t.reevaluateSlot x
  else s

/-- The clamps of R57. -/
def clampHard (h : Nat) : Nat := max 4096 (min h 2147483648)
def clampSoft (h s : Nat) : Nat := if s = 0 ∨ h ≤ s then h - h / 8 else s
def clampLead (l : Nat) : Nat := if l = 0 then 12 else min l 255
def clampAge (a : Nat) : Nat := max 64 a

/-! ### Counters (R34) -/

/-- The counter of a working slot is drawn (R34): the state after, and the value drawn. -/
def State.drawCounter (x : Nat) (s : State) : State × Nat :=
  (s.updSlot x fun v => { v with txCounter := v.txCounter + 1 }, (s.slot x).txCounter)

/-- The root transmit counter is drawn (R34); until the write of its new value completes, the non-volatile store
still holds the old one (R26, log entry 9). -/
def State.drawRootCounter (s : State) : State × Nat :=
  (s.updRoot fun r =>
      { r with txCounter := r.txCounter + 1, unsavedCounter := some (r.unsavedCounter.getD r.txCounter) },
    s.root.txCounter)

/-- The maximum of the root transmit counter (R34). -/
def counterMax : Nat := 2 ^ 48 - 1

end Sys2Proof.Machine
end

