-- ==== Sys2Proof/Machine/MessageOps.lean ====
section
/-! DEFINITION. Control messages and renewal exchanges (chapters 4, 7, 8): payload layouts (R189), composition
(R69, R70, R117), exchange numbers (R115, R116), contexts (R132 to R144), and the inbound messages (R119). -/

namespace Sys2Proof.Machine

/-! ### Composition (R69, R70, R117) -/

/-- The part states in which a composition is possible (R117). -/
def PartState.composes : PartState → Bool
  | .bootstrap | .run | .quiesced => true
  | .boot | .noRoot | .failed => false

/-- A composition: the state after, and whether it succeeded. Outside BOOTSTRAP, RUN and QUIESCED it fails without
an event (R117); with no buffer free it fails and raises POOL_LOW, with the list full it fails (R70); otherwise
one buffer joins the tail of the control pending list (R69). -/
def State.compose (payload : List Byte) (s : State) : State × Bool :=
  if !s.partState.composes then (s, false)
  else if s.pool.free = 0 then
    ((s.updPool fun q => { q with low := true }).raiseFault .poolLow .nothing, false)
  else if 8 ≤ s.ctrl.length then (s, false)
  else
    (((s.takeBuffer).updCtrl fun l => l ++ [{ payload := payload, serial := s.renewal.nextSerial }]).updRenewal
        fun r => { r with nextSerial := r.nextSerial + 1 }, true)

/-- KEY REQUEST (R189): the subject's generation and snapshot are taken from slot x, or are 0 for BOOT (R117). -/
def keyRequestBytes (s : State) (c : Context) : List Byte :=
  let v := match c.subject with | some x => s.slot x | none => {}
  natBytes 1 0x11 ++ natBytes 1 (numberCode c.exchange) ++ natBytes 1 (numberCode c.subject)
    ++ [v.generation] ++ natBytes 1 (reasonCode c.reason) ++ natBytes 1 c.attempt ++ natBytes 4 v.used
    ++ natBytes 4 v.rate ++ natBytes 4 v.hard

/-- KEY ACCEPT (R189): the successor slot and its generation from the staged slot (R117); 0 for a pending root. -/
def keyAcceptBytes (s : State) (c : Context) : List Byte :=
  let y := numberCode c.successor
  natBytes 1 0x12 ++ natBytes 1 (numberCode c.exchange) ++ natBytes 1 y ++ [(s.slot y).generation]

/-- Reject reasons (R120; codes of R184). -/
inductive Reject where
  | notEmpty | noSlot | level | generation | wrapCheck | noContext
  deriving DecidableEq, Repr

def Reject.code : Reject → Nat
  | .notEmpty => 1 | .noSlot => 2 | .level => 3 | .generation => 4 | .wrapCheck => 5 | .noContext => 6

/-- KEY REJECT (R189): exchange and target as carried, and the reason. -/
def keyRejectBytes (exchange target : Byte) (r : Reject) : List Byte :=
  natBytes 1 0x13 ++ [exchange, target] ++ natBytes 1 r.code

/-- The 13 bytes of a record in a FAULT REPORT (R189). -/
def recordBytes (r : FaultRecord) : List Byte :=
  natBytes 1 r.id ++ natBytes 1 r.kind.code ++ natBytes 1 r.subject.code ++ natBytes 1 r.count
    ++ natBytes 4 r.first ++ natBytes 4 r.last ++ natBytes 1 (recordStateCode r.active)

/-- FAULT REPORT (R189). -/
def faultReportBytes (number : Nat) (overflow : Bool) (rs : List FaultRecord) : List Byte :=
  natBytes 1 0x14 ++ natBytes 1 number ++ natBytes 1 overflow.toNat ++ natBytes 1 rs.length
    ++ rs.flatMap recordBytes

/-- LOOPBACK ECHO (R189). -/
def echoBytes (probe : Nat) (payload : List Byte) : List Byte :=
  natBytes 1 0x15 ++ natBytes 2 probe ++ natBytes 2 payload.length ++ payload

/-! ### Exchange numbers (R115, R116) -/

/-- The exchange numbers open contexts hold (R115). -/
def State.heldExchanges (s : State) : List Nat :=
  contextNumbers.filterMap fun c => if (s.ctx c).isOpen then (s.ctx c).exchange else none

/-- The next exchange number is assigned (R115): the state after, and the number. -/
def State.assignExchange (s : State) : State × Nat :=
  let e := firstUnused 5 s.heldExchanges s.messenger.nextExchange
  (s.updMessenger fun m => { m with nextExchange := nextNumber e, finished := m.finished.filter (· != e) }, e)

/-- A number joins the tail of the finished list, of at most 8 (R116). -/
def addFinished (e : Nat) (l : List Nat) : List Nat :=
  let m := l.filter (· != e) ++ [e]
  if 8 < m.length then m.tail else m

/-- A context becomes FREE and its exchange joins the finished list (R116, R132). -/
def State.freeContext (c : Nat) (s : State) : State :=
  let t := match (s.ctx c).exchange with
    | some e => s.updMessenger fun m => { m with finished := addFinished e m.finished }
    | none => s
  t.setCtx c {}

/-! ### Sending a context's message (R135) -/

/-- The context asks for the message of its state (R135): QUEUED when the composition succeeds, still COMPOSE when
it fails. -/
def State.composeContext (c : Nat) (s : State) : State :=
  let x := s.ctx c
  let payload := if x.state = .awaitDelivery then keyRequestBytes s x else keyAcceptBytes s x
  let r := s.compose payload
  if r.2 then
    r.1.updCtx c fun y => { y with send := .queued, latest := some s.renewal.nextSerial, retryDue := false }
  else r.1.updCtx c fun y => { y with send := .compose, retryDue := false }

/-- The engine reports a message placed in L-tx, or discarded for ROOT_LIMIT (R84, R96): the context whose latest
message it is becomes SENT with 16 ticks (R135); any other report is ignored. -/
def State.reportPlaced (serial : Nat) (s : State) : State :=
  match s.findCtx fun x => x.isOpen && x.send == .queued && x.latest == some serial with
  | some c => s.updCtx c fun x => { x with send := .sent, reply := 16 }
  | none => s

/-! ### Starting an exchange (R133, R134) -/

/-- An entry is eligible to start (R133). -/
def State.eligible (s : State) (e : Entry) : Bool :=
  match e.slot with
  | some x => (s.slot x).state == .active && (s.slot x).predecessor == none && s.partState == .run
  | none => s.partState == .bootstrap && (s.chan 0).current == none

/-- The first eligible entry in list order leaves the list (R134). -/
def takeEligible (q : Entry → Bool) : List Entry → Option (Entry × List Entry)
  | [] => none
  | e :: es => if q e then some (e, es) else (takeEligible q es).map fun r => (r.1, e :: r.2)

/-- A context opens (R134, R139): its number is assigned, the exchanges started count increases. -/
def State.openContext (c : Nat) (x : Context) (s : State) : State :=
  let r := s.assignExchange
  (r.1.setCtx c { x with exchange := some r.2 }).updRenewal fun n => { n with started := satInc 65535 n.started }

/-- An exchange starts, when a context is FREE and an entry is eligible (R134). -/
def State.startExchange (s : State) : State :=
  match s.findCtx (fun x => !x.isOpen), takeEligible s.eligible s.renewal.list with
  | some c, some (e, rest) =>
    let t := s.updRenewal fun n => { n with list := rest }
    let x : Context :=
      { state := .awaitDelivery, kind := some (if e.slot = none then .boot else .renewal), subject := e.slot
        reason := some e.reason }
    (t.openContext c x).composeContext c
  | _, _ => s

/-! ### Ends of an exchange (R137, R140 to R144) -/

/-- The staged successor of a context is discarded (R137 step 1): a working slot is emptied (R31), a pending root
becomes none (R40). Nothing for a context with no successor. -/
def State.discardSuccessor (c : Nat) (s : State) : State :=
  match (s.ctx c).successor with
  | some y => if y = 0 then s.updRoot fun r => { r with pendingRoot := none } else s.discardSlot y
  | none => s

/-- The subject of a context's renewal records (R137 step 2). -/
def Context.faultSubject (x : Context) : Subject :=
  match x.kind with
  | some .renewal => .slot (x.subject.getD 0)
  | some .boot | some .install | some .root | none => .slot 0

/-- The backoff a context's end starts (R138): its subject's, or the boot backoff; none for INSTALL and ROOT. -/
def State.startBackoff (x : Context) (s : State) : State :=
  match x.kind with
  | some .renewal => s.setBackoff (x.subject.getD 0) { remaining := 64 }
  | some .boot => s.updRenewal fun n => { n with bootBackoff := { remaining := 64 } }
  | some .install | some .root | none => s

/-- The exchange of a context fails (R137). -/
def State.failContext (c : Nat) (s : State) : State :=
  let x := s.ctx c
  let t := s.discardSuccessor c
  ((((t.raiseFault .renewalFailed x.faultSubject).startBackoff x).freeContext c).updRenewal
    fun n => { n with failed := satInc 65535 n.failed })

/-- The exchange of a context is refused (R140). -/
def State.refuseContext (c : Nat) (s : State) : State :=
  let x := s.ctx c
  let t := s.discardSuccessor c
  ((((t.raiseFault .renewalRefused x.faultSubject).startBackoff x).freeContext c).updRenewal
    fun n => { n with refused := satInc 65535 n.refused })

/-- Clears of the renewal records on a subject (R141, R143, R144). -/
def State.clearRenewalFaults (x : Subject) (s : State) : State :=
  (s.clearFault .renewalFailed x).clearFault .renewalRefused x

/-- The end of a completed exchange: the context becomes FREE and the exchanges completed count increases. -/
def State.finishContext (c : Nat) (s : State) : State :=
  (s.freeContext c).updRenewal fun n => { n with completed := satInc 65535 n.completed }

/-- A RENEWAL context is completed (R141, R142). -/
def State.completeRenewal (c : Nat) (s : State) : State :=
  let x := (s.ctx c).subject.getD 0
  let y := (s.ctx c).successor.getD 0
  let t := s.switchSlots x y
  let t := ((t.clearRenewalFaults (.slot x)).clearFault .keySpent (.slot x)).clearFault .keyAgeOver (.slot x)
  (t.setBackoff x {}).finishContext c

/-- The part enters RUN from BOOTSTRAP when channel 0 becomes bound (R179); the quiet timer starts at 15 (R102). -/
def State.enterRun (s : State) : State :=
  if s.partState = .bootstrap then
    (s.setPartState .run).updLink fun l => { l with quiet := .running, quietRemaining := 15 }
  else s

/-- The bootstrap request ends when channel 0 becomes bound by the commit of context c (R143). -/
def State.endBootRequest (c : Nat) (s : State) : State :=
  let t := s.updRenewal fun n =>
    { n with list := n.list.filter (fun e => e.slot != none), bootBackoff := {}, bootRelist := .idle }
  match contextNumbers.find? (fun d => d != c && (t.ctx d).kind == some .boot && (t.ctx d).state == .awaitDelivery) with
  | some d => t.freeContext d
  | none => t

/-- Channel 0 is bound to slot y, if it has no current slot (R21, R143). -/
def State.bindControl (c y : Nat) (s : State) : State :=
  if (s.chan 0).current = none then
    (((s.updChan 0 fun d => { d with current := some y }).addRefs y 1).endBootRequest c).enterRun
  else s

/-- An install is committed (R30, R58, R143). -/
def State.completeInstall (c : Nat) (s : State) : State :=
  let y := (s.ctx c).successor.getD 0
  let t :=
    if (s.slot y).state = .staged then
      (s.updSlot y fun v =>
        { v with state := .active, predecessor := none, rate := 0, used := 0, intervalCharge := 0, age := 0 }).bindControl
        c y
    else s
  (t.clearRenewalFaults (.slot 0)).finishContext c

/-- A root renewal is committed (R40, R144): one write of the non-volatile store. -/
def State.completeRoot (c : Nat) (s : State) : State :=
  let t := match s.root.pendingRoot with
    | some m =>
      s.updRoot fun r => { r with material := m, txCounter := 1, pendingRoot := none, unsavedCounter := none }
    | none => s
  (t.clearRenewalFaults (.slot 0)).finishContext c

/-- A context in AWAIT_COMMIT is completed by its KEY COMMIT (R123). -/
def State.commitContext (c : Nat) (s : State) : State :=
  match (s.ctx c).kind with
  | some .renewal => s.completeRenewal c
  | some .boot | some .install => s.completeInstall c
  | some .root => s.completeRoot c
  | none => s

/-! ### Inbound messages (R119, R189) -/

/-- The target of a delivery (R184): a slot 0–23, or "any free". -/
inductive Target where
  | slot (x : Nat)
  | anyFree
  deriving DecidableEq, Repr

/-- A KEY DELIVERY (R189). `targetCode` is the target byte as carried. -/
structure Delivery where
  exchange : Nat
  target : Target
  targetCode : Byte
  predecessor : Option Nat
  generation : Byte
  level : Nat
  hard : Nat
  soft : Nat
  lead : Nat
  maxAge : Nat
  c1 : Block
  c2 : Block
  deriving DecidableEq, Repr

/-- A parseable inbound message (R119). -/
inductive Message where
  | delivery (d : Delivery)
  | commit (exchange : Nat)
  | refuse (exchange reason : Nat)
  | renew (slot : Nat)
  | order (opens : Bool) (q : OpenRequest)
  | ack (report : Nat) (pairs : List (Nat × Nat))
  | probe (number field : Nat) (payload : List Byte)
  deriving DecidableEq, Repr

/-- Bytes k to k + n − 1 of a payload as a number (R183). -/
def fieldAt (bs : List Byte) (k n : Nat) : Nat := bytesNat ((bs.drop k).take n)

/-- The target a code names (R184); any other code is unparseable. -/
def targetOf (n : Nat) : Option Target :=
  if n ≤ 23 then some (.slot n) else if n = 0xFF then some .anyFree else none

/-- The predecessor a code names (R184); any other code is unparseable. -/
def predecessorOf (n : Nat) : Option (Option Nat) :=
  if 1 ≤ n ∧ n ≤ 23 then some (some n) else if n = 0xFF then some none else none

def parseDelivery (bs : List Byte) : Option Message :=
  if bs.length ≠ 52 then none
  else
    match targetOf (fieldAt bs 2 1), predecessorOf (fieldAt bs 3 1) with
    | some t, some p =>
      if 3 < fieldAt bs 5 1 then none
      else
        some (.delivery
          { exchange := fieldAt bs 1 1, target := t, targetCode := bs.getD 2 0, predecessor := p
            generation := bs.getD 4 0, level := fieldAt bs 5 1, hard := fieldAt bs 6 4, soft := fieldAt bs 10 4
            lead := fieldAt bs 14 2, maxAge := fieldAt bs 16 4, c1 := blockOfBytes ((bs.drop 20).take 16)
            c2 := blockOfBytes ((bs.drop 36).take 16) })
    | _, _ => none

def parseOrder (bs : List Byte) : Option Message :=
  if bs.length ≠ 7 then none
  else
    let q : OpenRequest :=
      { index := fieldAt bs 2 1, kind := fieldAt bs 3 1, level := fieldAt bs 4 1, ref := fieldAt bs 5 1
        flags := flagsOf (fieldAt bs 6 1) }
    match fieldAt bs 1 1 with
    | 1 => some (.order true q)
    | 2 => some (.order false q)
    | _ => none

/-- The pairs of a REPORT ACK, from its first p pairs (R189). -/
def ackPairs : Nat → List Byte → List (Nat × Nat)
  | 0, _ => []
  | p + 1, bs => (fieldAt bs 0 1, fieldAt bs 1 1) :: ackPairs p (bs.drop 2)

def parseAck (bs : List Byte) : Option Message :=
  let p := fieldAt bs 2 1
  if bs.length < 3 ∨ 8 < p ∨ bs.length ≠ 3 + 2 * p then none
  else some (.ack (fieldAt bs 1 1) (ackPairs p (bs.drop 3)))

/-- A probe with a payload length field above 256 is not tested for length and is handed on without its payload
(R119). A probe too short to hold the field is unparseable (log entry 19). -/
def parseProbe (bs : List Byte) : Option Message :=
  let field := fieldAt bs 3 2
  if bs.length < 5 then none
  else if 256 < field then some (.probe (fieldAt bs 1 2) field [])
  else if bs.length ≠ 5 + field then none
  else some (.probe (fieldAt bs 1 2) field (bs.drop 5))

/-- The parse of a deciphered payload (R119); none is unparseable. -/
def parseMessage (bs : List Byte) : Option Message :=
  match fieldAt bs 0 1 with
  | 0x21 => parseDelivery bs
  | 0x22 => if bs.length = 2 then some (.commit (fieldAt bs 1 1)) else none
  | 0x23 => if bs.length = 3 then some (.refuse (fieldAt bs 1 1) (fieldAt bs 2 1)) else none
  | 0x24 => if bs.length = 2 then some (.renew (fieldAt bs 1 1)) else none
  | 0x25 => parseOrder bs
  | 0x26 => parseAck bs
  | 0x27 => parseProbe bs
  | _ => none

/-! ### KEY DELIVERY (R116, R120 to R122, R139) -/

/-- The open context that holds an exchange and satisfies a test. -/
def State.holder (s : State) (e : Nat) (q : Context → Bool) : Option Nat :=
  s.findCtx fun x => x.isOpen && x.exchange == some e && q x

/-- A stale delivery (R116). -/
def State.deliveryStale (s : State) (e : Nat) : Bool :=
  e != 0 && ((s.holder e fun x => x.state == .awaitCommit).isSome
    || (decide (e ∈ s.messenger.finished) && (s.holder e fun _ => true).isNone))

/-- The lowest-numbered EMPTY working slot (R28). -/
def State.lowestEmpty (s : State) : Option Nat := workingSlots.find? fun x => (s.slot x).state == .empty

/-- Step 1 of R120: the context a delivery belongs to, or will open. -/
def State.deliveryContext (s : State) (d : Delivery) : Option Nat :=
  if d.exchange = 0 then
    if d.predecessor = none then s.findCtx fun x => !x.isOpen else none
  else s.holder d.exchange fun x => x.state == .awaitDelivery && x.subject == d.predecessor

/-- Steps 2 to 5 of R120: the first failure. -/
def State.deliveryCheck (s : State) (d : Delivery) : Option Reject :=
  let targetTaken : Bool := match d.target with
    | .slot x =>
      if x = 0 then decide (d.exchange ≠ 0) || s.root.pendingRoot.isSome || !s.root.active
      else (s.slot x).state != .empty
    | .anyFree => false
  let isRoot : Bool := d.target == .slot 0
  let levelWrong : Bool := match d.predecessor with
    | some x => d.level != (s.slot x).level
    | none => !isRoot && (s.chan 0).current == none && d.level != 0
  let generationWrong : Bool := match d.predecessor with
    | some x => d.generation != (s.slot x).generation + 1
    | none => isRoot && d.generation != 0
  if targetTaken then some .notEmpty
  else if d.target = .anyFree ∧ s.lowestEmpty = none then some .noSlot
  else if levelWrong then some .level
  else if generationWrong then some .generation
  else none

/-- The rejected count of a reason increases (R120, R114). -/
def Messenger.countReject (m : Messenger) : Reject → Messenger
  | .notEmpty => { m with rejectNotEmpty := satInc 65535 m.rejectNotEmpty }
  | .noSlot => { m with rejectNoSlot := satInc 65535 m.rejectNoSlot }
  | .level => { m with rejectLevel := satInc 65535 m.rejectLevel }
  | .generation => { m with rejectGeneration := satInc 65535 m.rejectGeneration }
  | .wrapCheck => { m with rejectWrapCheck := satInc 65535 m.rejectWrapCheck }
  | .noContext => { m with rejectNoContext := satInc 65535 m.rejectNoContext }

/-- A delivery is rejected (R120 to R122): counted, NO_SLOT raises NO_KEY_SLOT, and one KEY REJECT is composed. -/
def State.rejectDelivery (d : Delivery) (r : Reject) (s : State) : State :=
  let t := s.updMessenger fun m => m.countReject r
  let t :=
    if r = .noSlot then
      (t.raiseFault .noKeySlot .nothing).updMessenger fun m => { m with noSlotMark := true }
    else t
  let u := t.compose (keyRejectBytes (BitVec.ofNat 8 d.exchange) d.targetCode r)
  if u.2 then u.1 else u.1.updMessenger fun m => { m with rejectsNotSent := satInc 65535 m.rejectsNotSent }

/-- The record staging writes (R28, R57). -/
def Delivery.slot (d : Delivery) (key : Block) : Slot :=
  { state := .staged, generation := d.generation, level := d.level, material := key
    predecessor := d.predecessor, txCounter := 1, hard := clampHard d.hard
    soft := clampSoft (clampHard d.hard) d.soft, lead := clampLead d.lead, maxAge := clampAge d.maxAge }

/-- A key is staged into working slot y (R28); its predecessor's successor becomes y, and a held no-slot mark is
cleared (R121). -/
def State.stageSlot (d : Delivery) (key : Block) (y : Nat) (s : State) : State :=
  let t := s.setSlot y (d.slot key)
  let t := match d.predecessor with
    | some x => t.updSlot x fun v => { v with successor := some y }
    | none => t
  if t.messenger.noSlotMark then
    (t.clearFault .noKeySlot .nothing).updMessenger fun m => { m with noSlotMark := false }
  else t

/-- The context of a staged delivery moves forward (R139) and its KEY ACCEPT is asked for. -/
def State.acceptDelivery (d : Delivery) (c y : Nat) (s : State) : State :=
  let t :=
    if d.exchange = 0 then
      s.openContext c
        { state := .awaitCommit, kind := some (if y = 0 then .root else .install), successor := some y }
    else
      s.updCtx c fun x =>
        { x with state := .awaitCommit, successor := some y, attempt := 1, send := .compose, reply := 0
                 latest := none, retryDue := false }
  t.composeContext c

/-- A delivery that is not stale (R120, R121). That its NO_KEY_SLOT event reaches the Fault Monitor before the POOL_LOW raise of
an answer whose composition fails, where R148 lets either come first, is the model's choice (log entry 38). -/
def State.takeDelivery (d : Delivery) (s : State) : State :=
  match s.deliveryContext d with
  | none => s.rejectDelivery d .noContext
  | some c =>
    match s.deliveryCheck d with
    | some r => s.rejectDelivery d r
    | none =>
      match unwrap s.root.material d.c1 d.c2 d.targetCode d.generation with
      | none => s.rejectDelivery d .wrapCheck
      | some key =>
        if d.target = .slot 0 then
          (s.updRoot fun r => { r with pendingRoot := some key }).acceptDelivery d c 0
        else
          let y := match d.target with
            | .slot x => x
            | .anyFree => s.lowestEmpty.getD 0
          (s.stageSlot d key y).acceptDelivery d c y

/-! ### The other messages (R123 to R126, R154) -/

def State.countStale : State → State := State.updMessenger fun m => { m with stale := satInc 65535 m.stale }

def State.countOrder (applied : Bool) : State → State :=
  State.updMessenger fun m =>
    if applied then { m with ordersApplied := satInc 65535 m.ordersApplied }
    else { m with ordersNotApplied := satInc 65535 m.ordersNotApplied }

/-- KEY COMMIT (R116, R123). -/
def State.takeCommit (e : Nat) (s : State) : State :=
  match s.holder e fun x => x.state == .awaitCommit with
  | some c => s.commitContext c
  | none => s.countStale

/-- KEY REFUSE (R116, R123, R140). -/
def State.takeRefuse (e reason : Nat) (s : State) : State :=
  match s.holder e fun _ => true with
  | some c => (s.updMessenger fun m => { m with lastRefusal := some (e, reason) }).refuseContext c
  | none => s.countStale

/-- ORDER RENEW (R124). -/
def State.takeRenew (x : Nat) (s : State) : State :=
  if x ≤ 23 ∧ (s.slot x).state = .active then (s.sendTrigger x .order).countOrder true else s.countOrder false

/-- CHANNEL ORDER (R13, R125). -/
def State.takeOrder (opens : Bool) (q : OpenRequest) (s : State) : State :=
  if opens then
    match s.openCheck true q with
    | some _ => s.countOrder false
    | none => (s.openChannel q).countOrder true
  else if s.orderedCloseApplies q.index then (s.closeChannel q.index).countOrder true
  else s.countOrder false

/-- One pair of a REPORT ACK (R154, R153). -/
def State.takePair (s : State) (p : Nat × Nat) : State :=
  match s.faults.records.find? (fun r => r.id == p.1 && r.reported) with
  | none => s
  | some r =>
    let acked := max r.acked (min p.2 r.count)
    if !r.active && acked == r.count then s.removeRecord p.1
    else
      s.updFaults fun f =>
        { f with records := f.records.map fun q => if q.id = p.1 then { q with acked := acked } else q }

/-- REPORT ACK (R126, R154). -/
def State.takeAck (report : Nat) (pairs : List (Nat × Nat)) (s : State) : State :=
  let t := pairs.foldl State.takePair s
  if report ∈ t.faults.overflowReports then
    t.updFaults fun f => { f with overflow := false, overflowReports := [] }
  else t

/-- LOOPBACK PROBE (R108, R109). -/
def State.takeProbe (number field : Nat) (payload : List Byte) (s : State) : State :=
  let drop (t : State) : State := t.updLink fun l => { l with probesDropped := satInc 4294967295 l.probesDropped }
  if 256 < field then drop s
  else
    let r := s.compose (echoBytes number payload)
    if r.2 then r.1.updLink fun l => { l with probesAnswered := satInc 4294967295 l.probesAnswered } else drop r.1

/-- The handed-on count of a message's kind (R114, R119). -/
def Messenger.countHanded (m : Messenger) : Message → Messenger
  | .delivery _ => { m with handedDelivery := satInc 65535 m.handedDelivery }
  | .commit _ => { m with handedCommit := satInc 65535 m.handedCommit }
  | .refuse _ _ => { m with handedRefuse := satInc 65535 m.handedRefuse }
  | .renew _ => { m with handedRenew := satInc 65535 m.handedRenew }
  | .order _ _ => { m with handedOrder := satInc 65535 m.handedOrder }
  | .ack _ _ => { m with handedAck := satInc 65535 m.handedAck }
  | .probe _ _ _ => { m with handedProbe := satInc 65535 m.handedProbe }

/-- A parseable message acts (R120 to R126). -/
def State.takeMessage (m : Message) (s : State) : State :=
  match m with
  | .delivery d => if s.deliveryStale d.exchange then s.countStale else s.takeDelivery d
  | .commit e => s.takeCommit e
  | .refuse e r => s.takeRefuse e r
  | .renew x => s.takeRenew x
  | .order o q => s.takeOrder o q
  | .ack r ps => s.takeAck r ps
  | .probe n f p => s.takeProbe n f p

/-- The deciphered payload of a control frame is parsed and acts (R119). -/
def State.handleControl (bs : List Byte) (s : State) : State :=
  match parseMessage bs with
  | some m => (s.updMessenger fun x => x.countHanded m).takeMessage m
  | none => s.updMessenger fun m => { m with unparseable := satInc 65535 m.unparseable }

end Sys2Proof.Machine
end

