-- ==== Sys2Proof/Machine/ResetOps.lean ====
section
/-! DEFINITION. Responses of the ports (R168), the entry into BOOTSTRAP (R179), and what PART RESET and an executed
ERASE do to each block (R23, R43, R44, R75, R99, R101, R114, R146, R163, R164, R172, R181, R182). -/

namespace Sys2Proof.Machine

/-- The response of a command is written at port p (R168): it replaces the content of the response slot, the read
position becomes 0, RESPONSE latches, command progress becomes IDLE. -/
def State.respond (p : Port) (st : Status) (result : List Word) : State → State :=
  State.updPort p fun q =>
    { q with response := st.code :: result, responsePos := 0, responseCause := true, cmd := .idle }

/-- The part enters BOOTSTRAP (R179): Part Control sends the BOOT trigger. -/
def State.enterBootstrap (s : State) : State := (s.setPartState .bootstrap).sendBoot

/-! ### Ports (R164, R172, R173) -/

/-- What PART RESET and ERASE do to a port but for its command in progress (R164, R166, R172, R173). A push or a
mailbox write already ignored goes on being ignored (log entry 16). -/
def PortState.afterReset (q : PortState) : PortState :=
  let q :=
    match q.push with
    | .frame n => { q with push := .ignoring n, lostPush := true }
    | .none | .ignoring _ => q
  let q :=
    match q.mailWrite with
    | .gathering len ws => { q with mailWrite := .ignoring (wordCount len - ws.length), lostMail := true }
    | .ignoring n => { q with mailWrite := .ignoring n, lostMail := true }
    | .none => q
  let q :=
    match q.cmd with
    | .writing _ => { q with cmd := .idle, lostCommand := true }
    | .idle | .inProgress _ => q
  { q with pullPos := 0, responsePos := 0, mailbox := {}, mailPos := 0, mailCause := false, enable := {} }

/-- A command still IN PROGRESS at a port is ended by the reset (R172): REFUSED_STATE, no result words. -/
def State.endCommand (p : Port) (s : State) : State :=
  if (s.port p).cmd.busy then s.respond p .refusedState [] else s

/-- Both ports at PART RESET or ERASE (R164, R172). The command that causes the reset is answered afterwards; its
own port is not IN PROGRESS here. -/
def State.resetPorts (s : State) : State :=
  (((s.updSPort PortState.afterReset).updLPort PortState.afterReset).endCommand .s).endCommand .l

/-! ### PART RESET (R181) -/

/-- The engine abandons its work (R99, R23): its channel's mark clears, a CLOSING descriptor becomes EMPTY, its slot's
mark clears, the engine is IDLE with last direction OUTBOUND and every replay burst mark released (R76). A write of
the root transmit counter that was in progress completes (log entry 9). The buffer returns with all others
(`resetPool`). -/
def State.abandonWork (s : State) : State :=
  ((((s.mapChans fun _ c => if c.state = .closing then {} else { c with inEngine := false }).mapSlots
      fun _ v => { v with engineUse := false }).updEngine
      fun e => { e with work := none, lastDirection := .outbound, burst := Vector.replicate 23 false }).updRoot
    fun r => { r with unsavedCounter := none })

/-- The pool, the queues and the control pending list at PART RESET and ERASE (R75). -/
def State.resetPool (s : State) : State := { s with pool := {}, sIn := [], sOut := [], lRx := [], lTx := [], ctrl := [] }

/-- Every open context ends (R146 step 1): its staged key is discarded, its number joins the finished list. -/
def State.endContexts (s : State) : State :=
  contextNumbers.foldl (fun t c => if (t.ctx c).isOpen then (t.discardSuccessor c).freeContext c else t) s

/-- The Renewal Controller at PART RESET (R146 steps 1 and 2). -/
def State.resetRenewal (s : State) : State :=
  (s.endContexts).updRenewal fun n =>
    { n with list := [], backoff := Vector.replicate 23 {}, bootBackoff := {}, bootRelist := .idle }

/-- Every STAGED slot is discarded and the pending root becomes none (R44). -/
def State.discardStaged (s : State) : State :=
  (workingSlots.foldl (fun t x => t.discardSlot x) s).updRoot fun r => { r with pendingRoot := none }

/-- Drains restart at 32 and REQUESTED is cleared (R44, R35). -/
def State.restartDrains : State → State :=
  State.mapSlots fun _ v =>
    { v with requested := false, drain := if v.state = .draining then 32 else v.drain }

/-- The triggers of the kept slots are sent anew (R44): SPENT for each, then SUSPECT for each, in ascending slot
order (log entry 14). -/
def State.resendTriggers (s : State) : State :=
  let t := workingSlots.foldl
    (fun t x => if (t.slot x).state = .active ∧ (t.slot x).spent then t.sendTrigger x .spent else t) s
  workingSlots.foldl
    (fun t x =>
      if (t.slot x).state = .active ∧ (t.slot x).suspect ∧ (t.slot x).spent = false then t.sendTrigger x .suspect
      else t) t

/-- The faults in which a kept slot still stands are raised anew (R44): KEY_AGE_OVER or KEY_SPENT before TAG_FAILS, an order
that R44 leaves open (log entry 14). -/
def State.reraiseSlot (s : State) (x : Nat) : State :=
  let v := s.slot x
  let t :=
    if v.state = .active ∧ v.spent then
      if v.maxAge + 256 ≤ v.age then s.raiseFault .keyAgeOver (.slot x) else s.raiseFault .keySpent (.slot x)
    else s
  if (v.state = .active ∨ v.state = .draining) ∧ v.suspect then t.raiseFault .tagFails (.slot x) else t

/-- The part state after PART RESET (R181). -/
def State.stateAfterReset (s : State) : PartState :=
  if (s.chan 0).current ≠ none then .run else if s.root.active then .bootstrap else .noRoot

/-- The Link Watch at PART RESET (R101, R102): the quiet timer runs when the part goes to RUN. -/
def LinkWatch.afterReset (runs : Bool) (l : LinkWatch) : LinkWatch :=
  { l with quiet := if runs then .running else .stopped, quietRemaining := 15, quietMark := false
           malformed := 0, foreign := 0, overrun := 0, malformedMark := false, test := none, selfCheckMark := false }

/-- PART RESET but for its response (R181): the blocks in the order of the manual's chapters, the fault list emptied
with RESTARTED created before the Key Store raises its faults anew, the BOOT trigger last (R44, R146, R163). -/
def State.partResetBlocks (s : State) : State :=
  let t := ((s.abandonWork).resetRenewal).discardStaged
  let t := (t.resetPool).restartDrains
  let t := (t.updMessenger fun m => { m with noSlotMark := false }).setWindow none
  let t := (t.resetPorts).resetFaults .restarted
  let t := workingSlots.foldl State.reraiseSlot t
  let t := t.resendTriggers
  let after := t.stateAfterReset
  let t := (t.updLink (LinkWatch.afterReset (after == .run))).setPartState after
  if after = .bootstrap then t.sendBoot else t

/-! ### ERASE (R42, R43, R182) -/

/-- An executed erase but for its response (R43, R182): the part is as after a power-on with an empty non-volatile
store, but for the counts that keep running, the ports (R164) and the ERASED record; FAILED stays FAILED. -/
def State.eraseBlocks (s : State) : State :=
  let t : State :=
    { State.reset with
      pending := s.pending
      partState := if s.partState = .failed then .failed else .noRoot
      tick := s.tick
      intervalTicks := s.intervalTicks
      selfCheckPending := s.selfCheckPending
      faults := s.faults
      beacon := s.beacon
      sPort := s.sPort
      lPort := s.lPort }
  (t.resetPorts).resetFaults .erased

/-- Result codes of ERASE (R185): 1 OPENED, 2 RESTARTED, 3 EXECUTED. -/
def eraseResult (k : Nat) : List Word := [word4 0 0 0 k]

/-- The erase that port p asked for is executed and answered (R43, R172). -/
def State.executeErase (p : Port) (s : State) : State :=
  (((s.updPort p fun q => { q with cmd := .idle }).eraseBlocks).respond p .done (eraseResult 3))

/-- The port whose ERASE waits for the SELF CHECK or for the write of a LOAD ROOT (R176, R178). -/
def State.waitingErase (s : State) : Option Port :=
  if s.sPort.cmd = .inProgress .erase then some .s else if s.lPort.cmd = .inProgress .erase then some .l else none

/-- A waiting ERASE is executed (R176, R178). -/
def State.executeWaitingErase (s : State) : State :=
  match s.waitingErase with
  | some p => s.executeErase p
  | none => s

end Sys2Proof.Machine
end

