-- ==== Sys2Proof/Machine/Ports.lean ====
section
/-! DEFINITION. The access points that carry frames, mailboxes, responses and the status word (chapter 10), and the
meanings of their rows. -/

namespace Sys2Proof.Machine

/-! ### FRAME IN (R64, R166) -/

/-- A descriptor the port accepts (R166): a length of 1 to 1500 at the S-port, a byte count of 1 to 1536 at the
L-port. -/
def descriptorAccepted (p : Port) (w : Word) : Bool :=
  match p with
  | .s => decide (1 ≤ descLength w ∧ descLength w ≤ 1500)
  | .l => decide (1 ≤ descLength w ∧ descLength w ≤ 1536)

/-- The pool accepts a push (R64): the part is not FAILED, the IN queue has room, and more than the control reserve
of 8 buffers is free. -/
def State.pushAccepted (s : State) (p : Port) : Bool :=
  s.partState != .failed && decide (s.inCount p < queuePlaces) && decide (8 < s.pool.free)

/-- The words of a frame not taken are ignored (R166). -/
def State.ignorePush (p : Port) (w : Nat) (s : State) : State :=
  (s.updPort p fun q => { q with push := if w = 0 then .none else .ignoring w }).losePush p

/-- A push the pool refuses is counted as an overrun of its port (R64, R71), and at the L-port as a line overrun
(R105). -/
def State.countOverrun (p : Port) (s : State) : State :=
  let t := s.updPoolPort p fun q => { q with overrun := satInc 65535 q.overrun }
  match p with
  | .s => t
  | .l =>
    t.updLink fun l =>
      { l with overrun := satInc 65535 l.overrun, totalOverrun := satInc 4294967295 l.totalOverrun }

/-- The filling frame joins the tail of the port's IN queue (R64). -/
def State.joinIn (p : Port) (w : Word) (s : State) : State :=
  match p with
  | .s => s.updSIn fun l => l ++ [{ channel := descChannel w, level := descLevel w, length := descLength w }]
  | .l => s.updLRx fun l => l ++ [{ count := descLength w }]

/-- A descriptor word (R64, R166). -/
def State.takeDescriptor (p : Port) (w : Word) (s : State) : State :=
  let n := wordCount (descLength w)
  if !descriptorAccepted p w then s.ignorePush p n
  else if s.pushAccepted p then
    ((s.takeBuffer).joinIn p w).updPort p fun q => { q with push := .frame n }
  else (s.countOverrun p).ignorePush p n

/-- The last element of a list updated: the filling frame stands at the tail (R63). -/
def updLast {α : Type} (f : α → α) : List α → List α
  | [] => []
  | [a] => [f a]
  | a :: b :: l => a :: updLast f (b :: l)

/-- A payload word is written into the filling frame's buffer (R64). -/
def State.fillIn (p : Port) (w : Word) (s : State) : State :=
  match p with
  | .s => s.updSIn (updLast fun f => { f with words := f.words ++ [w] })
  | .l => s.updLRx (updLast fun f => { f with words := f.words ++ [w] })

/-- A word written to FRAME IN (R166). -/
def State.writeFrameIn (p : Port) (w : Word) (s : State) : State :=
  match (s.port p).push with
  | .none => s.takeDescriptor p w
  | .frame n =>
    (s.fillIn p w).updPort p fun q => { q with push := if n ≤ 1 then .none else .frame (n - 1) }
  | .ignoring n => s.updPort p fun q => { q with push := if n ≤ 1 then .none else .ignoring (n - 1) }

/-! ### FRAME OUT (R66, R167) -/

/-- The words of a frame of S-out (R167, R187): its descriptor and, when delivered, its payload. -/
def OutFrame.outWords (f : OutFrame) : List Word :=
  (BitVec.ofNat 6 f.channel ++ BitVec.ofNat 2 f.level ++ BitVec.ofNat 4 (outStatusCode f.refusal)
      ++ (0 : BitVec 9) ++ BitVec.ofNat 11 f.length)
    :: (if f.refusal = none then packWords (wordCount f.length) f.payload else [])

/-- The words of a frame of L-tx (R167, R186): its byte count, then header, ciphertext and tag. -/
def lineWords (bs : List Byte) : List Word := word1 bs.length :: packWords (wordCount bs.length) bs

/-- The words of the head frame of the port's OUT queue, none when it is empty (R167). -/
def State.headWords (s : State) : Port → Option (List Word)
  | .s => s.sOut.head?.map OutFrame.outWords
  | .l => s.lTx.head?.map lineWords

/-- The head frame leaves the OUT queue and its buffer returns to the free set (R66). -/
def State.popOut (p : Port) (s : State) : State :=
  match p with
  | .s => (s.updSOut List.tail).returnBuffer
  | .l => (s.updLTx List.tail).returnBuffer

/-- A read of FRAME OUT (R167). -/
def State.readFrameOut (p : Port) (s : State) : State :=
  match s.headWords p with
  | none => s.returnWord p 0
  | some ws =>
    let k := (s.port p).pullPos
    let t := s.returnWord p (wordAt ws k)
    if ws.length ≤ k + 1 then (t.popOut p).updPort p fun q => { q with pullPos := 0 }
    else t.updPort p fun q => { q with pullPos := k + 1 }

/-! ### RESPONSE (R168) -/

/-- A read of RESPONSE (R168). -/
def State.readResponse (p : Port) (s : State) : State :=
  let q := s.port p
  if q.response = [] then s.returnWord p 0
  else
    (s.returnWord p (wordAt q.response q.responsePos)).updPort p fun r =>
      { r with responsePos := if q.response.length ≤ q.responsePos + 1 then 0 else q.responsePos + 1 }

/-! ### MAILBOX (R173) -/

/-- A mailbox write completes (R173): the length and content replace those of the outgoing mailbox in one step, full
is set, the partner's MAIL latches. The partner's read position returns to the length word (log entry 17); the bytes of
the content past the length are 0 (log entry 34). -/
def State.completeMail (p : Port) (len : Nat) (ws : List Word) (s : State) : State :=
  (s.updPort p fun q =>
      { q with mailbox := { length := len, content := padTo 32 (unpackWords len ws), full := true }
               mailWrite := .none }).updPort
    p.other fun q => { q with mailCause := true, mailPos := 0 }

/-- A mailbox write is ignored, with the words it states still to come (R173). -/
def State.ignoreMail (p : Port) (n : Nat) (s : State) : State :=
  (s.updPort p fun q => { q with mailWrite := if n = 0 then .none else .ignoring n }).loseMail p

/-- A word written to MAILBOX (R173). -/
def State.writeMailbox (p : Port) (w : Word) (s : State) : State :=
  let q := s.port p
  match q.mailWrite with
  | .none =>
    let len := fieldD w
    if q.mailbox.full || decide (32 < len) then s.ignoreMail p (min 8 (wordCount len))
    else if len = 0 then s.completeMail p 0 []
    else s.updPort p fun r => { r with mailWrite := .gathering len [] }
  | .gathering len ws =>
    let ws' := ws ++ [w]
    if wordCount len ≤ ws'.length then s.completeMail p len ws'
    else s.updPort p fun r => { r with mailWrite := .gathering len ws' }
  | .ignoring n => s.updPort p fun r => { r with mailWrite := if n ≤ 1 then .none else .ignoring (n - 1) }

/-- The words of a mailbox (R173, R187): its length word, then its content words. -/
def Mailbox.mailWords (m : Mailbox) : List Word :=
  word1 m.length :: packWords (wordCount m.length) (m.content.take m.length)

/-- A read of MAILBOX (R173). -/
def State.readMailbox (p : Port) (s : State) : State :=
  let ws := (s.port p.other).mailbox.mailWords
  let k := (s.port p).mailPos
  let t := s.returnWord p (wordAt ws k)
  if ws.length ≤ k + 1 then
    (t.updPort p fun q => { q with mailPos := 0 }).updPort p.other fun q =>
      { q with mailbox := { q.mailbox with full := false } }
  else t.updPort p fun q => { q with mailPos := k + 1 }

/-! ### STATUS (R174) -/

/-- A STATUS read (R174): the status word, then the latched causes and the lost reasons of this port are cleared. -/
def State.readStatus (p : Port) (s : State) : State :=
  (s.returnWord p (s.statusWord p)).updPort p fun q =>
    { q with mailCause := false, responseCause := false, faultCause := false
             lostPush := false, lostMail := false, lostCommand := false }

/-! ### The rows -/

def execFrameInWrite (p : Port) (w : Word) (s : State) : Host.Outcome State Fault Refusal := .next (s.writeFrameIn p w)

def execFrameOutRead (p : Port) (s : State) : Host.Outcome State Fault Refusal := .next (s.readFrameOut p)

def execResponseRead (p : Port) (s : State) : Host.Outcome State Fault Refusal := .next (s.readResponse p)

def execMailboxWrite (p : Port) (w : Word) (s : State) : Host.Outcome State Fault Refusal := .next (s.writeMailbox p w)

def execMailboxRead (p : Port) (s : State) : Host.Outcome State Fault Refusal := .next (s.readMailbox p)

def execStatusRead (p : Port) (s : State) : Host.Outcome State Fault Refusal := .next (s.readStatus p)

end Sys2Proof.Machine
end

