-- ==== Sys2Proof/Machine/ReadOps.lean ====
section
/-! DEFINITION. The result words of the reading commands (R185): CHANNEL READ, KEY STATUS, FAULT READ, PART READ. -/

namespace Sys2Proof.Machine

/-- The target byte of CHANNEL READ; the code of an absent target is open (log entry 11). -/
def targetByte : Option Nat → Nat
  | some t => t
  | none => Config.absentTarget.toNat

/-- CHANNEL READ (R19, R185). -/
def channelWords (c : Channel) : List Word :=
  [ word4 c.kind.code c.level c.state.code (flagByte c.flags),
    word4 (slotCode c.current) (slotCode c.alternate) (targetByte c.target) c.aliasCount,
    word1 c.sent, word1 c.received, word1 c.refused, word1 c.discarded, word1 c.inEngine.toNat ]

/-- KEY STATUS of a working slot (R41, R185). -/
def slotWords (v : Slot) : List Word :=
  [ word4 v.state.code v.generation.toNat v.level v.refs,
    word4 (slotCode v.predecessor) (slotCode v.successor) v.drain
      (v.spent.toNat + 2 * v.suspect.toNat + 4 * v.requested.toNat + 8 * v.engineUse.toNat),
    BitVec.ofNat 8 v.tagFailures ++ BitVec.ofNat 8 v.replays ++ BitVec.ofNat 16 (v.txCounter / 2 ^ 32),
    word1 v.txCounter, word2 v.lead (v.top / 2 ^ 32), word1 v.top, word1 v.used, word1 v.intervalCharge,
    word1 v.rate, word1 v.hard, word1 v.soft, word1 v.maxAge, word1 v.age ]

/-- KEY STATUS of slot 0 (R41, R185). -/
def rootWords (r : Root) : List Word :=
  [ BitVec.ofNat 8 (if r.active then 2 else 0) ++ BitVec.ofNat 8 r.pendingRoot.isSome.toNat ++ r.storeTag.getD 0,
    0, word2 0 (r.txCounter / 2 ^ 32), word1 r.txCounter, 0, 0, 0, 0, 0, 0, 0, 0, 0 ]

/-- The four words of a record in FAULT READ (R162, R185). -/
def faultWords (r : FaultRecord) : List Word :=
  [ word4 r.id r.kind.code r.subject.code r.count, word1 r.first, word1 r.last,
    word4 (recordStateCode r.active) r.kind.severityCode r.acked r.reported.toNat ]

/-- FAULT READ from a position (R162, R185). -/
def faultReadWords (f : Faults) (position : Nat) : List Word :=
  let rs := (f.records.drop position).take 4
  word4 f.records.length rs.length 0 f.overflow.toNat :: rs.flatMap faultWords

/-- PART READ, section PART (R170, R185). The ticks of a closed window read 0 (log entry 23). -/
def partWords (s : State) : List Word :=
  let owner := match s.eraseWindow with
    | none => 0
    | some (.s, _) => 1
    | some (.l, _) => 2
  let ticks := match s.eraseWindow with
    | none => 0
    | some (_, n) => n
  [word4 s.partState.code owner ticks s.link.test.isSome.toNat, word1 s.tick]

/-- PART READ, section POOL (R170, R185). -/
def poolWords (s : State) : List Word :=
  [ word4 s.pool.free s.sIn.length s.sOut.length s.lRx.length,
    word4 s.lTx.length s.ctrl.length s.pool.setAside.toNat s.pool.low.toNat,
    word4 s.pool.sPort.af s.pool.sPort.ae (causesByte s.sPort.enable) 0,
    word4 s.pool.lPort.af s.pool.lPort.ae (causesByte s.lPort.enable) 0,
    word2 s.pool.sPort.overrun s.pool.lPort.overrun ]

/-- PART READ, section ENGINE (R170, R185). -/
def engineWords (e : Engine) : List Word :=
  [ word4 e.work.isSome.toNat (workCode e.work) e.lastDirection.code 0, word1 e.discards.notReady,
    word1 e.discards.unknownKey, word1 e.discards.suspect, word1 e.discards.replay, word1 e.discards.tagFail,
    word1 e.discards.noChannel, word1 e.discards.held, word1 e.discards.rootLimit ]

/-- PART READ, section LINK (R170, R185). -/
def linkWords (l : LinkWatch) : List Word :=
  [ word4 l.quiet.code l.quietRemaining l.malformed l.lastMalformed, word2 l.foreign l.overrun,
    word2 l.lastForeign l.lastOverrun, word1 l.totalMalformed, word1 l.totalForeign, word1 l.totalOverrun,
    word1 l.probesAnswered, word1 l.probesDropped ]

/-- Two counts to a word, the first in bits 31–16 (R185). -/
def pairWords : List Nat → List Word
  | a :: b :: l => word2 a b :: pairWords l
  | [a] => [word2 a 0]
  | [] => []

/-- Bytes packed four to a word, unused bytes 0 (R185). -/
def byteWords (n : Nat) (l : List Nat) : List Word := packWords n (l.map (BitVec.ofNat 8))

/-- PART READ, section MESSENGER (R170, R185). -/
def messengerWords (m : Messenger) : List Word :=
  word4 m.nextExchange m.finished.length m.noSlotMark.toNat 0 :: byteWords 2 m.finished
    ++ [match m.lastRefusal with | some (e, r) => word4 e r 0 0 | none => 0]
    ++ pairWords
      [ m.handedDelivery, m.handedCommit, m.handedRefuse, m.handedRenew, m.handedOrder, m.handedAck,
        m.handedProbe, m.unparseable, m.stale, m.rejectNotEmpty, m.rejectNoSlot, m.rejectLevel,
        m.rejectGeneration, m.rejectWrapCheck, m.rejectNoContext, m.rejectsNotSent, m.ordersApplied,
        m.ordersNotApplied ]

/-- An entry of the request list in PART READ (R185). -/
def entryWord (e : Entry) : Word :=
  BitVec.ofNat 8 (slotCode e.slot) ++ BitVec.ofNat 4 e.urgency ++ BitVec.ofNat 4 e.reason.code
    ++ BitVec.ofNat 16 e.arrival

/-- The two words of a context in PART READ (R185). -/
def contextWords (c : Context) : List Word :=
  [ word4 c.state.code (numberCode c.exchange) (ctxKindCode c.kind) (slotCode c.subject),
    BitVec.ofNat 8 (slotCode c.successor) ++ BitVec.ofNat 4 (reasonCode c.reason) ++ BitVec.ofNat 4 c.attempt
      ++ BitVec.ofNat 8 c.send.code ++ BitVec.ofNat 8 c.reply ]

/-- PART READ, section RENEWAL (R170, R185). -/
def renewalWords (s : State) : List Word :=
  let n := s.renewal
  word4 0 0 0 n.list.length :: ((n.list.map entryWord) ++ List.replicate 8 0).take 8
    ++ contextNumbers.flatMap (fun c => contextWords (s.ctx c))
    ++ byteWords 6 (n.bootBackoff.remaining :: workingSlots.map fun x => (s.backoff x).remaining)
    ++ pairWords [n.received, n.notListed, n.replaced, n.started, n.completed, n.failed, n.refused]

/-- The section a PART READ names (R170, R185). -/
def sectionWords (s : State) : Nat → Option (List Word)
  | 1 => some (partWords s)
  | 2 => some (poolWords s)
  | 3 => some (engineWords s.engine)
  | 4 => some (linkWords s.link)
  | 5 => some (messengerWords s.messenger)
  | 6 => some (renewalWords s)
  | _ => none

/-- Beacon settings as BEACON SET lays them out (R185). -/
def beaconWord (b : BeaconSettings) : Word :=
  BitVec.ofNat 8 b.mode.code ++ BitVec.ofNat 8 b.repeats ++ BitVec.ofNat 16 b.period

end Sys2Proof.Machine
end

