-- ==== Sys2Proof/Machine/Commands.lean ====
section
/-! DEFINITION. The 21 commands of R169, how a command is gathered and taken (R168, R169), and the meanings of their
rows and of REGISTER_WRITE_OTHER. Each command function acts on a command that has passed R169 and answers it. -/

namespace Sys2Proof.Machine

/-- The answer to a refused command: no result words (R168). -/
def State.refuse (p : Port) (st : Status) (s : State) : State := s.respond p st []

/-! ### Channel commands (R11 to R19) -/

/-- The fields of a CHANNEL OPEN (R185). -/
def openRequestOf (w2 w3 : Word) : OpenRequest :=
  { index := fieldA w2, kind := fieldB w2, level := fieldC w2, ref := fieldD w2, flags := flagsOf (fieldD w3) }

/-- CHANNEL OPEN (R11, R12). -/
def channelOpen (p : Port) (w2 w3 : Word) (s : State) : State :=
  match s.openCheck false (openRequestOf w2 w3) with
  | some st => s.refuse p st
  | none => (s.openChannel (openRequestOf w2 w3)).respond p .done []

/-- CHANNEL CLOSE (R14, R15). -/
def channelClose (p : Port) (w2 : Word) (s : State) : State :=
  match s.channelCheck (fieldD w2) with
  | some st => s.refuse p st
  | none => (s.closeChannel (fieldD w2)).respond p .done []

/-- A descriptor qualifies for CHANNEL FLAGS (R17). -/
def State.qualifies (s : State) (i : Nat) : Bool :=
  let c := s.chan i
  (c.kind == .data || c.kind == .aliased) && (c.state == .opened || c.state == .exhausted)
    && decide (1 ≤ s.keyLevel i)

/-- The given value for each flag whose flag-mask bit is set, the others kept (R17). -/
def maskedFlags (mask value old : ChanFlags) : ChanFlags :=
  { hold := if mask.hold then value.hold else old.hold
    notify := if mask.notify then value.notify else old.notify
    urgent := if mask.urgent then value.urgent else old.urgent }

/-- CHANNEL FLAGS (R17). -/
def channelFlags (p : Port) (w2 w3 : Word) (s : State) : State :=
  if s.partState = .failed then s.refuse p .refusedState
  else
    let newFlags (c : Channel) : ChanFlags := maskedFlags (flagsOf (fieldA w3)) (flagsOf (fieldB w3)) c.flags
    let named := (List.range 48).filter (inChannelMask w2 w3)
    let changed := named.countP fun i => s.qualifies i && newFlags (s.chan i) != (s.chan i).flags
    let skipped := named.countP fun i => !s.qualifies i
    (s.mapChans fun i c => if inChannelMask w2 w3 i && s.qualifies i then { c with flags := newFlags c } else c).respond
      p .done [word2 changed skipped]

/-- The state CHANNEL RESET sets from the key (R18). -/
def State.stateFromKey (s : State) (c : Channel) : ChanState :=
  if c.kind = .aliased then (s.chan (c.target.getD 0)).state
  else if (s.slot (c.current.getD 0)).spent then .exhausted else .opened

/-- CHANNEL RESET (R18). -/
def channelReset (p : Port) (w2 : Word) (s : State) : State :=
  match s.channelCheck (fieldD w2) with
  | some st => s.refuse p st
  | none =>
    (s.updChan (fieldD w2) fun c =>
        { c with sent := 0, received := 0, refused := 0, discarded := 0
                 flags := { c.flags with hold := false }, state := s.stateFromKey c }).respond p .done []

/-- CHANNEL READ (R19). -/
def channelRead (p : Port) (w2 : Word) (s : State) : State :=
  if 47 < fieldD w2 then s.refuse p .refusedRange else s.respond p .done (channelWords (s.chan (fieldD w2)))

/-! ### Reading commands (R41, R162, R170) -/

/-- KEY STATUS (R41). -/
def keyStatus (p : Port) (w2 : Word) (s : State) : State :=
  if 23 < fieldD w2 then s.refuse p .refusedRange
  else s.respond p .done (if fieldD w2 = 0 then rootWords s.root else slotWords (s.slot (fieldD w2)))

/-- FAULT READ (R162). -/
def faultRead (p : Port) (w2 : Word) (s : State) : State :=
  if 15 < fieldD w2 then s.refuse p .refusedRange else s.respond p .done (faultReadWords s.faults (fieldD w2))

/-- PART READ (R170). -/
def partRead (p : Port) (w2 : Word) (s : State) : State :=
  match sectionWords s (fieldD w2) with
  | some ws => s.respond p .done ws
  | none => s.refuse p .refusedRange

/-! ### RENEW NOW, queues (R171, R73, R74) -/

/-- Outcome codes of RENEW NOW (R185). The last two are met by no LOCAL trigger for an ACTIVE slot (R171). -/
def Listing.code : Listing → Nat
  | .opened => 1 | .listed => 2 | .raised => 3 | .unchanged => 4 | .notListed => 5
  | .notActive => 0 | .heldBack => 0

/-- RENEW NOW (R171). -/
def renewNow (p : Port) (w2 : Word) (s : State) : State :=
  let x := fieldD w2
  if s.partState = .boot ∨ s.partState = .failed then s.refuse p .refusedState
  else if x = 0 ∨ 23 < x then s.refuse p .refusedRange
  else if (s.slot x).state ≠ .active then s.refuse p .refusedState
  else
    let r := (s.setRequested (some x) true).receiveTrigger (some x) .locally
    r.1.respond p .done [word4 0 0 0 r.2.code]

/-- A threshold offset clamped into 1 to 24 (R73). -/
def clampOffset (n : Nat) : Nat := max 1 (min n 24)

/-- QUEUE LIMITS (R73). -/
def queueLimits (p : Port) (w2 : Word) (s : State) : State :=
  let af := clampOffset (fieldA w2)
  let ae := clampOffset (fieldB w2)
  ((s.updPoolPort p fun q => { q with af := af, ae := ae }).updPort p
      fun q => { q with enable := causesOf (fieldD w2) }).respond p .done [word4 af ae 0 0]

/-- The IN queue of port p is emptied (R74): every buffer returns, a filling frame's push ends. -/
def State.emptyIn (p : Port) (s : State) : State :=
  let n := s.inCount p
  let t := match p with
    | .s => s.updSIn fun _ => []
    | .l => s.updLRx fun _ => []
  (t.endPush p).returnBuffers n

/-- The OUT queue of port p is emptied (R74): every buffer returns, a pull in progress ends (R66, R167). -/
def State.emptyOut (p : Port) (s : State) : State :=
  let n := s.outCount p
  let t := match p with
    | .s => s.updSOut fun _ => []
    | .l => s.updLTx fun _ => []
  (t.updPort p fun q => { q with pullPos := 0 }).returnBuffers n

/-- QUEUE RESET (R74, R185: 1 IN, 2 OUT). -/
def queueReset (p : Port) (w2 : Word) (s : State) : State :=
  match fieldD w2 with
  | 1 => (s.emptyIn p).respond p .done [word4 0 0 0 (s.inCount p)]
  | 2 => (s.emptyOut p).respond p .done [word4 0 0 0 (s.outCount p)]
  | _ => s.refuse p .refusedRange

/-! ### Faults and beacon (R153, R155, R156) -/

/-- FAULT DISMISS (R153). -/
def faultDismiss (p : Port) (w2 : Word) (s : State) : State :=
  match s.faults.records.find? (fun r => r.id == fieldD w2) with
  | none => s.refuse p .notFound
  | some r =>
    if r.active || !r.reported then s.refuse p .refusedState else (s.removeRecord (fieldD w2)).respond p .done []

/-- The settings a BEACON SET writes, clamped (R155). -/
def clampedSettings (m : BeaconMode) (w2 : Word) : BeaconSettings :=
  { mode := m, period := max 5 (min (fieldLow w2) 3600), repeats := min (fieldB w2) 15 }

/-- BEACON SET (R155). -/
def beaconSet (p : Port) (w2 : Word) (s : State) : State :=
  match beaconModeOf (fieldA w2) with
  | none => s.refuse p .refusedRange
  | some m =>
    (s.updBeacon fun b => { b with shadow := clampedSettings m w2 }).respond p .done
      [beaconWord (clampedSettings m w2)]

/-- The beacon after a commit (R156). -/
def Beacon.commit (b : Beacon) : Beacon :=
  let b := { b with working := b.shadow }
  match b.working.mode with
  | .idle => if b.running then { b with lastCycle := true } else b
  | .oneShot =>
    { b with running := true, remaining := b.working.period, cycleMode := .oneShot, lastCycle := false
             oneShot := b.working.repeats + 1 }
  | .continuous =>
    { b with running := true, remaining := b.working.period, cycleMode := .continuous, lastCycle := false }

/-- BEACON COMMIT (R156). -/
def beaconCommit (p : Port) (s : State) : State :=
  (s.updBeacon Beacon.commit).respond p .done [beaconWord s.beacon.commit.working]

/-- The beacon after a halt (R156). -/
def Beacon.halt (b : Beacon) : Beacon :=
  { b with running := false, remaining := 0, working := { b.working with mode := .idle }, lastCycle := false }

/-- BEACON HALT (R156). -/
def beaconHalt (p : Port) (s : State) : State :=
  (s.updBeacon Beacon.halt).respond p .done [beaconWord s.beacon.halt.working]

/-! ### Part control (R39, R42, R110, R180, R181) -/

/-- LOAD ROOT (R39): taken in NO_ROOT, it stays IN PROGRESS until its write completes. -/
def loadRoot (p : Port) (w2 w3 w4 w5 w6 : Word) (s : State) : State :=
  if s.partState ≠ .noRoot then s.refuse p .refusedState
  else s.updPort p fun q => { q with cmd := .inProgress (.loadRoot (w2 ++ w3 ++ w4 ++ w5) (w6.extractLsb' 0 16)) }

/-- PART RESET (R181). -/
def partReset (p : Port) (s : State) : State :=
  if s.partState = .boot ∨ s.partState = .failed then s.refuse p .refusedState
  else (s.partResetBlocks).respond p .done []

/-- QUIESCE (R180, R102). -/
def quiesce (p : Port) (s : State) : State :=
  if s.partState ≠ .run then s.refuse p .refusedState
  else ((s.setPartState .quiesced).updLink fun l => { l with quiet := .paused }).respond p .done []

/-- RESUME (R180, R102). -/
def resume (p : Port) (s : State) : State :=
  if s.partState ≠ .quiesced then s.refuse p .refusedState
  else ((s.setPartState .run).updLink fun l => { l with quiet := .running }).respond p .done []

/-- LOCAL LOOP (R110): its checks after the port's; then the test runs and the command stays IN PROGRESS. -/
def localLoop (p : Port) (w2 : Word) (s : State) : State :=
  let n := fieldD w2
  if s.partState = .boot ∨ s.partState = .failed ∨ s.partState = .quiesced then s.refuse p .refusedState
  else if n = 0 ∨ 16 < n then s.refuse p .refusedRange
  else
    (s.updLink fun l => { l with test := some { requested := n } }).updPort p
      fun q => { q with cmd := .inProgress .localLoop }

/-- The write of a LOAD ROOT is in progress (R178). -/
def State.loadRootWriting (s : State) : Bool :=
  match s.sPort.cmd with
  | .inProgress (.loadRoot _ _) => true
  | .inProgress .localLoop | .inProgress .erase | .idle | .writing _ => false

/-- ERASE (R42, R176, R178). -/
def erase (p : Port) (s : State) : State :=
  match s.eraseWindow with
  | none => (s.setWindow (some (p, 10))).respond p .done (eraseResult 1)
  | some (owner, _) =>
    if owner = p then (s.setWindow (some (p, 10))).respond p .done (eraseResult 2)
    else if s.partState = .boot ∨ s.loadRootWriting then
      (s.setWindow none).updPort p fun q => { q with cmd := .inProgress .erase }
    else s.executeErase p

/-! ### Gathering and taking (R168, R169) -/

/-- A command that has passed R169 acts; `a k` is its word k, counted from 1. -/
def runCommand (c : Command) (p : Port) (a : Nat → Word) (s : State) : State :=
  match c with
  | .channelOpen => channelOpen p (a 2) (a 3) s
  | .channelClose => channelClose p (a 2) s
  | .channelFlags => channelFlags p (a 2) (a 3) s
  | .channelReset => channelReset p (a 2) s
  | .channelRead => channelRead p (a 2) s
  | .keyStatus => keyStatus p (a 2) s
  | .faultRead => faultRead p (a 2) s
  | .partRead => partRead p (a 2) s
  | .renewNow => renewNow p (a 2) s
  | .queueLimits => queueLimits p (a 2) s
  | .queueReset => queueReset p (a 2) s
  | .faultDismiss => faultDismiss p (a 2) s
  | .beaconSet => beaconSet p (a 2) s
  | .beaconCommit => beaconCommit p s
  | .beaconHalt => beaconHalt p s
  | .loadRoot => loadRoot p (a 2) (a 3) (a 4) (a 5) (a 6) s
  | .partReset => partReset p s
  | .quiesce => quiesce p s
  | .resume => resume p s
  | .localLoop => localLoop p (a 2) s
  | .erase => erase p s

/-- A command whose words have all been received is taken (R168) and checked for its name and port (R169). -/
def State.takeCommand (p : Port) (ws : List Word) (s : State) : State :=
  let s := s.updPort p fun q => { q with cmd := .idle }
  let first := ws.headD 0
  match Command.ofNumber (commandNumber first) with
  | none => s.refuse p .refusedRange
  | some c =>
    if statedCount first ≠ c.words then s.refuse p .refusedRange
    else if c.permits p then runCommand c p (fun k => ws.getD (k - 1) 0) s
    else s.refuse p .refusedPort

/-- A word written to COMMAND (R168). -/
def State.writeCommand (p : Port) (w : Word) (s : State) : State :=
  match (s.port p).cmd with
  | .inProgress _ => s.loseCommand p
  | .idle =>
    if statedCount w ≤ 1 ∨ 8 < statedCount w then s.takeCommand p [w]
    else s.updPort p fun q => { q with cmd := .writing [w] }
  | .writing ws =>
    let ws' := ws ++ [w]
    if statedCount (ws'.headD 0) ≤ ws'.length then s.takeCommand p ws'
    else s.updPort p fun q => { q with cmd := .writing ws' }

/-- Words written to COMMAND one after another. -/
def State.writeCommandWords (p : Port) (ws : List Word) (s : State) : State :=
  ws.foldl (fun t w => t.writeCommand p w) s

/-- A word written to the access point with select code `sel` (R165, R190): FRAME IN, FRAME OUT, COMMAND, RESPONSE,
MAILBOX, STATUS, and the two codes that select none. -/
def State.writeAccess (p : Port) (sel : BitVec 3) (w : Word) (s : State) : State :=
  match sel.toNat with
  | 0 => s.writeFrameIn p w
  | 2 => s.writeCommand p w
  | 4 => s.writeMailbox p w
  | _ => s

/-- A read of the access point with select code `sel` (R165, R190). FRAME IN, COMMAND and the two codes that select
none return 0 and change nothing else. -/
def State.readAccess (p : Port) (sel : BitVec 3) (s : State) : State :=
  match sel.toNat with
  | 1 => s.readFrameOut p
  | 3 => s.readResponse p
  | 4 => s.readMailbox p
  | 5 => s.readStatus p
  | _ => s.returnWord p 0

/-! ### The rows -/

def execRegisterWriteOther (p : Port) (sel : BitVec 3) (a : Access) (s : State) : Host.Outcome State Fault Refusal :=
  match a with
  | .write w => .next (s.writeAccess p sel w)
  | .read => .next (s.readAccess p sel)

def execChannelOpen (p : Port) (w2 w3 : Word) (s : State) : Host.Outcome State Fault Refusal :=
  .next (s.writeCommandWords p [Command.channelOpen.firstWord, w2, w3])

def execChannelClose (p : Port) (w2 : Word) (s : State) : Host.Outcome State Fault Refusal :=
  .next (s.writeCommandWords p [Command.channelClose.firstWord, w2])

def execChannelFlags (p : Port) (w2 w3 : Word) (s : State) : Host.Outcome State Fault Refusal :=
  .next (s.writeCommandWords p [Command.channelFlags.firstWord, w2, w3])

def execChannelReset (p : Port) (w2 : Word) (s : State) : Host.Outcome State Fault Refusal :=
  .next (s.writeCommandWords p [Command.channelReset.firstWord, w2])

def execChannelRead (p : Port) (w2 : Word) (s : State) : Host.Outcome State Fault Refusal :=
  .next (s.writeCommandWords p [Command.channelRead.firstWord, w2])

def execKeyStatus (p : Port) (w2 : Word) (s : State) : Host.Outcome State Fault Refusal :=
  .next (s.writeCommandWords p [Command.keyStatus.firstWord, w2])

def execFaultRead (p : Port) (w2 : Word) (s : State) : Host.Outcome State Fault Refusal :=
  .next (s.writeCommandWords p [Command.faultRead.firstWord, w2])

def execPartRead (p : Port) (w2 : Word) (s : State) : Host.Outcome State Fault Refusal :=
  .next (s.writeCommandWords p [Command.partRead.firstWord, w2])

def execRenewNow (p : Port) (w2 : Word) (s : State) : Host.Outcome State Fault Refusal :=
  .next (s.writeCommandWords p [Command.renewNow.firstWord, w2])

def execQueueLimits (p : Port) (w2 : Word) (s : State) : Host.Outcome State Fault Refusal :=
  .next (s.writeCommandWords p [Command.queueLimits.firstWord, w2])

def execQueueReset (p : Port) (w2 : Word) (s : State) : Host.Outcome State Fault Refusal :=
  .next (s.writeCommandWords p [Command.queueReset.firstWord, w2])

def execFaultDismiss (p : Port) (w2 : Word) (s : State) : Host.Outcome State Fault Refusal :=
  .next (s.writeCommandWords p [Command.faultDismiss.firstWord, w2])

def execBeaconSet (p : Port) (w2 : Word) (s : State) : Host.Outcome State Fault Refusal :=
  .next (s.writeCommandWords p [Command.beaconSet.firstWord, w2])

def execBeaconCommit (p : Port) (s : State) : Host.Outcome State Fault Refusal :=
  .next (s.writeCommandWords p [Command.beaconCommit.firstWord])

def execBeaconHalt (p : Port) (s : State) : Host.Outcome State Fault Refusal :=
  .next (s.writeCommandWords p [Command.beaconHalt.firstWord])

def execLoadRoot (p : Port) (w2 w3 w4 w5 w6 : Word) (s : State) : Host.Outcome State Fault Refusal :=
  .next (s.writeCommandWords p [Command.loadRoot.firstWord, w2, w3, w4, w5, w6])

def execPartReset (p : Port) (s : State) : Host.Outcome State Fault Refusal :=
  .next (s.writeCommandWords p [Command.partReset.firstWord])

def execQuiesce (p : Port) (s : State) : Host.Outcome State Fault Refusal :=
  .next (s.writeCommandWords p [Command.quiesce.firstWord])

def execResume (p : Port) (s : State) : Host.Outcome State Fault Refusal :=
  .next (s.writeCommandWords p [Command.resume.firstWord])

def execLocalLoop (p : Port) (w2 : Word) (s : State) : Host.Outcome State Fault Refusal :=
  .next (s.writeCommandWords p [Command.localLoop.firstWord, w2])

def execErase (p : Port) (s : State) : Host.Outcome State Fault Refusal :=
  .next (s.writeCommandWords p [Command.erase.firstWord])

end Sys2Proof.Machine
end

