-- ==== Sys2Proof/Machine/Time.lean ====
section
/-! DEFINITION. The tick and the events that ticks make due (R51 to R56, R35, R42, R103, R131, R135 to R138, R157,
R158). An event whose condition does not hold changes nothing (log entry 2). -/

namespace Sys2Proof.Machine

/-! ### TICK (R55, R35, R42, R103, R136, R138, R157) -/

/-- What a tick does to a working slot: an ACTIVE slot ages and its age and grace tests fall due (R55, R56), a
DRAINING slot's drain remaining decreases (R35). -/
def Slot.tick (v : Slot) : Slot :=
  match v.state with
  | .active => { v with age := satInc 4294967295 v.age, ageTestDue := true, graceTestDue := true }
  | .draining => { v with drain := v.drain - 1 }
  | .empty | .staged => v

/-- A backoff counts down (R138); at 0 its end falls due. -/
def Backoff.tick (b : Backoff) : Backoff :=
  if b.remaining = 0 then b else { remaining := b.remaining - 1, endDue := b.endDue || b.remaining == 1 }

/-- What a tick does to a context: a SENT context's reply remaining decreases (R136), but not while the part is
QUIESCED (R145); a context in COMPOSE may ask again (R135). -/
def Context.tick (quiesced : Bool) (c : Context) : Context :=
  if !c.isOpen then c
  else
    match c.send with
    | .sent => if quiesced then c else { c with reply := c.reply - 1 }
    | .compose => { c with retryDue := true }
    | .queued => c

/-- What a tick does to a BOOT trigger waiting to be listed anew (R131). -/
def Relist.tick : Relist → Relist
  | .waiting => .due
  | .idle => .idle
  | .due => .due

/-- What a tick does to the Renewal Controller (R131, R135, R136, R138, R145). -/
def Renewal.tick (quiesced : Bool) (n : Renewal) : Renewal :=
  { n with
    contexts := n.contexts.mapIdx fun _ c => c.tick quiesced
    backoff := if quiesced then n.backoff else n.backoff.mapIdx fun _ b => b.tick
    bootBackoff := if quiesced then n.bootBackoff else n.bootBackoff.tick
    bootRelist := n.bootRelist.tick }

/-- What a tick does to the quiet timer (R103). -/
def LinkWatch.tick (l : LinkWatch) : LinkWatch :=
  if l.quiet = .running then { l with quietRemaining := l.quietRemaining - 1 } else l

/-- What a tick does to the beacon cycle (R157). -/
def Beacon.tick (quiesced : Bool) (b : Beacon) : Beacon :=
  if b.running ∧ quiesced = false then { b with remaining := b.remaining - 1 } else b

/-- One tick of one second. -/
def State.tickAll (s : State) : State :=
  let quiesced : Bool := s.partState == .quiesced
  let t := { s with
    tick := (s.tick + 1) % 4294967296
    intervalTicks := s.intervalTicks + 1
    eraseWindow := s.eraseWindow.map fun (w : Port × Nat) => (w.1, w.2 - 1) }
  ((((t.mapSlots fun _ v => v.tick).updRenewal (Renewal.tick quiesced)).updLink LinkWatch.tick).updBeacon
    (Beacon.tick quiesced))

/-! ### Age and grace (R55, R56) -/

/-- The age test of slot x (R55), made once for each tick. -/
def State.ageTest (x : Nat) (s : State) : State :=
  let v := s.slot x
  if v.ageTestDue ∧ v.state = .active then
    let t := s.updSlot x fun w => { w with ageTestDue := false }
    if v.maxAge ≤ v.age ∧ v.requested = false then t.sendTrigger x .age else t
  else s

/-- The grace test of slot x (R56), made once for each tick. -/
def State.graceTest (x : Nat) (s : State) : State :=
  let v := s.slot x
  if v.graceTestDue ∧ v.state = .active then
    let t := s.updSlot x fun w => { w with graceTestDue := false }
    if v.maxAge + 256 ≤ v.age ∧ v.successor = none ∧ v.spent = false then t.spendSlot x .keyAgeOver else t
  else s

/-! ### Account interval end (R51, R71, R94, R105, R106) -/

/-- A held replay burst mark whose slot had no replay in the ending interval is cleared (R94). -/
def State.endBurst (s : State) (x : Nat) : State :=
  if s.burst x ∧ (s.slot x).replays = 0 then (s.setBurst x false).clearFault .replayBurst (.slot x) else s

/-- The overrun count of a port at an interval end (R71). -/
def State.endOverrun (s : State) (p : Port) : State :=
  let q := s.pool.port p
  if 0 < q.overrun then
    (s.updPoolPort p fun r => { r with overrun := 0, raised := true }).raiseFault .portOverrun (.port p)
  else if q.raised then (s.updPoolPort p fun r => { r with raised := false }).clearFault .portOverrun (.port p)
  else s

/-- The Link Watch at an interval end: the clear test of R106, then the rollover of R105. -/
def State.endLink (s : State) : State :=
  let t :=
    if s.link.malformedMark ∧ s.link.malformed = 0 then
      (s.updLink fun l => { l with malformedMark := false }).clearFault .malformedBurst .link
    else s
  t.updLink fun l =>
    { l with lastMalformed := l.malformed, lastForeign := l.foreign, lastOverrun := l.overrun
             malformed := 0, foreign := 0, overrun := 0 }

/-- The interval counts of the working slots become 0 (R24). -/
def State.clearIntervalCounts : State → State := State.mapSlots fun _ v => { v with tagFailures := 0, replays := 0 }

/-- The end of an account interval (R51): the Account Unit visits the slots in ascending order; then the engine, the
pool and the Link Watch evaluate and clear their counts (log entry 13). Due when eight ticks have been counted. -/
def State.endInterval (s : State) : State :=
  if 8 ≤ s.intervalTicks then
    let t := { s with intervalTicks := s.intervalTicks - 8 }
    let t := workingSlots.foldl State.visitSlot t
    let t := (workingSlots.foldl State.endBurst t).clearIntervalCounts
    ((t.endOverrun .s).endOverrun .l).endLink
  else s

/-! ### Timers of the other blocks -/

/-- The erase agreement window closes (R42). -/
def State.expireWindow (s : State) : State :=
  match s.eraseWindow with
  | some (_, 0) => s.setWindow none
  | some (_, _ + 1) => s
  | none => s

/-- The quiet watch expires (R103). -/
def State.expireQuiet (s : State) : State :=
  if s.link.quiet = .running ∧ s.link.quietRemaining = 0 ∧ s.link.quietMark = false then
    (s.updLink fun l => { l with quietMark := true }).raiseFault .linkQuiet .link
  else s

/-- The reply timer of context c has run out (R136); it does not expire while the part is QUIESCED (R145, R147). -/
def State.replyDue (s : State) (c : Nat) : Bool :=
  (s.ctx c).isOpen && (s.ctx c).send == .sent && (s.ctx c).reply == 0 && s.partState != .quiesced

/-- The reply timer of context c expires (R136, R137). -/
def State.expireReply (c : Nat) (s : State) : State :=
  if s.replyDue c then
    if (s.ctx c).attempt < 3 then
      (s.updCtx c fun y =>
        { y with attempt := y.attempt + 1, send := .compose, latest := none, retryDue := false }).composeContext c
    else s.failContext c
  else s

/-- The backoff of slot x ends (R138). -/
def State.endBackoff (x : Nat) (s : State) : State :=
  if (s.backoff x).endDue ∧ s.partState ≠ .quiesced then (s.setBackoff x {}).setRequested (some x) false else s

/-- The part asks for its control key: BOOTSTRAP with channel 0 unbound (R131, R138). -/
def State.wantsBoot (s : State) : Bool := s.partState == .bootstrap && (s.chan 0).current == none

/-- The boot backoff ends (R138). -/
def State.endBootBackoff (s : State) : State :=
  if s.renewal.bootBackoff.endDue ∧ s.partState ≠ .quiesced then
    let t := s.updRenewal fun n => { n with bootBackoff := {} }
    if s.wantsBoot then t.sendBoot else t
  else s

/-- Context c was left in COMPOSE and a tick has passed (R135, R70). -/
def State.retryDue (s : State) (c : Nat) : Bool := (s.ctx c).isOpen && (s.ctx c).send == .compose && (s.ctx c).retryDue

/-- A context left in COMPOSE asks for its composition again at the next tick (R135, R70). -/
def State.retryCompose (c : Nat) (s : State) : State := if s.retryDue c then s.composeContext c else s

/-- A BOOT trigger that was not listed is listed anew at the next tick (R131). -/
def State.relistBoot (s : State) : State :=
  if s.renewal.bootRelist = .due then
    let t := s.updRenewal fun n => { n with bootRelist := .idle }
    if s.wantsBoot then t.sendBoot else t
  else s

/-! ### The beacon (R158, R159) -/

/-- The records of a list in the order of the walk that starts after the marker (R159). -/
def walkFrom (marker : Option Nat) (rs : List FaultRecord) : List FaultRecord :=
  match marker with
  | none => rs
  | some m =>
    let k := rs.findIdx fun r => r.id == m
    rs.drop (k + 1) ++ rs.take (k + 1)

/-- A record is unacked (R149). -/
def FaultRecord.unacked (r : FaultRecord) : Bool := decide (r.acked < r.count)

/-- The records a report carries (R159): the first 4 unacked ones of the walk. -/
def State.reportRecords (s : State) : List FaultRecord :=
  ((walkFrom s.beacon.marker s.faults.records).filter FaultRecord.unacked).take 4

/-- A number joins the overflow reports, which hold at most 4 (R159). -/
def addReport (n : Nat) (l : List Nat) : List Nat := (if 4 ≤ l.length then l.tail else l) ++ [n]

/-- A report is asked for (R159): the state after, and whether the composition succeeded. -/
def State.askReport (s : State) : State × Bool :=
  let rs := s.reportRecords
  let n := s.beacon.nextReport
  let r := s.compose (faultReportBytes n s.faults.overflow rs)
  if r.2 then
    ((r.1.updFaults fun f =>
          { f with
            records := f.records.map fun q => if rs.any (fun x => x.id == q.id) then { q with reported := true } else q
            overflowReports := if f.overflow then addReport n f.overflowReports else f.overflowReports }).updBeacon
        fun b =>
          { b with marker := (rs.getLast?.map (·.id)).or b.marker, nextReport := nextNumber b.nextReport }, true)
  else (r.1, false)

/-- A cycle end asks for a report (R157, R158): in RUN alone, as the cycle mode says. -/
def State.asksReport (s : State) : Bool :=
  s.partState == .run &&
    match s.beacon.cycleMode with
    | .continuous => s.faults.records.any FaultRecord.unacked || s.faults.overflow
    | .oneShot => decide (0 < s.beacon.oneShot)
    | .idle => false

/-- The report of a cycle end (R157, R158); a one-shot report made is one fewer remaining. -/
def State.cycleReport (s : State) : State :=
  if s.asksReport then
    if s.beacon.cycleMode = .oneShot ∧ s.askReport.2 then
      s.askReport.1.updBeacon fun b => { b with oneShot := b.oneShot - 1 }
    else s.askReport.1
  else s

/-- The cycle has run out (R158); it does not end while the part is QUIESCED (R157). -/
def State.cycleDue (s : State) : Bool := s.beacon.running && s.beacon.remaining == 0 && s.partState != .quiesced

/-- A cycle ends (R158). -/
def State.endCycle (s : State) : State :=
  if s.cycleDue then
    s.cycleReport.updBeacon fun b =>
      if b.lastCycle then { b with running := false, lastCycle := false }
      else { b with remaining := b.working.period, cycleMode := b.working.mode }
  else s

/-! ### Compositions that fall together with another event (R69, R109) -/

/-- The event of a command is due and asks for a composition (R69): KEY REQUEST and KEY ACCEPT of the Renewal Controller,
FAULT REPORT of the Report Beacon. -/
def State.asksComposition (s : State) : Instr → Bool
  | .exchangeStart => (s.findCtx fun x => !x.isOpen).isSome && s.renewal.list.any s.eligible
  | .contextComposeRetry c => s.retryDue c
  | .replyTimerExpiry c => s.replyDue c && decide ((s.ctx c).attempt < 3)
  | .beaconCycleEnd => s.cycleDue && s.asksReport
  | _ => false

/-- The event of such a command. -/
def State.compositionEvent (s : State) : Instr → State
  | .exchangeStart => s.startExchange
  | .contextComposeRetry c => s.retryCompose c
  | .replyTimerExpiry c => s.expireReply c
  | .beaconCycleEnd => s.endCycle
  | _ => s

/-- The event of the command that waits to be taken next, where it asks for a composition: it falls together with the step
being taken, and is taken within it (R109, log entry 35). -/
def State.takeComposition (s : State) : State :=
  match s.pending.head? with
  | some i => if s.asksComposition i then s.compositionEvent i else s
  | none => s

/-! ### The rows -/

/-- An event of a working slot: a slot the part does not have stops the step (log entry 3). -/
def onSlot (x : Nat) (s : State) : Host.Outcome State Fault Refusal :=
  if isWorkingSlot x then .next s else .fault (.noSuchSlot x)

/-- An event of a context: a context the part does not have stops the step (log entry 3). -/
def onContext (c : Nat) (s : State) : Host.Outcome State Fault Refusal :=
  if isContext c then .next s else .fault (.noSuchContext c)

def execTick (s : State) : Host.Outcome State Fault Refusal := .next s.tickAll

def execKeyAgeLimit (x : Nat) (s : State) : Host.Outcome State Fault Refusal := onSlot x (s.ageTest x)

def execKeyGraceExpiry (x : Nat) (s : State) : Host.Outcome State Fault Refusal := onSlot x (s.graceTest x)

def execAccountIntervalEnd (s : State) : Host.Outcome State Fault Refusal := .next s.endInterval

def execDrainEnd (x : Nat) (s : State) : Host.Outcome State Fault Refusal := onSlot x (s.endDrain x)

def execEraseWindowExpiry (s : State) : Host.Outcome State Fault Refusal := .next s.expireWindow

def execQuietWatchExpiry (s : State) : Host.Outcome State Fault Refusal := .next s.expireQuiet

def execReplyTimerExpiry (c : Nat) (s : State) : Host.Outcome State Fault Refusal := onContext c (s.expireReply c)

def execBackoffEnd (x : Nat) (s : State) : Host.Outcome State Fault Refusal := onSlot x (s.endBackoff x)

def execBootBackoffEnd (s : State) : Host.Outcome State Fault Refusal := .next s.endBootBackoff

def execContextComposeRetry (c : Nat) (s : State) : Host.Outcome State Fault Refusal := onContext c (s.retryCompose c)

def execBootTriggerRelisted (s : State) : Host.Outcome State Fault Refusal := .next s.relistBoot

def execBeaconCycleEnd (s : State) : Host.Outcome State Fault Refusal := .next s.endCycle

def execExchangeStart (s : State) : Host.Outcome State Fault Refusal := .next s.startExchange

end Sys2Proof.Machine
end

