-- ==== Sys2Proof/Machine/EngineOps.lean ====
section
/-! DEFINITION. The Cipher Engine (chapter 5): arbitration (R77 to R80), the starts of outbound and inbound work
(R81 to R95), and the completions (R96, R97, R100). -/

namespace Sys2Proof.Machine

/-! ### Arbitration (R77 to R80) -/

/-- The work the engine takes next. -/
inductive Pick where
  | selfCheck | inbound | control | test | data
  deriving DecidableEq, Repr

/-- Inbound work is eligible (R78): the head of L-rx is complete and S-out has a free place. -/
def State.inboundEligible (s : State) : Bool :=
  (match s.lRx.head? with | some f => f.complete | none => false) && s.sOutRoom

/-- A test frame is offered (R111). -/
def State.testOffered (s : State) : Bool :=
  match s.link.test with
  | some t => t.offered
  | none => false

/-- The outbound work the engine would choose, if any (R78, R80). -/
def State.outboundPick (s : State) : Option Pick :=
  if !s.lTxRoom then none
  else if s.ctrl ≠ [] then some .control
  else if s.testOffered then some .test
  else if s.sIn.any ShopFrame.complete then some .data
  else none

/-- The start the engine takes (R77 to R79): IDLE, a class the part state lets start, and between both directions
the one opposite to the last. -/
def State.pick (s : State) : Option Pick :=
  if s.engine.work.isSome then none
  else
    match s.partState with
    | .failed | .quiesced => none
    | .boot => if s.selfCheckPending then some .selfCheck else none
    | .noRoot | .bootstrap | .run =>
      match s.inboundEligible, s.outboundPick with
      | true, none => some .inbound
      | true, some o => if s.engine.lastDirection = .outbound then some .inbound else some o
      | false, o => o

def State.setDirection (d : Direction) : State → State := State.updEngine fun e => { e with lastDirection := d }

def State.setWork (w : Option Work) : State → State := State.updEngine fun e => { e with work := w }

/-- The in-engine mark of descriptor i is set (R6). -/
def State.markChannel (i : Nat) (s : State) : State := s.updChan i fun c => { c with inEngine := true }

/-- The engine-use mark of slot x is set (R36). -/
def State.markSlot (x : Nat) (s : State) : State := s.updSlot x fun v => { v with engineUse := true }

/-- The key in a working slot, as it stands (R77). -/
def State.slotKey (s : State) (x : Nat) : WorkKey :=
  { ref := .slot x, material := (s.slot x).material, generation := (s.slot x).generation }

/-- The root as a key: generation 0 (R26). -/
def State.rootKey (s : State) : WorkKey := { ref := .root, material := s.root.material, generation := 0 }

/-! ### Outbound data (R7, R81 to R83) -/

/-- The frame names a descriptor with URGENT set (R8, R63). -/
def State.urgent (s : State) (f : ShopFrame) : Bool := s.isOpenIndex f.channel && (s.chan f.channel).flags.urgent

/-- The first element with a property leaves the list. -/
def takeFirst {α : Type} (q : α → Bool) : List α → Option (α × List α)
  | [] => none
  | a :: l => if q a then some (a, l) else (takeFirst q l).map fun r => (r.1, a :: r.2)

/-- The frame the engine takes from S-in, and the rest of S-in (R63, R80). -/
def State.takeShop (s : State) : Option (ShopFrame × List ShopFrame) :=
  match takeFirst (fun f => f.complete && s.urgent f) s.sIn with
  | some r => some r
  | none => takeFirst ShopFrame.complete s.sIn

/-- The resolution of a shop frame (R7): the index of the DATA descriptor that carries it, or the reason of its
refusal. -/
def State.resolve (s : State) (f : ShopFrame) : Except RefuseReason Nat :=
  let c := s.chan f.channel
  let r := if c.kind = .aliased then c.target.getD 0 else f.channel
  if f.channel = 0 ∨ s.isOpenIndex f.channel = false then .error .noChannel
  else if c.level < f.level then .error .level
  else if c.flags.hold ∨ (s.chan r).flags.hold then .error .held
  else if (s.chan r).state = .exhausted then .error .keySpent
  else if (s.chan r).current = none then .error .noChannel
  else .ok r

/-- A shop frame is refused at its start (R83, R9). -/
def State.refuseFrame (f : ShopFrame) (r : RefuseReason) (s : State) : State :=
  let t :=
    if s.isOpenIndex f.channel ∧ r ≠ .noChannel then
      s.updChan f.channel fun c => { c with refused := satInc 4294967295 c.refused }
    else s
  t.noticeOrFree f r

/-- The payload of a shop frame (R183). -/
def ShopFrame.payload (f : ShopFrame) : List Byte := unpackWords f.length f.words

/-- The start of a shop frame after the part-state check (R82). -/
def State.startFrame (f : ShopFrame) (s : State) : State :=
  match s.resolve f with
  | .error r => s.refuseFrame f r
  | .ok i =>
    let x := ((s.chan i).current).getD 0
    let c := s.charge x (frameCost f.length)
    if c.2 then
      let d := c.1.drawCounter x
      let t := ((d.1.markSlot x).markChannel i).updChan f.channel
        fun c => { c with sent := satInc 4294967295 c.sent }
      t.setWork (some (.outData f (s.slotKey x) d.2 i))
    else c.1.refuseFrame f .keySpent

/-- OUTBOUND DATA is taken (R80 classes 3 and 4, R81, R82). -/
def State.startData (s : State) : State :=
  if s.pick = some .data then
    match s.takeShop with
    | none => s
    | some (f, rest) =>
      let t := (s.updSIn fun _ => rest).setDirection .outbound
      if s.partState = .run then t.startFrame f else t.refuseFrame f .notReady
  else s

/-! ### Outbound control (R84) -/

/-- A message that passes its start goes into flight on channel 0 (R84). -/
def State.launchControl (m : CtrlMsg) (k : WorkKey) (n : Nat) (s : State) : State :=
  ((s.markChannel 0).updChan 0 fun c => { c with sent := satInc 4294967295 c.sent }).setWork
    (some (.outControl m k n))

/-- A message goes under the root, or is discarded for ROOT_LIMIT (R34, R84). -/
def State.startUnderRoot (m : CtrlMsg) (s : State) : State :=
  if counterMax ≤ s.root.txCounter then
    ((s.returnBuffer).updEngine fun e =>
        { e with discards := { e.discards with rootLimit := satInc 4294967295 e.discards.rootLimit } }).reportPlaced
      m.serial
  else
    let d := s.drawRootCounter
    d.1.launchControl m s.rootKey d.2

/-- The start of a control message (R84, R20, R48). -/
def State.startMessage (m : CtrlMsg) (s : State) : State :=
  match (s.chan 0).current with
  | some x =>
    if (s.chan 0).state = .opened then
      let c := s.charge x (frameCost m.payload.length)
      if c.2 then
        let d := c.1.drawCounter x
        (d.1.markSlot x).launchControl m (s.slotKey x) d.2
      else c.1.startUnderRoot m
    else s.startUnderRoot m
  | none => s.startUnderRoot m

/-- OUTBOUND CONTROL is taken (R80 class 1). -/
def State.startControl (s : State) : State :=
  if s.pick = some .control then
    match s.ctrl with
    | [] => s
    | m :: rest => ((s.updCtrl fun _ => rest).setDirection .outbound).startMessage m
  else s

/-! ### Inbound (R88 to R95) -/

/-- Why an inbound frame is discarded (R89). -/
inductive Discard where
  | notReady | malformed | foreign | unknownKey | suspect | replay | tagFail | noChannel | held
  deriving DecidableEq, Repr

/-- The key step 3 finds (R90). -/
inductive FoundKey where
  | slot (x : Nat)
  | successor (x y context : Nat)
  | root
  deriving DecidableEq, Repr

/-- A slot of the given index and generation (R90). -/
def State.isKey (s : State) (o : Option Nat) (h : LineHeader) : Bool :=
  match o with
  | some x => h.slot.toNat == x && (s.slot x).generation == h.generation
  | none => false

/-- The staged successor of the current slot, with the context in AWAIT_COMMIT that staged it (R90 case 3). -/
def State.stagedSuccessor (s : State) (c : Channel) : Option (Nat × Nat × Nat) :=
  match c.current with
  | none => none
  | some x =>
    match (s.slot x).successor with
    | none => none
    | some y =>
      if (s.slot y).state = .staged then
        (s.findCtx fun z => z.state == .awaitCommit && z.successor == some y).map fun k => (x, y, k)
      else none

/-- The root is accepted on channel 0 (R90 case 4). -/
def State.rootAccepted (s : State) : Bool :=
  match (s.chan 0).current with
  | none => true
  | some x => (s.slot x).suspect

/-- Step 3 of R89: the key a header names for descriptor i (R90). -/
def State.findKey (s : State) (i : Nat) (h : LineHeader) : Option FoundKey :=
  let c := s.chan i
  if s.isKey c.current h then c.current.map .slot
  else if s.isKey c.alternate h then c.alternate.map .slot
  else
    match s.stagedSuccessor c with
    | some (x, y, k) =>
      if s.isKey (some y) h then some (.successor x y k)
      else if i = 0 ∧ s.rootAccepted ∧ h.slot = 0 ∧ h.generation = 0 then some .root
      else none
    | none => if i = 0 ∧ s.rootAccepted ∧ h.slot = 0 ∧ h.generation = 0 then some .root else none

/-- The working slot of a found key. -/
def FoundKey.slot? : FoundKey → Option Nat
  | .slot x => some x
  | .successor _ y _ => some y
  | .root => none

/-- The found key as the key of a frame in flight. -/
def State.foundWorkKey (s : State) (k : FoundKey) : WorkKey :=
  match k.slot? with
  | some x => s.slotKey x
  | none => s.rootKey

/-- SUSPECT of a found key; the root has no flags (R26). That it acts on an inbound frame under a DRAINING slot too, as R37,
R89 step 4 and R93 say of every slot, where R29 step 5 says that X's flags act on nothing more, is the model's choice (log
entry 36). -/
def State.foundSuspect (s : State) (k : FoundKey) : Bool :=
  match k.slot? with
  | some x => (s.slot x).suspect
  | none => false

/-- Step 5 of R89; under the root, counter 0 is the only replay (R26, R91). -/
def State.foundReplay (s : State) (k : FoundKey) (n : Nat) : Bool :=
  match k.slot? with
  | some x => isReplay n (s.slot x).top (s.slot x).seen
  | none => n == 0

/-- The receive window of the found key is updated (R91); the root keeps none (R26). -/
def State.updateWindow (k : FoundKey) (n : Nat) (s : State) : State :=
  match k.slot? with
  | some x =>
    s.updSlot x fun v => { v with top := (nextWindow n v.top v.seen).1, seen := (nextWindow n v.top v.seen).2 }
  | none => s

/-- A valid frame is reported to the Link Watch (R92, R104). -/
def State.reportValid (s : State) : State :=
  let t := s.updLink fun l => { l with quietRemaining := 15 }
  if s.link.quietMark then (t.updLink fun l => { l with quietMark := false }).clearFault .linkQuiet .link else t

/-- One engine discard count of R76 increases. -/
def DiscardCounts.add (d : DiscardCounts) : Discard → DiscardCounts
  | .notReady => { d with notReady := satInc 4294967295 d.notReady }
  | .unknownKey => { d with unknownKey := satInc 4294967295 d.unknownKey }
  | .suspect => { d with suspect := satInc 4294967295 d.suspect }
  | .replay => { d with replay := satInc 4294967295 d.replay }
  | .tagFail => { d with tagFail := satInc 4294967295 d.tagFail }
  | .noChannel => { d with noChannel := satInc 4294967295 d.noChannel }
  | .held => { d with held := satInc 4294967295 d.held }
  | .malformed => d
  | .foreign => d

/-- Whether the discard counts on the descriptor the header names (R92, R9). -/
def Discard.onChannel : Discard → Bool
  | .unknownKey | .suspect | .replay | .tagFail | .held => true
  | .notReady | .malformed | .foreign | .noChannel => false

/-- A malformed frame is counted by the Link Watch (R105, R106). -/
def State.countMalformed (s : State) : State :=
  let n := satInc 255 s.link.malformed
  let t := s.updLink fun l => { l with malformed := n, totalMalformed := satInc 4294967295 l.totalMalformed }
  if n = 16 ∧ s.link.malformed ≠ 16 ∧ s.link.malformedMark = false then
    (t.updLink fun l => { l with malformedMark := true }).raiseFault .malformedBurst .link
  else t

/-- A foreign-tag frame is counted by the Link Watch (R105, R107). -/
def State.countForeign : State → State :=
  State.updLink fun l =>
    { l with foreign := satInc 65535 l.foreign, totalForeign := satInc 4294967295 l.totalForeign }

/-- A replay under a working slot (R92, R94). -/
def State.countReplay (x : Nat) (s : State) : State :=
  let n := satInc 255 (s.slot x).replays
  let t := s.updSlot x fun v => { v with replays := n }
  if 16 ≤ n ∧ s.burst x = false then (t.setBurst x true).raiseFault .replayBurst (.slot x) else t

/-- A tag failure under a working slot (R92, R93). -/
def State.countTagFailure (x : Nat) (s : State) : State :=
  let n := satInc 255 (s.slot x).tagFailures
  let t := s.updSlot x fun v => { v with tagFailures := n }
  if 8 ≤ n ∧ (s.slot x).suspect = false then
    let t := (t.updSlot x fun v => { v with suspect := true }).raiseFault .tagFails (.slot x)
    if (s.slot x).state = .active then t.sendTrigger x .suspect else t
  else t

/-- What a discard adds beside the counts of the engine and the descriptor (R92, R93, R94, R105). -/
def State.discardExtra (r : Discard) (k : Option FoundKey) (s : State) : State :=
  match r, k.bind FoundKey.slot? with
  | .malformed, _ => s.countMalformed
  | .foreign, _ => s.countForeign
  | .replay, some x => s.countReplay x
  | .tagFail, some x => s.countTagFailure x
  | _, _ => s

/-- A frame discarded at its start (R92). The buffer returns first, so a clear of POOL_LOW that its return sends reaches
the Fault Monitor before the raise that the discard may send; R148 leaves either order (log entry 32). -/
def State.discardFrame (r : Discard) (i : Nat) (k : Option FoundKey) (s : State) : State :=
  let t := (s.returnBuffer).setAsidePlace false
  let t := t.updEngine fun e => { e with discards := e.discards.add r }
  let t :=
    if r.onChannel && s.isOpenIndex i then
      t.updChan i fun c => { c with discarded := satInc 4294967295 c.discarded }
    else t
  t.discardExtra r k

/-- Steps 7 and 8 of R89. -/
def State.lateCheck (s : State) (i : Nat) (h : LineHeader) : Option Discard :=
  let c := s.chan i
  if !((c.kind == .data && h.kind == kindData) || (i == 0 && h.kind == kindControl)) then some .noChannel
  else if c.flags.hold then some .held
  else none

/-- A frame that has passed every check goes into flight (R88, R95): under a staged successor the switch is made
first. -/
def State.launchInbound (f : LineIn) (k : FoundKey) (i : Nat) (s : State) : State :=
  let t := match k with
    | .successor _ _ c => s.completeRenewal c
    | .slot _ => s
    | .root => s
  let t := match k.slot? with
    | some x => t.markSlot x
    | none => t
  (t.markChannel i).setWork (some (.inbound f (s.foundWorkKey k) f.parts.header.counter.toNat i))

/-- Steps 3 to 8 of R89 for a descriptor that holds a key. -/
def State.checkKey (f : LineIn) (i : Nat) (s : State) : State :=
  let h := f.parts.header
  let n := h.counter.toNat
  match s.findKey i h with
  | none => s.discardFrame .unknownKey i none
  | some k =>
    if s.foundSuspect k then s.discardFrame .suspect i (some k)
    else if s.foundReplay k n then s.discardFrame .replay i (some k)
    else if !f.tagPasses (s.foundWorkKey k).material then s.discardFrame .tagFail i (some k)
    else
      let t := (s.updateWindow k n).reportValid
      match t.lateCheck i h with
      | some r => t.discardFrame r i (some k)
      | none => t.launchInbound f k i

/-- The inbound checks in order (R88, R89). -/
def State.checkInbound (f : LineIn) (s : State) : State :=
  let h := f.parts.header
  let i := h.channel.toNat
  if s.partState = .noRoot then s.discardFrame .notReady i none
  else if !f.formed then s.discardFrame .malformed i none
  else if s.root.storeTag ≠ some h.storeTag then s.discardFrame .foreign i none
  else if s.partState = .bootstrap ∧ h.kind ≠ kindControl then s.discardFrame .notReady i none
  else if !(s.chan i).namesKey then s.discardFrame .noChannel i none
  else s.checkKey f i

/-- INBOUND is taken (R88). -/
def State.startInbound (s : State) : State :=
  if s.pick = some .inbound then
    match s.lRx with
    | [] => s
    | f :: rest => (((s.updLRx fun _ => rest).setDirection .inbound).setAsidePlace true).checkInbound f
  else s

/-! ### TEST and SELF CHECK (R100) -/

/-- TEST is taken: a TEST start counts as outbound (R79, R80 class 2, R100). -/
def State.startTest (s : State) : State :=
  if s.pick = some .test then
    match s.link.test with
    | some t => (s.setDirection .outbound).setWork (some (.test t.next))
    | none => s
  else s

/-- SELF CHECK is taken, once, at the start of BOOT (R78, R79, R100). -/
def State.startSelfCheck (s : State) : State :=
  if s.pick = some .selfCheck then { (s.setWork (some .selfCheck)) with selfCheckPending := false } else s

/-! ### Completions (R96, R97) -/

/-- Steps 1 to 3 of R96: the descriptor's mark clears and a CLOSING descriptor becomes EMPTY (R15), the slot's mark
clears and a drain end that has been waiting is performed (R35), the engine is IDLE. -/
def State.endFlight (i : Nat) (k : KeyRef) (s : State) : State :=
  let t := s.updChan i fun c => if c.state = .closing then {} else { c with inEngine := false }
  let t := match k with
    | .slot x => (t.updSlot x fun v => { v with engineUse := false }).endDrain x
    | .root => t.updRoot fun r => { r with unsavedCounter := none }
  t.setWork none

/-- The slot byte of a header: the key's slot, 0 under the root (R85). -/
def KeyRef.slotByte : KeyRef → Byte
  | .slot x => BitVec.ofNat 8 x
  | .root => 0

/-- The line header of an outbound frame (R85). -/
def State.outHeader (s : State) (kind : Byte) (i : Nat) (k : WorkKey) (n len : Nat) : LineHeader :=
  { storeTag := s.root.storeTag.getD 0, kind := kind, channel := BitVec.ofNat 8 i, slot := k.ref.slotByte
    generation := k.generation, counter := BitVec.ofNat 48 n, length := BitVec.ofNat 16 len }

/-- The completion of outbound work (R96). -/
def State.completeOutbound (s : State) : State :=
  match s.engine.work with
  | some (.outData f k n i) =>
    let line := buildFrame k.material (s.outHeader kindData i k n f.length) f.payload
    (s.updLTx fun l => l ++ [line]).endFlight i k.ref
  | some (.outControl m k n) =>
    let line := buildFrame k.material (s.outHeader kindControl 0 k n m.payload.length) m.payload
    ((s.updLTx fun l => l ++ [line]).reportPlaced m.serial).endFlight 0 k.ref
  | some (.inbound ..) | some (.test _) | some .selfCheck | none => s

/-- The delivery of a data frame into its place of S-out (R97, R67). -/
def State.deliverData (f : LineIn) (k : WorkKey) (i : Nat) (s : State) : State :=
  let c := s.chan i
  let t := (s.setAsidePlace false).updSOut fun l =>
    l ++ [{ channel := i, level := c.level, length := f.parts.header.length.toNat, payload := f.payload k.material }]
  if c.state = .closing then t else t.updChan i fun d => { d with received := satInc 4294967295 d.received }

/-- The message is a LOOPBACK PROBE. -/
def Message.isProbe : Message → Bool
  | .probe _ _ _ => true
  | .delivery _ | .commit _ | .refuse _ _ | .renew _ | .order _ _ | .ack _ _ => false

/-- Between s and t the echo of a probe took the last free buffer (R109). That a KEY ACCEPT or KEY REJECT that took it makes no
other composition fail, the frame's buffer being back before the next event (R70, last paragraph), is the model's choice (log
entry 37). -/
def State.echoTookLast (m : Option Message) (s t : State) : Bool :=
  m.any Message.isProbe && s.pool.free == 1 && t.pool.free == 0

/-- A control frame is handed to the Control Messenger, then its buffer returns and its place is released (R97, R67;
log entry 15). Where a probe's echo took the last free buffer, a composition by another block that falls together with the
completion finds none before that buffer returns, and fails (R109, log entry 35). -/
def State.deliverControl (f : LineIn) (k : WorkKey) (s : State) : State :=
  let bs := f.payload k.material
  let t := s.handleControl bs
  let t := if s.echoTookLast (parseMessage bs) t then t.takeComposition else t
  (t.returnBuffer.setAsidePlace false).updChan 0 fun d => { d with received := satInc 4294967295 d.received }

/-- The completion of an inbound frame (R97). -/
def State.completeInbound (s : State) : State :=
  match s.engine.work with
  | some (.inbound f k _ i) =>
    let t := if f.parts.header.kind = kindControl then s.deliverControl f k else s.deliverData f k i
    t.endFlight i k.ref
  | some (.outData ..) | some (.outControl ..) | some (.test _) | some .selfCheck | none => s

/-! ### The end of a test frame (R111, R112) -/

/-- The record after the result of test frame k (R111). -/
def TestRecord.result (k : Nat) (pass : Bool) (t : TestRecord) : TestRecord :=
  { t with run := t.run + 1
           passed := if pass then t.passed + 1 else t.passed
           firstFail := if pass then t.firstFail else t.firstFail.or (some k)
           next := k + 1
           offered := false }

/-- The end of the test (R112). -/
def State.endTest (t : TestRecord) (s : State) : State :=
  let u := s.respond .l .done [word4 t.requested t.run t.passed (numberCode t.firstFail)]
  let u :=
    if t.passed < t.run ∧ s.link.selfCheckMark = false then
      (u.raiseFault .selfCheckFail .nothing).updLink fun l => { l with selfCheckMark := true }
    else if t.passed = t.run ∧ t.run = t.requested ∧ s.link.selfCheckMark then
      (u.clearFault .selfCheckFail .nothing).updLink fun l => { l with selfCheckMark := false }
    else u
  u.updLink fun l => { l with test := none }

/-- The completion of TEST work (R111). -/
def State.completeTest (tagUpset : BitVec 64) (textUpset : BitVec 512) (s : State) : State :=
  match s.engine.work, s.link.test with
  | some (.test k), some t =>
    let u := s.setWork none
    let r := t.result k (testPasses k tagUpset textUpset)
    if r.next ≤ r.requested then u.updLink fun l => { l with test := some { r with offered := true } }
    else u.endTest r
  | _, _ => s

/-- The completion of the SELF CHECK (R176): the part goes to FAILED, NO_ROOT or BOOTSTRAP, then an ERASE that waits
is executed. -/
def State.completeSelfCheck (upset : Block) (s : State) : State :=
  match s.engine.work with
  | some .selfCheck =>
    let t := s.setWork none
    let t :=
      if !selfCheckPasses upset then t.setPartState .failed
      else if t.root.active then t.enterBootstrap
      else t.setPartState .noRoot
    t.executeWaitingErase
  | some (.inbound ..) | some (.outData ..) | some (.outControl ..) | some (.test _) | none => s

end Sys2Proof.Machine
end

