-- ==== Sys2Proof/Machine/Engine.lean ====
section
/-! DEFINITION. The meanings of the engine's rows: its starts and completions (R82 to R100, R111, R176). A start or a
completion whose work the engine would not take, or does not hold, changes nothing (log entry 2). -/

namespace Sys2Proof.Machine

def execSelfCheckStart (s : State) : Host.Outcome State Fault Refusal := .next s.startSelfCheck

def execSelfCheckCompletion (upset : Block) (s : State) : Host.Outcome State Fault Refusal :=
  .next (s.completeSelfCheck upset)

def execOutboundDataStart (s : State) : Host.Outcome State Fault Refusal := .next s.startData

def execOutboundControlStart (s : State) : Host.Outcome State Fault Refusal := .next s.startControl

def execInboundStart (s : State) : Host.Outcome State Fault Refusal := .next s.startInbound

def execTestStart (s : State) : Host.Outcome State Fault Refusal := .next s.startTest

def execOutboundCompletion (s : State) : Host.Outcome State Fault Refusal := .next s.completeOutbound

def execInboundCompletion (s : State) : Host.Outcome State Fault Refusal := .next s.completeInbound

def execTestCompletion (tagUpset : BitVec 64) (textUpset : BitVec 512) (s : State) :
    Host.Outcome State Fault Refusal := .next (s.completeTest tagUpset textUpset)

end Sys2Proof.Machine
end

