-- ==== Sys2Proof/Machine/Power.lean ====
section
/-! DEFINITION. POWER_ON (R176, R26) and the completion of the non-volatile write of LOAD ROOT (R178). -/

namespace Sys2Proof.Machine

/-- Slot 0 as power-on reads it from the non-volatile store (R26): a write that had not completed left every field as
it was. `written`: the update of the root transmit counter that was being written had completed. -/
def Root.stored (written : Bool) (r : Root) : Root :=
  { r with pendingRoot := none, unsavedCounter := none
           txCounter := if written then r.txCounter else r.unsavedCounter.getD r.txCounter }

/-- Power-on (R176): every volatile field takes its power-on value, slot 0 is read from the non-volatile store, the
part enters BOOT. A LOAD ROOT whose write had not completed is lost with the power (R26). -/
def State.powerOn (written : Bool) (s : State) : State :=
  { State.reset with pending := s.pending, root := s.root.stored written }

/-- The write of a LOAD ROOT completes (R39, R178): slot 0 becomes ACTIVE with root transmit counter 1, the command is
answered DONE, the part enters BOOTSTRAP, then an ERASE that waits is executed. -/
def State.completeLoadRoot (s : State) : State :=
  match s.sPort.cmd with
  | .inProgress (.loadRoot key tag) =>
    let t := s.updRoot fun r =>
      { r with active := true, material := key, storeTag := some tag, txCounter := 1, unsavedCounter := none }
    let t := (t.respond .s .done []).enterBootstrap
    t.executeWaitingErase
  | .inProgress .localLoop | .inProgress .erase | .idle | .writing _ => s

def execPowerOn (written : Bool) (s : State) : Host.Outcome State Fault Refusal := .next (s.powerOn written)

def execLoadRootWriteComplete (s : State) : Host.Outcome State Fault Refusal := .next s.completeLoadRoot

end Sys2Proof.Machine
end

