-- ==== Sys2Proof/Machine/Dispatch.lean ====
section
/-! DEFINITION. One arm per row of spec/opcode_table.json: each a direct call of the row's meaning. -/

namespace Sys2Proof.Machine

/-- The effect of a command on everything but the queue. -/
def exec (i : Instr) (s : State) : Host.Outcome State Fault Refusal :=
  match i with
  | .powerOn written => Sys2Proof.Machine.execPowerOn written s
  | .tick => Sys2Proof.Machine.execTick s
  | .keyAgeLimit slot => Sys2Proof.Machine.execKeyAgeLimit slot s
  | .keyGraceExpiry slot => Sys2Proof.Machine.execKeyGraceExpiry slot s
  | .accountIntervalEnd => Sys2Proof.Machine.execAccountIntervalEnd s
  | .drainEnd slot => Sys2Proof.Machine.execDrainEnd slot s
  | .eraseWindowExpiry => Sys2Proof.Machine.execEraseWindowExpiry s
  | .quietWatchExpiry => Sys2Proof.Machine.execQuietWatchExpiry s
  | .replyTimerExpiry context => Sys2Proof.Machine.execReplyTimerExpiry context s
  | .backoffEnd slot => Sys2Proof.Machine.execBackoffEnd slot s
  | .bootBackoffEnd => Sys2Proof.Machine.execBootBackoffEnd s
  | .contextComposeRetry context => Sys2Proof.Machine.execContextComposeRetry context s
  | .bootTriggerRelisted => Sys2Proof.Machine.execBootTriggerRelisted s
  | .beaconCycleEnd => Sys2Proof.Machine.execBeaconCycleEnd s
  | .exchangeStart => Sys2Proof.Machine.execExchangeStart s
  | .selfCheckStart => Sys2Proof.Machine.execSelfCheckStart s
  | .selfCheckCompletion upset => Sys2Proof.Machine.execSelfCheckCompletion upset s
  | .outboundDataStart => Sys2Proof.Machine.execOutboundDataStart s
  | .outboundControlStart => Sys2Proof.Machine.execOutboundControlStart s
  | .inboundStart => Sys2Proof.Machine.execInboundStart s
  | .testStart => Sys2Proof.Machine.execTestStart s
  | .outboundCompletion => Sys2Proof.Machine.execOutboundCompletion s
  | .inboundCompletion => Sys2Proof.Machine.execInboundCompletion s
  | .testCompletion tagUpset textUpset => Sys2Proof.Machine.execTestCompletion tagUpset textUpset s
  | .frameInWrite port w => Sys2Proof.Machine.execFrameInWrite port w s
  | .frameOutRead port => Sys2Proof.Machine.execFrameOutRead port s
  | .responseRead port => Sys2Proof.Machine.execResponseRead port s
  | .mailboxWrite port w => Sys2Proof.Machine.execMailboxWrite port w s
  | .mailboxRead port => Sys2Proof.Machine.execMailboxRead port s
  | .statusRead port => Sys2Proof.Machine.execStatusRead port s
  | .registerWriteOther port select access => Sys2Proof.Machine.execRegisterWriteOther port select access s
  | .channelOpen port w2 w3 => Sys2Proof.Machine.execChannelOpen port w2 w3 s
  | .channelClose port w2 => Sys2Proof.Machine.execChannelClose port w2 s
  | .channelFlags port w2 w3 => Sys2Proof.Machine.execChannelFlags port w2 w3 s
  | .channelReset port w2 => Sys2Proof.Machine.execChannelReset port w2 s
  | .channelRead port w2 => Sys2Proof.Machine.execChannelRead port w2 s
  | .keyStatus port w2 => Sys2Proof.Machine.execKeyStatus port w2 s
  | .faultRead port w2 => Sys2Proof.Machine.execFaultRead port w2 s
  | .partRead port w2 => Sys2Proof.Machine.execPartRead port w2 s
  | .renewNow port w2 => Sys2Proof.Machine.execRenewNow port w2 s
  | .queueLimits port w2 => Sys2Proof.Machine.execQueueLimits port w2 s
  | .queueReset port w2 => Sys2Proof.Machine.execQueueReset port w2 s
  | .faultDismiss port w2 => Sys2Proof.Machine.execFaultDismiss port w2 s
  | .beaconSet port w2 => Sys2Proof.Machine.execBeaconSet port w2 s
  | .beaconCommit port => Sys2Proof.Machine.execBeaconCommit port s
  | .beaconHalt port => Sys2Proof.Machine.execBeaconHalt port s
  | .loadRoot port w2 w3 w4 w5 w6 => Sys2Proof.Machine.execLoadRoot port w2 w3 w4 w5 w6 s
  | .loadRootWriteComplete => Sys2Proof.Machine.execLoadRootWriteComplete s
  | .partReset port => Sys2Proof.Machine.execPartReset port s
  | .quiesce port => Sys2Proof.Machine.execQuiesce port s
  | .resume port => Sys2Proof.Machine.execResume port s
  | .localLoop port w2 => Sys2Proof.Machine.execLocalLoop port w2 s
  | .erase port => Sys2Proof.Machine.execErase port s

end Sys2Proof.Machine
end

