-- ==== Sys2Proof/Machine/Step.lean ====
section
/-! DEFINITION. One step of the block: the command at the front of the queue is executed on the state with the
queue's rest; on an empty queue the block idles (log entry 1). -/

namespace Sys2Proof.Machine

/-- The state with another queue of waiting commands. -/
def State.setPending (q : List Instr) (s : State) : State := { s with pending := q }

/-- One step: the command at the front of the queue runs. -/
def step (s : State) : Host.Outcome State Fault Refusal :=
  match s.pending with
  | [] => .next s
  | c :: rest => exec c (s.setPending rest)

/-- The state with the command that a word spells put at the front of its queue; unchanged where the word spells
none, which is every word, since no row of the table has bits. -/
def State.withFetchWord (s : State) (nbits w : Nat) : State :=
  match decodeTableWord nbits w with
  | some c => s.setPending (c :: s.pending)
  | none => s

end Sys2Proof.Machine
end

