-- ==== Sys2Proof/Safety.lean ====
section
/-! DEFINITION. What a good run of the part keeps, in the terms the statements use: the laws the manual names (buffer
conservation R60, queue capacity R62, the hard limit R47, the fault list R152, the request list R130, the marks R6 and
R36, the life of a key R32, R34, R37, R45, references, aliases, links and exchanges R4, R5, R28, R132), the answer a
controller reads (R168), and a run of well-formed commands. -/

namespace Sys2Proof.Machine

/-! ### A safe run -/

/-- Every command that waits names only slots and contexts the part has. -/
def State.sound (s : State) : Prop := ∀ c ∈ s.pending, c.wf = true

/-- The outcome is a next state: the part neither stops nor refuses. -/
def goesOn (o : Host.Outcome State Fault Refusal) : Prop := ∃ t, o = .next t

/-! ### Buffers and queues (R60, R62, R67) -/

/-- The buffers the work in flight holds: one for a frame, none for a test frame or a self check (R60, R76). -/
def Work.buffers : Work → Nat
  | .inbound .. | .outData .. | .outControl .. => 1
  | .test _ | .selfCheck => 0

/-- The buffer the engine holds (R60). -/
def State.engineBuffers (s : State) : Nat :=
  match s.engine.work with
  | some w => w.buffers
  | none => 0

/-- All buffers, by their holders (R60). -/
def State.buffers (s : State) : Nat :=
  s.pool.free + s.sIn.length + s.sOut.length + s.lRx.length + s.lTx.length + s.ctrl.length + s.engineBuffers

/-- The law of buffer conservation (R60). -/
def State.Conserved (s : State) : Prop := s.buffers = 96

/-- The engine holds a frame that will join L-tx (R67). -/
def State.outboundFrames (s : State) : Nat :=
  match s.engine.work with
  | some (.outData ..) | some (.outControl ..) => 1
  | some (.inbound ..) | some (.test _) | some .selfCheck | none => 0

/-- The engine holds an inbound frame. -/
def State.holdsInbound (s : State) : Bool :=
  match s.engine.work with
  | some (.inbound ..) => true
  | some (.outData ..) | some (.outControl ..) | some (.test _) | some .selfCheck | none => false

/-- The law of queue capacity (R62), with the places the engine has been assured of (R67). -/
def State.WithinCapacity (s : State) : Prop :=
  s.sIn.length ≤ 32 ∧ s.lRx.length ≤ 32 ∧ s.ctrl.length ≤ 8 ∧ s.sOut.length + s.pool.setAside.toNat ≤ 32
    ∧ s.lTx.length + s.outboundFrames ≤ 32 ∧ (s.holdsInbound = true → s.pool.setAside = true)

/-! ### Keys (R6, R32, R34, R36, R37, R45, R47) -/

/-- The law of the hard limit (R47). -/
def State.WithinHardLimits (s : State) : Prop := ∀ x, (s.slot x).used ≤ (s.slot x).hard

/-- The channel whose mark the work in flight holds (R6). -/
def Work.channel : Work → Option Nat
  | .inbound _ _ _ i => some i
  | .outData _ _ _ i => some i
  | .outControl .. => some 0
  | .test _ | .selfCheck => none

/-- The working slot whose mark the work in flight holds (R36). -/
def Work.slot : Work → Option Nat
  | .inbound _ k _ _ | .outData _ k _ _ | .outControl _ k _ =>
    match k.ref with
    | .slot x => some x
    | .root => none
  | .test _ | .selfCheck => none

/-- Marks stand only on the channel and the slot of the frame in flight (R6, R36): so at most one of each. -/
def State.MarksOfWork (s : State) : Prop :=
  (∀ i, (s.chan i).inEngine = true → s.engine.work.bind Work.channel = some i)
    ∧ ∀ x, (s.slot x).engineUse = true → s.engine.work.bind Work.slot = some x

/-- What a key keeps while its slot is not emptied: its generation, level, material and limits stand, its transmit
counter and receive top never decrease, SPENT and SUSPECT stay set (R32, R34, R37, R45). -/
def Slot.sameKey (v w : Slot) : Prop :=
  w.generation = v.generation ∧ w.level = v.level ∧ w.material = v.material ∧ w.hard = v.hard ∧ w.soft = v.soft
    ∧ w.lead = v.lead ∧ w.maxAge = v.maxAge ∧ v.txCounter ≤ w.txCounter ∧ v.top ≤ w.top
    ∧ (v.spent = true → w.spent = true) ∧ (v.suspect = true → w.suspect = true)

/-- Descriptor i becomes EXHAUSTED with the key in slot x (R20): it is OPEN with that current slot, or an ALIAS of such a
descriptor. -/
def State.exhaustedWith (s : State) (x i : Nat) : Prop :=
  ((s.chan i).currentIs x = true ∧ (s.chan i).state = .opened)
    ∨ ∃ r, (s.chan i).kind = .aliased ∧ (s.chan i).target = some r ∧ (s.chan r).currentIs x = true
        ∧ (s.chan r).state = .opened

/-! ### Lists (R130, R150, R152) -/

/-- Entry e may stand before entry f in the request list (R130). -/
def Entry.notAfter (e f : Entry) : Prop := f.urgency < e.urgency ∨ (f.urgency = e.urgency ∧ e.arrival ≤ f.arrival)

/-- The request list holds at most 8 entries, one per slot, in its order (R128, R130). -/
def State.RequestListLaw (s : State) : Prop :=
  s.renewal.list.length ≤ 8 ∧ (s.renewal.list.map (·.slot)).Nodup ∧ s.renewal.list.Pairwise Entry.notAfter

/-- The law of the fault list (R152), with the identifiers of R150. -/
def State.FaultListLaw (s : State) : Prop :=
  s.faults.records.length ≤ 16 ∧ (s.faults.records.map fun r => (r.kind, r.subject)).Nodup
    ∧ (s.faults.records.map (·.id)).Nodup ∧ (∀ r ∈ s.faults.records, 1 ≤ r.id ∧ r.id ≤ 255)
    ∧ 1 ≤ s.faults.nextId ∧ s.faults.nextId ≤ 255

/-- A fault stands in the list as an ACTIVE record, or the list had no place for it (R150, R152). -/
def State.faultStands (k : FaultKind) (x : Subject) (s : State) : Prop :=
  (∃ r ∈ s.faults.records, r.kind = k ∧ r.subject = x ∧ r.active = true) ∨ s.faults.overflow = true

/-! ### Discards (R92) -/

/-- Between s and t the head of L-rx was discarded, leaving `rest` (R92): its buffer returned, no place of S-out is set aside,
the discard counts are d, descriptor i counts it when `counts` says so, and nothing else has changed but slots, the quiet
timer, the replay burst marks, the Renewal Controller and what a fault event changes. -/
def State.discarded (t s : State) (rest : List LineIn) (i : Nat) (counts : Bool) (d : DiscardCounts) : Prop :=
  t = { s with lRx := rest, pool := { s.pool with free := s.pool.free + 1, setAside := false, low := t.pool.low },
               engine := { s.engine with lastDirection := .inbound, discards := d, burst := t.engine.burst },
               chans := t.chans, slots := t.slots, link := t.link, renewal := t.renewal, faults := t.faults,
               beacon := t.beacon, sPort := { s.sPort with faultCause := t.sPort.faultCause },
               lPort := { s.lPort with faultCause := t.lPort.faultCause } }
    ∧ t.chan i = { s.chan i with
        discarded := if counts then min ((s.chan i).discarded + 1) 4294967295 else (s.chan i).discarded }
    ∧ (∀ j, j ≠ i → t.chan j = s.chan j)

/-! ### What channels, slots and exchanges say of one another (R4, R5, R20, R28, R115, R132) -/

/-- References (R1, R5, R20 to R22): a working slot counts the descriptors that name it; a current slot is ACTIVE and its
descriptor EXHAUSTED exactly when the key is spent, and it has the descriptor's level, which is 0 for channel 0; an alternate slot is the predecessor of the current one; a DATA
descriptor is CLOSING or names its key, and a CLOSING one names none; descriptor 0, and no other, is the control channel. -/
def State.ReferenceLaw (s : State) : Prop :=
  (∀ x, 1 ≤ x → x ≤ 23 → (s.slot x).refs =
      s.countChans (fun c => c.current == some x) + s.countChans (fun c => c.alternate == some x))
    ∧ (∀ i x, (s.chan i).current = some x → (s.chan i).namesKey = true ∧ (s.slot x).state = .active
        ∧ (s.chan i).state = (if (s.slot x).spent then .exhausted else .opened) ∧ (s.slot x).level = (s.chan i).level)
    ∧ (∀ i x, (s.chan i).alternate = some x → ∃ y, (s.chan i).current = some y ∧ (s.slot y).predecessor = some x)
    ∧ (∀ i, (s.chan i).kind = .data → (s.chan i).current = none → (s.chan i).state = .closing)
    ∧ (∀ i, i ≠ 0 → (s.chan i).kind ≠ .control) ∧ (s.chan 0).kind = .control ∧ (s.chan 0).level = 0
    ∧ ((s.chan 0).current = none → (s.chan 0).state = .opened)

/-- Aliases (R1, R4, R12): the target of an ALIAS is a DATA descriptor, and the ALIAS has its state, which is not CLOSING;
a DATA or CONTROL descriptor counts its aliases. -/
def State.AliasLaw (s : State) : Prop :=
  (∀ i, (s.chan i).kind = .aliased → ∃ g, (s.chan i).target = some g ∧ (s.chan g).kind = .data
      ∧ (s.chan g).state = (s.chan i).state ∧ (s.chan i).state ≠ .closing)
    ∧ ∀ g, (s.chan g).namesKey = true → (s.chan g).aliasCount = s.countChans (Channel.aliasTo g)

/-- The law of key links (R28): successor and predecessor name each other; a successor is STAGED while its predecessor is
ACTIVE and ACTIVE while it is DRAINING, and has its level; a STAGED key is not spent, and an EMPTY slot holds its EMPTY values (R24). -/
def State.LinkLaw (s : State) : Prop :=
  (∀ x y, (s.slot x).successor = some y ↔ (s.slot y).predecessor = some x)
    ∧ (∀ x y, (s.slot x).successor = some y →
        ((s.slot x).state = .active ∧ (s.slot y).state = .staged)
          ∨ ((s.slot x).state = .draining ∧ (s.slot y).state = .active))
    ∧ (∀ x y, (s.slot x).successor = some y → (s.slot y).level = (s.slot x).level)
    ∧ (∀ x, (s.slot x).state = .staged → (s.slot x).spent = false)
    ∧ ∀ x, (s.slot x).state = .empty → s.slot x = {}

/-- What an open context says of its subject and its successor (R132, R139): a RENEWAL context's subject is ACTIVE without
a predecessor, and has the context's successor; the staged key of a BOOT or INSTALL context has no predecessor, and level 0 while channel 0 is unbound. -/
def State.contextAgrees (s : State) (c : Context) : Prop :=
  match c.kind, c.state with
  | some .renewal, .awaitDelivery => ∃ x, c.subject = some x ∧ (s.slot x).state = .active
      ∧ (s.slot x).predecessor = none ∧ (s.slot x).successor = none ∧ c.successor = none
  | some .renewal, .awaitCommit => ∃ x y, c.subject = some x ∧ (s.slot x).state = .active
      ∧ (s.slot x).predecessor = none ∧ (s.slot x).successor = some y ∧ c.successor = some y
  | some .boot, .awaitDelivery => c.subject = none ∧ c.successor = none
  | some .boot, .awaitCommit | some .install, .awaitCommit => c.subject = none
      ∧ ∃ y, c.successor = some y ∧ (s.slot y).state = .staged ∧ (s.slot y).predecessor = none
          ∧ ((s.chan 0).current = none → (s.slot y).level = 0)
  | some .root, .awaitCommit => c.subject = none ∧ c.successor = some 0
  | _, _ => False

/-- Exchanges (R115, R128 to R132): a FREE context holds its FREE values; open contexts have different exchange numbers, 1
to 255, different subjects and different staged keys, and agree with the slots; every STAGED key belongs to one of them;
a listed slot is ACTIVE, listed once, and no subject. -/
def State.ExchangeLaw (s : State) : Prop :=
  (1 ≤ s.messenger.nextExchange ∧ s.messenger.nextExchange ≤ 255)
    ∧ (∀ c, (s.ctx c).isOpen = false → s.ctx c = {})
    ∧ (∀ c, (s.ctx c).isOpen = true → s.contextAgrees (s.ctx c) ∧ (∃ e, (s.ctx c).exchange = some e ∧ 1 ≤ e ∧ e ≤ 255)
        ∧ 1 ≤ (s.ctx c).attempt ∧ (s.ctx c).attempt ≤ 3 ∧ (s.ctx c).reply ≤ 16)
    ∧ (∀ c d, c ≠ d → (s.ctx c).isOpen = true → (s.ctx d).isOpen = true → (s.ctx c).exchange ≠ (s.ctx d).exchange
        ∧ ((s.ctx c).subject ≠ none → (s.ctx c).subject ≠ (s.ctx d).subject)
        ∧ ∀ y, 1 ≤ y → (s.ctx c).successor = some y → (s.ctx d).successor ≠ some y)
    ∧ (∀ y, (s.slot y).state = .staged → ∃ c, (s.ctx c).isOpen = true ∧ (s.ctx c).successor = some y)
    ∧ (s.renewal.list.map (·.slot)).Nodup
    ∧ ∀ e ∈ s.renewal.list, ∀ x, e.slot = some x →
        (s.slot x).state = .active ∧ ∀ c, (s.ctx c).isOpen = true → (s.ctx c).subject ≠ some x

/-- The laws that tie channels, slots and exchanges together, each of which needs the others to be kept. -/
def State.KeyLaw (s : State) : Prop := s.ReferenceLaw ∧ s.AliasLaw ∧ s.LinkLaw ∧ s.ExchangeLaw

/-- What a charge refused at the hard limit of slot x has changed between s and t beside the channels, the pool and the
engine (R48): SPENT is set and nothing else of any slot but REQUESTED, KEY_SPENT stands, and a trigger is received. -/
def State.keySpentIn (t s : State) (x : Nat) : Prop :=
  t = { s with slots := t.slots, chans := t.chans, root := t.root, pool := t.pool, sIn := t.sIn, sOut := t.sOut,
               ctrl := t.ctrl, engine := t.engine,
               renewal := { s.renewal with list := t.renewal.list, received := min (s.renewal.received + 1) 65535,
                                           notListed := t.renewal.notListed, replaced := t.renewal.replaced },
               faults := t.faults, beacon := t.beacon,
               sPort := { s.sPort with faultCause := t.sPort.faultCause },
               lPort := { s.lPort with faultCause := t.lPort.faultCause } }
    ∧ t.slot x = { s.slot x with spent := true, requested := (t.slot x).requested }
    ∧ (∀ y, y ≠ x → t.slot y = { s.slot y with requested := (t.slot y).requested })
    ∧ t.faultStands .keySpent (.slot x)
    ∧ ((∃ c, (s.ctx c).isOpen = true ∧ (s.ctx c).subject = some x) → t.renewal.list = s.renewal.list
        ∧ (t.slot x).requested = true)

/-- A trigger with reason r, of urgency 1, for ACTIVE slot x has been received and listed between s and t, with outcome k of
R171 (R129 to R131): 1 an open context serves the slot, 2 a new entry, 3 its entry raised, 4 its entry unchanged, 5 no place
on a full list. ORDER and LOCAL end the backoff of a slot that no open context serves. -/
def State.triggeredFrom (t s : State) (x : Nat) (r : Reason) (k : Nat) : Prop :=
  t.renewal.received = min (s.renewal.received + 1) 65535
    ∧ (∀ y, t.slot y = { s.slot y with requested := (t.slot y).requested }) ∧ (∀ c, t.ctx c = s.ctx c)
    ∧ (∀ y, y ≠ x → t.backoff y = s.backoff y)
    ∧ ((∃ c, (s.ctx c).isOpen = true ∧ (s.ctx c).subject = some x) →
        k = 1 ∧ t.renewal.list = s.renewal.list ∧ (t.slot x).requested = true ∧ t.backoff x = s.backoff x)
    ∧ ((∀ c, (s.ctx c).isOpen = true → (s.ctx c).subject ≠ some x) → t.backoff x = {}
      ∧ ((∀ e ∈ s.renewal.list, e.slot ≠ some x) → s.renewal.list.length < 8 → k = 2 ∧ (t.slot x).requested = true
          ∧ t.renewal.list.Perm
              ({ slot := some x, urgency := 1, reason := r, arrival := t.renewal.received } :: s.renewal.list))
      ∧ (∀ pre post e, s.renewal.list = pre ++ e :: post → (∀ d ∈ pre ++ post, d.slot ≠ some x) → e.slot = some x →
          (t.slot x).requested = true
          ∧ (e.urgency = 0 → k = 3 ∧ t.renewal.list.Perm ({ e with urgency := 1, reason := r } :: (pre ++ post)))
          ∧ (1 ≤ e.urgency → k = 4 ∧ t.renewal.list = s.renewal.list))
      ∧ (∀ pre e, s.renewal.list = pre ++ [e] → (∀ d ∈ s.renewal.list, d.slot ≠ some x) → 8 ≤ s.renewal.list.length →
          (1 ≤ e.urgency → k = 5 ∧ t.renewal.list = s.renewal.list ∧ (t.slot x).requested = false)
          ∧ (e.urgency = 0 → k = 2 ∧ (t.slot x).requested = true ∧ t.renewal.list.Perm
              ({ slot := some x, urgency := 1, reason := r, arrival := t.renewal.received } :: pre))))

/-! ### Exchange numbers and deliveries (R28, R57, R115, R120, R121, R139) -/

/-- n is the first exchange number, counting upwards from the next one and skipping 0, that no open context holds (R115). -/
def State.firstExchange (s : State) (n : Nat) : Prop :=
  (∀ d, (s.ctx d).isOpen = true → (s.ctx d).exchange ≠ some n)
    ∧ ∃ k, k ≤ 4 ∧ n = (s.messenger.nextExchange - 1 + k) % 255 + 1
        ∧ ∀ m, m < k → ∃ d, (s.ctx d).isOpen = true
            ∧ (s.ctx d).exchange = some ((s.messenger.nextExchange - 1 + m) % 255 + 1)

/-- The working slot y that a delivery is staged in (R28, R120): the EMPTY one it names, or the lowest EMPTY one. -/
def State.targetSlot (s : State) (d : Delivery) (y : Nat) : Prop :=
  1 ≤ y ∧ y ≤ 23 ∧ (s.slot y).state = .empty
    ∧ (d.target = .slot y ∨ d.target = .anyFree ∧ ∀ z, 1 ≤ z → z < y → (s.slot z).state ≠ .empty)

/-- Slot v holds what the staging of a delivery writes (R28), with the limits of R57 and every other field EMPTY. -/
def Delivery.stagedAs (d : Delivery) (key : Block) (v : Slot) : Prop :=
  v = { state := .staged, generation := d.generation, level := d.level, material := key, predecessor := d.predecessor,
        txCounter := 1, hard := v.hard, soft := v.soft, lead := v.lead, maxAge := v.maxAge }
    ∧ v.hard = (if d.hard < 4096 then 4096 else if 2147483648 < d.hard then 2147483648 else d.hard)
    ∧ v.soft = (if d.soft = 0 ∨ v.hard ≤ d.soft then v.hard - v.hard / 8 else d.soft)
    ∧ v.lead = (if d.lead = 0 then 12 else if 255 < d.lead then 255 else d.lead)
    ∧ v.maxAge = (if d.maxAge < 64 then 64 else d.maxAge)

/-- Between s and t context c has asked for its KEY ACCEPT (R121, R135, R189): QUEUED when the composition can succeed, else it
stands in COMPOSE (R69, R70). -/
def State.acceptedFrom (t s : State) (c : Nat) : Prop :=
  ((s.partState = .bootstrap ∨ s.partState = .run ∨ s.partState = .quiesced) → 0 < s.pool.free → s.ctrl.length < 8 →
    (t.ctx c).send = .queued ∧ t.pool = { s.pool with free := s.pool.free - 1 }
      ∧ ∀ y, y = (t.ctx c).successor.getD 0 → t.ctrl = s.ctrl ++
          [{ payload := natBytes 1 0x12 ++ natBytes 1 ((t.ctx c).exchange.getD 0) ++ natBytes 1 y ++ [(t.slot y).generation]
             serial := s.renewal.nextSerial }])
  ∧ ((s.pool.free = 0 ∨ 8 ≤ s.ctrl.length) →
    (t.ctx c).send = .compose ∧ t.ctrl = s.ctrl ∧ t.pool = { s.pool with low := t.pool.low })

/-! ### Opening and closing a channel (R11 to R15) -/

/-- The checks of an open in their order, each with the status of its failure: R11, or for kind 2 R12. -/
def State.openChecks (s : State) (i kind level ref : Nat) : List (Bool × Status) :=
  [(s.partState == .failed, .refusedState), (i == 0 || decide (47 < i), .refusedRange),
    ((kind != 1 && kind != 2) || decide (3 < level), .refusedRange), (level == 0, .refusedPort),
    ((s.chan i).kind != .empty, .refusedState)]
  ++ if kind = 1 then
    [(ref == 0 || decide (23 < ref), .refusedRange), ((s.slot ref).state == .empty, .notFound),
      ((s.slot ref).state != .active || (s.slot ref).spent, .refusedState), ((s.slot ref).level != level, .refusedState)]
  else
    [(ref == 0 || decide (47 < ref), .refusedRange), ((s.chan ref).kind == .empty, .notFound),
      ((s.chan ref).kind == .aliased, .refusedRange), ((s.chan ref).level == 0, .refusedPort),
      ((s.chan ref).state == .closing, .refusedState)]

/-- Channel i has been opened between s and t with the values given: a DATA channel (R11), or for kind 2 an ALIAS (R12). No
other descriptor or slot changes, but for the reference count of the slot or the alias count of the target. -/
def State.openedFrom (t s : State) (i kind level ref : Nat) (flags : ChanFlags) : Prop :=
  (kind = 1 → t.chan i = { kind := .data, level := level, state := .opened, current := some ref, flags := flags }
      ∧ (∀ j, j ≠ i → t.chan j = s.chan j)
      ∧ (∀ y, t.slot y = { s.slot y with refs := if y = ref then (s.slot y).refs + 1 else (s.slot y).refs }))
    ∧ (kind = 2 → t.slots = s.slots
      ∧ t.chan i = { kind := .aliased, level := level, state := (s.chan ref).state, target := some ref, flags := flags }
      ∧ (∀ j, j ≠ i → t.chan j = { s.chan j with
          aliasCount := if j = ref then (s.chan j).aliasCount + 1 else (s.chan j).aliasCount }))

/-- The shop frames that `gone` picks out have left S-in between s and t (R14 step 1, R65): in S-in order, those whose
descriptor has NOTIFY stand at the tail of S-out as notices with NO_CHANNEL, as far as it has places; the buffers of the
others are free; the push of a filling frame among them has ended. -/
def State.framesRemoved (t s : State) (gone : ShopFrame → Bool) : Prop :=
  t.sIn = s.sIn.filter (fun f => !gone f)
    ∧ t.sOut = s.sOut ++ (((s.sIn.filter fun f => gone f && (s.chan f.channel).flags.notify).take (32 - s.sOutTaken)).map
        fun f => { channel := f.channel, level := f.level, length := f.length, refusal := some .noChannel })
    ∧ t.pool.free + t.sIn.length + t.sOut.length = s.pool.free + s.sIn.length + s.sOut.length
    ∧ ((∀ f ∈ s.sIn, gone f = true → f.complete = true) → t.sPort.push = s.sPort.push ∧ t.sPort.lostPush = s.sPort.lostPush)
    ∧ ∀ n, s.sPort.push = .frame n → (∃ f ∈ s.sIn, gone f = true ∧ f.complete = false) →
        t.sPort.push = .ignoring n ∧ t.sPort.lostPush = true

/-- What a close leaves as it was: all but the descriptors, the slots, S-in, S-out, the free set, the push of the S-port and
what a fault event changes. -/
def State.sameButClosed (t s : State) : Prop :=
  t = { s with chans := t.chans, slots := t.slots, sIn := t.sIn, sOut := t.sOut, faults := t.faults,
               pool := { s.pool with free := t.pool.free, low := t.pool.low }, beacon := t.beacon,
               sPort := { s.sPort with faultCause := t.sPort.faultCause, push := t.sPort.push, lostPush := t.sPort.lostPush },
               lPort := { s.lPort with faultCause := t.lPort.faultCause } }

/-- DATA channel i has been closed between s and t (R14). -/
def State.closedFrom (t s : State) (i : Nat) : Prop :=
  t.sameButClosed s
    ∧ t.framesRemoved s (fun f => f.channel == i || (decide (f.channel ≤ 47) && (s.chan f.channel).aliasTo i))
    ∧ ((s.chan i).inEngine = false → t.chan i = {})
    ∧ ((s.chan i).inEngine = true → t.chan i =
        { s.chan i with state := .closing, flags := {}, aliasCount := 0, current := none, alternate := none })
    ∧ (∀ j, j ≠ i → t.chan j = if (s.chan j).aliasTo i then {} else s.chan j)
    ∧ ∀ x, t.slot x = { s.slot x with refs := (s.slot x).refs - (if (s.chan i).current = some x then 1 else 0)
                                                 - (if (s.chan i).alternate = some x then 1 else 0) }

/-- ALIAS i of target g has been closed between s and t (R15). -/
def State.aliasClosedFrom (t s : State) (i g : Nat) : Prop :=
  t.sameButClosed s ∧ t.framesRemoved s (fun f => f.channel == i) ∧ t.chan i = {} ∧ t.slots = s.slots
    ∧ ∀ j, j ≠ i → t.chan j = { s.chan j with
        aliasCount := if j = g then (s.chan j).aliasCount - 1 else (s.chan j).aliasCount }

/-! ### Values of words (R185) -/

/-- The value of a word made of four byte fields, bits 31–24 first. -/
def bytesWord (a b c d : Nat) : Nat := a % 256 * 2 ^ 24 + b % 256 * 2 ^ 16 + c % 256 * 2 ^ 8 + d % 256

/-- The value of a word made of two fields of 16 bits, bits 31–16 first. -/
def halvesWord (a b : Nat) : Nat := a % 2 ^ 16 * 2 ^ 16 + b % 2 ^ 16

/-! ### Ports (R168) -/

/-- The port has been answered with a status and result words (R168). -/
def PortState.answered (q : PortState) (st : Status) (ws : List Word) : Prop :=
  q.response = st.code :: ws ∧ q.responsePos = 0 ∧ q.responseCause = true ∧ q.cmd = .idle

/-- The port as a response leaves it, every other field as it was (R168). -/
def PortState.withAnswer (st : Status) (ws : List Word) (q : PortState) : PortState :=
  { q with response := st.code :: ws, responsePos := 0, responseCause := true, cmd := .idle }

/-- Between s and t port p has been reset by PART RESET or ERASE (R164): a push in progress ends as an ignored one with PUSH
lost (R166), a mailbox write with MAIL lost (R173), a command being written with COMMAND lost (R172), a command in progress
ends; positions, mailbox and enable set are at their defaults, MAIL is clear and FAULT latched, and all else but the response
is as it was. That a push or mailbox write already ignored goes on being ignored is log entry 16. -/
def State.portReset (t s : State) (p : Port) : Prop :=
  t.port p = { s.port p with
      push := (t.port p).push, mailWrite := (t.port p).mailWrite, cmd := .idle, enable := {}, pullPos := 0, mailbox := {},
      mailPos := 0, mailCause := false, faultCause := true, response := (t.port p).response, responsePos := 0,
      responseCause := (t.port p).responseCause, lostPush := (t.port p).lostPush, lostMail := (t.port p).lostMail,
      lostCommand := (t.port p).lostCommand }
    ∧ (∀ n, (s.port p).push = .frame n → (t.port p).push = .ignoring n ∧ (t.port p).lostPush = true)
    ∧ ((∀ n, (s.port p).push ≠ .frame n) → (t.port p).push = (s.port p).push ∧ (t.port p).lostPush = (s.port p).lostPush)
    ∧ (∀ n ws, (s.port p).mailWrite = .gathering n ws →
        (t.port p).mailWrite = .ignoring ((n + 3) / 4 - ws.length) ∧ (t.port p).lostMail = true)
    ∧ (∀ n, (s.port p).mailWrite = .ignoring n → (t.port p).mailWrite = .ignoring n ∧ (t.port p).lostMail = true)
    ∧ ((s.port p).mailWrite = .none → (t.port p).mailWrite = .none ∧ (t.port p).lostMail = (s.port p).lostMail)
    ∧ ((t.port p).lostCommand = true ↔ (s.port p).lostCommand = true ∨ ∃ ws, (s.port p).cmd = .writing ws)

/-- The part as it is but for the FAULT causes, the fault list and the beacon, all of which a fault event may change
(R150, R151, R158, R161). -/
def State.sameButFaults (s t : State) : Prop :=
  t = { s with faults := t.faults, beacon := t.beacon,
               sPort := { s.sPort with faultCause := t.sPort.faultCause },
               lPort := { s.lPort with faultCause := t.lPort.faultCause } }

/-! ### Keys out of sight (R25) -/

/-- The part with other key material in its slots. -/
def State.rekey (m : Nat → Block) (root pendingRoot : Block) (s : State) : State :=
  (s.mapSlots fun x v => { v with material := m x }).updRoot fun r =>
    { r with material := root, pendingRoot := r.pendingRoot.map fun _ => pendingRoot }

end Sys2Proof.Machine
end

