-- ==== Sys2Proof/Certificates/Slice0/Obligations.lean ====
section
/-! DEFINITION. The statements for the provers. Each docstring names the rule of spec/ it formalises; a statement that
rests on a choice of the model names the log entry. `t = { s with f := t.f, … }` says that no field of the part but
those listed changes. -/

open Sys2Proof Sys2Proof.Machine

/-! ### The step, the start and the laws -/

/-- A step runs the command at the front of the queue on the part with the queue's rest; on an empty queue the part
idles (log entry 1). -/
def Obligations.StepRunsFrontCommand : Prop :=
  (∀ (c : Instr) (q : List Instr) (s : State), s.pending = c :: q → step s = exec c { s with pending := q })
    ∧ ∀ s : State, s.pending = [] → step s = .next s

/-- Every well-formed command is carried out in every state and leaves the queue alone; a command that names a slot or a
context the part does not have faults (log entry 3). -/
def Obligations.CommandsGoOnExactlyWhenWellFormed : Prop :=
  ∀ (c : Instr) (s : State),
    (c.wf = true → ∃ t, exec c s = .next t ∧ t.pending = s.pending) ∧ (c.wf = false → ∃ r, exec c s = .fault r)

/-- R176 with R1, R2, R24, R75, R76, R128, R149, R155, R164: the part after power-on, with an empty non-volatile store
(log entry 10); every law of the part holds there. -/
def Obligations.ResetIsPowerOnState : Prop :=
  State.reset.partState = .boot ∧ State.reset.tick = 0 ∧ State.reset.eraseWindow = none
    ∧ State.reset.chan 0 = { kind := .control, state := .opened }
    ∧ (∀ i, 1 ≤ i → State.reset.chan i = {}) ∧ (∀ x, State.reset.slot x = {}) ∧ State.reset.root.active = false
    ∧ State.reset.pool = { free := 96, sPort := { af := 6, ae := 1 }, lPort := { af := 6, ae := 1 } }
    ∧ State.reset.sIn = [] ∧ State.reset.sOut = [] ∧ State.reset.lRx = [] ∧ State.reset.lTx = []
    ∧ State.reset.ctrl = [] ∧ State.reset.engine.work = none ∧ State.reset.engine.lastDirection = .outbound
    ∧ State.reset.link.quiet = .stopped ∧ State.reset.link.quietRemaining = 15
    ∧ State.reset.messenger.nextExchange = 1 ∧ State.reset.messenger.finished = []
    ∧ State.reset.renewal.list = [] ∧ (∀ c, (State.reset.ctx c).isOpen = false)
    ∧ State.reset.faults.records = [] ∧ State.reset.faults.nextId = 1 ∧ State.reset.faults.overflow = false
    ∧ State.reset.beacon.working = { mode := .continuous, period := 60, repeats := 0 }
    ∧ State.reset.beacon.running = true ∧ State.reset.beacon.remaining = 60
    ∧ (∀ p, (State.reset.port p).enable = { mail := true, response := true, fault := true, lost := true }
        ∧ (State.reset.port p).response = [] ∧ (State.reset.port p).cmd = .idle ∧ (State.reset.port p).push = .none)
    ∧ State.reset.Conserved ∧ State.reset.WithinCapacity ∧ State.reset.WithinHardLimits
    ∧ State.reset.MarksOfWork ∧ State.reset.RequestListLaw ∧ State.reset.FaultListLaw ∧ State.reset.KeyLaw

/-- R60, the law of buffer conservation, and R62, the law of queue capacity with the places R67 assures: every step
keeps the 96 buffers, and every queue within its places. -/
def Obligations.StepKeepsBuffersAndQueues : Prop :=
  ∀ s t : State, step s = .next t → (s.Conserved → t.Conserved) ∧ (s.WithinCapacity → t.WithinCapacity)

/-- R47, the law of the hard limit: every step keeps used U within hard limit H. -/
def Obligations.StepKeepsHardLimits : Prop := ∀ s t : State, step s = .next t → s.WithinHardLimits → t.WithinHardLimits

/-- R152, the law of the fault list, with R150's identifiers, and R128, R130, the request list within 8 entries, one per
slot, in its order: every step keeps both. -/
def Obligations.StepKeepsListLaws : Prop :=
  ∀ s t : State, step s = .next t → (s.FaultListLaw → t.FaultListLaw) ∧ (s.RequestListLaw → t.RequestListLaw)

/-- R6, R36: every step keeps the in-engine and engine-use marks on the frame in flight alone. R5, R7, R20 to R22, R4, R12, R28,
R115, R128, R132: every step keeps the reference counts, the levels of keys and channels, the aliases, the key links and the
renewal contexts in the law that ties them together. -/
def Obligations.StepKeepsMarksOfWork : Prop :=
  ∀ s t : State, step s = .next t → (s.MarksOfWork → t.MarksOfWork) ∧ (s.KeyLaw → t.KeyLaw)

/-- R32, R34, R37, R45: over any step, a working slot that is not EMPTY before or after holds the same key: its
generation, level, material and limits stand, its transmit counter and receive top do not decrease, and SPENT and
SUSPECT stay set. -/
def Obligations.StepKeepsKeyOfSlot : Prop :=
  ∀ (s t : State) (x : Nat), step s = .next t → (s.slot x).state ≠ .empty → (t.slot x).state ≠ .empty →
    (s.slot x).sameKey (t.slot x)

/-! ### Layouts and the cipher -/

/-- R186: the header block gives back every field of the header it was built from. R183: words carry a byte string and
give it back. R86: deciphering is the same operation as enciphering and undoes it. -/
def Obligations.FrameBytesRoundTrip : Prop :=
  (∀ h : LineHeader, headerOf h.block = h) ∧ (∀ b : Block, blockOfBytes (blockBytes b) = b)
    ∧ (∀ bs : List Byte, unpackWords bs.length (packWords (wordCount bs.length) bs) = bs)
    ∧ ∀ (k : Block) (f : CounterFields) (bs : List Byte),
        (encipher k f bs).length = bs.length ∧ encipher k f (encipher k f bs) = bs

/-- R38: the wrap check passes with key p exactly when the two blocks are p and p's check block, wrapped under the
root. -/
def Obligations.UnwrapAcceptsExactlyWrappedKeys : Prop :=
  ∀ (root c1 c2 p : Block) (target generation : Byte),
    unwrap root c1 c2 target generation = some p ↔
      Config.E root p = c1 ∧ Config.E root (firstHalf (Config.E p 0) ++ target ++ generation ++ (0 : BitVec 48)) = c2

/-! ### Power and time -/

/-- R176, R26: power-on gives every volatile field its power-on value, enters BOOT and reads slot 0 from the
non-volatile store; a counter update that had not completed is not there (log entry 9). -/
def Obligations.PowerOnReadsRoot : Prop :=
  ∀ (written : Bool) (s : State), ∃ t, exec (.powerOn written) s = .next t
    ∧ t = { State.reset with pending := s.pending, root := t.root }
    ∧ t.root = { s.root with pendingRoot := none, unsavedCounter := none, txCounter := t.root.txCounter }
    ∧ (written = true → t.root.txCounter = s.root.txCounter)
    ∧ (written = false → t.root.txCounter = s.root.unsavedCounter.getD s.root.txCounter)

/-- R35, R42, R55, R103, R136, R138, R145, R149, R157: what one tick counts, and that it changes nothing else. A backoff
that reaches 0 at this tick has its end due, and its mark stands otherwise. The due marks are the model's (log entry 4). -/
def Obligations.TickCounts : Prop :=
  ∀ s : State, ∃ t, exec .tick s = .next t
    ∧ t = { s with tick := t.tick, intervalTicks := s.intervalTicks + 1, eraseWindow := t.eraseWindow, slots := t.slots,
                   renewal := { s.renewal with contexts := t.renewal.contexts, backoff := t.renewal.backoff,
                                               bootBackoff := t.renewal.bootBackoff, bootRelist := t.renewal.bootRelist },
                   link := { s.link with quietRemaining := t.link.quietRemaining },
                   beacon := { s.beacon with remaining := t.beacon.remaining } }
    ∧ t.tick = (s.tick + 1) % 2 ^ 32
    ∧ (∀ x, (s.slot x).state = .active →
        t.slot x = { s.slot x with age := min ((s.slot x).age + 1) (2 ^ 32 - 1), ageTestDue := true, graceTestDue := true })
    ∧ (∀ x, (s.slot x).state = .draining → t.slot x = { s.slot x with drain := (s.slot x).drain - 1 })
    ∧ (∀ x, (s.slot x).state ≠ .active → (s.slot x).state ≠ .draining → t.slot x = s.slot x)
    ∧ (∀ p n, s.eraseWindow = some (p, n) → t.eraseWindow = some (p, n - 1))
    ∧ (s.eraseWindow = none → t.eraseWindow = none)
    ∧ (∀ c, (s.ctx c).isOpen = true → (s.ctx c).send = .sent → s.partState ≠ .quiesced →
        t.ctx c = { s.ctx c with reply := (s.ctx c).reply - 1 })
    ∧ (∀ c, (s.ctx c).isOpen = true → (s.ctx c).send = .sent → s.partState = .quiesced → t.ctx c = s.ctx c)
    ∧ (∀ c, (s.ctx c).isOpen = true → (s.ctx c).send = .compose → t.ctx c = { s.ctx c with retryDue := true })
    ∧ (∀ c, ((s.ctx c).isOpen = false ∨ (s.ctx c).send = .queued) → t.ctx c = s.ctx c)
    ∧ (let waits (a b : Backoff) : Prop := (a.remaining = 0 → b = a)
          ∧ (a.remaining = 1 → b = { remaining := 0, endDue := true })
          ∧ (2 ≤ a.remaining → b = { remaining := a.remaining - 1, endDue := a.endDue })
       s.partState ≠ .quiesced → (∀ x, waits (s.backoff x) (t.backoff x)) ∧ waits s.renewal.bootBackoff t.renewal.bootBackoff)
    ∧ (s.partState = .quiesced → (∀ x, t.backoff x = s.backoff x) ∧ t.renewal.bootBackoff = s.renewal.bootBackoff)
    ∧ t.renewal.bootRelist = (if s.renewal.bootRelist = .idle then .idle else .due)
    ∧ (s.link.quiet = .running → t.link.quietRemaining = s.link.quietRemaining - 1)
    ∧ (s.link.quiet ≠ .running → t.link.quietRemaining = s.link.quietRemaining)
    ∧ (s.beacon.running = true → s.partState ≠ .quiesced → t.beacon.remaining = s.beacon.remaining - 1)
    ∧ ((s.beacon.running = false ∨ s.partState = .quiesced) → t.beacon.remaining = s.beacon.remaining)

/-- R55: an age test that finds the age at or above A and REQUESTED clear sends an AGE trigger, which takes its place on
the request list (R129, R130) when no context, backoff or entry of the slot stands and the list has room. That a test is
due once for each tick is a mark of the model (log entry 4). -/
def Obligations.AgeTestSendsTrigger : Prop :=
  ∀ (s : State) (x : Nat), 1 ≤ x → x ≤ 23 → (s.slot x).ageTestDue = true → (s.slot x).state = .active →
    (s.slot x).maxAge ≤ (s.slot x).age → (s.slot x).requested = false →
    (∀ c, (s.ctx c).isOpen = true → (s.ctx c).subject ≠ some x) →
    s.backoff x = {} → (∀ e ∈ s.renewal.list, e.slot ≠ some x) → s.renewal.list.length < 8 →
    ∃ t, exec (.keyAgeLimit x) s = .next t
      ∧ t = { s with slots := t.slots, renewal := { s.renewal with list := t.renewal.list, received := t.renewal.received } }
      ∧ t.slot x = { s.slot x with ageTestDue := false, requested := true } ∧ (∀ y, y ≠ x → t.slot y = s.slot y)
      ∧ t.renewal.received = min (s.renewal.received + 1) 65535
      ∧ t.renewal.list.Perm ({ slot := some x, urgency := 1, reason := .age, arrival := t.renewal.received } :: s.renewal.list)

/-- R56: a key that outlives its grace is spent: SPENT is set, its channels and their aliases become EXHAUSTED (R20),
KEY_AGE_OVER is raised, and a SPENT trigger is received. That the test is due is a mark of the model (log entry 4). -/
def Obligations.GraceExpirySpendsKey : Prop :=
  ∀ (s : State) (x : Nat), 1 ≤ x → x ≤ 23 → (s.slot x).graceTestDue = true → (s.slot x).state = .active →
    (s.slot x).maxAge + 256 ≤ (s.slot x).age → (s.slot x).successor = none → (s.slot x).spent = false →
    ∃ t, exec (.keyGraceExpiry x) s = .next t
      ∧ t = { s with slots := t.slots, chans := t.chans, renewal := t.renewal, faults := t.faults, beacon := t.beacon,
                     sPort := { s.sPort with faultCause := t.sPort.faultCause },
                     lPort := { s.lPort with faultCause := t.lPort.faultCause } }
      ∧ t.slot x = { s.slot x with graceTestDue := false, spent := true, requested := (t.slot x).requested }
      ∧ (∀ y, y ≠ x → t.slot y = { s.slot y with requested := (t.slot y).requested })
      ∧ (∀ i, ((s.chan i).currentIs x = true ∧ (s.chan i).state = .opened
            ∨ ∃ r, (s.chan i).kind = .aliased ∧ (s.chan i).target = some r ∧ (s.chan r).currentIs x = true
                ∧ (s.chan r).state = .opened) → t.chan i = { s.chan i with state := .exhausted })
      ∧ (∀ i, ¬ ((s.chan i).currentIs x = true ∧ (s.chan i).state = .opened) →
          (∀ r, (s.chan i).kind = .aliased → (s.chan i).target = some r →
            ¬ ((s.chan r).currentIs x = true ∧ (s.chan r).state = .opened)) → t.chan i = s.chan i)
      ∧ t.faultStands .keyAgeOver (.slot x) ∧ t.renewal.received = min (s.renewal.received + 1) 65535

/-- R51, R52, R24, R71, R94, R105, R106: the end of an account interval. Every ACTIVE slot's rate takes an eighth of
its charge and loses an eighth of itself, and its interval charge becomes 0; the interval counts of slots, ports and
line become 0. A port with refused pushes raises PORT_OVERRUN, once and counted in its record, and one without clears it
when it was raised; a held MALFORMED_BURST or REPLAY_BURST mark whose count is 0 is cleared; no other fault event is sent.
R53, R54: where one slot alone is ACTIVE, without a successor and with REQUESTED clear, it sends at most one
trigger, SPENT, PROJECTED, SUSPECT or SOFT, be it listed or not. That eight ticks make an end due, the order of the blocks,
and that a SPENT slot sends SPENT before its projection is asked are log entries 4, 13 and 31. -/
def Obligations.IntervalEndAverages : Prop :=
  ∀ s : State, 8 ≤ s.intervalTicks →
    ∃ t, exec .accountIntervalEnd s = .next t
      ∧ t = { s with intervalTicks := s.intervalTicks - 8, slots := t.slots, pool := t.pool, link := t.link,
                     engine := { s.engine with burst := t.engine.burst },
                     renewal := { s.renewal with list := t.renewal.list, received := t.renewal.received,
                                                 notListed := t.renewal.notListed, replaced := t.renewal.replaced },
                     faults := t.faults, beacon := t.beacon,
                     sPort := { s.sPort with faultCause := t.sPort.faultCause },
                     lPort := { s.lPort with faultCause := t.lPort.faultCause } }
      ∧ (∀ x, (s.slot x).state = .active → t.slot x =
          { s.slot x with rate := min ((s.slot x).rate - (s.slot x).rate / 8 + (s.slot x).intervalCharge / 8) 16777215,
                          intervalCharge := 0, tagFailures := 0, replays := 0, requested := (t.slot x).requested })
      ∧ (∀ x, (s.slot x).state ≠ .active →
          t.slot x = { s.slot x with tagFailures := 0, replays := 0, requested := (t.slot x).requested })
      ∧ t.pool = { s.pool with sPort := { s.pool.sPort with overrun := 0, raised := decide (0 < s.pool.sPort.overrun) },
                               lPort := { s.pool.lPort with overrun := 0, raised := decide (0 < s.pool.lPort.overrun) } }
      ∧ t.link = { s.link with lastMalformed := s.link.malformed, lastForeign := s.link.foreign,
                               lastOverrun := s.link.overrun, malformed := 0, foreign := 0, overrun := 0,
                               malformedMark := s.link.malformedMark && decide (0 < s.link.malformed) }
      ∧ (∀ x, t.burst x = (s.burst x && decide (0 < (s.slot x).replays)))
      ∧ (s.FaultListLaw → ∀ (k : FaultKind) (u : Subject),
          let raised : Prop := k = .portOverrun ∧ ∃ p, u = .port p ∧ 0 < (s.pool.port p).overrun
          let cleared : Prop :=
            (k = .portOverrun ∧ ∃ p, u = .port p ∧ (s.pool.port p).overrun = 0 ∧ (s.pool.port p).raised = true)
            ∨ (k = .malformedBurst ∧ u = .link ∧ s.link.malformedMark = true ∧ s.link.malformed = 0)
            ∨ (k = .replayBurst ∧ ∃ x, 1 ≤ x ∧ x ≤ 23 ∧ u = .slot x ∧ s.burst x = true ∧ (s.slot x).replays = 0)
          (raised → t.faultStands k u
            ∧ ∀ r ∈ s.faults.records, r.kind = k → r.subject = u → r.active = true →
                ∃ q ∈ t.faults.records, q.id = r.id ∧ q.last = s.tick
                  ∧ q.count = if r.count < 255 then r.count + 1 else r.count)
          ∧ (cleared → ∀ r ∈ t.faults.records, r.kind = k → r.subject = u → r.active = false)
          ∧ (¬ raised → ¬ cleared → (∀ r ∈ t.faults.records, r.kind = k → r.subject = u → r ∈ s.faults.records)
            ∧ ∀ r ∈ s.faults.records, r.kind = k → r.subject = u → r.active = true → r ∈ t.faults.records))
      ∧ ∀ (x rate left : Nat) (reason : Option Reason), (s.slot x).state = .active →
          (∀ y, y ≠ x → (s.slot y).state ≠ .active) → rate = (t.slot x).rate →
          left = (if (s.slot x).hard ≤ (s.slot x).used then 0 else if rate = 0 then 65535
            else min 65535 (((s.slot x).hard - (s.slot x).used) / rate)) →
          reason = (if (s.slot x).requested = true ∨ (s.slot x).successor ≠ none then none
            else if (s.slot x).spent = true then some .spent else if left ≤ (s.slot x).lead then some .projected
            else if (s.slot x).suspect = true then some .suspect
            else if (s.slot x).soft ≤ (s.slot x).used then some .soft else none) →
          (reason = none → t.renewal = s.renewal)
          ∧ ∀ r, reason = some r → t.renewal.received = min (s.renewal.received + 1) 65535
            ∧ ((∀ c, (s.ctx c).isOpen = true → (s.ctx c).subject ≠ some x) → s.backoff x = {} →
              (∀ e ∈ s.renewal.list, e.slot ≠ some x) →
              (s.renewal.list.length < 8 → (t.slot x).requested = true ∧ t.renewal.list.Perm
                ({ slot := some x, urgency := if r = .spent ∨ r = .suspect then 2 else 0, reason := r,
                   arrival := t.renewal.received } :: s.renewal.list))
              ∧ (8 ≤ s.renewal.list.length → (∀ e ∈ s.renewal.list, 2 ≤ e.urgency) → t.renewal.list = s.renewal.list
                  ∧ (t.slot x).requested = false))

/-- R35, R22, R33: a drain end with the engine-use mark clear drops the slot from every alternate, empties it and
removes every link naming it; with the mark set it waits, as the model has it by changing nothing (log entry 5), and is
performed when the frame under the slot completes. -/
def Obligations.DrainEndEmptiesSlot : Prop :=
  (∀ (s : State) (x : Nat), 1 ≤ x → x ≤ 23 → (s.slot x).state = .draining → (s.slot x).drain = 0 →
    ((s.slot x).engineUse = true → exec (.drainEnd x) s = .next s)
      ∧ ((s.slot x).engineUse = false → ∃ t, exec (.drainEnd x) s = .next t
        ∧ t = { s with slots := t.slots, chans := t.chans, engine := { s.engine with burst := t.engine.burst },
                       faults := t.faults, beacon := t.beacon,
                       sPort := { s.sPort with faultCause := t.sPort.faultCause },
                       lPort := { s.lPort with faultCause := t.lPort.faultCause } }
        ∧ t.slot x = {} ∧ t.burst x = false ∧ (∀ y, y ≠ x → t.burst y = s.burst y)
        ∧ (∀ y, y ≠ x → t.slot y =
            { s.slot y with predecessor := if (s.slot y).predecessor = some x then none else (s.slot y).predecessor,
                            successor := if (s.slot y).successor = some x then none else (s.slot y).successor })
        ∧ (∀ i, t.chan i =
            { s.chan i with alternate := if (s.chan i).alternate = some x then none else (s.chan i).alternate })))
  ∧ ∀ (s : State) (x n c : Nat) (k : WorkKey) (i : Instr), k.ref = .slot x → 1 ≤ x → x ≤ 23 → c < 48 →
      (s.slot x).state = .draining → (s.slot x).drain = 0 →
      ((i = .outboundCompletion ∧ ∃ f, s.engine.work = some (.outData f k n c))
        ∨ (i = .outboundCompletion ∧ ∃ m, s.engine.work = some (.outControl m k n))
        ∨ (i = .inboundCompletion ∧ ∃ f, s.engine.work = some (.inbound f k n c) ∧ (f.parts.header.kind = kindData
          ∨ f.parts.header.kind = kindControl ∧ ((s.handleControl (f.payload k.material)).slot x).state = .draining
            ∧ ((s.handleControl (f.payload k.material)).slot x).drain = 0))) →
      ∃ t, exec i s = .next t ∧ t.engine.work = none ∧ t.slot x = {} ∧ (∀ j, (t.chan j).alternate ≠ some x)
        ∧ ∀ y, (t.slot y).predecessor ≠ some x ∧ (t.slot y).successor ≠ some x

/-- R103: the quiet watch raises LINK_QUIET once and holds its mark. -/
def Obligations.QuietWatchRaisesOnce : Prop :=
  ∀ s : State, s.link.quiet = .running → s.link.quietRemaining = 0 →
    (s.link.quietMark = true → exec .quietWatchExpiry s = .next s)
      ∧ (s.link.quietMark = false → ∃ t, exec .quietWatchExpiry s = .next t
        ∧ ({ s with link := { s.link with quietMark := true } } : State).sameButFaults t ∧ t.faultStands .linkQuiet .link)

/-- R136, R135, R70, R145: at attempt 1 or 2 the reply timer's expiry, and at a tick a context left in COMPOSE, composes the
message of the context's state, when the composition can succeed; with no buffer free it fails, raises POOL_LOW and leaves
the context in COMPOSE. R189: the bytes of a KEY REQUEST and of a KEY ACCEPT. The retry mark and the serial number are the
model's (log entries 4, 20). -/
def Obligations.ContextComposesAgain : Prop :=
  ∀ (s : State) (c : Nat), c < 4 → (s.ctx c).isOpen = true → ∀ (i : Instr) (attempt : Nat),
    (s.partState = .bootstrap ∨ s.partState = .run ∨ s.partState = .quiesced ∧ i = .contextComposeRetry c) →
    (i = .replyTimerExpiry c ∧ (s.ctx c).send = .sent ∧ (s.ctx c).reply = 0 ∧ (s.ctx c).attempt < 3
        ∧ attempt = (s.ctx c).attempt + 1)
      ∨ (i = .contextComposeRetry c ∧ (s.ctx c).send = .compose ∧ (s.ctx c).retryDue = true
        ∧ attempt = (s.ctx c).attempt) →
    (0 < s.pool.free → s.ctrl.length < 8 → ∃ t, exec i s = .next t
      ∧ t = { s with pool := { s.pool with free := s.pool.free - 1 }, ctrl := t.ctrl, renewal := t.renewal }
      ∧ t.ctx c = { s.ctx c with attempt := attempt, send := .queued, retryDue := false,
                                 latest := some s.renewal.nextSerial }
      ∧ (∀ d, d ≠ c → t.ctx d = s.ctx d)
      ∧ (∀ v, v = ((s.ctx c).subject.map s.slot).getD {} → (s.ctx c).state = .awaitDelivery → t.ctrl = s.ctrl ++
          [{ payload := natBytes 1 0x11 ++ natBytes 1 ((s.ctx c).exchange.getD 0) ++ natBytes 1 ((s.ctx c).subject.getD 0)
               ++ [v.generation] ++ natBytes 1 (reasonCode (s.ctx c).reason) ++ natBytes 1 attempt ++ natBytes 4 v.used
               ++ natBytes 4 v.rate ++ natBytes 4 v.hard
             serial := s.renewal.nextSerial }])
      ∧ (∀ y, y = (s.ctx c).successor.getD 0 → (s.ctx c).state = .awaitCommit → t.ctrl = s.ctrl ++
          [{ payload := natBytes 1 0x12 ++ natBytes 1 ((s.ctx c).exchange.getD 0) ++ natBytes 1 y ++ [(s.slot y).generation]
             serial := s.renewal.nextSerial }]))
    ∧ (s.pool.free = 0 → ∃ t, exec i s = .next t
      ∧ t = { s with pool := { s.pool with low := true },
                     renewal := { s.renewal with contexts := t.renewal.contexts }, faults := t.faults, beacon := t.beacon,
                     sPort := { s.sPort with faultCause := t.sPort.faultCause },
                     lPort := { s.lPort with faultCause := t.lPort.faultCause } }
      ∧ t.ctx c = { s.ctx c with attempt := attempt, send := .compose, retryDue := false, latest := (t.ctx c).latest }
      ∧ (∀ d, d ≠ c → t.ctx d = s.ctx d) ∧ t.faultStands .poolLow .nothing)

/-- R137, R116, R138: at attempt 3 the exchange fails: RENEWAL_FAILED is raised, the context is FREE, its number ends the
finished list, and its subject's backoff is 64; a staged successor is discarded. R140: a KEY REFUSE ends the exchange it
names in the same way, refused, with RENEWAL_REFUSED and the last refusal kept. R116: one that names none is stale. -/
def Obligations.ThirdExpiryFailsExchange : Prop :=
  (∀ (s : State) (c x e : Nat), c < 4 → (s.ctx c).isOpen = true → (s.ctx c).send = .sent → (s.ctx c).reply = 0 →
    s.partState ≠ .quiesced → 3 ≤ (s.ctx c).attempt → (s.ctx c).kind = some .renewal → (s.ctx c).subject = some x →
    1 ≤ x → x ≤ 23 → (s.ctx c).exchange = some e →
    ∃ t, exec (.replyTimerExpiry c) s = .next t ∧ t.ctx c = {} ∧ (∀ d, d ≠ c → t.ctx d = s.ctx d)
      ∧ t.backoff x = { remaining := 64 } ∧ t.messenger.finished.getLast? = some e
      ∧ t.renewal.failed = min (s.renewal.failed + 1) 65535 ∧ t.faultStands .renewalFailed (.slot x)
      ∧ (∀ y, 1 ≤ y → (s.ctx c).successor = some y → (s.slot y).state = .staged → t.slot y = {})
      ∧ ((s.ctx c).successor = none → t.slots = s.slots) ∧ t.chans = s.chans ∧ t.pool = s.pool ∧ t.ctrl = s.ctrl)
  ∧ (∀ (s : State) (c e reason : Nat) (x : Subject), c < 4 → (s.ctx c).isOpen = true → (s.ctx c).exchange = some e →
    (∀ d, d < c → (s.ctx d).exchange ≠ some e) →
    (((s.ctx c).kind = some .renewal ∧ ∃ y, 1 ≤ y ∧ y ≤ 23 ∧ (s.ctx c).subject = some y ∧ x = .slot y)
      ∨ (((s.ctx c).kind = some .boot ∨ (s.ctx c).kind = some .install ∨ (s.ctx c).kind = some .root) ∧ x = .slot 0)) →
    let t := s.takeMessage (.refuse e reason)
    t.ctx c = {} ∧ (∀ d, d ≠ c → t.ctx d = s.ctx d)
      ∧ t.messenger = { s.messenger with lastRefusal := some (e, reason), finished := t.messenger.finished }
      ∧ t.messenger.finished.getLast? = some e
      ∧ t.renewal = { s.renewal with contexts := t.renewal.contexts, backoff := t.renewal.backoff,
                                     bootBackoff := t.renewal.bootBackoff, refused := min (s.renewal.refused + 1) 65535 }
      ∧ t.faultStands .renewalRefused x
      ∧ (∀ y, t.backoff y = if x = .slot y ∧ 1 ≤ y then { remaining := 64 } else s.backoff y)
      ∧ t.renewal.bootBackoff = (if (s.ctx c).kind = some .boot then { remaining := 64 } else s.renewal.bootBackoff)
      ∧ (∀ y, 1 ≤ y → (s.ctx c).successor = some y → (s.slot y).state = .staged → t.slot y = {})
      ∧ ((s.ctx c).successor = none ∨ (s.ctx c).successor = some 0 → t.slots = s.slots)
      ∧ t.root = { s.root with pendingRoot := if (s.ctx c).successor = some 0 then none else s.root.pendingRoot }
      ∧ t.partState = s.partState ∧ t.chans = s.chans ∧ t.pool = s.pool ∧ t.ctrl = s.ctrl)
  ∧ ∀ (s : State) (e reason : Nat), (∀ c, (s.ctx c).isOpen = true → (s.ctx c).exchange ≠ some e) →
    s.takeMessage (.refuse e reason) =
      { s with messenger := { s.messenger with stale := min (s.messenger.stale + 1) 65535 } }

/-- R138: at the end of a slot's backoff its REQUESTED flag is cleared. R131, R138: at the end of the boot backoff, and at
the tick after a BOOT trigger found no place, the BOOT trigger is listed anew while the part is BOOTSTRAP and channel 0
unbound. The due marks are the model's (log entry 4). -/
def Obligations.BackoffEndFreesTriggers : Prop :=
  (∀ (s : State) (x : Nat), 1 ≤ x → x ≤ 23 → (s.backoff x).endDue = true → s.partState ≠ .quiesced →
    ∃ t, exec (.backoffEnd x) s = .next t
      ∧ t = { s with slots := t.slots, renewal := { s.renewal with backoff := t.renewal.backoff } }
      ∧ t.backoff x = {} ∧ (∀ y, y ≠ x → t.backoff y = s.backoff y)
      ∧ t.slot x = { s.slot x with requested := false } ∧ (∀ y, y ≠ x → t.slot y = s.slot y))
  ∧ ∀ (s : State) (i : Instr), s.partState = .bootstrap → (s.chan 0).current = none →
    (∀ c, (s.ctx c).isOpen = true → (s.ctx c).kind ≠ some .boot) → (∀ e ∈ s.renewal.list, e.slot ≠ none) →
    s.renewal.list.length < 8 →
    (i = .bootBackoffEnd ∧ s.renewal.bootBackoff.endDue = true
      ∨ i = .bootTriggerRelisted ∧ s.renewal.bootRelist = .due ∧ s.renewal.bootBackoff = {}) →
    ∃ t, exec i s = .next t
      ∧ t = { s with renewal := { s.renewal with list := t.renewal.list, received := t.renewal.received,
                                                 bootBackoff := {}, bootRelist := t.renewal.bootRelist } }
      ∧ t.renewal.received = min (s.renewal.received + 1) 65535
      ∧ t.renewal.list.Perm ({ slot := none, urgency := 2, reason := .boot, arrival := t.renewal.received } :: s.renewal.list)

/-- R157, R158, R159: a cycle end makes a report exactly when the part is RUN and the cycle mode asks for one, and the
composition can succeed; then the beacon stops or starts its next cycle. A report carries the first 4 unacked records of the
list read from after the position marker round to it, and the marker moves to the last one carried. R189, R184: the bytes of
the report. The serial number of the composed message is the model's (log entry 20). -/
def Obligations.BeaconCycleEndReports : Prop :=
  [FaultKind.linkQuiet, .tagFails, .replayBurst, .malformedBurst, .keySpent, .keyAgeOver, .renewalFailed, .renewalRefused,
      .noKeySlot, .poolLow, .portOverrun, .selfCheckFail, .restarted, .erased].map FaultKind.code =
    [1, 2, 3, 4, 5, 6, 7, 8, 9, 10, 11, 12, 13, 14]
  ∧ (∀ x, (Subject.slot x).code = x) ∧ (Subject.port .s).code = 0 ∧ (Subject.port .l).code = 1 ∧ Subject.link.code = 0
  ∧ Subject.nothing.code = 0
  ∧ ∀ s : State, s.beacon.running = true → s.beacon.remaining = 0 → s.partState ≠ .quiesced → 0 < s.pool.free →
    s.ctrl.length < 8 →
    let asks : Prop := s.partState = .run
      ∧ ((s.beacon.cycleMode = .continuous
            ∧ ((∃ r ∈ s.faults.records, r.acked < r.count) ∨ s.faults.overflow = true))
          ∨ (s.beacon.cycleMode = .oneShot ∧ 0 < s.beacon.oneShot))
    ∃ t, exec .beaconCycleEnd s = .next t
      ∧ (s.beacon.lastCycle = true → t.beacon.running = false ∧ t.beacon.lastCycle = false)
      ∧ (s.beacon.lastCycle = false → t.beacon.running = true ∧ t.beacon.remaining = s.beacon.working.period
          ∧ t.beacon.cycleMode = s.beacon.working.mode)
      ∧ (¬ asks → t = { s with beacon := t.beacon } ∧ t.beacon.nextReport = s.beacon.nextReport
          ∧ t.beacon.marker = s.beacon.marker ∧ t.beacon.oneShot = s.beacon.oneShot)
      ∧ (asks → ∃ rs : List FaultRecord, rs.length ≤ 4 ∧ (∀ r ∈ rs, r ∈ s.faults.records ∧ r.acked < r.count)
          ∧ (rs.length < 4 → ∀ r ∈ s.faults.records, r.acked < r.count → r ∈ rs)
          ∧ (s.beacon.marker = none → rs = (s.faults.records.filter fun r => decide (r.acked < r.count)).take 4)
          ∧ (∀ pre m post, s.faults.records = pre ++ m :: post → s.beacon.marker = some m.id → (∀ r ∈ pre, r.id ≠ m.id) →
              rs = ((post ++ pre ++ [m]).filter fun r => decide (r.acked < r.count)).take 4)
          ∧ (rs = [] → t.beacon.marker = s.beacon.marker) ∧ (∀ r, rs.getLast? = some r → t.beacon.marker = some r.id)
          ∧ t = { s with ctrl := t.ctrl, pool := { s.pool with free := s.pool.free - 1 },
                         faults := { s.faults with records := t.faults.records,
                                                   overflowReports := t.faults.overflowReports },
                         renewal := { s.renewal with nextSerial := s.renewal.nextSerial + 1 }, beacon := t.beacon }
          ∧ t.ctrl = s.ctrl ++
              [{ payload := natBytes 1 0x14 ++ natBytes 1 s.beacon.nextReport ++ [if s.faults.overflow then 1 else 0]
                   ++ natBytes 1 rs.length ++ rs.flatMap fun r => natBytes 1 r.id ++ natBytes 1 r.kind.code
                     ++ natBytes 1 r.subject.code ++ natBytes 1 r.count ++ natBytes 4 r.first ++ natBytes 4 r.last
                     ++ [if r.active then 1 else 2]
                 serial := s.renewal.nextSerial }]
          ∧ t.faults.records = s.faults.records.map (fun q => if rs.any (fun r => r.id == q.id) then { q with reported := true } else q)
          ∧ (s.faults.overflow = false → t.faults.overflowReports = s.faults.overflowReports)
          ∧ (s.faults.overflow = true → t.faults.overflowReports =
              (if 4 ≤ s.faults.overflowReports.length then s.faults.overflowReports.tail else s.faults.overflowReports)
                ++ [s.beacon.nextReport])
          ∧ t.beacon.nextReport = (if 255 ≤ s.beacon.nextReport then 1 else s.beacon.nextReport + 1)
          ∧ t.beacon.oneShot = (if s.beacon.cycleMode = .oneShot then s.beacon.oneShot - 1 else s.beacon.oneShot))

/-- R133, R134, R115, R135: the first eligible entry opens the lowest FREE context, under the first exchange number from the
next one upwards that no open context holds, and its KEY REQUEST is composed, with the bytes of R189 and R184 and a serial
number of the model's (log entry 20). -/
def Obligations.ExchangeStartOpensContext : Prop :=
  ([Reason.soft, .projected, .age, .spent, .suspect, .order, .locally, .boot].map fun r => reasonCode (some r)) =
    [1, 2, 3, 4, 5, 6, 7, 8]
  ∧ ∀ (s : State) (pre post : List Entry) (e : Entry) (c : Nat), s.renewal.list = pre ++ e :: post →
    (∀ f ∈ pre, s.eligible f = false) →
    ((∃ x, e.slot = some x ∧ (s.slot x).state = .active ∧ (s.slot x).predecessor = none ∧ s.partState = .run)
      ∨ (e.slot = none ∧ s.partState = .bootstrap ∧ (s.chan 0).current = none)) →
    c < 4 → (s.ctx c).isOpen = false → (∀ d, d < c → (s.ctx d).isOpen = true) → 0 < s.pool.free → s.ctrl.length < 8 →
    1 ≤ s.messenger.nextExchange → s.messenger.nextExchange ≤ 255 →
    ∃ t n, exec .exchangeStart s = .next t ∧ s.firstExchange n
      ∧ t = { s with renewal := { s.renewal with list := pre ++ post, contexts := t.renewal.contexts,
                                                 started := min (s.renewal.started + 1) 65535,
                                                 nextSerial := s.renewal.nextSerial + 1 },
                     ctrl := t.ctrl, pool := { s.pool with free := s.pool.free - 1 },
                     messenger := { s.messenger with nextExchange := if n = 255 then 1 else n + 1,
                                                     finished := s.messenger.finished.filter (· != n) } }
      ∧ t.ctx c = { state := .awaitDelivery, exchange := some n, kind := some (if e.slot = none then .boot else .renewal),
                    subject := e.slot, reason := some e.reason, send := .queued, latest := some s.renewal.nextSerial }
      ∧ (∀ d, d ≠ c → t.ctx d = s.ctx d)
      ∧ ∀ v, v = (e.slot.map s.slot).getD {} → t.ctrl = s.ctrl ++
          [{ payload := natBytes 1 0x11 ++ natBytes 1 n ++ natBytes 1 (e.slot.getD 0) ++ [v.generation]
               ++ natBytes 1 (reasonCode (some e.reason)) ++ [1] ++ natBytes 4 v.used ++ natBytes 4 v.rate ++ natBytes 4 v.hard
             serial := s.renewal.nextSerial }]

/-! ### The engine -/

/-- R78, R100: the SELF CHECK is taken once, in BOOT. R176: it sends the part to FAILED when the engine's result is not
the known-answer value, else to NO_ROOT or BOOTSTRAP by slot 0; an ERASE that waits is then executed. The upset is the
model's (log entry 8). -/
def Obligations.SelfCheckDecidesPartState : Prop :=
  (∀ s : State, s.partState = .boot → s.selfCheckPending = true → s.engine.work = none →
    exec .selfCheckStart s =
      .next { s with selfCheckPending := false, engine := { s.engine with work := some .selfCheck } })
  ∧ ∀ (s : State) (upset : Block), s.engine.work = some .selfCheck →
      ((∀ p, (s.port p).cmd ≠ .inProgress .erase) → ∃ t, exec (.selfCheckCompletion upset) s = .next t
        ∧ t = { s with partState := t.partState, engine := { s.engine with work := none }, slots := t.slots,
                       renewal := t.renewal }
        ∧ t.partState = (if upset ≠ 0 then .failed else if s.root.active then .bootstrap else .noRoot)
        ∧ (t.partState ≠ .bootstrap → t.renewal = s.renewal)
        ∧ ((t.partState ≠ .bootstrap ∨ s.renewal.list.length < 8) → t.slots = s.slots)
        ∧ (∀ x, t.slot x = { s.slot x with requested := (t.slot x).requested })
        ∧ (t.partState = .bootstrap → t.renewal.received = min (s.renewal.received + 1) 65535))
      ∧ ∀ p, (s.port p).cmd = .inProgress .erase → (s.port p.other).cmd ≠ .inProgress .erase →
          ∃ t, exec (.selfCheckCompletion upset) s = .next t
            ∧ t.partState = (if upset ≠ 0 then .failed else .noRoot) ∧ (t.port p).answered .done [3]
            ∧ t.root = {} ∧ (∀ x, t.slot x = {}) ∧ t.pool.free = 96

/-- R7, R47, R82, R34, R36, R6: a shop frame that resolves and whose charge fits is charged, draws its counter, sets the
marks, counts as sent and goes into flight under the current slot of the resolved descriptor. R49: with REQUESTED clear and
U now at or above S a SOFT trigger is received, and listed where nothing stands against it; else no trigger is. -/
def Obligations.OutboundDataStartCharges : Prop :=
  ∀ (s : State) (pre post : List ShopFrame) (f : ShopFrame) (r x : Nat),
    s.engine.work = none → s.partState = .run → s.lTx.length < 32 → s.ctrl = [] →
    (∀ q, s.link.test = some q → q.offered = false) →
    (s.inboundEligible = false ∨ s.engine.lastDirection = .inbound) → s.sIn = pre ++ f :: post → f.complete = true →
    ((s.urgent f = true ∧ ∀ g ∈ pre, g.complete = true → s.urgent g = false)
      ∨ ((∀ g ∈ s.sIn, g.complete = true → s.urgent g = false) ∧ ∀ g ∈ pre, g.complete = false)) →
    1 ≤ f.channel → f.channel ≤ 47 →
    (((s.chan f.channel).kind = .data ∧ r = f.channel)
      ∨ ((s.chan f.channel).kind = .aliased ∧ (s.chan f.channel).target = some r)) →
    f.level ≤ (s.chan f.channel).level → (s.chan f.channel).flags.hold = false → (s.chan r).flags.hold = false →
    (s.chan r).state = .opened → (s.chan r).current = some x → 1 ≤ x → x ≤ 23 → (s.slot x).spent = false →
    (s.slot x).used + ((f.length + 15) / 16 + 2) ≤ (s.slot x).hard →
    ∃ t, exec .outboundDataStart s = .next t
      ∧ t = { s with sIn := pre ++ post, slots := t.slots, chans := t.chans,
                     renewal := { s.renewal with list := t.renewal.list, received := t.renewal.received,
                                                 notListed := t.renewal.notListed, replaced := t.renewal.replaced },
                     engine := { s.engine with
                                 lastDirection := .outbound,
                                 work := some (.outData f (s.slotKey x) (s.slot x).txCounter r) } }
      ∧ t.slot x = { s.slot x with used := (s.slot x).used + ((f.length + 15) / 16 + 2),
                                   intervalCharge := min ((s.slot x).intervalCharge + ((f.length + 15) / 16 + 2)) 4294967295,
                                   txCounter := (s.slot x).txCounter + 1, engineUse := true,
                                   requested := (t.slot x).requested }
      ∧ (∀ y, y ≠ x → t.slot y = { s.slot y with requested := (t.slot y).requested })
      ∧ (((s.slot x).requested = true ∨ (s.slot x).used + ((f.length + 15) / 16 + 2) < (s.slot x).soft) →
          t.renewal = s.renewal ∧ ∀ y, (t.slot y).requested = (s.slot y).requested)
      ∧ ((s.slot x).requested = false → (s.slot x).soft ≤ (s.slot x).used + ((f.length + 15) / 16 + 2) →
          t.renewal.received = min (s.renewal.received + 1) 65535
            ∧ ((s.slot x).state = .active → (∀ c, (s.ctx c).isOpen = true → (s.ctx c).subject ≠ some x) → s.backoff x = {} →
                (∀ e ∈ s.renewal.list, e.slot ≠ some x) → s.renewal.list.length < 8 → (t.slot x).requested = true
                ∧ t.renewal.list.Perm
                    ({ slot := some x, urgency := 0, reason := .soft, arrival := t.renewal.received } :: s.renewal.list)))
      ∧ (∀ j, t.chan j = { s.chan j with
          sent := if j = f.channel then min ((s.chan j).sent + 1) 4294967295 else (s.chan j).sent,
          inEngine := if j = r then true else (s.chan j).inEngine })

/-- R81, R7, R83, R68, R9: a shop frame taken outside RUN, or that R7 refuses for its channel, its level, HOLD of the channel
or of an alias's target, or a key spent, becomes a notice when its descriptor has NOTIFY and S-out has a free place, and
returns its buffer otherwise; it counts as refused on a descriptor that is not EMPTY unless the reason is NO_CHANNEL; no work
stays in the engine. R48: a frame whose charge would pass H spends its key and is refused KEY_SPENT. -/
def Obligations.OutboundDataRefusalGivesNotice : Prop :=
  ∀ (s : State) (f : ShopFrame) (rest : List ShopFrame),
    s.engine.work = none → s.lTx.length < 32 → s.ctrl = [] → (∀ q, s.link.test = some q → q.offered = false) →
    (s.inboundEligible = false ∨ s.engine.lastDirection = .inbound) → s.sIn = f :: rest → f.complete = true →
    (∀ g ∈ rest, g.complete = true → s.urgent g = false) →
    let named : Prop := f.channel ≤ 47 ∧ (s.chan f.channel).kind ≠ .empty
    let notice : Prop := named ∧ (s.chan f.channel).flags.notify = true ∧ s.sOut.length + s.pool.setAside.toNat < 32
    let resolvesTo (r : Nat) : Prop := 1 ≤ f.channel ∧ f.channel ≤ 47
      ∧ (((s.chan f.channel).kind = .data ∧ r = f.channel)
        ∨ ((s.chan f.channel).kind = .aliased ∧ (s.chan f.channel).target = some r))
    let held (r : Nat) : Prop := (s.chan f.channel).flags.hold = true ∨ (s.chan r).flags.hold = true
    (∀ why : RefuseReason,
      ((s.partState = .noRoot ∨ s.partState = .bootstrap) ∧ why = .notReady
        ∨ s.partState = .run ∧ (f.channel = 0 ∨ 47 < f.channel ∨ (s.chan f.channel).kind = .empty) ∧ why = .noChannel
        ∨ s.partState = .run ∧ ∃ r, resolvesTo r ∧ ((s.chan f.channel).level < f.level ∧ why = .level
            ∨ f.level ≤ (s.chan f.channel).level ∧ held r ∧ why = .held
            ∨ f.level ≤ (s.chan f.channel).level ∧ ¬ held r ∧ (s.chan r).state = .exhausted ∧ why = .keySpent)) →
      ∃ t, exec .outboundDataStart s = .next t
        ∧ t = { s with sIn := rest, sOut := t.sOut, chans := t.chans, engine := { s.engine with lastDirection := .outbound },
                       pool := { s.pool with free := t.pool.free, low := t.pool.low }, faults := t.faults, beacon := t.beacon,
                       sPort := { s.sPort with faultCause := t.sPort.faultCause },
                       lPort := { s.lPort with faultCause := t.lPort.faultCause } }
        ∧ (notice → t.pool = s.pool ∧ t.sOut = s.sOut ++
            [{ channel := f.channel, level := f.level, length := f.length, refusal := some why }])
        ∧ (¬ notice → t.sOut = s.sOut ∧ t.pool.free = s.pool.free + 1)
        ∧ (named → why ≠ .noChannel →
            t.chan f.channel = { s.chan f.channel with refused := min ((s.chan f.channel).refused + 1) 4294967295 })
        ∧ (¬ (named ∧ why ≠ .noChannel) → t.chans = s.chans) ∧ (∀ j, j ≠ f.channel → t.chan j = s.chan j))
    ∧ ∀ r x, s.partState = .run → resolvesTo r → f.level ≤ (s.chan f.channel).level → ¬ held r →
      (s.chan r).kind = .data → (s.chan r).state = .opened → (s.chan r).current = some x → 1 ≤ x → x ≤ 23 →
      (s.slot x).spent = false → (s.slot x).hard < (s.slot x).used + ((f.length + 15) / 16 + 2) →
      ∃ t, exec .outboundDataStart s = .next t ∧ t.keySpentIn s x
        ∧ t.engine = { s.engine with lastDirection := .outbound } ∧ t.sIn = rest ∧ t.root = s.root
        ∧ (notice → t.pool = s.pool ∧ t.sOut = s.sOut ++
            [{ channel := f.channel, level := f.level, length := f.length, refusal := some .keySpent }])
        ∧ (¬ notice → t.sOut = s.sOut ∧ t.pool.free = s.pool.free + 1)
        ∧ t.chan f.channel = { s.chan f.channel with state := .exhausted,
                                                     refused := min ((s.chan f.channel).refused + 1) 4294967295 }
        ∧ (∀ j, j ≠ f.channel → s.exhaustedWith x j → t.chan j = { s.chan j with state := .exhausted })
        ∧ ∀ j, ¬ s.exhaustedWith x j → t.chan j = s.chan j

/-- R84, R118, R34, R47: a control message goes under channel 0's current slot when channel 0 is OPEN and the charge is
taken, and under the root, uncharged, when channel 0 has no current slot or is EXHAUSTED, or when its charge would pass H and
so spends the control key (R48). R34: with the root transmit counter at its maximum it is discarded, and the context whose
latest message it is becomes SENT (R135; how it is found is log entry 20). -/
def Obligations.OutboundControlStartChoosesKey : Prop :=
  ∀ (s : State) (m : CtrlMsg) (rest : List CtrlMsg), s.engine.work = none →
    (s.partState = .noRoot ∨ s.partState = .bootstrap ∨ s.partState = .run) → s.lTx.length < 32 → s.ctrl = m :: rest →
    (s.inboundEligible = false ∨ s.engine.lastDirection = .inbound) →
    (((s.chan 0).current = none ∨ (s.chan 0).state = .exhausted) → s.root.txCounter < 2 ^ 48 - 1 →
      ∃ t, exec .outboundControlStart s = .next t
        ∧ t = { s with ctrl := rest, chans := t.chans,
                       root := { s.root with txCounter := s.root.txCounter + 1, unsavedCounter := t.root.unsavedCounter },
                       engine := { s.engine with
                         lastDirection := .outbound,
                         work := some (.outControl m s.rootKey s.root.txCounter) } }
        ∧ t.chan 0 = { s.chan 0 with inEngine := true, sent := min ((s.chan 0).sent + 1) 4294967295 }
        ∧ (∀ j, j ≠ 0 → t.chan j = s.chan j))
    ∧ (((s.chan 0).current = none ∨ (s.chan 0).state = .exhausted) → 2 ^ 48 - 1 ≤ s.root.txCounter →
      ∃ t, exec .outboundControlStart s = .next t
        ∧ t = { s with ctrl := rest, pool := { s.pool with free := s.pool.free + 1, low := t.pool.low },
                       engine := { s.engine with
                         lastDirection := .outbound,
                         discards := { s.engine.discards with
                           rootLimit := min (s.engine.discards.rootLimit + 1) 4294967295 } },
                       renewal := { s.renewal with contexts := t.renewal.contexts },
                       faults := t.faults, beacon := t.beacon,
                       sPort := { s.sPort with faultCause := t.sPort.faultCause },
                       lPort := { s.lPort with faultCause := t.lPort.faultCause } }
        ∧ (∀ c, c < 4 → (s.ctx c).isOpen = true → (s.ctx c).send = .queued → (s.ctx c).latest = some m.serial →
            (∀ d, d < c → (s.ctx d).latest ≠ some m.serial) → t.ctx c = { s.ctx c with send := .sent, reply := 16 })
        ∧ (∀ c, ((s.ctx c).isOpen = false ∨ (s.ctx c).send ≠ .queued ∨ (s.ctx c).latest ≠ some m.serial) →
            t.ctx c = s.ctx c))
    ∧ ∀ x, (s.chan 0).current = some x → (s.chan 0).state = .opened → 1 ≤ x → x ≤ 23 → (s.slot x).spent = false →
      ((s.slot x).used + ((m.payload.length + 15) / 16 + 2) ≤ (s.slot x).hard →
        ∃ t, exec .outboundControlStart s = .next t
          ∧ t = { s with ctrl := rest, chans := t.chans, slots := t.slots,
                         renewal := { s.renewal with list := t.renewal.list, received := t.renewal.received,
                                                     notListed := t.renewal.notListed, replaced := t.renewal.replaced },
                         engine := { s.engine with
                           lastDirection := .outbound,
                           work := some (.outControl m (s.slotKey x) (s.slot x).txCounter) } }
          ∧ t.slot x = { s.slot x with used := (s.slot x).used + ((m.payload.length + 15) / 16 + 2),
                                       intervalCharge := min ((s.slot x).intervalCharge + ((m.payload.length + 15) / 16 + 2)) 4294967295,
                                       txCounter := (s.slot x).txCounter + 1, engineUse := true,
                                       requested := (t.slot x).requested }
          ∧ (∀ y, y ≠ x → t.slot y = { s.slot y with requested := (t.slot y).requested })
          ∧ (((s.slot x).requested = true ∨ (s.slot x).used + ((m.payload.length + 15) / 16 + 2) < (s.slot x).soft) →
              t.renewal = s.renewal ∧ ∀ y, (t.slot y).requested = (s.slot y).requested)
          ∧ t.chan 0 = { s.chan 0 with inEngine := true, sent := min ((s.chan 0).sent + 1) 4294967295 }
          ∧ (∀ j, j ≠ 0 → t.chan j = s.chan j))
      ∧ ((s.slot x).hard < (s.slot x).used + ((m.payload.length + 15) / 16 + 2) → s.root.txCounter < 2 ^ 48 - 1 →
          (s.chan 0).kind = .control →
        ∃ t, exec .outboundControlStart s = .next t ∧ t.keySpentIn s x ∧ t.ctrl = rest ∧ t.pool = s.pool
          ∧ t.sIn = s.sIn ∧ t.sOut = s.sOut
          ∧ t.engine = { s.engine with
              lastDirection := .outbound,
              work := some (.outControl m s.rootKey s.root.txCounter) }
          ∧ t.root = { s.root with txCounter := s.root.txCounter + 1, unsavedCounter := t.root.unsavedCounter }
          ∧ t.chan 0 = { s.chan 0 with state := .exhausted, inEngine := true, sent := min ((s.chan 0).sent + 1) 4294967295 }
          ∧ (∀ j, j ≠ 0 → s.exhaustedWith x j → t.chan j = { s.chan j with state := .exhausted })
          ∧ ∀ j, ¬ s.exhaustedWith x j → t.chan j = s.chan j)

/-- R88 to R91, R104, R6, R36, R67: the head of L-rx that passes every check goes into flight: a place of S-out is set
aside, the receive window moves by R91, the marks are set, and the quiet timer returns to 15. R90: the key may be the
descriptor's current slot or its alternate slot, in RUN, and for a control frame in BOOTSTRAP; the root, on channel 0 without
a current slot or with a SUSPECT one; or, R95, the STAGED successor of the current slot, and then the switch is made first. -/
def Obligations.InboundStartAcceptsFrame : Prop :=
  ∀ (s : State) (f : LineIn) (rest : List LineIn) (i n : Nat), s.engine.work = none →
    (s.partState = .run ∨ (s.partState = .bootstrap ∧ f.parts.header.kind = kindControl)) →
    s.lRx = f :: rest → f.complete = true → s.sOut.length + s.pool.setAside.toNat < 32 →
    (s.outboundPick = none ∨ s.engine.lastDirection = .outbound) → f.formed = true →
    s.root.storeTag = some f.parts.header.storeTag → i = f.parts.header.channel.toNat → n = f.parts.header.counter.toNat →
    (((s.chan i).kind = .data ∧ f.parts.header.kind = kindData)
      ∨ (i = 0 ∧ (s.chan i).kind = .control ∧ f.parts.header.kind = kindControl)) →
    (s.chan i).flags.hold = false → n ≠ 0 →
    (∀ x, 1 ≤ x → x ≤ 23 → ((s.chan i).current = some x ∨ (s.chan i).alternate = some x) →
      f.parts.header.slot.toNat = x → (s.slot x).generation = f.parts.header.generation → (s.slot x).suspect = false →
      ((s.slot x).top < n ∨ ((s.slot x).top < n + 64 ∧ (s.slot x).seen.getLsbD ((s.slot x).top - n) = false)) →
      f.tagPasses (s.slot x).material = true →
      ∃ t, exec .inboundStart s = .next t
        ∧ t = { s with lRx := rest, pool := { s.pool with setAside := true }, slots := t.slots, chans := t.chans,
                       engine := { s.engine with
                         lastDirection := .inbound,
                         work := some (.inbound f (s.slotKey x) n i) },
                       link := { s.link with quietRemaining := 15, quietMark := false }, faults := t.faults,
                       beacon := t.beacon, sPort := { s.sPort with faultCause := t.sPort.faultCause },
                       lPort := { s.lPort with faultCause := t.lPort.faultCause } }
        ∧ t.slot x = { s.slot x with top := max (s.slot x).top n, seen := (t.slot x).seen, engineUse := true }
        ∧ (∀ j, j < 64 → (t.slot x).seen.getLsbD j =
            if (s.slot x).top < n then
              decide (j = 0) || (decide (n - (s.slot x).top ≤ j) && (s.slot x).seen.getLsbD (j - (n - (s.slot x).top)))
            else decide (j = (s.slot x).top - n) || (s.slot x).seen.getLsbD j)
        ∧ (∀ y, y ≠ x → t.slot y = s.slot y)
        ∧ t.chan i = { s.chan i with inEngine := true } ∧ (∀ j, j ≠ i → t.chan j = s.chan j))
    ∧ (i = 0 → f.parts.header.slot = 0 → f.parts.header.generation = 0 → (s.chan 0).current ≠ some 0 →
      (s.chan 0).alternate ≠ some 0 → (∀ x, (s.chan 0).current = some x → (s.slot x).suspect = true) →
      f.tagPasses s.root.material = true →
      ∃ t, exec .inboundStart s = .next t
        ∧ t = { s with lRx := rest, pool := { s.pool with setAside := true }, chans := t.chans,
                       engine := { s.engine with lastDirection := .inbound, work := some (.inbound f s.rootKey n 0) },
                       link := { s.link with quietRemaining := 15, quietMark := false }, faults := t.faults,
                       beacon := t.beacon, sPort := { s.sPort with faultCause := t.sPort.faultCause },
                       lPort := { s.lPort with faultCause := t.lPort.faultCause } }
        ∧ t.chan 0 = { s.chan 0 with inEngine := true } ∧ (∀ j, j ≠ 0 → t.chan j = s.chan j))
    ∧ ∀ x y c e, 1 ≤ x → x ≤ 23 → 1 ≤ y → y ≤ 23 → (s.chan i).current = some x → (s.chan i).alternate ≠ some y →
      (s.slot x).state = .active → (s.slot x).successor = some y → (s.slot y).state = .staged → c < 4 →
      (s.ctx c).state = .awaitCommit → (s.ctx c).kind = some .renewal → (s.ctx c).subject = some x →
      (s.ctx c).successor = some y → (s.ctx c).exchange = some e → (∀ d, d < c → (s.ctx d).successor ≠ some y) →
      f.parts.header.slot.toNat = y → (s.slot y).generation = f.parts.header.generation → (s.slot y).suspect = false →
      ((s.slot y).top < n ∨ ((s.slot y).top < n + 64 ∧ (s.slot y).seen.getLsbD ((s.slot y).top - n) = false)) →
      f.tagPasses (s.slot y).material = true →
      ∃ t, exec .inboundStart s = .next t
        ∧ t.engine = { s.engine with lastDirection := .inbound, work := some (.inbound f (s.slotKey y) n i) }
        ∧ t.lRx = rest ∧ t.pool = { s.pool with setAside := true } ∧ t.root = s.root ∧ t.ctrl = s.ctrl
        ∧ t.link = { s.link with quietRemaining := 15, quietMark := false }
        ∧ t.slot x = { s.slot x with state := .draining, drain := 32 }
        ∧ t.slot y = { s.slot y with state := .active, rate := (s.slot x).rate, used := 0, intervalCharge := 0, age := 0,
                                     requested := false, top := max (s.slot y).top n, engineUse := true,
                                     seen := (t.slot y).seen, refs := (t.slot y).refs }
        ∧ (∀ z, z ≠ x → z ≠ y → t.slot z = s.slot z)
        ∧ t.chan i = { s.chan i with current := some y, alternate := some x, inEngine := true,
                                     state := if (s.chan i).state = .exhausted then .opened else (s.chan i).state }
        ∧ t.ctx c = {} ∧ (∀ d, d ≠ c → t.ctx d = s.ctx d) ∧ t.backoff x = {} ∧ t.messenger.finished.getLast? = some e
        ∧ t.renewal.completed = min (s.renewal.completed + 1) 65535

/-- R88, R89, R92, R105, R106, R107: a frame in NO_ROOT is discarded NOT_READY, and a data frame in BOOTSTRAP; in RUN a
malformed frame and a foreign one are counted by the Link Watch alone, and the 16th malformed frame of an interval raises
MALFORMED_BURST and holds its mark, unless the mark is held. The buffer returns, no place stays set aside, no channel, slot or
root changes. Further in RUN: NO_CHANNEL for a descriptor that names no key, UNKNOWN_KEY for a key not found (R90), and under
a current or alternate slot SUSPECT, REPLAY (R91, R94), TAG_FAIL (R93), then NO_CHANNEL and HELD for a valid frame. That a
POOL_LOW clear of the buffer's return (R70) comes before the raise, and that SUSPECT of a DRAINING slot discards its frames
too, are the model's choices (log entries 32, 36). -/
def Obligations.InboundStartDiscards : Prop :=
  ∀ (s : State) (f : LineIn) (rest : List LineIn), s.engine.work = none → s.lRx = f :: rest → f.complete = true →
    s.sOut.length + s.pool.setAside.toNat < 32 → (s.outboundPick = none ∨ s.engine.lastDirection = .outbound) →
    let h := f.parts.header
    let n := h.counter.toNat
    let i := h.channel.toNat
    let d := s.engine.discards
    ((s.partState = .noRoot
      ∨ (s.partState = .bootstrap ∧ f.formed = true ∧ s.root.storeTag = some h.storeTag ∧ h.kind = kindData)
      ∨ (s.partState = .run ∧ f.formed = false)
      ∨ (s.partState = .run ∧ f.formed = true ∧ s.root.storeTag ≠ some h.storeTag)) →
      ∃ t, exec .inboundStart s = .next t ∧ t.lRx = rest ∧ t.pool.free = s.pool.free + 1 ∧ t.pool.setAside = false
        ∧ t.engine.work = none ∧ t.engine.lastDirection = .inbound ∧ t.chans = s.chans ∧ t.slots = s.slots
        ∧ t.root = s.root ∧ t.sOut = s.sOut ∧ t.link.quietRemaining = s.link.quietRemaining
        ∧ (s.partState = .noRoot ∨ s.partState = .bootstrap → t.link = s.link
            ∧ t.engine.discards = { d with notReady := min (d.notReady + 1) 4294967295 })
        ∧ (s.partState = .run → t.engine.discards = d)
        ∧ (s.partState = .run → f.formed = false → t.link =
            { s.link with malformed := min (s.link.malformed + 1) 255,
                          totalMalformed := min (s.link.totalMalformed + 1) 4294967295,
                          malformedMark := s.link.malformedMark || decide (s.link.malformed = 15) }
            ∧ (s.link.malformed = 15 → s.link.malformedMark = false → t.faultStands .malformedBurst .link)
            ∧ ∀ c, (c = if s.pool.low = true ∧ 16 ≤ s.pool.free + 1 then s.clearFault .poolLow .nothing else s) →
                t.faults = if s.link.malformed = 15 ∧ s.link.malformedMark = false then
                  (c.raiseFault .malformedBurst .link).faults else c.faults)
        ∧ (s.partState = .run → f.formed = true → t.link =
            { s.link with foreign := min (s.link.foreign + 1) 65535,
                          totalForeign := min (s.link.totalForeign + 1) 4294967295 }))
    ∧ (s.partState = .run → f.formed = true → s.root.storeTag = some h.storeTag →
      ((s.chan i).namesKey = false → ∃ t, exec .inboundStart s = .next t
        ∧ t.discarded s rest i false { d with noChannel := min (d.noChannel + 1) 4294967295 }
        ∧ t.slots = s.slots ∧ t.link = s.link ∧ t.renewal = s.renewal)
      ∧ ((s.chan i).namesKey = true →
          (∀ x, ((s.chan i).current = some x ∨ (s.chan i).alternate = some x) →
            ¬ (h.slot.toNat = x ∧ (s.slot x).generation = h.generation)) →
          (∀ x y, (s.chan i).current = some x → (s.slot x).successor = some y →
            ¬ (h.slot.toNat = y ∧ (s.slot y).generation = h.generation)) →
          ¬ (i = 0 ∧ h.slot = 0 ∧ h.generation = 0) → ∃ t, exec .inboundStart s = .next t
        ∧ t.discarded s rest i true { d with unknownKey := min (d.unknownKey + 1) 4294967295 }
        ∧ t.slots = s.slots ∧ t.link = s.link ∧ t.renewal = s.renewal)
      ∧ ∀ x, (s.chan i).namesKey = true → ((s.chan i).current = some x ∨ (s.chan i).alternate = some x) → 1 ≤ x → x ≤ 23 →
          h.slot.toNat = x → (s.slot x).generation = h.generation →
          let replay : Prop := n = 0 ∨ n + 64 ≤ (s.slot x).top
            ∨ (n ≤ (s.slot x).top ∧ (s.slot x).seen.getLsbD ((s.slot x).top - n) = true)
          let fits : Prop := ((s.chan i).kind = .data ∧ h.kind = kindData) ∨ (i = 0 ∧ h.kind = kindControl)
          ((s.slot x).suspect = true → ∃ t, exec .inboundStart s = .next t
            ∧ t.discarded s rest i true { d with suspect := min (d.suspect + 1) 4294967295 }
            ∧ t.slots = s.slots ∧ t.link = s.link ∧ t.renewal = s.renewal)
          ∧ ((s.slot x).suspect = false → replay → ∃ t, exec .inboundStart s = .next t
            ∧ t.discarded s rest i true { d with replay := min (d.replay + 1) 4294967295 }
            ∧ t.slot x = { s.slot x with replays := min ((s.slot x).replays + 1) 255 }
            ∧ (∀ y, y ≠ x → t.slot y = s.slot y) ∧ t.link = s.link ∧ t.renewal = s.renewal
            ∧ t.burst x = (s.burst x || decide (15 ≤ (s.slot x).replays))
            ∧ (s.burst x = false → 15 ≤ (s.slot x).replays → t.faultStands .replayBurst (.slot x)))
          ∧ ((s.slot x).suspect = false → ¬ replay → f.tagPasses (s.slot x).material = false →
            ∃ t, exec .inboundStart s = .next t
              ∧ t.discarded s rest i true { d with tagFail := min (d.tagFail + 1) 4294967295 } ∧ t.link = s.link
              ∧ t.slot x = { s.slot x with tagFailures := min ((s.slot x).tagFailures + 1) 255,
                                           suspect := decide (7 ≤ (s.slot x).tagFailures),
                                           requested := (t.slot x).requested }
              ∧ (∀ y, y ≠ x → t.slot y = { s.slot y with requested := (t.slot y).requested })
              ∧ ((s.slot x).tagFailures < 7 → t.slots.toList.map (·.requested) = s.slots.toList.map (·.requested)
                  ∧ t.renewal = s.renewal)
              ∧ (7 ≤ (s.slot x).tagFailures → t.faultStands .tagFails (.slot x)
                  ∧ ((s.slot x).state = .active → t.renewal.received = min (s.renewal.received + 1) 65535)
                  ∧ ((s.slot x).state ≠ .active → t.renewal = s.renewal)))
          ∧ ((s.slot x).suspect = false → ¬ replay → f.tagPasses (s.slot x).material = true →
            (¬ fits ∨ (s.chan i).flags.hold = true) → ∃ t, exec .inboundStart s = .next t
              ∧ (¬ fits → t.discarded s rest i false { d with noChannel := min (d.noChannel + 1) 4294967295 })
              ∧ (fits → t.discarded s rest i true { d with held := min (d.held + 1) 4294967295 })
              ∧ t.slot x = { s.slot x with top := max (s.slot x).top n, seen := (t.slot x).seen }
              ∧ (∀ y, y ≠ x → t.slot y = s.slot y) ∧ t.renewal = s.renewal
              ∧ t.link = { s.link with quietRemaining := 15, quietMark := false }))

/-- R96, R85, R15, R35: outbound work completes: the line frame joins L-tx with the slot and generation of its key, the
descriptor's and the slot's mark clear, a CLOSING descriptor becomes EMPTY, the engine is IDLE. A frame under the root clears
no slot mark. R135: the context whose latest message was placed becomes SENT with 16 ticks; the report of any other message
changes no context. The waiting drain end of a slot stands in `DrainEndEmptiesSlot`. How a placement report finds its context,
and that under the root the write of its transmit counter is complete at this completion, are the model's choices (log entries
20, 9). -/
def Obligations.OutboundCompletionPlacesFrame : Prop :=
  (∀ (s : State) (f : ShopFrame) (k : WorkKey) (n i x : Nat), s.engine.work = some (.outData f k n i) → i < 48 →
    k.ref = .slot x → 1 ≤ x → x ≤ 23 → ¬ ((s.slot x).state = .draining ∧ (s.slot x).drain = 0) →
    ∃ t, exec .outboundCompletion s = .next t
      ∧ t = { s with lTx := s.lTx ++ [buildFrame k.material
                { storeTag := s.root.storeTag.getD 0, kind := kindData, channel := BitVec.ofNat 8 i,
                  slot := BitVec.ofNat 8 x, generation := k.generation, counter := BitVec.ofNat 48 n,
                  length := BitVec.ofNat 16 f.length } f.payload],
                     slots := t.slots, chans := t.chans, engine := { s.engine with work := none } }
      ∧ t.slot x = { s.slot x with engineUse := false } ∧ (∀ y, y ≠ x → t.slot y = s.slot y)
      ∧ ((s.chan i).state = .closing → t.chan i = {})
      ∧ ((s.chan i).state ≠ .closing → t.chan i = { s.chan i with inEngine := false })
      ∧ (∀ j, j ≠ i → t.chan j = s.chan j))
  ∧ ∀ (s : State) (m : CtrlMsg) (k : WorkKey) (n : Nat) (b : Byte), s.engine.work = some (.outControl m k n) →
    (s.chan 0).state ≠ .closing →
    (k.ref = .root ∧ b = 0 ∨ ∃ x, k.ref = .slot x ∧ 1 ≤ x ∧ x ≤ 23 ∧ b = BitVec.ofNat 8 x
      ∧ ¬ ((s.slot x).state = .draining ∧ (s.slot x).drain = 0)) →
    ∃ t, exec .outboundCompletion s = .next t
      ∧ t = { s with lTx := s.lTx ++ [buildFrame k.material
                { storeTag := s.root.storeTag.getD 0, kind := kindControl, channel := 0, slot := b,
                  generation := k.generation, counter := BitVec.ofNat 48 n,
                  length := BitVec.ofNat 16 m.payload.length } m.payload],
                     root := t.root, slots := t.slots, renewal := { s.renewal with contexts := t.renewal.contexts },
                     chans := t.chans, engine := { s.engine with work := none } }
      ∧ t.chan 0 = { s.chan 0 with inEngine := false } ∧ (∀ j, j ≠ 0 → t.chan j = s.chan j)
      ∧ (k.ref = .root → t.slots = s.slots ∧ t.root = { s.root with unsavedCounter := none })
      ∧ (∀ x, k.ref = .slot x → t.root = s.root ∧ t.slot x = { s.slot x with engineUse := false }
          ∧ ∀ y, y ≠ x → t.slot y = s.slot y)
      ∧ (∀ c, c < 4 → (s.ctx c).isOpen = true → (s.ctx c).send = .queued → (s.ctx c).latest = some m.serial →
          (∀ d, d < c → (s.ctx d).latest ≠ some m.serial) →
          t.ctx c = { s.ctx c with send := .sent, reply := 16 } ∧ ∀ d, d ≠ c → t.ctx d = s.ctx d)
      ∧ ((∀ c, (s.ctx c).isOpen = true → (s.ctx c).send = .queued → (s.ctx c).latest ≠ some m.serial) →
          t.renewal = s.renewal)

/-- R97, R67, R9: an inbound data frame completes: it fills its place of S-out with its deciphered payload, and counts as
received unless its descriptor is CLOSING. -/
def Obligations.InboundCompletionDelivers : Prop :=
  ∀ (s : State) (f : LineIn) (k : WorkKey) (n i x : Nat), s.engine.work = some (.inbound f k n i) → i < 48 →
    f.parts.header.kind = kindData → k.ref = .slot x → 1 ≤ x → x ≤ 23 →
    ¬ ((s.slot x).state = .draining ∧ (s.slot x).drain = 0) →
    ∃ t, exec .inboundCompletion s = .next t
      ∧ t = { s with sOut := s.sOut ++ [{ channel := i, level := (s.chan i).level,
                                          length := f.parts.header.length.toNat,
                                          payload := encipher k.material (f.parts.header.fields .inbound) f.parts.cipher }],
                     pool := { s.pool with setAside := false }, slots := t.slots, chans := t.chans,
                     engine := { s.engine with work := none } }
      ∧ t.slot x = { s.slot x with engineUse := false } ∧ (∀ y, y ≠ x → t.slot y = s.slot y)
      ∧ ((s.chan i).state = .closing → t.chan i = {})
      ∧ ((s.chan i).state ≠ .closing →
          t.chan i = { s.chan i with inEngine := false, received := min ((s.chan i).received + 1) 4294967295 })
      ∧ (∀ j, j ≠ i → t.chan j = s.chan j)

/-- R97, R119, R108: an inbound control frame completes: its message acts, its buffer returns, its place of S-out is released
and channel 0 counts it; the statements about a message that acts reach a run through this one. An unparseable message is
counted and nothing else; a LOOPBACK PROBE is answered by an echo of the same number and payload. R109: where the echo takes
the last free buffer, a composition that falls together with the completion is taken before the probe's own buffer returns,
and fails; that it is the event of the command waiting next is log entry 35, and that a KEY ACCEPT or KEY REJECT that takes the
last buffer makes no other composition fail (R70) is log entry 37. That the message acts before the buffer returns is log
entry 15, the serial number of the echo log entry 20, and that no write of the root counter is in progress after it log entry
9. R189: the payload of each type of message parses to its fields. -/
def Obligations.InboundControlActs : Prop :=
  (∀ (s : State) (f : LineIn) (k : WorkKey) (n : Nat), s.engine.work = some (.inbound f k n 0) →
    f.parts.header.kind = kindControl → k.ref = .root → (s.chan 0).state ≠ .closing →
    (parseMessage (f.payload k.material) = none → ∃ t, exec .inboundCompletion s = .next t
      ∧ t.messenger = { s.messenger with unparseable := min (s.messenger.unparseable + 1) 65535 }
      ∧ t.ctrl = s.ctrl ∧ t.slots = s.slots ∧ t.renewal = s.renewal ∧ t.link = s.link ∧ t.engine.work = none
      ∧ t.pool.free = s.pool.free + 1 ∧ t.pool.setAside = false
      ∧ t.chan 0 = { s.chan 0 with inEngine := false, received := min ((s.chan 0).received + 1) 4294967295 }
      ∧ (∀ j, j ≠ 0 → t.chan j = s.chan j))
    ∧ ∀ (number field : Nat) (bs : List Byte), parseMessage (f.payload k.material) = some (.probe number field bs) →
      field ≤ 256 → (s.partState = .bootstrap ∨ s.partState = .run) → 0 < s.pool.free → s.ctrl.length < 8 →
      ∃ t, exec .inboundCompletion s = .next t
        ∧ t.ctrl = s.ctrl ++ [{ payload := natBytes 1 0x15 ++ natBytes 2 number ++ natBytes 2 bs.length ++ bs
                                serial := s.renewal.nextSerial }]
        ∧ t.link = { s.link with probesAnswered := min (s.link.probesAnswered + 1) 4294967295 }
        ∧ t.messenger.handedProbe = min (s.messenger.handedProbe + 1) 65535
        ∧ (2 ≤ s.pool.free ∨ (∀ i ∈ s.pending.head?, s.asksComposition i = false) →
            t.messenger = { s.messenger with handedProbe := t.messenger.handedProbe })
        ∧ (∀ i, s.pool.free = 1 → s.pending.head? = some i → s.asksComposition i = true →
            t.pool.low = true ∧ t.faultStands .poolLow .nothing)
        ∧ t.pool.free = s.pool.free ∧ t.pool.setAside = false ∧ t.engine.work = none ∧ t.slots = s.slots
        ∧ t.chan 0 = { s.chan 0 with inEngine := false, received := min ((s.chan 0).received + 1) 4294967295 }
        ∧ (∀ j, j ≠ 0 → t.chan j = s.chan j))
  ∧ (∀ (s u : State) (f : LineIn) (k : WorkKey) (n : Nat) (m : Message), s.engine.work = some (.inbound f k n 0) →
      f.parts.header.kind = kindControl → parseMessage (f.payload k.material) = some m →
      u = ({ s with messenger := s.messenger.countHanded m } : State).takeMessage m → (u.chan 0).state ≠ .closing →
      (k.ref = .root ∨ ∃ x, k.ref = .slot x ∧ 1 ≤ x ∧ x ≤ 23 ∧ ¬ ((u.slot x).state = .draining ∧ (u.slot x).drain = 0)) →
      ∀ v, (v = if m.isProbe = true ∧ s.pool.free = 1 ∧ u.pool.free = 0 then u.takeComposition else u) →
      ∃ t, exec .inboundCompletion s = .next t
        ∧ t = { v with engine := { u.engine with work := none }, chans := t.chans, slots := t.slots, root := t.root,
                       pool := { v.pool with free := v.pool.free + 1, setAside := false, low := t.pool.low },
                       faults := t.faults, beacon := t.beacon, sPort := { v.sPort with faultCause := t.sPort.faultCause },
                       lPort := { v.lPort with faultCause := t.lPort.faultCause } }
        ∧ t.chan 0 = { u.chan 0 with inEngine := false, received := min ((u.chan 0).received + 1) 4294967295 }
        ∧ (∀ j, j ≠ 0 → t.chan j = u.chan j)
        ∧ (k.ref = .root → t.slots = u.slots ∧ t.root = { u.root with unsavedCounter := none })
        ∧ ∀ x, k.ref = .slot x → t.root = u.root ∧ t.slot x = { u.slot x with engineUse := false }
            ∧ ∀ y, y ≠ x → t.slot y = u.slot y)
  ∧ (∀ u : State, ((∀ i ∈ u.pending.head?, u.asksComposition i = false) → u.takeComposition = u)
      ∧ ∀ i, u.pending.head? = some i → u.asksComposition i = true → exec i u = .next u.takeComposition
        ∧ ((u.partState = .bootstrap ∨ u.partState = .run ∨ u.partState = .quiesced) → u.pool.free = 0 →
          u.takeComposition.pool = { u.pool with low := true } ∧ u.takeComposition.ctrl = u.ctrl
            ∧ u.takeComposition.faultStands .poolLow .nothing))
  ∧ (∀ e x r : Byte, parseMessage [0x22, e] = some (.commit e.toNat)
      ∧ parseMessage [0x23, e, r] = some (.refuse e.toNat r.toNat) ∧ parseMessage [0x24, x] = some (.renew x.toNat))
  ∧ (∀ action i kind level ref f : Byte, action = 1 ∨ action = 2 →
      parseMessage [0x25, action, i, kind, level, ref, f] = some (.order (decide (action = 1))
        { index := i.toNat, kind := kind.toNat, level := level.toNat, ref := ref.toNat,
          flags := { hold := f.getLsbD 0, notify := f.getLsbD 1, urgent := f.getLsbD 2 } }))
  ∧ (∀ (report : Byte) (ps : List (Byte × Byte)), ps.length ≤ 8 →
      parseMessage (0x26 :: report :: BitVec.ofNat 8 ps.length :: ps.flatMap (fun q => [q.1, q.2])) =
        some (.ack report.toNat (ps.map fun q => (q.1.toNat, q.2.toNat))))
  ∧ (∀ (number field : Nat) (bs : List Byte), number < 65536 → field < 65536 →
      parseMessage (0x27 :: (natBytes 2 number ++ natBytes 2 field ++ bs)) =
        if 256 < field then some (.probe number field [])
        else if bs.length = field then some (.probe number field bs) else none)
  ∧ ∀ (e target pred gen level : Byte) (hard soft lead age : Nat) (c1 c2 : List Byte), hard < 2 ^ 32 → soft < 2 ^ 32 →
      lead < 2 ^ 16 → age < 2 ^ 32 → c1.length = 16 → c2.length = 16 →
      parseMessage (0x21 :: e :: target :: pred :: gen :: level :: (natBytes 4 hard ++ natBytes 4 soft ++ natBytes 2 lead
          ++ natBytes 4 age ++ c1 ++ c2)) =
        if (target.toNat ≤ 23 ∨ target = 0xFF) ∧ (1 ≤ pred.toNat ∧ pred.toNat ≤ 23 ∨ pred = 0xFF) ∧ level.toNat ≤ 3 then
          some (.delivery
            { exchange := e.toNat, target := if target = 0xFF then .anyFree else .slot target.toNat, targetCode := target,
              predecessor := if pred = 0xFF then none else some pred.toNat, generation := gen, level := level.toNat,
              hard := hard, soft := soft, lead := lead, maxAge := age, c1 := blockOfBytes c1, c2 := blockOfBytes c2 })
        else none

/-- R28, R57, R121, R139: a KEY DELIVERY that passes validation is staged in the slot it names, or for any free slot in the
lowest EMPTY one, with the delivered fields, its limits clamped as R57 says and values in range unchanged; its predecessor,
if it has one, names it as successor, and the no-slot mark is released. For a RENEWAL or BOOT context in AWAIT_DELIVERY the
context records it and enters AWAIT_COMMIT with attempt 1; with exchange 0 the lowest FREE context opens as INSTALL, under the
first exchange number no open context holds (R115), or as ROOT for slot 0, whose key becomes the pending root (R40). Its KEY
ACCEPT is composed with a serial number of the model's (log entry 20). R120, R122: one that fails a check is counted for its
reason and answered by a KEY REJECT, and stages nothing. -/
def Obligations.DeliveryStagesKey : Prop :=
  (∀ (s : State) (d : Delivery) (key : Block) (c y : Nat), c < 4 → (s.ctx c).state = .awaitDelivery →
    d.exchange ≠ 0 → (s.ctx c).exchange = some d.exchange → (∀ e, e ≠ c → (s.ctx e).exchange ≠ some d.exchange) →
    (s.ctx c).subject = d.predecessor →
    (∀ x, d.predecessor = some x → 1 ≤ x ∧ x ≤ 23 ∧ (s.slot x).state = .active ∧ d.level = (s.slot x).level
      ∧ d.generation = (s.slot x).generation + 1) →
    (d.predecessor = none → (s.chan 0).current = none → d.level = 0) → s.targetSlot d y →
    unwrap s.root.material d.c1 d.c2 d.targetCode d.generation = some key →
    let t := s.takeMessage (.delivery d)
    d.stagedAs key (t.slot y)
      ∧ (∀ x, d.predecessor = some x → t.slot x = { s.slot x with successor := some y })
      ∧ (∀ z, d.predecessor ≠ some z → z ≠ y → t.slot z = s.slot z)
      ∧ (∀ e, e ≠ c → t.ctx e = s.ctx e)
      ∧ t.ctx c = { s.ctx c with state := .awaitCommit, successor := some y, attempt := 1, reply := 0,
                                 send := (t.ctx c).send, latest := (t.ctx c).latest, retryDue := false }
      ∧ t.root = s.root ∧ t.chans = s.chans ∧ t.renewal.list = s.renewal.list
      ∧ t.messenger = { s.messenger with noSlotMark := false } ∧ t.acceptedFrom s c)
  ∧ (∀ (s : State) (d : Delivery) (key : Block) (c y : Nat) (k : CtxKind), c < 4 → (s.ctx c).isOpen = false →
    (∀ e, e < c → (s.ctx e).isOpen = true) → d.exchange = 0 → d.predecessor = none →
    1 ≤ s.messenger.nextExchange → s.messenger.nextExchange ≤ 255 →
    ((k = .install ∧ s.targetSlot d y ∧ ((s.chan 0).current = none → d.level = 0))
      ∨ (k = .root ∧ y = 0 ∧ d.target = .slot 0 ∧ s.root.active = true ∧ s.root.pendingRoot = none ∧ d.generation = 0)) →
    unwrap s.root.material d.c1 d.c2 d.targetCode d.generation = some key →
    ∃ t n, s.takeMessage (.delivery d) = t ∧ s.firstExchange n
      ∧ t.ctx c = { state := .awaitCommit, exchange := some n, kind := some k, successor := some y,
                    send := (t.ctx c).send, latest := (t.ctx c).latest }
      ∧ (∀ e, e ≠ c → t.ctx e = s.ctx e)
      ∧ t.renewal = { s.renewal with contexts := t.renewal.contexts, started := min (s.renewal.started + 1) 65535,
                                     nextSerial := t.renewal.nextSerial }
      ∧ t.messenger = { s.messenger with nextExchange := if n = 255 then 1 else n + 1,
                                         finished := s.messenger.finished.filter (· != n),
                                         noSlotMark := if k = .install then false else s.messenger.noSlotMark }
      ∧ (k = .install → d.stagedAs key (t.slot y) ∧ (∀ z, z ≠ y → t.slot z = s.slot z) ∧ t.root = s.root)
      ∧ (k = .root → t.slots = s.slots ∧ t.root = { s.root with pendingRoot := some key })
      ∧ t.chans = s.chans ∧ t.acceptedFrom s c)
  ∧ ∀ (s : State) (d : Delivery) (why : Nat) (m : Messenger),
    (∀ c, (s.ctx c).isOpen = true → (s.ctx c).exchange = some d.exchange → (s.ctx c).state = .awaitDelivery) →
    (d.exchange ∈ s.messenger.finished → d.exchange ≠ 0 →
      ∃ c, (s.ctx c).isOpen = true ∧ (s.ctx c).exchange = some d.exchange) →
    let found (c : Nat) : Prop := c < 4 ∧ (d.exchange ≠ 0 ∧ (s.ctx c).state = .awaitDelivery
        ∧ (s.ctx c).exchange = some d.exchange ∧ (s.ctx c).subject = d.predecessor
      ∨ d.exchange = 0 ∧ d.predecessor = none ∧ (s.ctx c).isOpen = false)
    let rootFits : Prop := d.exchange = 0 ∧ s.root.active = true ∧ s.root.pendingRoot = none
    let rightTarget : Prop := (d.target = .anyFree ∧ ∃ y, 1 ≤ y ∧ y ≤ 23 ∧ (s.slot y).state = .empty)
      ∨ (∃ y, d.target = .slot y ∧ 1 ≤ y ∧ y ≤ 23 ∧ (s.slot y).state = .empty) ∨ (d.target = .slot 0 ∧ rootFits)
    let rightLevel : Prop := (∀ x, d.predecessor = some x → d.level = (s.slot x).level)
      ∧ (d.predecessor = none → d.target ≠ .slot 0 → (s.chan 0).current = none → d.level = 0)
    let rightGeneration : Prop := (∀ x, d.predecessor = some x → d.generation = (s.slot x).generation + 1)
      ∧ (d.predecessor = none → d.target = .slot 0 → d.generation = 0)
    (why = 1 ∧ (∃ c, found c) ∧ (∃ y, d.target = .slot y ∧ (y = 0 ∧ ¬ rootFits ∨ 1 ≤ y ∧ (s.slot y).state ≠ .empty))
          ∧ m = { s.messenger with rejectNotEmpty := min (s.messenger.rejectNotEmpty + 1) 65535 }
      ∨ why = 2 ∧ (∃ c, found c) ∧ d.target = .anyFree ∧ (∀ y, 1 ≤ y → y ≤ 23 → (s.slot y).state ≠ .empty)
          ∧ m = { s.messenger with rejectNoSlot := min (s.messenger.rejectNoSlot + 1) 65535, noSlotMark := true }
      ∨ why = 3 ∧ (∃ c, found c) ∧ rightTarget ∧ ¬ rightLevel
          ∧ m = { s.messenger with rejectLevel := min (s.messenger.rejectLevel + 1) 65535 }
      ∨ why = 4 ∧ (∃ c, found c) ∧ rightTarget ∧ rightLevel ∧ ¬ rightGeneration
          ∧ m = { s.messenger with rejectGeneration := min (s.messenger.rejectGeneration + 1) 65535 }
      ∨ why = 5 ∧ (∃ c, found c) ∧ rightTarget ∧ rightLevel ∧ rightGeneration
          ∧ unwrap s.root.material d.c1 d.c2 d.targetCode d.generation = none
          ∧ m = { s.messenger with rejectWrapCheck := min (s.messenger.rejectWrapCheck + 1) 65535 }
      ∨ why = 6 ∧ (∀ c, ¬ found c)
          ∧ m = { s.messenger with rejectNoContext := min (s.messenger.rejectNoContext + 1) 65535 }) →
    let t := s.takeMessage (.delivery d)
    t = { s with messenger := t.messenger, ctrl := t.ctrl,
                 pool := { s.pool with free := t.pool.free, low := t.pool.low },
                 renewal := { s.renewal with nextSerial := t.renewal.nextSerial }, faults := t.faults, beacon := t.beacon,
                 sPort := { s.sPort with faultCause := t.sPort.faultCause },
                 lPort := { s.lPort with faultCause := t.lPort.faultCause } }
      ∧ (why = 2 → t.faultStands .noKeySlot .nothing)
      ∧ ((s.partState = .bootstrap ∨ s.partState = .run ∨ s.partState = .quiesced) → 0 < s.pool.free → s.ctrl.length < 8 →
          t.messenger = m ∧ t.pool.free = s.pool.free - 1
            ∧ t.ctrl = s.ctrl ++ [{ payload := natBytes 1 0x13 ++ natBytes 1 d.exchange ++ [d.targetCode] ++ natBytes 1 why
                                    serial := s.renewal.nextSerial }])
      ∧ ((s.pool.free = 0 ∨ 8 ≤ s.ctrl.length) → t.ctrl = s.ctrl ∧ t.pool.free = s.pool.free
          ∧ t.messenger = { m with rejectsNotSent := min (m.rejectsNotSent + 1) 65535 })

/-- R123, R29, R21, R58, R141: a KEY COMMIT for a RENEWAL context in AWAIT_COMMIT switches the keys: Y is ACTIVE with X's
rate, X drains for 32 ticks, X's channels take current Y and alternate X and leave EXHAUSTED with their aliases, X's
backoff is 0, the context is FREE and its number ends the finished list. R30, R143, R179: for a BOOT or INSTALL context the
staged key becomes ACTIVE, and binds channel 0 when that has no current slot, which ends the bootstrap request and takes the
part from BOOTSTRAP to RUN; that the number of a BOOT context freed beside it joins the finished list before that of the
committed exchange is log entry 26. R40, R144: for a ROOT context the pending root replaces the root with counter 1, whole in
this step (log entry 9). -/
def Obligations.KeyCommitSwitchesKeys : Prop :=
  (∀ (s : State) (c e x y : Nat), c < 4 → (s.ctx c).state = .awaitCommit → (s.ctx c).exchange = some e →
    (∀ d, d < c → (s.ctx d).exchange ≠ some e) → (s.ctx c).kind = some .renewal → (s.ctx c).subject = some x →
    (s.ctx c).successor = some y → 1 ≤ x → x ≤ 23 → 1 ≤ y → y ≤ 23 → (s.slot x).state = .active →
    (s.slot y).state = .staged →
    let t := s.takeMessage (.commit e)
    t.slot x = { s.slot x with state := .draining, drain := 32 }
      ∧ t.slot y = { s.slot y with state := .active, rate := (s.slot x).rate, used := 0, intervalCharge := 0, age := 0,
                                   requested := false, refs := (t.slot y).refs }
      ∧ (t.slot y).refs = (s.slot y).refs + (List.range 48).countP (fun i => (s.chan i).currentIs x)
      ∧ (∀ z, z ≠ x → z ≠ y → t.slot z = s.slot z)
      ∧ (∀ i, i < 48 → (s.chan i).currentIs x = true → t.chan i =
          { s.chan i with current := some y, alternate := some x,
                          state := if (s.chan i).state = .exhausted then .opened else (s.chan i).state })
      ∧ (∀ i r, (s.chan i).kind = .aliased → (s.chan i).target = some r → (s.chan r).currentIs x = true →
          t.chan i = { s.chan i with state := if (s.chan i).state = .exhausted then .opened else (s.chan i).state })
      ∧ (∀ i, (s.chan i).currentIs x = false →
          (∀ r, (s.chan i).kind = .aliased → (s.chan i).target = some r → (s.chan r).currentIs x = false) →
          t.chan i = s.chan i)
      ∧ t.ctx c = {} ∧ (∀ d, d ≠ c → t.ctx d = s.ctx d) ∧ t.messenger.finished.getLast? = some e ∧ t.backoff x = {}
      ∧ t.renewal.completed = min (s.renewal.completed + 1) 65535 ∧ t.root = s.root ∧ t.pool = s.pool ∧ t.ctrl = s.ctrl)
  ∧ (∀ (s : State) (c e y : Nat), c < 4 → (s.ctx c).state = .awaitCommit → (s.ctx c).exchange = some e →
    (∀ d, d < c → (s.ctx d).exchange ≠ some e) → ((s.ctx c).kind = some .boot ∨ (s.ctx c).kind = some .install) →
    (s.ctx c).successor = some y → 1 ≤ y → y ≤ 23 → (s.slot y).state = .staged →
    let t := s.takeMessage (.commit e)
    let binds : Prop := (s.chan 0).current = none
    t = { s with partState := t.partState, chans := t.chans, slots := t.slots, link := t.link,
                 messenger := { s.messenger with finished := t.messenger.finished },
                 renewal := { s.renewal with list := t.renewal.list, contexts := t.renewal.contexts,
                                             bootBackoff := t.renewal.bootBackoff, bootRelist := t.renewal.bootRelist,
                                             completed := min (s.renewal.completed + 1) 65535 },
                 faults := t.faults, beacon := t.beacon, sPort := { s.sPort with faultCause := t.sPort.faultCause },
                 lPort := { s.lPort with faultCause := t.lPort.faultCause } }
      ∧ t.slot y = { s.slot y with state := .active, predecessor := none, rate := 0, used := 0, intervalCharge := 0, age := 0,
                                   refs := (t.slot y).refs }
      ∧ (∀ z, z ≠ y → t.slot z = s.slot z) ∧ (∀ j, j ≠ 0 → t.chan j = s.chan j)
      ∧ t.ctx c = {} ∧ t.messenger.finished.getLast? = some e
      ∧ (s.FaultListLaw → ∀ r ∈ t.faults.records, r.subject = .slot 0 →
          (r.kind = .renewalFailed ∨ r.kind = .renewalRefused) → r.active = false)
      ∧ (binds → (t.slot y).refs = (s.slot y).refs + 1 ∧ t.chan 0 = { s.chan 0 with current := some y }
          ∧ t.renewal.list = s.renewal.list.filter (fun q => q.slot.isSome) ∧ t.renewal.bootBackoff = {}
          ∧ t.renewal.bootRelist = .idle
          ∧ (∀ d, d ≠ c → d < 4 → (s.ctx d).kind = some .boot → (s.ctx d).state = .awaitDelivery →
              (∀ b, b < d → b = c ∨ ¬ ((s.ctx b).kind = some .boot ∧ (s.ctx b).state = .awaitDelivery)) → t.ctx d = {})
          ∧ (∀ d, d ≠ c → ¬ ((s.ctx d).kind = some .boot ∧ (s.ctx d).state = .awaitDelivery) → t.ctx d = s.ctx d)
          ∧ (s.partState = .bootstrap → t.partState = .run
              ∧ t.link = { s.link with quiet := .running, quietRemaining := 15 })
          ∧ (s.partState ≠ .bootstrap → t.partState = s.partState ∧ t.link = s.link))
      ∧ (¬ binds → (t.slot y).refs = (s.slot y).refs ∧ t.chans = s.chans ∧ t.partState = s.partState ∧ t.link = s.link
          ∧ t.renewal.list = s.renewal.list ∧ t.renewal.bootBackoff = s.renewal.bootBackoff
          ∧ t.renewal.bootRelist = s.renewal.bootRelist ∧ ∀ d, d ≠ c → t.ctx d = s.ctx d))
  ∧ ∀ (s : State) (c e : Nat) (m : Block), c < 4 → (s.ctx c).state = .awaitCommit → (s.ctx c).exchange = some e →
    (∀ d, d < c → (s.ctx d).exchange ≠ some e) → (s.ctx c).kind = some .root → s.root.pendingRoot = some m →
    let t := s.takeMessage (.commit e)
    t = { s with root := { s.root with material := m, txCounter := 1, pendingRoot := none, unsavedCounter := none },
                 messenger := { s.messenger with finished := t.messenger.finished },
                 renewal := { s.renewal with contexts := t.renewal.contexts,
                                             completed := min (s.renewal.completed + 1) 65535 },
                 faults := t.faults, beacon := t.beacon, sPort := { s.sPort with faultCause := t.sPort.faultCause },
                 lPort := { s.lPort with faultCause := t.lPort.faultCause } }
      ∧ t.ctx c = {} ∧ (∀ d, d ≠ c → t.ctx d = s.ctx d) ∧ t.messenger.finished.getLast? = some e

/-- R110, R111, R78, R79, R100, R112: LOCAL LOOP starts a test and stays IN PROGRESS, or is refused for the part state, then
for its count; its frames are taken as outbound work; a sound engine passes every frame (its upsets are 0, log entry 8), any
other upset fails it, and the first failing frame is kept. The last result ends the test with a DONE response; a failed frame
raises SELF_CHECK_FAIL once and holds its mark, until a full run in which every frame passes clears it. -/
def Obligations.LocalLoopRunsItsTest : Prop :=
  (∀ (s : State) (w2 : Word), s.lPort.cmd = .idle →
    (s.partState = .noRoot ∨ s.partState = .bootstrap ∨ s.partState = .run) → 1 ≤ fieldD w2 → fieldD w2 ≤ 16 →
    exec (.localLoop .l w2) s =
      .next { s with link := { s.link with test := some { requested := fieldD w2 } },
                     lPort := { s.lPort with cmd := .inProgress .localLoop } })
  ∧ (∀ (s : State) (w2 : Word) (st : Status), s.lPort.cmd = .idle →
    ((s.partState = .boot ∨ s.partState = .failed ∨ s.partState = .quiesced) ∧ st = .refusedState
      ∨ (s.partState = .noRoot ∨ s.partState = .bootstrap ∨ s.partState = .run) ∧ (fieldD w2 = 0 ∨ 16 < fieldD w2)
        ∧ st = .refusedRange) →
    exec (.localLoop .l w2) s = .next { s with lPort := s.lPort.withAnswer st [] })
  ∧ (∀ (s : State) (q : TestRecord), s.engine.work = none →
      (s.partState = .noRoot ∨ s.partState = .bootstrap ∨ s.partState = .run) → s.lTx.length < 32 → s.ctrl = [] →
      s.link.test = some q → q.offered = true → (s.inboundEligible = false ∨ s.engine.lastDirection = .inbound) →
      exec .testStart s =
        .next { s with engine := { s.engine with work := some (.test q.next), lastDirection := .outbound } })
  ∧ ∀ (s : State) (q r : TestRecord) (k : Nat) (a : BitVec 64) (b : BitVec 512), s.engine.work = some (.test k) →
      s.link.test = some q →
      r = { q with run := q.run + 1, passed := if a = 0 ∧ b = 0 then q.passed + 1 else q.passed,
                   firstFail := if (a = 0 ∧ b = 0) ∨ q.firstFail.isSome then q.firstFail else some k, next := k + 1 } →
      (k < q.requested → exec (.testCompletion a b) s =
        .next { s with engine := { s.engine with work := none },
                       link := { s.link with test := some { r with offered := true } } })
      ∧ (q.requested ≤ k → ∃ t, exec (.testCompletion a b) s = .next t
        ∧ ({ s with engine := { s.engine with work := none },
                    link := { s.link with test := none, selfCheckMark := t.link.selfCheckMark },
                    lPort := s.lPort.withAnswer .done
                      [word4 q.requested r.run r.passed (r.firstFail.getD 0)] } : State).sameButFaults t
        ∧ (r.passed < r.run → t.link.selfCheckMark = true
            ∧ (s.link.selfCheckMark = false → t.faultStands .selfCheckFail .nothing)
            ∧ (s.link.selfCheckMark = true → t.faults = s.faults))
        ∧ (r.passed = r.run → r.run = q.requested → t.link.selfCheckMark = false
            ∧ (s.link.selfCheckMark = true → s.FaultListLaw →
                ∀ f ∈ t.faults.records, f.kind = .selfCheckFail → f.subject = .nothing → f.active = false)
            ∧ (s.link.selfCheckMark = false → t.faults = s.faults)))

/-! ### The access points -/

/-- R64, R166: a descriptor word that the S-port and the pool accept takes a buffer and starts a push; one the pool
refuses is counted as an overrun and its words are ignored with PUSH lost; a payload word is written into the filling
frame; an ignored word counts down. R105: an overrun of the L-port is counted by the Link Watch too. A descriptor whose
length is out of range takes no buffer, is no overrun, and its words are ignored with PUSH lost. -/
def Obligations.FrameInWriteStartsPush : Prop :=
  (∀ (s : State) (w : Word), s.sPort.push = .none → 1 ≤ descLength w → descLength w ≤ 1500 → s.partState ≠ .failed →
    s.sIn.length < 32 → 8 < s.pool.free →
    exec (.frameInWrite .s w) s =
      .next { s with pool := { s.pool with free := s.pool.free - 1 },
                     sIn := s.sIn ++ [{ channel := descChannel w, level := descLevel w, length := descLength w }],
                     sPort := { s.sPort with push := .frame ((descLength w + 3) / 4) } })
  ∧ (∀ (s : State) (w : Word), s.lPort.push = .none → 1 ≤ descLength w → descLength w ≤ 1536 → s.partState ≠ .failed →
    s.lRx.length < 32 → 8 < s.pool.free →
    exec (.frameInWrite .l w) s =
      .next { s with pool := { s.pool with free := s.pool.free - 1 }, lRx := s.lRx ++ [{ count := descLength w }],
                     lPort := { s.lPort with push := .frame ((descLength w + 3) / 4) } })
  ∧ (∀ (s : State) (w : Word), s.sPort.push = .none → 1 ≤ descLength w → descLength w ≤ 1500 →
    (s.partState = .failed ∨ 32 ≤ s.sIn.length ∨ s.pool.free ≤ 8) →
    exec (.frameInWrite .s w) s =
      .next { s with pool := { s.pool with sPort :=
                       { s.pool.sPort with overrun := min (s.pool.sPort.overrun + 1) 65535 } },
                     sPort := { s.sPort with push := .ignoring ((descLength w + 3) / 4), lostPush := true } })
  ∧ (∀ (s : State) (w : Word), s.lPort.push = .none → 1 ≤ descLength w → descLength w ≤ 1536 →
    (s.partState = .failed ∨ 32 ≤ s.lRx.length ∨ s.pool.free ≤ 8) →
    exec (.frameInWrite .l w) s =
      .next { s with pool := { s.pool with lPort :=
                       { s.pool.lPort with overrun := min (s.pool.lPort.overrun + 1) 65535 } },
                     link := { s.link with overrun := min (s.link.overrun + 1) 65535,
                                           totalOverrun := min (s.link.totalOverrun + 1) 4294967295 },
                     lPort := { s.lPort with push := .ignoring ((descLength w + 3) / 4), lostPush := true } })
  ∧ (∀ (s : State) (w : Word) (p : Port), (s.port p).push = .none →
    (descLength w = 0 ∨ p = .s ∧ 1500 < descLength w ∨ p = .l ∧ 1536 < descLength w) →
    ∃ t, exec (.frameInWrite p w) s = .next t ∧ t = { s with sPort := t.sPort, lPort := t.lPort }
      ∧ t.port p = { s.port p with push := if descLength w = 0 then .none else .ignoring ((descLength w + 3) / 4),
                                   lostPush := true }
      ∧ t.port p.other = s.port p.other)
  ∧ (∀ (s : State) (w : Word) (n : Nat) (pre : List ShopFrame) (f : ShopFrame), s.sPort.push = .frame n →
    s.sIn = pre ++ [f] →
    exec (.frameInWrite .s w) s =
      .next { s with sIn := pre ++ [{ f with words := f.words ++ [w] }],
                     sPort := { s.sPort with push := if n ≤ 1 then .none else .frame (n - 1) } })
  ∧ (∀ (s : State) (w : Word) (n : Nat) (pre : List LineIn) (f : LineIn), s.lPort.push = .frame n →
    s.lRx = pre ++ [f] →
    exec (.frameInWrite .l w) s =
      .next { s with lRx := pre ++ [{ f with words := f.words ++ [w] }],
                     lPort := { s.lPort with push := if n ≤ 1 then .none else .frame (n - 1) } })
  ∧ ∀ (s : State) (w : Word) (p : Port) (n : Nat), (s.port p).push = .ignoring n →
    ∃ t, exec (.frameInWrite p w) s = .next t
      ∧ t.port p = { s.port p with push := if n ≤ 1 then .none else .ignoring (n - 1) } ∧ t.port p.other = s.port p.other
      ∧ t = { s with sPort := t.sPort, lPort := t.lPort }

/-- R167, R66, R186, R187: a read of FRAME OUT returns the next word of the head frame (of S-out its descriptor, with the
reason code of a refusal notice, then the payload; of L-tx its byte count, then its bytes); at its last word the frame
leaves and its buffer returns, which may clear POOL_LOW (R70); an empty OUT queue reads 0 and nothing else changes. -/
def Obligations.FrameOutReadPulls : Prop :=
  (∀ (s : State) (p : Port), s.outCount p = 0 → ∃ t, exec (.frameOutRead p) s = .next t
    ∧ t.port p = { s.port p with dataOut := 0 } ∧ t.port p.other = s.port p.other
    ∧ t = { s with sPort := t.sPort, lPort := t.lPort })
  ∧ ∀ (s out : State) (p : Port) (ws : List Word) (w : Word),
    ((p = .s ∧ ∃ f rest d, s.sOut = f :: rest ∧ out = { s with sOut := rest }
        ∧ d.toNat = f.channel % 64 * 2 ^ 26 + f.level % 4 * 2 ^ 24
            + (match f.refusal with
                | none => 0
                | some .notReady => 1 | some .noChannel => 2 | some .level => 3 | some .held => 4 | some .keySpent => 5)
              * 2 ^ 20
            + f.length % 2048
        ∧ ws = d :: if f.refusal = none then packWords ((f.length + 3) / 4) f.payload else [])
      ∨ (p = .l ∧ ∃ bs rest, s.lTx = bs :: rest ∧ out = { s with lTx := rest }
        ∧ ws = BitVec.ofNat 32 bs.length :: packWords ((bs.length + 3) / 4) bs)) →
    ws[(s.port p).pullPos]? = some w →
    ((s.port p).pullPos + 1 < ws.length → ∃ t, exec (.frameOutRead p) s = .next t
        ∧ t = { s with sPort := t.sPort, lPort := t.lPort } ∧ t.port p.other = s.port p.other
        ∧ t.port p = { s.port p with dataOut := w, pullPos := (s.port p).pullPos + 1 })
    ∧ ((s.port p).pullPos + 1 = ws.length → ∃ t, exec (.frameOutRead p) s = .next t
        ∧ t = { out with pool := { s.pool with free := s.pool.free + 1,
                                               low := s.pool.low && decide (s.pool.free + 1 < 16) },
                         faults := t.faults, beacon := t.beacon, sPort := t.sPort, lPort := t.lPort }
        ∧ t.port p = { s.port p with dataOut := w, pullPos := 0, faultCause := (t.port p).faultCause }
        ∧ t.port p.other = { s.port p.other with faultCause := (t.port p.other).faultCause }
        ∧ ((s.pool.low = false ∨ s.pool.free + 1 < 16) → t.faults = s.faults ∧ t.beacon = s.beacon
            ∧ t.sPort.faultCause = s.sPort.faultCause ∧ t.lPort.faultCause = s.lPort.faultCause)
        ∧ (s.pool.low = true → 16 ≤ s.pool.free + 1 → t.faults = (s.clearFault .poolLow .nothing).faults))

/-- R168: a read of RESPONSE returns the next word of the response slot and goes round to the status word after the last;
an empty response slot reads 0. Nothing else changes. -/
def Obligations.ResponseReadGoesRound : Prop :=
  ∀ (s : State) (p : Port),
    ((s.port p).response = [] → ∃ t, exec (.responseRead p) s = .next t ∧ t = { s with sPort := t.sPort, lPort := t.lPort }
      ∧ t.port p = { s.port p with dataOut := 0 } ∧ t.port p.other = s.port p.other)
    ∧ ∀ w, (s.port p).response[(s.port p).responsePos]? = some w → ∃ t, exec (.responseRead p) s = .next t
        ∧ t = { s with sPort := t.sPort, lPort := t.lPort } ∧ t.port p.other = s.port p.other
        ∧ t.port p = { s.port p with
            dataOut := w,
            responsePos := if (s.port p).responsePos + 1 = (s.port p).response.length then 0 else (s.port p).responsePos + 1 }

/-- R173: a length word of 1 to 32 into a mailbox that is not full begins a gathering, and each content word before the last
joins it; the last content word, or a length word of 0, replaces length and content in one step, sets full and latches the
partner's MAIL; a write to a full mailbox, or of a length above 32, is ignored with MAIL lost, and its words count down. A
read returns the length word, then the content words; that of the last word clears full and leaves the content. The read
position returning to the length word at a completed write is log entry 17. -/
def Obligations.MailboxPassesMessages : Prop :=
  (∀ (s : State) (p : Port) (w : Word), (s.port p).mailWrite = .none → (s.port p).mailbox.full = false →
    1 ≤ fieldD w → fieldD w ≤ 32 → ∃ t, exec (.mailboxWrite p w) s = .next t ∧ t = { s with sPort := t.sPort, lPort := t.lPort }
      ∧ t.port p = { s.port p with mailWrite := .gathering (fieldD w) [] } ∧ t.port p.other = s.port p.other)
  ∧ (∀ (s : State) (p : Port) (w : Word), (s.port p).mailWrite = .none →
    ((s.port p).mailbox.full = true ∨ 32 < fieldD w) → ∃ t, exec (.mailboxWrite p w) s = .next t
      ∧ t = { s with sPort := t.sPort, lPort := t.lPort }
      ∧ t.port p = { s.port p with lostMail := true,
                                   mailWrite := if fieldD w = 0 then .none else .ignoring (min 8 ((fieldD w + 3) / 4)) }
      ∧ t.port p.other = s.port p.other)
  ∧ (∀ (s : State) (p : Port) (w : Word) (len : Nat) (ws : List Word), (s.port p).mailWrite = .gathering len ws →
    ws.length + 1 < (len + 3) / 4 → ∃ t, exec (.mailboxWrite p w) s = .next t
      ∧ t = { s with sPort := t.sPort, lPort := t.lPort }
      ∧ t.port p = { s.port p with mailWrite := .gathering len (ws ++ [w]) } ∧ t.port p.other = s.port p.other)
  ∧ (∀ (s : State) (p : Port) (w : Word) (len : Nat) (ws : List Word),
    ((s.port p).mailWrite = .gathering len ws ∧ len ≤ 32 ∧ ws.length + 1 = (len + 3) / 4
      ∨ (s.port p).mailWrite = .none ∧ (s.port p).mailbox.full = false ∧ fieldD w = 0 ∧ len = 0) →
    ∃ t, exec (.mailboxWrite p w) s = .next t
      ∧ t = { s with sPort := t.sPort, lPort := t.lPort }
      ∧ t.port p = { s.port p with mailWrite := .none, mailbox := (t.port p).mailbox }
      ∧ (t.port p).mailbox.length = len ∧ (t.port p).mailbox.full = true ∧ (t.port p).mailbox.content.length = 32
      ∧ (t.port p).mailbox.content.take len = unpackWords len (ws ++ [w])
      ∧ t.port p.other = { s.port p.other with mailCause := true, mailPos := 0 })
  ∧ (∀ (s : State) (p : Port) (w : Word) (n : Nat), (s.port p).mailWrite = .ignoring n →
    ∃ t, exec (.mailboxWrite p w) s = .next t ∧ t = { s with sPort := t.sPort, lPort := t.lPort }
      ∧ t.port p = { s.port p with mailWrite := if n ≤ 1 then .none else .ignoring (n - 1) }
      ∧ t.port p.other = s.port p.other)
  ∧ ∀ (s : State) (p : Port) (m : Mailbox) (ws : List Word) (w : Word), m = (s.port p.other).mailbox →
    ws = BitVec.ofNat 32 m.length :: packWords ((m.length + 3) / 4) (m.content.take m.length) →
    ws[(s.port p).mailPos]? = some w →
    ∃ t, exec (.mailboxRead p) s = .next t ∧ t = { s with sPort := t.sPort, lPort := t.lPort }
      ∧ ((s.port p).mailPos < (m.length + 3) / 4 →
          t.port p = { s.port p with mailPos := (s.port p).mailPos + 1, dataOut := w } ∧ t.port p.other = s.port p.other)
      ∧ ((s.port p).mailPos = (m.length + 3) / 4 → t.port p = { s.port p with mailPos := 0, dataOut := w }
          ∧ t.port p.other = { s.port p.other with mailbox := { m with full := false } })

/-- R174, R188: a STATUS read returns the status word as it stands and clears the latched causes and the lost reasons of
its port, and no other. R174, R72: the attention line of a port is asserted exactly while a cause of its enable set holds or
is latched, so after the read by the state causes alone. -/
def Obligations.StatusReadReportsAndClears : Prop :=
  (∀ (s : State) (p : Port), s.attention p = true ↔
    ((s.port p).enable.inRoom = true ∧ (s.pool.port p).af ≤ 32 - s.inCount p)
      ∨ ((s.port p).enable.outReady = true ∧ (s.pool.port p).ae ≤ s.outCount p)
      ∨ ((s.port p).enable.mail = true ∧ (s.port p).mailCause = true)
      ∨ ((s.port p).enable.response = true ∧ (s.port p).responseCause = true)
      ∨ ((s.port p).enable.fault = true ∧ (s.port p).faultCause = true)
      ∨ ((s.port p).enable.lost = true
          ∧ ((s.port p).lostPush = true ∨ (s.port p).lostMail = true ∨ (s.port p).lostCommand = true)))
  ∧ ∀ (s : State) (p : Port), ∃ t, exec (.statusRead p) s = .next t ∧ t = { s with sPort := t.sPort, lPort := t.lPort }
    ∧ t.port p.other = s.port p.other
    ∧ t.port p = { s.port p with mailCause := false, responseCause := false, faultCause := false, lostPush := false,
                                 lostMail := false, lostCommand := false, dataOut := (t.port p).dataOut }
    ∧ (let w := (t.port p).dataOut
       (w.extractLsb' 29 3).toNat = s.partState.code
         ∧ (w.extractLsb' 18 11).toNat = (s.inCount p * 33 + s.outCount p) % 2048
         ∧ (w.extractLsb' 11 7).toNat = s.pool.free % 128 ∧ w.getLsbD 10 = s.inRoom p ∧ w.getLsbD 9 = s.outReady p
         ∧ w.getLsbD 8 = (s.port p).mailCause ∧ w.getLsbD 7 = (s.port p).responseCause
         ∧ w.getLsbD 6 = (s.port p).faultCause ∧ w.getLsbD 5 = (s.port p).lostPush ∧ w.getLsbD 4 = (s.port p).lostMail
         ∧ w.getLsbD 3 = (s.port p).lostCommand ∧ w.getLsbD 2 = (s.port p.other).mailbox.full
         ∧ w.getLsbD 1 = (s.port p).mailbox.full ∧ w.getLsbD 0 = (s.port p).cmd.busy)
    ∧ (t.attention p = true ↔ ((s.port p).enable.inRoom = true ∧ s.inRoom p = true)
        ∨ ((s.port p).enable.outReady = true ∧ s.outReady p = true))
    ∧ t.attention p.other = s.attention p.other

/-- R165, R168, R190: a word written to FRAME OUT, RESPONSE, STATUS or select codes 6 and 7 is ignored; FRAME IN and
MAILBOX take it as their own writes do. At COMMAND a first word that states 2 to 8 words opens a command, each word before the
last joins it, and the last one takes it: then the port acts as on the command's row. R169 step 1: a count of 0 or above 8, an
unknown number, or a count other than the command's is answered REFUSED_RANGE; a count of 1 takes the command at once. While a
command is in progress a word is ignored with COMMAND lost. A read of FRAME IN, COMMAND or select codes 6 and 7 returns 0, and
of the other four what their own reads return (that a read comes as the read form of this row is log entry 30). -/
def Obligations.RegisterWritesReachTheirPoint : Prop :=
  (∀ (s : State) (p : Port) (w : Word),
    (∀ sel : BitVec 3, (sel = 1 ∨ sel = 3 ∨ sel = 5 ∨ sel = 6 ∨ sel = 7) →
      exec (.registerWriteOther p sel (.write w)) s = .next s)
    ∧ exec (.registerWriteOther p 0 (.write w)) s = exec (.frameInWrite p w) s
    ∧ exec (.registerWriteOther p 4 (.write w)) s = exec (.mailboxWrite p w) s
    ∧ ((s.port p).cmd = .idle → 2 ≤ w.toNat % 16 → w.toNat % 16 ≤ 8 →
        ∃ t, exec (.registerWriteOther p 2 (.write w)) s = .next t ∧ t = { s with sPort := t.sPort, lPort := t.lPort }
        ∧ t.port p = { s.port p with cmd := .writing [w] } ∧ t.port p.other = s.port p.other)
    ∧ (∀ c, (s.port p).cmd = .inProgress c → ∃ t, exec (.registerWriteOther p 2 (.write w)) s = .next t
        ∧ t = { s with sPort := t.sPort, lPort := t.lPort } ∧ t.port p = { s.port p with lostCommand := true }
        ∧ t.port p.other = s.port p.other))
  ∧ (∀ (s : State) (p : Port) (first w : Word) (args : List Word), (s.port p).cmd = .writing (first :: args) →
    args.length + 2 < first.toNat % 16 →
    ∃ t, exec (.registerWriteOther p 2 (.write w)) s = .next t ∧ t = { s with sPort := t.sPort, lPort := t.lPort }
      ∧ t.port p = { s.port p with cmd := .writing (first :: (args ++ [w])) } ∧ t.port p.other = s.port p.other)
  ∧ (∀ (s u : State) (p : Port) (first w : Word) (args : List Word),
    ((s.port p).cmd = .idle ∧ args = [] ∧ w = first ∧ (first.toNat % 16 ≤ 1 ∨ 8 < first.toNat % 16)
      ∨ ∃ pre, (s.port p).cmd = .writing (first :: pre) ∧ args = pre ++ [w] ∧ args.length + 1 = first.toNat % 16) →
    u = { s with sPort := u.sPort, lPort := u.lPort } → u.port p = { s.port p with cmd := .idle } →
    u.port p.other = s.port p.other →
    (∀ a b c d e : Word, ∀ row ∈
        [(1, [a, b], Instr.channelOpen p a b), (2, [a], .channelClose p a), (3, [a, b], .channelFlags p a b),
          (4, [a], .channelReset p a), (5, [a], .channelRead p a), (6, [a], .keyStatus p a), (7, [a], .faultRead p a),
          (8, [a], .partRead p a), (9, [a], .renewNow p a), (10, [a], .queueLimits p a), (11, [a], .queueReset p a),
          (12, [a], .faultDismiss p a), (13, [a], .beaconSet p a), (14, [], .beaconCommit p), (15, [], .beaconHalt p),
          (16, [a, b, c, d, e], .loadRoot p a b c d e), (17, [], .partReset p), (18, [], .quiesce p), (19, [], .resume p),
          (20, [a], .localLoop p a), (21, [], .erase p)],
      first.toNat / 2 ^ 24 = row.1 → first.toNat % 16 = row.2.1.length + 1 → args = row.2.1 →
      exec (.registerWriteOther p 2 (.write w)) s = exec row.2.2 u)
    ∧ (¬ first.toNat % 16 = ([0, 3, 2, 3, 2, 2, 2, 2, 2, 2, 2, 2, 2, 2, 1, 1, 6, 1, 1, 1, 2, 1].getD (first.toNat / 2 ^ 24) 0)
        ∨ first.toNat % 16 = 0 →
      ∃ t, exec (.registerWriteOther p 2 (.write w)) s = .next t ∧ t = { s with sPort := t.sPort, lPort := t.lPort }
        ∧ t.port p = (s.port p).withAnswer .refusedRange [] ∧ t.port p.other = s.port p.other))
  ∧ ∀ (s : State) (p : Port),
    (∀ sel : BitVec 3, (sel = 0 ∨ sel = 2 ∨ sel = 6 ∨ sel = 7) → ∃ t, exec (.registerWriteOther p sel .read) s = .next t
        ∧ t = { s with sPort := t.sPort, lPort := t.lPort } ∧ t.port p = { s.port p with dataOut := 0 }
        ∧ t.port p.other = s.port p.other)
    ∧ exec (.registerWriteOther p 1 .read) s = exec (.frameOutRead p) s
    ∧ exec (.registerWriteOther p 3 .read) s = exec (.responseRead p) s
    ∧ exec (.registerWriteOther p 4 .read) s = exec (.mailboxRead p) s
    ∧ exec (.registerWriteOther p 5 .read) s = exec (.statusRead p) s

/-! ### Commands -/

/-- R169 step 2: a command that the asking port may not issue is answered REFUSED_PORT and changes nothing else. -/
def Obligations.WrongPortIsRefused : Prop :=
  (∀ (s : State) (w2 w3 w4 w5 w6 : Word) (i : Instr), s.lPort.cmd = .idle →
    i ∈ [Instr.channelOpen .l w2 w3, .channelClose .l w2, .channelFlags .l w2 w3, .channelReset .l w2, .renewNow .l w2,
      .faultDismiss .l w2, .beaconSet .l w2, .beaconCommit .l, .beaconHalt .l, .loadRoot .l w2 w3 w4 w5 w6, .partReset .l,
      .quiesce .l, .resume .l] →
    exec i s = .next { s with lPort := s.lPort.withAnswer .refusedPort [] })
  ∧ ∀ (s : State) (w2 : Word), s.sPort.cmd = .idle →
      exec (.localLoop .s w2) s = .next { s with sPort := s.sPort.withAnswer .refusedPort [] }

/-- R11, R12, R13, R125: CHANNEL OPEN of a DATA channel and of an ALIAS when every check passes, and its refusal with the
status of the first check that fails; an open ordered by head office goes through the same checks without those that give
REFUSED_PORT, and is counted applied or not applied. -/
def Obligations.ChannelOpenBinds : Prop :=
  (∀ (s : State) (w2 w3 : Word) (checks : List (Bool × Status)), s.sPort.cmd = .idle →
    checks = s.openChecks (fieldA w2) (fieldB w2) (fieldC w2) (fieldD w2) →
    (∀ c, checks.find? (·.1) = some c →
      exec (.channelOpen .s w2 w3) s = .next { s with sPort := s.sPort.withAnswer c.2 [] })
    ∧ ((∀ c ∈ checks, c.1 = false) → ∃ t, exec (.channelOpen .s w2 w3) s = .next t
      ∧ t = { s with chans := t.chans, slots := t.slots, sPort := s.sPort.withAnswer .done [] }
      ∧ t.openedFrom s (fieldA w2) (fieldB w2) (fieldC w2) (fieldD w2)
          { hold := w3.getLsbD 0, notify := w3.getLsbD 1, urgent := w3.getLsbD 2 }))
  ∧ ∀ (s : State) (q : OpenRequest) (checks : List (Bool × Status)),
      checks = (s.openChecks q.index q.kind q.level q.ref).filter (fun c => c.2 != .refusedPort) →
      (∀ c ∈ checks, c.1 = true → s.takeMessage (.order true q) =
        { s with messenger := { s.messenger with ordersNotApplied := min (s.messenger.ordersNotApplied + 1) 65535 } })
      ∧ ((∀ c ∈ checks, c.1 = false) → ∃ t, s.takeMessage (.order true q) = t
        ∧ t = { s with chans := t.chans, slots := t.slots,
                       messenger := { s.messenger with ordersApplied := min (s.messenger.ordersApplied + 1) 65535 } }
        ∧ t.openedFrom s q.index q.kind q.level q.ref q.flags)

/-- R14, R15, R13, R125: CHANNEL CLOSE of a DATA channel and of an ALIAS when every check passes: its frames leave S-in, as
notices or to the free set, its aliases go with it, its slots lose its names, and it is EMPTY, or CLOSING while its frame is
in the engine. It is refused with the status of the first check that fails. A close ordered by head office does the same
without a level restriction, and is counted applied, or not applied for an index of none, an EMPTY or a CLOSING
descriptor. -/
def Obligations.ChannelCloseReleases : Prop :=
  (∀ (s : State) (w2 : Word) (i : Nat), i = fieldD w2 → s.sPort.cmd = .idle →
    (∀ c, [(s.partState == .failed, Status.refusedState), (i == 0 || decide (47 < i), .refusedRange),
          ((s.chan i).kind == .empty, .notFound), (s.keyLevel i == 0, .refusedPort),
          ((s.chan i).state == .closing, .refusedState)].find? (·.1) = some c →
      exec (.channelClose .s w2) s = .next { s with sPort := s.sPort.withAnswer c.2 [] })
    ∧ (s.partState ≠ .failed → 1 ≤ i → i ≤ 47 → (s.chan i).state ≠ .closing →
      ((s.chan i).kind = .data → 1 ≤ (s.chan i).level → ∃ t, exec (.channelClose .s w2) s = .next t
        ∧ t.closedFrom { s with sPort := s.sPort.withAnswer .done [] } i)
      ∧ ∀ g, (s.chan i).kind = .aliased → (s.chan i).target = some g → g ≠ i → 1 ≤ (s.chan g).level →
        ∃ t, exec (.channelClose .s w2) s = .next t
          ∧ t.aliasClosedFrom { s with sPort := s.sPort.withAnswer .done [] } i g))
  ∧ ∀ (s u : State) (q : OpenRequest) (i : Nat), i = q.index →
    u = { s with messenger := { s.messenger with ordersApplied := min (s.messenger.ordersApplied + 1) 65535 } } →
    ((i = 0 ∨ 47 < i ∨ (s.chan i).kind = .empty ∨ (s.chan i).state = .closing) → s.takeMessage (.order false q) =
      { s with messenger := { s.messenger with ordersNotApplied := min (s.messenger.ordersNotApplied + 1) 65535 } })
    ∧ (1 ≤ i → i ≤ 47 → (s.chan i).state ≠ .closing →
      ((s.chan i).kind = .data → ∃ t, s.takeMessage (.order false q) = t ∧ t.closedFrom u i)
      ∧ ∀ g, (s.chan i).kind = .aliased → (s.chan i).target = some g → g ≠ i →
        ∃ t, s.takeMessage (.order false q) = t ∧ t.aliasClosedFrom u i g)

/-- R17: CHANNEL FLAGS changes the masked flags of the qualifying descriptors and of no other, and answers the changed
and skipped counts. -/
def Obligations.ChannelFlagsMasked : Prop :=
  ∀ (s : State) (w2 w3 : Word), s.sPort.cmd = .idle →
    (s.partState = .failed →
      exec (.channelFlags .s w2 w3) s = .next { s with sPort := s.sPort.withAnswer .refusedState [] })
    ∧ (s.partState ≠ .failed →
    let qualifies (i : Nat) : Bool :=
      ((s.chan i).kind == .data || (s.chan i).kind == .aliased)
        && ((s.chan i).state == .opened || (s.chan i).state == .exhausted) && decide (1 ≤ s.keyLevel i)
    ∃ t changed skipped, exec (.channelFlags .s w2 w3) s = .next t
      ∧ t = { s with chans := t.chans, sPort := s.sPort.withAnswer .done [word2 changed skipped] }
      ∧ (∀ i, i < 48 → inChannelMask w2 w3 i = true → qualifies i = true → t.chan i = { s.chan i with flags :=
          { hold := if w3.getLsbD 24 then w3.getLsbD 16 else (s.chan i).flags.hold,
            notify := if w3.getLsbD 25 then w3.getLsbD 17 else (s.chan i).flags.notify,
            urgent := if w3.getLsbD 26 then w3.getLsbD 18 else (s.chan i).flags.urgent } })
      ∧ (∀ i, ¬ (i < 48 ∧ inChannelMask w2 w3 i = true ∧ qualifies i = true) → t.chan i = s.chan i)
      ∧ changed = (List.range 48).countP (fun i => (t.chan i).flags != (s.chan i).flags)
      ∧ skipped = (List.range 48).countP (fun i => inChannelMask w2 w3 i && !qualifies i))

/-- R18: CHANNEL RESET clears the counters and HOLD and sets the state from the key; it is refused for a part FAILED, an
index out of range, an EMPTY descriptor, a key level of 0 and a CLOSING descriptor, in this order. -/
def Obligations.ChannelResetClearsCounters : Prop :=
  ∀ (s : State) (w2 : Word) (i : Nat), i = fieldD w2 → s.sPort.cmd = .idle →
    (∀ st : Status,
      (s.partState = .failed ∧ st = .refusedState
        ∨ s.partState ≠ .failed ∧ ((i = 0 ∨ 47 < i) ∧ st = .refusedRange
          ∨ 1 ≤ i ∧ i ≤ 47 ∧ ((s.chan i).kind = .empty ∧ st = .notFound
            ∨ (s.chan i).kind ≠ .empty ∧ (s.keyLevel i = 0 ∧ st = .refusedPort
              ∨ s.keyLevel i ≠ 0 ∧ (s.chan i).state = .closing ∧ st = .refusedState)))) →
      exec (.channelReset .s w2) s = .next { s with sPort := s.sPort.withAnswer st [] })
    ∧ (s.partState ≠ .failed → 1 ≤ i → i ≤ 47 → (s.chan i).state ≠ .closing →
    ∀ st : ChanState,
      ((∃ x, (s.chan i).kind = .data ∧ 1 ≤ (s.chan i).level ∧ (s.chan i).current = some x
          ∧ st = if (s.slot x).spent then .exhausted else .opened)
        ∨ ∃ g, (s.chan i).kind = .aliased ∧ (s.chan i).target = some g ∧ 1 ≤ (s.chan g).level ∧ st = (s.chan g).state) →
      ∃ t, exec (.channelReset .s w2) s = .next t
        ∧ t = { s with chans := t.chans, sPort := s.sPort.withAnswer .done [] }
        ∧ t.chan i = { s.chan i with sent := 0, received := 0, refused := 0, discarded := 0, state := st,
                                     flags := { (s.chan i).flags with hold := false } }
        ∧ (∀ j, j ≠ i → t.chan j = s.chan j))

/-- R19, R185: CHANNEL READ returns the fields of the descriptor, from either port, and changes no field; an index above
47 is refused REFUSED_RANGE. How an absent target reads is open (log entry 11). -/
def Obligations.ChannelReadShowsDescriptor : Prop :=
  ∀ (s : State) (p : Port) (w2 : Word), (s.port p).cmd = .idle →
    ∃ t, exec (.channelRead p w2) s = .next t ∧ t = { s with sPort := t.sPort, lPort := t.lPort }
      ∧ t.port p.other = s.port p.other
      ∧ (47 < fieldD w2 → t.port p = (s.port p).withAnswer .refusedRange [])
      ∧ (fieldD w2 ≤ 47 → ∃ a b d, t.port p = (s.port p).withAnswer .done
            [a, b, word1 (s.chan (fieldD w2)).sent, word1 (s.chan (fieldD w2)).received, word1 (s.chan (fieldD w2)).refused,
              word1 (s.chan (fieldD w2)).discarded, d]
          ∧ fieldA a = (s.chan (fieldD w2)).kind.code ∧ fieldB a = (s.chan (fieldD w2)).level % 256
          ∧ fieldC a = (s.chan (fieldD w2)).state.code ∧ a.getLsbD 0 = (s.chan (fieldD w2)).flags.hold
          ∧ a.getLsbD 1 = (s.chan (fieldD w2)).flags.notify ∧ a.getLsbD 2 = (s.chan (fieldD w2)).flags.urgent
          ∧ fieldA b = ((s.chan (fieldD w2)).current.getD 255) % 256
          ∧ fieldB b = ((s.chan (fieldD w2)).alternate.getD 255) % 256
          ∧ (∀ g, (s.chan (fieldD w2)).target = some g → fieldC b = g % 256)
          ∧ fieldD b = (s.chan (fieldD w2)).aliasCount % 256 ∧ d.getLsbD 0 = (s.chan (fieldD w2)).inEngine)

/-- R41, R170, R185: KEY STATUS and PART READ answer DONE with the words of the slot or section, field by field as R185 lays
them out, and change no field; a slot above 23 or a section of none is refused REFUSED_RANGE. That the ticks of a closed
erase window read 0 is log entry 23. -/
def Obligations.ReadingCommandsChangeNothing : Prop :=
  ∀ (s : State) (p : Port) (w2 : Word), (s.port p).cmd = .idle →
    (∃ t, exec (.keyStatus p w2) s = .next t ∧ t = { s with sPort := t.sPort, lPort := t.lPort }
      ∧ t.port p.other = s.port p.other
      ∧ (23 < fieldD w2 → t.port p = (s.port p).withAnswer .refusedRange [])
      ∧ (fieldD w2 = 0 → ∃ ws, t.port p = (s.port p).withAnswer .done ws ∧ ws.map (·.toNat) =
          [bytesWord (if s.root.active then 2 else 0) (if s.root.pendingRoot.isSome then 1 else 0) 0 0
              + (match s.root.storeTag with | some tag => tag.toNat | none => 0),
            0, s.root.txCounter / 2 ^ 32 % 2 ^ 16, s.root.txCounter % 2 ^ 32, 0, 0, 0, 0, 0, 0, 0, 0, 0])
      ∧ ∀ v, v = s.slot (fieldD w2) → 1 ≤ fieldD w2 → fieldD w2 ≤ 23 → ∃ ws, t.port p = (s.port p).withAnswer .done ws
          ∧ ws.map (·.toNat) =
            [bytesWord v.state.code v.generation.toNat v.level v.refs,
              bytesWord (v.predecessor.getD 255) (v.successor.getD 255) v.drain ((if v.spent then 1 else 0)
                + (if v.suspect then 2 else 0) + (if v.requested then 4 else 0) + (if v.engineUse then 8 else 0)),
              bytesWord v.tagFailures v.replays 0 0 + v.txCounter / 2 ^ 32 % 2 ^ 16, v.txCounter % 2 ^ 32,
              halvesWord v.lead (v.top / 2 ^ 32), v.top % 2 ^ 32, v.used % 2 ^ 32, v.intervalCharge % 2 ^ 32,
              v.rate % 2 ^ 32, v.hard % 2 ^ 32, v.soft % 2 ^ 32, v.maxAge % 2 ^ 32, v.age % 2 ^ 32])
    ∧ ∃ t, exec (.partRead p w2) s = .next t ∧ t = { s with sPort := t.sPort, lPort := t.lPort }
      ∧ t.port p.other = s.port p.other
      ∧ (¬ (1 ≤ fieldD w2 ∧ fieldD w2 ≤ 6) → t.port p = (s.port p).withAnswer .refusedRange [])
      ∧ (1 ≤ fieldD w2 → fieldD w2 ≤ 6 → ∃ ws, t.port p = (s.port p).withAnswer .done ws
        ∧ (fieldD w2 = 1 → ws.map (·.toNat) =
            [bytesWord s.partState.code (match s.eraseWindow with | none => 0 | some (.s, _) => 1 | some (.l, _) => 2)
                (match s.eraseWindow with | none => 0 | some (_, n) => n) (if s.link.test.isSome then 1 else 0),
              s.tick % 2 ^ 32])
        ∧ (fieldD w2 = 2 → ws.map (·.toNat) =
            [bytesWord s.pool.free s.sIn.length s.sOut.length s.lRx.length,
              bytesWord s.lTx.length s.ctrl.length (if s.pool.setAside then 1 else 0) (if s.pool.low then 1 else 0),
              bytesWord s.pool.sPort.af s.pool.sPort.ae (causesByte s.sPort.enable) 0,
              bytesWord s.pool.lPort.af s.pool.lPort.ae (causesByte s.lPort.enable) 0,
              halvesWord s.pool.sPort.overrun s.pool.lPort.overrun])
        ∧ (fieldD w2 = 3 → ws.map (·.toNat) =
            bytesWord (if s.engine.work.isSome then 1 else 0)
                (match s.engine.work with
                  | none => 0
                  | some (.inbound ..) => 1 | some (.outData ..) => 2 | some (.outControl ..) => 3 | some (.test _) => 4
                  | some .selfCheck => 5)
                (match s.engine.lastDirection with | .outbound => 0 | .inbound => 1) 0
              :: [s.engine.discards.notReady, s.engine.discards.unknownKey, s.engine.discards.suspect,
                  s.engine.discards.replay, s.engine.discards.tagFail, s.engine.discards.noChannel, s.engine.discards.held,
                  s.engine.discards.rootLimit].map (· % 2 ^ 32))
        ∧ (fieldD w2 = 4 → ws.map (·.toNat) =
            [bytesWord s.link.quiet.code s.link.quietRemaining s.link.malformed s.link.lastMalformed,
              halvesWord s.link.foreign s.link.overrun, halvesWord s.link.lastForeign s.link.lastOverrun]
            ++ [s.link.totalMalformed, s.link.totalForeign, s.link.totalOverrun, s.link.probesAnswered,
                s.link.probesDropped].map (· % 2 ^ 32))
        ∧ (∀ m, m = s.messenger → fieldD w2 = 5 → ws.map (·.toNat) =
            [bytesWord m.nextExchange m.finished.length (if m.noSlotMark then 1 else 0) 0,
              bytesWord (m.finished.getD 0 0) (m.finished.getD 1 0) (m.finished.getD 2 0) (m.finished.getD 3 0),
              bytesWord (m.finished.getD 4 0) (m.finished.getD 5 0) (m.finished.getD 6 0) (m.finished.getD 7 0),
              (match m.lastRefusal with | some (e, r) => bytesWord e r 0 0 | none => 0),
              halvesWord m.handedDelivery m.handedCommit, halvesWord m.handedRefuse m.handedRenew,
              halvesWord m.handedOrder m.handedAck, halvesWord m.handedProbe m.unparseable,
              halvesWord m.stale m.rejectNotEmpty, halvesWord m.rejectNoSlot m.rejectLevel,
              halvesWord m.rejectGeneration m.rejectWrapCheck, halvesWord m.rejectNoContext m.rejectsNotSent,
              halvesWord m.ordersApplied m.ordersNotApplied])
        ∧ ∀ n, n = s.renewal → fieldD w2 = 6 → ws.map (·.toNat) =
            [n.list.length % 256]
            ++ (List.range 8).map (fun k => match n.list[k]? with
                | some e => e.slot.getD 255 % 256 * 2 ^ 24 + e.urgency % 16 * 2 ^ 20 + e.reason.code * 2 ^ 16
                    + e.arrival % 2 ^ 16
                | none => 0)
            ++ [0, 1, 2, 3].flatMap (fun c =>
                [bytesWord (s.ctx c).state.code ((s.ctx c).exchange.getD 0)
                    (match (s.ctx c).kind with
                      | none => 0
                      | some .renewal => 1 | some .boot => 2 | some .install => 3 | some .root => 4)
                    ((s.ctx c).subject.getD 255),
                  (s.ctx c).successor.getD 255 % 256 * 2 ^ 24
                    + (match (s.ctx c).reason with | none => 0 | some r => r.code) * 2 ^ 20
                    + (s.ctx c).attempt % 16 * 2 ^ 16 + (s.ctx c).send.code * 2 ^ 8 + (s.ctx c).reply % 256])
            ++ (List.range 6).map (fun k => bytesWord
                (if k = 0 then n.bootBackoff.remaining else (s.backoff (4 * k)).remaining) (s.backoff (4 * k + 1)).remaining
                (s.backoff (4 * k + 2)).remaining (s.backoff (4 * k + 3)).remaining)
            ++ [halvesWord n.received n.notListed, halvesWord n.replaced n.started, halvesWord n.completed n.failed,
                halvesWord n.refused 0])

/-- R25, the law of key secrecy: what a port's reads and reading commands leave at both ports does not depend on the
material of any slot. -/
def Obligations.ReadsRevealNoMaterial : Prop :=
  ∀ (s : State) (m : Nat → Block) (root pendingRoot : Block) (p : Port) (w : Word) (sel : BitVec 3) (i : Instr),
    (s.port p).cmd = .idle →
    i ∈ [Instr.channelRead p w, .keyStatus p w, .faultRead p w, .partRead p w, .statusRead p, .responseRead p, .mailboxRead p,
      .frameOutRead p, .registerWriteOther p sel .read] →
    ∃ t u, exec i s = .next t ∧ exec i (s.rekey m root pendingRoot) = .next u ∧ u.sPort = t.sPort ∧ u.lPort = t.lPort

/-- R162: FAULT READ returns the list length, the overflow mark and up to 4 records from the position named, and changes
no field; a position above 15 is refused REFUSED_RANGE. -/
def Obligations.FaultReadShowsRecords : Prop :=
  ∀ (s : State) (p : Port) (w2 : Word), (s.port p).cmd = .idle →
    ∃ t, exec (.faultRead p w2) s = .next t ∧ t = { s with sPort := t.sPort, lPort := t.lPort }
      ∧ t.port p.other = s.port p.other
      ∧ (15 < fieldD w2 → t.port p = (s.port p).withAnswer .refusedRange [])
      ∧ (fieldD w2 ≤ 15 → ∃ a ws, t.port p = (s.port p).withAnswer .done (a :: ws)
          ∧ fieldA a = s.faults.records.length % 256 ∧ a.getLsbD 0 = s.faults.overflow
          ∧ fieldB a = min 4 (s.faults.records.length - fieldD w2) ∧ ws.length = 4 * fieldB a
          ∧ ∀ k r, k < 4 → s.faults.records[fieldD w2 + k]? = some r →
              ∃ b c d e, ws[4 * k]? = some b ∧ ws[4 * k + 1]? = some c ∧ ws[4 * k + 2]? = some d ∧ ws[4 * k + 3]? = some e
                ∧ fieldA b = r.id % 256 ∧ fieldB b = r.kind.code ∧ fieldC b = r.subject.code % 256 ∧ fieldD b = r.count % 256
                ∧ c = word1 r.first ∧ d = word1 r.last ∧ fieldA e = (if r.active then 1 else 2)
                ∧ fieldB e = (if r.kind.major then 1 else 2) ∧ fieldC e = r.acked % 256 ∧ e.getLsbD 0 = r.reported)

/-- R171, R124, R129, R130, R131: RENEW NOW for an ACTIVE slot sends a LOCAL trigger and reports its outcome; it is refused in
BOOT and FAILED, then for a slot out of range, then for one not ACTIVE; an ORDER RENEW for an ACTIVE slot sends an ORDER
trigger in the same way and is counted applied, and for any other slot it is counted not applied. -/
def Obligations.RenewNowReportsOutcome : Prop :=
  (∀ (s : State) (w2 : Word) (x : Nat), x = fieldD w2 → s.sPort.cmd = .idle → s.partState ≠ .boot → s.partState ≠ .failed →
    1 ≤ x → x ≤ 23 → (s.slot x).state = .active →
    ∃ t k, exec (.renewNow .s w2) s = .next t
      ∧ t = { s with slots := t.slots, renewal := t.renewal, sPort := s.sPort.withAnswer .done [k] }
      ∧ t.triggeredFrom s x .locally k.toNat)
  ∧ (∀ (s : State) (w2 : Word) (x : Nat) (st : Status), x = fieldD w2 → s.sPort.cmd = .idle →
    ((s.partState = .boot ∨ s.partState = .failed) ∧ st = .refusedState
      ∨ s.partState ≠ .boot ∧ s.partState ≠ .failed
        ∧ ((x = 0 ∨ 23 < x) ∧ st = .refusedRange
          ∨ 1 ≤ x ∧ x ≤ 23 ∧ (s.slot x).state ≠ .active ∧ st = .refusedState)) →
    exec (.renewNow .s w2) s = .next { s with sPort := s.sPort.withAnswer st [] })
  ∧ ∀ (s : State) (x : Nat),
    (1 ≤ x → x ≤ 23 → (s.slot x).state = .active → ∃ t k, s.takeMessage (.renew x) = t
      ∧ t = { s with slots := t.slots, renewal := t.renewal,
                     messenger := { s.messenger with ordersApplied := min (s.messenger.ordersApplied + 1) 65535 } }
      ∧ t.triggeredFrom s x .order k)
    ∧ (¬ (1 ≤ x ∧ x ≤ 23 ∧ (s.slot x).state = .active) → s.takeMessage (.renew x) =
      { s with messenger := { s.messenger with ordersNotApplied := min (s.messenger.ordersNotApplied + 1) 65535 } })

/-- R73, R72: QUEUE LIMITS sets the clamped offsets and the enable set of the asking port alone, in every part state. -/
def Obligations.QueueLimitsClamped : Prop :=
  ∀ (s : State) (p : Port) (w2 : Word) (af ae : Nat), (s.port p).cmd = .idle →
    af = (if fieldA w2 = 0 then 1 else if 24 < fieldA w2 then 24 else fieldA w2) →
    ae = (if fieldB w2 = 0 then 1 else if 24 < fieldB w2 then 24 else fieldB w2) →
    ∃ t k, exec (.queueLimits p w2) s = .next t ∧ fieldA k = af ∧ fieldB k = ae ∧ fieldLow k = 0
      ∧ t.port p = { (s.port p).withAnswer .done [k] with
          enable := { inRoom := w2.getLsbD 0, outReady := w2.getLsbD 1, mail := w2.getLsbD 2, response := w2.getLsbD 3,
                      fault := w2.getLsbD 4, lost := w2.getLsbD 5 } }
      ∧ t.port p.other = s.port p.other
      ∧ t.pool.port p = { s.pool.port p with af := af, ae := ae } ∧ t.pool.port p.other = s.pool.port p.other
      ∧ t = { s with pool := { s.pool with sPort := t.pool.sPort, lPort := t.pool.lPort }, sPort := t.sPort, lPort := t.lPort }
      ∧ (t.inRoom p = true ↔ af ≤ 32 - s.inCount p) ∧ (t.outReady p = true ↔ ae ≤ s.outCount p)

/-- R74, R65, R66: QUEUE RESET empties the named queue of the asking port, returns its buffers, ends its push or pull and
answers the number of frames removed; a code of no queue is refused REFUSED_RANGE. -/
def Obligations.QueueResetEmptiesQueue : Prop :=
  ∀ (s : State) (p : Port) (w2 : Word), (s.port p).cmd = .idle →
    ∃ t, exec (.queueReset p w2) s = .next t
      ∧ (fieldD w2 = 1 → (t.port p).answered .done [word4 0 0 0 (s.inCount p)] ∧ t.pool.free = s.pool.free + s.inCount p
          ∧ t = { s with sIn := if p = .s then [] else s.sIn, lRx := if p = .l then [] else s.lRx,
                         pool := { s.pool with free := t.pool.free, low := t.pool.low }, faults := t.faults, beacon := t.beacon,
                         sPort := t.sPort, lPort := t.lPort }
          ∧ (∀ n, (s.port p).push = .frame n → (t.port p).push = .ignoring n ∧ (t.port p).lostPush = true)
          ∧ (t.port p).pullPos = (s.port p).pullPos)
      ∧ (fieldD w2 = 2 → (t.port p).answered .done [word4 0 0 0 (s.outCount p)] ∧ t.pool.free = s.pool.free + s.outCount p
          ∧ t = { s with sOut := if p = .s then [] else s.sOut, lTx := if p = .l then [] else s.lTx,
                         pool := { s.pool with free := t.pool.free, low := t.pool.low }, faults := t.faults, beacon := t.beacon,
                         sPort := t.sPort, lPort := t.lPort }
          ∧ (t.port p).pullPos = 0 ∧ (t.port p).push = (s.port p).push ∧ (t.port p).lostPush = (s.port p).lostPush)
      ∧ (fieldD w2 ≠ 1 → fieldD w2 ≠ 2 → t.port p = (s.port p).withAnswer .refusedRange [] ∧ t.port p.other = s.port p.other
          ∧ t = { s with sPort := t.sPort, lPort := t.lPort })

/-- R153, R159: FAULT DISMISS removes a CLEARED, reported record and passes the position marker on; it answers NOT_FOUND
for no record and REFUSED_STATE for one that is ACTIVE or not reported. R154: a REPORT ACK applies its pairs one at a time,
each to a reported record alone, raising its acked count to min(count seen, count) and removing a CLEARED record that is
acked whole; then it clears the overflow mark when the report told of it. -/
def Obligations.FaultDismissRemovesRecord : Prop :=
  (∀ (s : State) (w2 : Word), s.sPort.cmd = .idle →
    ((∀ r ∈ s.faults.records, r.id ≠ fieldD w2) →
      exec (.faultDismiss .s w2) s = .next { s with sPort := s.sPort.withAnswer .notFound [] })
    ∧ ∀ (pre post : List FaultRecord) (r : FaultRecord), s.faults.records = pre ++ r :: post → r.id = fieldD w2 →
      (∀ q ∈ pre ++ post, q.id ≠ fieldD w2) →
      ((r.active = true ∨ r.reported = false) →
        exec (.faultDismiss .s w2) s = .next { s with sPort := s.sPort.withAnswer .refusedState [] })
      ∧ (r.active = false → r.reported = true → exec (.faultDismiss .s w2) s =
          .next { s with faults := { s.faults with records := pre ++ post },
                         beacon := { s.beacon with marker :=
                           if s.beacon.marker = some r.id then pre.getLast?.map (·.id) else s.beacon.marker },
                         sPort := s.sPort.withAnswer .done [] }))
  ∧ ∀ (s : State) (number id seen : Nat) (rest : List (Nat × Nat)),
    (s.takeMessage (.ack number []) = if number ∈ s.faults.overflowReports then
        { s with faults := { s.faults with overflow := false, overflowReports := [] } } else s)
    ∧ ((∀ r ∈ s.faults.records, r.id = id → r.reported = false) →
        s.takeMessage (.ack number ((id, seen) :: rest)) = s.takeMessage (.ack number rest))
    ∧ ∀ (pre post : List FaultRecord) (r : FaultRecord) (acked : Nat), s.faults.records = pre ++ r :: post → r.id = id →
      (∀ q ∈ pre ++ post, q.id ≠ id) → r.reported = true →
      acked = (if r.acked < min seen r.count then min seen r.count else r.acked) →
      (¬ (r.active = false ∧ acked = r.count) → s.takeMessage (.ack number ((id, seen) :: rest)) =
        ({ s with faults := { s.faults with records := pre ++ { r with acked := acked } :: post } } : State).takeMessage
          (.ack number rest))
      ∧ (r.active = false → acked = r.count → s.takeMessage (.ack number ((id, seen) :: rest)) =
        ({ s with faults := { s.faults with records := pre ++ post },
                  beacon := { s.beacon with marker :=
                    if s.beacon.marker = some id then pre.getLast?.map (·.id) else s.beacon.marker } } : State).takeMessage
          (.ack number rest))

/-- R155, R156: BEACON SET writes the clamped shadow, BEACON COMMIT loads it and starts a fresh cycle or lets the running
one be the last, BEACON HALT stops the beacon. -/
def Obligations.BeaconCommandsSetCommitHalt : Prop :=
  ∀ s : State, s.sPort.cmd = .idle →
    (∀ (w2 : Word) (m : BeaconMode), beaconModeOf (fieldA w2) = some m → ∃ t k, exec (.beaconSet .s w2) s = .next t
      ∧ t = { s with sPort := s.sPort.withAnswer .done [k],
                     beacon := { s.beacon with shadow :=
                       { mode := m,
                         period := if fieldLow w2 < 5 then 5 else if 3600 < fieldLow w2 then 3600 else fieldLow w2,
                         repeats := if 15 < fieldB w2 then 15 else fieldB w2 } } }
      ∧ fieldA k = m.code ∧ fieldB k = t.beacon.shadow.repeats ∧ fieldLow k = t.beacon.shadow.period)
    ∧ (∀ w2 : Word, 2 < fieldA w2 → exec (.beaconSet .s w2) s = .next { s with sPort := s.sPort.withAnswer .refusedRange [] })
    ∧ (∃ t, exec (.beaconCommit .s) s = .next t
        ∧ t = { s with beacon := t.beacon, sPort := s.sPort.withAnswer .done [beaconWord s.beacon.shadow] }
        ∧ (s.beacon.shadow.mode = .idle → t.beacon = { s.beacon with
            working := s.beacon.shadow,
            lastCycle := s.beacon.lastCycle || s.beacon.running })
        ∧ (s.beacon.shadow.mode ≠ .idle → t.beacon = { s.beacon with
            working := s.beacon.shadow, running := true,
            remaining := s.beacon.shadow.period, cycleMode := s.beacon.shadow.mode, lastCycle := false,
            oneShot := if s.beacon.shadow.mode = .oneShot then s.beacon.shadow.repeats + 1 else s.beacon.oneShot }))
    ∧ ∃ t, exec (.beaconHalt .s) s = .next t
        ∧ t.beacon = { s.beacon with running := false, remaining := 0, lastCycle := false,
                                     working := { s.beacon.working with mode := .idle } }
        ∧ t = { s with beacon := t.beacon, sPort := s.sPort.withAnswer .done [beaconWord t.beacon.working] }

/-- R39, R178, R179: LOAD ROOT in NO_ROOT stays IN PROGRESS until its write completes; the completion makes slot 0 ACTIVE
with counter 1, answers DONE and enters BOOTSTRAP, which sends the BOOT trigger; an ERASE that waits then empties it. -/
def Obligations.LoadRootEntersBootstrap : Prop :=
  (∀ (s : State) (w2 w3 w4 w5 w6 : Word), s.sPort.cmd = .idle →
    (s.partState = .noRoot → exec (.loadRoot .s w2 w3 w4 w5 w6) s =
      .next { s with sPort := { s.sPort with cmd := .inProgress (.loadRoot (w2 ++ w3 ++ w4 ++ w5) (w6.extractLsb' 0 16)) } })
    ∧ (s.partState ≠ .noRoot →
        exec (.loadRoot .s w2 w3 w4 w5 w6) s = .next { s with sPort := s.sPort.withAnswer .refusedState [] }))
  ∧ ∀ (s : State) (key : Block) (tag : BitVec 16), s.sPort.cmd = .inProgress (.loadRoot key tag) →
      (s.lPort.cmd ≠ .inProgress .erase → ∃ t, exec .loadRootWriteComplete s = .next t
        ∧ t = { s with partState := .bootstrap, slots := t.slots, renewal := t.renewal,
                       sPort := s.sPort.withAnswer .done [],
                       root := { s.root with active := true, material := key, storeTag := some tag, txCounter := 1,
                                             unsavedCounter := none } }
        ∧ t.renewal.received = min (s.renewal.received + 1) 65535
        ∧ (s.renewal.list.length < 8 → t.slots = s.slots)
        ∧ (∀ x, t.slot x = { s.slot x with requested := (t.slot x).requested }))
      ∧ (s.lPort.cmd = .inProgress .erase → ∃ t, exec .loadRootWriteComplete s = .next t ∧ t.partState = .noRoot
        ∧ t.root = {} ∧ t.sPort.answered .done [] ∧ t.lPort.answered .done [3])

/-- R181, R23, R44, R75, R99, R101, R102, R114, R116, R146, R163, R164: what PART RESET cuts off and what it keeps; in BOOT and
FAILED it is refused. The numbers of the open exchanges join the finished list in ascending order of context, and the SPENT
and SUSPECT triggers of the kept slots, and BOOT in BOOTSTRAP, are sent anew. RESTARTED takes the next fault identifier, which
is kept, and the overflow mark and its reports are clear before the faults of kept slots are raised anew. R164, R172: what it
does to the ports (an already ignored push or mailbox write is log entry 16). That RESTARTED stands before the faults raised
anew, and the order of those and of the triggers, is log entry 14; that a counter update of slot 0 then in progress is
completed is log entry 9. -/
def Obligations.PartResetCutsOffWork : Prop :=
  (∀ s : State, s.sPort.cmd = .idle → (s.partState = .boot ∨ s.partState = .failed) →
    exec (.partReset .s) s = .next { s with sPort := s.sPort.withAnswer .refusedState [] })
  ∧ ∀ s : State, s.sPort.cmd = .idle →
    (s.partState = .noRoot ∨ s.partState = .bootstrap ∨ s.partState = .run ∨ s.partState = .quiesced) →
    ∃ t, exec (.partReset .s) s = .next t
      ∧ t.partState = (if (s.chan 0).state = .closing ∨ (s.chan 0).current = none then
          (if s.root.active then .bootstrap else .noRoot) else .run)
      ∧ t.pool = {} ∧ t.sIn = [] ∧ t.sOut = [] ∧ t.lRx = [] ∧ t.lTx = [] ∧ t.ctrl = [] ∧ t.eraseWindow = none
      ∧ t.engine = { s.engine with work := none, lastDirection := .outbound, burst := t.engine.burst }
      ∧ (∀ x, t.burst x = false)
      ∧ (∀ i, t.chan i = if (s.chan i).state = .closing then {} else { s.chan i with inEngine := false })
      ∧ (∀ x, (s.slot x).state = .staged → t.slot x = {})
      ∧ (∀ x, (s.slot x).state ≠ .staged → t.slot x =
          { s.slot x with engineUse := false, requested := (t.slot x).requested,
                          drain := if (s.slot x).state = .draining then 32 else (s.slot x).drain,
                          predecessor := (t.slot x).predecessor, successor := (t.slot x).successor })
      ∧ (∀ x y, (s.slot x).state ≠ .staged → (s.slot x).successor = some y →
          (t.slot x).successor = if (s.slot y).state = .staged then none else some y)
      ∧ (∀ x y, (s.slot x).state ≠ .staged → (s.slot x).predecessor = some y →
          (t.slot x).predecessor = if (s.slot y).state = .staged then none else some y)
      ∧ (∀ x, (s.slot x).state ≠ .staged → ((s.slot x).successor = none → (t.slot x).successor = none)
          ∧ ((s.slot x).predecessor = none → (t.slot x).predecessor = none))
      ∧ t.link = { s.link with quiet := if t.partState = .run then .running else .stopped, quietRemaining := 15,
                               quietMark := false, malformed := 0, foreign := 0, overrun := 0, malformedMark := false,
                               test := none, selfCheckMark := false }
      ∧ t.root = { s.root with pendingRoot := none, unsavedCounter := none }
      ∧ (∀ c, t.ctx c = if (s.ctx c).isOpen then {} else s.ctx c)
      ∧ t.tick = s.tick ∧ t.intervalTicks = s.intervalTicks
      ∧ (let ended := ([0, 1, 2, 3].filter fun c => (s.ctx c).isOpen).filterMap fun c => (s.ctx c).exchange
         let join (l : List Nat) (e : Nat) : List Nat :=
           if 8 < (l.filter (· ≠ e)).length + 1 then (l.filter (· ≠ e) ++ [e]).tail else l.filter (· ≠ e) ++ [e]
         t.messenger = { s.messenger with noSlotMark := false, finished := ended.foldl join s.messenger.finished })
      ∧ t.renewal = { s.renewal with list := t.renewal.list, contexts := t.renewal.contexts, backoff := t.renewal.backoff,
                                     bootBackoff := {}, bootRelist := t.renewal.bootRelist, received := t.renewal.received,
                                     notListed := t.renewal.notListed, replaced := t.renewal.replaced }
      ∧ (∀ x, t.backoff x = {})
      ∧ (let spent := (List.range 24).filter fun x => (s.slot x).state == .active && (s.slot x).spent
         let suspect := (List.range 24).filter fun x =>
           (s.slot x).state == .active && (s.slot x).suspect && !(s.slot x).spent
         let boot : List (Option Nat × Reason) := if t.partState = .bootstrap then [(none, .boot)] else []
         let sent := spent.map (fun x => (some x, Reason.spent)) ++ suspect.map (fun x => (some x, Reason.suspect)) ++ boot
         t.renewal.received = (if sent = [] then s.renewal.received else min (s.renewal.received + sent.length) 65535)
           ∧ (sent.length ≤ 8 → t.renewal.notListed = s.renewal.notListed ∧ t.renewal.replaced = s.renewal.replaced
             ∧ t.renewal.bootRelist = .idle ∧ (∀ x, (t.slot x).requested = true ↔ x ∈ spent ∨ x ∈ suspect)
             ∧ t.renewal.list.Perm (sent.mapIdx fun k q =>
                 { slot := q.1, urgency := 2, reason := q.2, arrival := min (s.renewal.received + k + 1) 65535 })
             ∧ (s.renewal.received + 8 < 65535 → t.renewal.list.map (fun e => (e.slot, e.reason)) = sent)))
      ∧ (t.faults.records.length < 16 →
          ∃ r rs, t.faults.records = r :: rs ∧ r.kind = .restarted ∧ r.active = false ∧ r.first = s.tick)
      ∧ (let anew : List (FaultKind × Subject) := (List.range 24).flatMap fun x =>
           (if (s.slot x).state = .active ∧ (s.slot x).spent = true then
              [(if (s.slot x).maxAge + 256 ≤ (s.slot x).age then .keyAgeOver else .keySpent, .slot x)] else [])
           ++ if ((s.slot x).state = .active ∨ (s.slot x).state = .draining) ∧ (s.slot x).suspect = true then
              [(.tagFails, .slot x)] else []
         t.faults.overflowReports = [] ∧ t.faults.records.length = min (anew.length + 1) 16
           ∧ (t.faults.overflow = true ↔ 16 < anew.length)
           ∧ (1 ≤ s.faults.nextId → s.faults.nextId ≤ 255 → anew.length ≤ 15 → t.faults =
               { records :=
                   { id := s.faults.nextId, kind := .restarted, subject := .nothing, count := 1, first := s.tick, last := s.tick,
                     active := false, acked := 0, reported := false }
                   :: anew.mapIdx fun k q =>
                     { id := (s.faults.nextId + k) % 255 + 1, kind := q.1, subject := q.2, count := 1, first := s.tick,
                       last := s.tick, active := true, acked := 0, reported := false }
                 nextId := (s.faults.nextId + anew.length) % 255 + 1, overflow := false, overflowReports := [] }))
      ∧ ((∀ x, (s.slot x).spent = false ∧ (s.slot x).suspect = false) → t.faults.records.length = 1)
      ∧ t.beacon = { nextReport := s.beacon.nextReport, oneShot := 1 }
      ∧ t.sPort.answered .done [] ∧ (s.lPort.cmd.busy = true → t.lPort.answered .refusedState [])
      ∧ (s.lPort.cmd.busy = false → t.lPort.response = s.lPort.response ∧ t.lPort.responseCause = s.lPort.responseCause)
      ∧ ∀ p, t.portReset s p

/-- R180, R102: QUIESCE is taken in RUN and RESUME in QUIESCED; each is refused REFUSED_STATE in any other state. -/
def Obligations.QuiesceAndResume : Prop :=
  ∀ s : State, s.sPort.cmd = .idle →
    (s.partState = .run → exec (.quiesce .s) s = .next { s with
      partState := .quiesced, link := { s.link with quiet := .paused }, sPort := s.sPort.withAnswer .done [] })
    ∧ (s.partState ≠ .run → exec (.quiesce .s) s = .next { s with sPort := s.sPort.withAnswer .refusedState [] })
    ∧ (s.partState = .quiesced → exec (.resume .s) s = .next { s with
      partState := .run, link := { s.link with quiet := .running }, sPort := s.sPort.withAnswer .done [] })
    ∧ (s.partState ≠ .quiesced → exec (.resume .s) s = .next { s with sPort := s.sPort.withAnswer .refusedState [] })

/-- R42, R43, R182: ERASE opens the window, restarts it for its owner, and executes when the other port asks; the window
closes at 0. An executed erase empties the part. R163: its fault list holds the ERASED record alone, born CLEARED under the
next identifier, which keeps running with the next report number; the overflow mark is clear and the beacon at its defaults,
its one-shot reports armed. R164, R172: what it does to the ports (an already ignored push or mailbox write is log entry 16).
An expiry before its time, or with the window closed, changing nothing is log entry 2. -/
def Obligations.EraseNeedsBothPorts : Prop :=
  (∀ (s : State) (p : Port), (s.port p).cmd = .idle →
    ((s.eraseWindow = none ∨ ∃ n, s.eraseWindow = some (p, n)) → ∃ t, exec (.erase p) s = .next t
      ∧ t = { s with eraseWindow := some (p, 10), sPort := t.sPort, lPort := t.lPort } ∧ t.port p.other = s.port p.other
      ∧ t.port p = (s.port p).withAnswer .done [if s.eraseWindow = none then 1 else 2])
    ∧ ∀ n, s.eraseWindow = some (p.other, n) →
      ((s.partState = .boot ∨ s.loadRootWriting = true) → ∃ t, exec (.erase p) s = .next t
        ∧ t = { s with eraseWindow := none, sPort := t.sPort, lPort := t.lPort } ∧ t.port p.other = s.port p.other
        ∧ t.port p = { s.port p with cmd := .inProgress .erase })
      ∧ (s.partState ≠ .boot → s.loadRootWriting = false → ∃ t, exec (.erase p) s = .next t
        ∧ t = { State.reset with pending := s.pending, partState := if s.partState = .failed then .failed else .noRoot,
                                 tick := s.tick, intervalTicks := s.intervalTicks, selfCheckPending := s.selfCheckPending,
                                 faults := t.faults, beacon := t.beacon, sPort := t.sPort, lPort := t.lPort }
        ∧ (t.port p).answered .done [3]
        ∧ ((s.port p.other).cmd.busy = true → (t.port p.other).answered .refusedState [])
        ∧ ((s.port p.other).cmd.busy = false → (t.port p.other).response = (s.port p.other).response
            ∧ (t.port p.other).responseCause = (s.port p.other).responseCause)
        ∧ t.faults = { records := [{ id := s.faults.nextId, kind := .erased, subject := .nothing, count := 1, first := s.tick,
                                     last := s.tick, active := false, acked := 0, reported := false }],
                       nextId := if 255 ≤ s.faults.nextId then 1 else s.faults.nextId + 1, overflow := false,
                       overflowReports := [] }
        ∧ t.beacon = { nextReport := s.beacon.nextReport, oneShot := 1 } ∧ ∀ q, t.portReset s q))
  ∧ (∀ s : State, s.eraseWindow = none → exec .eraseWindowExpiry s = .next s)
  ∧ (∀ (s : State) (p : Port), s.eraseWindow = some (p, 0) → exec .eraseWindowExpiry s = .next { s with eraseWindow := none })
  ∧ ∀ (s : State) (p : Port) (n : Nat), s.eraseWindow = some (p, n + 1) → exec .eraseWindowExpiry s = .next s

/-! ### Faults -/

/-- R160: ALARM is asserted exactly while the list holds an ACTIVE record of severity MAJOR; it is released after
power-on. -/
def Obligations.AlarmFollowsList : Prop :=
  (∀ s : State, s.alarm = true ↔ ∃ r ∈ s.faults.records, r.active = true
      ∧ (r.kind = .linkQuiet ∨ r.kind = .tagFails ∨ r.kind = .keySpent ∨ r.kind = .keyAgeOver ∨ r.kind = .renewalFailed
          ∨ r.kind = .noKeySlot ∨ r.kind = .selfCheckFail ∨ r.kind = .erased))
    ∧ State.reset.alarm = false

/-- R150, R152, R158, R159, R161: a raise merges into the record of its kind and subject, or creates one with the first
identifier, counting up from the next one, that no record holds, in place of the oldest CLEARED record when the list is
full, whose marker passes to the record before it; with no CLEARED record it sets the overflow mark. It latches FAULT at
both ports when it creates, reactivates or sets the mark, and arms the one-shot reports at a change. R151: a clear makes the
ACTIVE record of its kind and subject CLEARED with acked 0 and its reported mark clear, arms the one-shot reports and latches
FAULT at both ports; of an absent or CLEARED record it changes nothing. -/
def Obligations.RaiseMergesOrCreates : Prop :=
  (∀ (s : State) (k : FaultKind) (x : Subject),
    let t := s.clearFault k x
    s.sameButFaults t
    ∧ (∀ pre post r, s.faults.records = pre ++ r :: post → (∀ q ∈ pre ++ post, ¬ (q.kind = k ∧ q.subject = x)) →
        r.kind = k → r.subject = x →
        (r.active = true → t.faults = { s.faults with records := pre ++
              { r with active := false, acked := 0, reported := false } :: post }
            ∧ t.sPort.faultCause = true ∧ t.lPort.faultCause = true
            ∧ t.beacon = { s.beacon with oneShot := s.beacon.working.repeats + 1 })
        ∧ (r.active = false → t = s))
    ∧ ((∀ q ∈ s.faults.records, ¬ (q.kind = k ∧ q.subject = x)) → t = s))
  ∧ ∀ (s : State) (k : FaultKind) (x : Subject),
    let t := s.raiseFault k x
    s.sameButFaults t
    ∧ (∀ pre post r, s.faults.records = pre ++ r :: post → (∀ q ∈ pre ++ post, ¬ (q.kind = k ∧ q.subject = x)) →
        r.kind = k → r.subject = x →
        (r.active = true → r.count < 255 → t.faults = { s.faults with records := pre ++
              { r with count := r.count + 1, last := s.tick, reported := false } :: post }
            ∧ t.sPort = s.sPort ∧ t.lPort = s.lPort ∧ t.beacon = { s.beacon with oneShot := s.beacon.working.repeats + 1 })
        ∧ (r.active = true → 255 ≤ r.count →
            t = { s with faults := { s.faults with records := pre ++ { r with last := s.tick } :: post } })
        ∧ (r.active = false → t.faults = { s.faults with records := pre ++
              { r with active := true, count := min (r.count + 1) 255, last := s.tick, acked := 0, reported := false } :: post }
            ∧ t.sPort.faultCause = true ∧ t.lPort.faultCause = true
            ∧ t.beacon = { s.beacon with oneShot := s.beacon.working.repeats + 1 }))
    ∧ ((∀ q ∈ s.faults.records, ¬ (q.kind = k ∧ q.subject = x)) → 1 ≤ s.faults.nextId → s.faults.nextId ≤ 255 →
        ∀ (rest : List FaultRecord) (marker : Option Nat),
        ((s.faults.records.length < 16 ∧ rest = s.faults.records ∧ marker = s.beacon.marker)
          ∨ (s.faults.records.length = 16 ∧ ∃ pre old post, s.faults.records = pre ++ old :: post ∧ rest = pre ++ post
              ∧ (∀ q ∈ pre, q.active = true) ∧ old.active = false ∧ (∀ q ∈ rest, q.id ≠ old.id)
              ∧ marker = if s.beacon.marker = some old.id then pre.getLast?.map (·.id) else s.beacon.marker)) →
        ∃ n id, n ≤ 15 ∧ id = (s.faults.nextId - 1 + n) % 255 + 1 ∧ (∀ q ∈ rest, q.id ≠ id)
          ∧ (∀ m, m < n → ∃ q ∈ rest, q.id = (s.faults.nextId - 1 + m) % 255 + 1)
          ∧ t.faults = { s.faults with nextId := if id = 255 then 1 else id + 1, records := rest ++
              [{ id := id, kind := k, subject := x, count := 1, first := s.tick, last := s.tick, active := true }] }
          ∧ t.sPort.faultCause = true ∧ t.lPort.faultCause = true
          ∧ t.beacon = { s.beacon with oneShot := s.beacon.working.repeats + 1, marker := marker })
    ∧ ((∀ q ∈ s.faults.records, q.active = true ∧ ¬ (q.kind = k ∧ q.subject = x)) → 16 ≤ s.faults.records.length →
        (s.faults.overflow = true → t = s)
        ∧ (s.faults.overflow = false → t.faults = { s.faults with overflow := true, overflowReports := [] }
            ∧ t.sPort.faultCause = true ∧ t.lPort.faultCause = true
            ∧ t.beacon = { s.beacon with oneShot := s.beacon.working.repeats + 1 }))
end

