-- ==== Sys2Proof/Laws/State.lean ====
section
/-! SUPPORT. What each update of the state leaves in each field: one lemma per field per update, true by `rfl`. -/

namespace Sys2Proof.Machine

@[simp] theorem State.updRoot_pending (f : Root → Root) (s : State) : (s.updRoot f).pending = s.pending := rfl
@[simp] theorem State.updRoot_partState (f : Root → Root) (s : State) : (s.updRoot f).partState = s.partState := rfl
@[simp] theorem State.updRoot_tick (f : Root → Root) (s : State) : (s.updRoot f).tick = s.tick := rfl
@[simp] theorem State.updRoot_intervalTicks (f : Root → Root) (s : State) :
    (s.updRoot f).intervalTicks = s.intervalTicks := rfl
@[simp] theorem State.updRoot_selfCheckPending (f : Root → Root) (s : State) :
    (s.updRoot f).selfCheckPending = s.selfCheckPending := rfl
@[simp] theorem State.updRoot_eraseWindow (f : Root → Root) (s : State) :
    (s.updRoot f).eraseWindow = s.eraseWindow := rfl
@[simp] theorem State.updRoot_chans (f : Root → Root) (s : State) : (s.updRoot f).chans = s.chans := rfl
@[simp] theorem State.updRoot_root (f : Root → Root) (s : State) : (s.updRoot f).root = f s.root := rfl
@[simp] theorem State.updRoot_slots (f : Root → Root) (s : State) : (s.updRoot f).slots = s.slots := rfl
@[simp] theorem State.updRoot_pool (f : Root → Root) (s : State) : (s.updRoot f).pool = s.pool := rfl
@[simp] theorem State.updRoot_sIn (f : Root → Root) (s : State) : (s.updRoot f).sIn = s.sIn := rfl
@[simp] theorem State.updRoot_sOut (f : Root → Root) (s : State) : (s.updRoot f).sOut = s.sOut := rfl
@[simp] theorem State.updRoot_lRx (f : Root → Root) (s : State) : (s.updRoot f).lRx = s.lRx := rfl
@[simp] theorem State.updRoot_lTx (f : Root → Root) (s : State) : (s.updRoot f).lTx = s.lTx := rfl
@[simp] theorem State.updRoot_ctrl (f : Root → Root) (s : State) : (s.updRoot f).ctrl = s.ctrl := rfl
@[simp] theorem State.updRoot_engine (f : Root → Root) (s : State) : (s.updRoot f).engine = s.engine := rfl
@[simp] theorem State.updRoot_link (f : Root → Root) (s : State) : (s.updRoot f).link = s.link := rfl
@[simp] theorem State.updRoot_messenger (f : Root → Root) (s : State) : (s.updRoot f).messenger = s.messenger := rfl
@[simp] theorem State.updRoot_renewal (f : Root → Root) (s : State) : (s.updRoot f).renewal = s.renewal := rfl
@[simp] theorem State.updRoot_faults (f : Root → Root) (s : State) : (s.updRoot f).faults = s.faults := rfl
@[simp] theorem State.updRoot_beacon (f : Root → Root) (s : State) : (s.updRoot f).beacon = s.beacon := rfl
@[simp] theorem State.updRoot_sPort (f : Root → Root) (s : State) : (s.updRoot f).sPort = s.sPort := rfl
@[simp] theorem State.updRoot_lPort (f : Root → Root) (s : State) : (s.updRoot f).lPort = s.lPort := rfl

@[simp] theorem State.updPool_pending (f : Pool → Pool) (s : State) : (s.updPool f).pending = s.pending := rfl
@[simp] theorem State.updPool_partState (f : Pool → Pool) (s : State) : (s.updPool f).partState = s.partState := rfl
@[simp] theorem State.updPool_tick (f : Pool → Pool) (s : State) : (s.updPool f).tick = s.tick := rfl
@[simp] theorem State.updPool_intervalTicks (f : Pool → Pool) (s : State) :
    (s.updPool f).intervalTicks = s.intervalTicks := rfl
@[simp] theorem State.updPool_selfCheckPending (f : Pool → Pool) (s : State) :
    (s.updPool f).selfCheckPending = s.selfCheckPending := rfl
@[simp] theorem State.updPool_eraseWindow (f : Pool → Pool) (s : State) :
    (s.updPool f).eraseWindow = s.eraseWindow := rfl
@[simp] theorem State.updPool_chans (f : Pool → Pool) (s : State) : (s.updPool f).chans = s.chans := rfl
@[simp] theorem State.updPool_root (f : Pool → Pool) (s : State) : (s.updPool f).root = s.root := rfl
@[simp] theorem State.updPool_slots (f : Pool → Pool) (s : State) : (s.updPool f).slots = s.slots := rfl
@[simp] theorem State.updPool_pool (f : Pool → Pool) (s : State) : (s.updPool f).pool = f s.pool := rfl
@[simp] theorem State.updPool_sIn (f : Pool → Pool) (s : State) : (s.updPool f).sIn = s.sIn := rfl
@[simp] theorem State.updPool_sOut (f : Pool → Pool) (s : State) : (s.updPool f).sOut = s.sOut := rfl
@[simp] theorem State.updPool_lRx (f : Pool → Pool) (s : State) : (s.updPool f).lRx = s.lRx := rfl
@[simp] theorem State.updPool_lTx (f : Pool → Pool) (s : State) : (s.updPool f).lTx = s.lTx := rfl
@[simp] theorem State.updPool_ctrl (f : Pool → Pool) (s : State) : (s.updPool f).ctrl = s.ctrl := rfl
@[simp] theorem State.updPool_engine (f : Pool → Pool) (s : State) : (s.updPool f).engine = s.engine := rfl
@[simp] theorem State.updPool_link (f : Pool → Pool) (s : State) : (s.updPool f).link = s.link := rfl
@[simp] theorem State.updPool_messenger (f : Pool → Pool) (s : State) : (s.updPool f).messenger = s.messenger := rfl
@[simp] theorem State.updPool_renewal (f : Pool → Pool) (s : State) : (s.updPool f).renewal = s.renewal := rfl
@[simp] theorem State.updPool_faults (f : Pool → Pool) (s : State) : (s.updPool f).faults = s.faults := rfl
@[simp] theorem State.updPool_beacon (f : Pool → Pool) (s : State) : (s.updPool f).beacon = s.beacon := rfl
@[simp] theorem State.updPool_sPort (f : Pool → Pool) (s : State) : (s.updPool f).sPort = s.sPort := rfl
@[simp] theorem State.updPool_lPort (f : Pool → Pool) (s : State) : (s.updPool f).lPort = s.lPort := rfl

@[simp] theorem State.updEngine_pending (f : Engine → Engine) (s : State) : (s.updEngine f).pending = s.pending := rfl
@[simp] theorem State.updEngine_partState (f : Engine → Engine) (s : State) :
    (s.updEngine f).partState = s.partState := rfl
@[simp] theorem State.updEngine_tick (f : Engine → Engine) (s : State) : (s.updEngine f).tick = s.tick := rfl
@[simp] theorem State.updEngine_intervalTicks (f : Engine → Engine) (s : State) :
    (s.updEngine f).intervalTicks = s.intervalTicks := rfl
@[simp] theorem State.updEngine_selfCheckPending (f : Engine → Engine) (s : State) :
    (s.updEngine f).selfCheckPending = s.selfCheckPending := rfl
@[simp] theorem State.updEngine_eraseWindow (f : Engine → Engine) (s : State) :
    (s.updEngine f).eraseWindow = s.eraseWindow := rfl
@[simp] theorem State.updEngine_chans (f : Engine → Engine) (s : State) : (s.updEngine f).chans = s.chans := rfl
@[simp] theorem State.updEngine_root (f : Engine → Engine) (s : State) : (s.updEngine f).root = s.root := rfl
@[simp] theorem State.updEngine_slots (f : Engine → Engine) (s : State) : (s.updEngine f).slots = s.slots := rfl
@[simp] theorem State.updEngine_pool (f : Engine → Engine) (s : State) : (s.updEngine f).pool = s.pool := rfl
@[simp] theorem State.updEngine_sIn (f : Engine → Engine) (s : State) : (s.updEngine f).sIn = s.sIn := rfl
@[simp] theorem State.updEngine_sOut (f : Engine → Engine) (s : State) : (s.updEngine f).sOut = s.sOut := rfl
@[simp] theorem State.updEngine_lRx (f : Engine → Engine) (s : State) : (s.updEngine f).lRx = s.lRx := rfl
@[simp] theorem State.updEngine_lTx (f : Engine → Engine) (s : State) : (s.updEngine f).lTx = s.lTx := rfl
@[simp] theorem State.updEngine_ctrl (f : Engine → Engine) (s : State) : (s.updEngine f).ctrl = s.ctrl := rfl
@[simp] theorem State.updEngine_engine (f : Engine → Engine) (s : State) : (s.updEngine f).engine = f s.engine := rfl
@[simp] theorem State.updEngine_link (f : Engine → Engine) (s : State) : (s.updEngine f).link = s.link := rfl
@[simp] theorem State.updEngine_messenger (f : Engine → Engine) (s : State) :
    (s.updEngine f).messenger = s.messenger := rfl
@[simp] theorem State.updEngine_renewal (f : Engine → Engine) (s : State) : (s.updEngine f).renewal = s.renewal := rfl
@[simp] theorem State.updEngine_faults (f : Engine → Engine) (s : State) : (s.updEngine f).faults = s.faults := rfl
@[simp] theorem State.updEngine_beacon (f : Engine → Engine) (s : State) : (s.updEngine f).beacon = s.beacon := rfl
@[simp] theorem State.updEngine_sPort (f : Engine → Engine) (s : State) : (s.updEngine f).sPort = s.sPort := rfl
@[simp] theorem State.updEngine_lPort (f : Engine → Engine) (s : State) : (s.updEngine f).lPort = s.lPort := rfl

@[simp] theorem State.updLink_pending (f : LinkWatch → LinkWatch) (s : State) :
    (s.updLink f).pending = s.pending := rfl
@[simp] theorem State.updLink_partState (f : LinkWatch → LinkWatch) (s : State) :
    (s.updLink f).partState = s.partState := rfl
@[simp] theorem State.updLink_tick (f : LinkWatch → LinkWatch) (s : State) : (s.updLink f).tick = s.tick := rfl
@[simp] theorem State.updLink_intervalTicks (f : LinkWatch → LinkWatch) (s : State) :
    (s.updLink f).intervalTicks = s.intervalTicks := rfl
@[simp] theorem State.updLink_selfCheckPending (f : LinkWatch → LinkWatch) (s : State) :
    (s.updLink f).selfCheckPending = s.selfCheckPending := rfl
@[simp] theorem State.updLink_eraseWindow (f : LinkWatch → LinkWatch) (s : State) :
    (s.updLink f).eraseWindow = s.eraseWindow := rfl
@[simp] theorem State.updLink_chans (f : LinkWatch → LinkWatch) (s : State) : (s.updLink f).chans = s.chans := rfl
@[simp] theorem State.updLink_root (f : LinkWatch → LinkWatch) (s : State) : (s.updLink f).root = s.root := rfl
@[simp] theorem State.updLink_slots (f : LinkWatch → LinkWatch) (s : State) : (s.updLink f).slots = s.slots := rfl
@[simp] theorem State.updLink_pool (f : LinkWatch → LinkWatch) (s : State) : (s.updLink f).pool = s.pool := rfl
@[simp] theorem State.updLink_sIn (f : LinkWatch → LinkWatch) (s : State) : (s.updLink f).sIn = s.sIn := rfl
@[simp] theorem State.updLink_sOut (f : LinkWatch → LinkWatch) (s : State) : (s.updLink f).sOut = s.sOut := rfl
@[simp] theorem State.updLink_lRx (f : LinkWatch → LinkWatch) (s : State) : (s.updLink f).lRx = s.lRx := rfl
@[simp] theorem State.updLink_lTx (f : LinkWatch → LinkWatch) (s : State) : (s.updLink f).lTx = s.lTx := rfl
@[simp] theorem State.updLink_ctrl (f : LinkWatch → LinkWatch) (s : State) : (s.updLink f).ctrl = s.ctrl := rfl
@[simp] theorem State.updLink_engine (f : LinkWatch → LinkWatch) (s : State) : (s.updLink f).engine = s.engine := rfl
@[simp] theorem State.updLink_link (f : LinkWatch → LinkWatch) (s : State) : (s.updLink f).link = f s.link := rfl
@[simp] theorem State.updLink_messenger (f : LinkWatch → LinkWatch) (s : State) :
    (s.updLink f).messenger = s.messenger := rfl
@[simp] theorem State.updLink_renewal (f : LinkWatch → LinkWatch) (s : State) :
    (s.updLink f).renewal = s.renewal := rfl
@[simp] theorem State.updLink_faults (f : LinkWatch → LinkWatch) (s : State) : (s.updLink f).faults = s.faults := rfl
@[simp] theorem State.updLink_beacon (f : LinkWatch → LinkWatch) (s : State) : (s.updLink f).beacon = s.beacon := rfl
@[simp] theorem State.updLink_sPort (f : LinkWatch → LinkWatch) (s : State) : (s.updLink f).sPort = s.sPort := rfl
@[simp] theorem State.updLink_lPort (f : LinkWatch → LinkWatch) (s : State) : (s.updLink f).lPort = s.lPort := rfl

@[simp] theorem State.updMessenger_pending (f : Messenger → Messenger) (s : State) :
    (s.updMessenger f).pending = s.pending := rfl
@[simp] theorem State.updMessenger_partState (f : Messenger → Messenger) (s : State) :
    (s.updMessenger f).partState = s.partState := rfl
@[simp] theorem State.updMessenger_tick (f : Messenger → Messenger) (s : State) :
    (s.updMessenger f).tick = s.tick := rfl
@[simp] theorem State.updMessenger_intervalTicks (f : Messenger → Messenger) (s : State) :
    (s.updMessenger f).intervalTicks = s.intervalTicks := rfl
@[simp] theorem State.updMessenger_selfCheckPending (f : Messenger → Messenger) (s : State) :
    (s.updMessenger f).selfCheckPending = s.selfCheckPending := rfl
@[simp] theorem State.updMessenger_eraseWindow (f : Messenger → Messenger) (s : State) :
    (s.updMessenger f).eraseWindow = s.eraseWindow := rfl
@[simp] theorem State.updMessenger_chans (f : Messenger → Messenger) (s : State) :
    (s.updMessenger f).chans = s.chans := rfl
@[simp] theorem State.updMessenger_root (f : Messenger → Messenger) (s : State) :
    (s.updMessenger f).root = s.root := rfl
@[simp] theorem State.updMessenger_slots (f : Messenger → Messenger) (s : State) :
    (s.updMessenger f).slots = s.slots := rfl
@[simp] theorem State.updMessenger_pool (f : Messenger → Messenger) (s : State) :
    (s.updMessenger f).pool = s.pool := rfl
@[simp] theorem State.updMessenger_sIn (f : Messenger → Messenger) (s : State) : (s.updMessenger f).sIn = s.sIn := rfl
@[simp] theorem State.updMessenger_sOut (f : Messenger → Messenger) (s : State) :
    (s.updMessenger f).sOut = s.sOut := rfl
@[simp] theorem State.updMessenger_lRx (f : Messenger → Messenger) (s : State) : (s.updMessenger f).lRx = s.lRx := rfl
@[simp] theorem State.updMessenger_lTx (f : Messenger → Messenger) (s : State) : (s.updMessenger f).lTx = s.lTx := rfl
@[simp] theorem State.updMessenger_ctrl (f : Messenger → Messenger) (s : State) :
    (s.updMessenger f).ctrl = s.ctrl := rfl
@[simp] theorem State.updMessenger_engine (f : Messenger → Messenger) (s : State) :
    (s.updMessenger f).engine = s.engine := rfl
@[simp] theorem State.updMessenger_link (f : Messenger → Messenger) (s : State) :
    (s.updMessenger f).link = s.link := rfl
@[simp] theorem State.updMessenger_messenger (f : Messenger → Messenger) (s : State) :
    (s.updMessenger f).messenger = f s.messenger := rfl
@[simp] theorem State.updMessenger_renewal (f : Messenger → Messenger) (s : State) :
    (s.updMessenger f).renewal = s.renewal := rfl
@[simp] theorem State.updMessenger_faults (f : Messenger → Messenger) (s : State) :
    (s.updMessenger f).faults = s.faults := rfl
@[simp] theorem State.updMessenger_beacon (f : Messenger → Messenger) (s : State) :
    (s.updMessenger f).beacon = s.beacon := rfl
@[simp] theorem State.updMessenger_sPort (f : Messenger → Messenger) (s : State) :
    (s.updMessenger f).sPort = s.sPort := rfl
@[simp] theorem State.updMessenger_lPort (f : Messenger → Messenger) (s : State) :
    (s.updMessenger f).lPort = s.lPort := rfl

@[simp] theorem State.updRenewal_pending (f : Renewal → Renewal) (s : State) :
    (s.updRenewal f).pending = s.pending := rfl
@[simp] theorem State.updRenewal_partState (f : Renewal → Renewal) (s : State) :
    (s.updRenewal f).partState = s.partState := rfl
@[simp] theorem State.updRenewal_tick (f : Renewal → Renewal) (s : State) : (s.updRenewal f).tick = s.tick := rfl
@[simp] theorem State.updRenewal_intervalTicks (f : Renewal → Renewal) (s : State) :
    (s.updRenewal f).intervalTicks = s.intervalTicks := rfl
@[simp] theorem State.updRenewal_selfCheckPending (f : Renewal → Renewal) (s : State) :
    (s.updRenewal f).selfCheckPending = s.selfCheckPending := rfl
@[simp] theorem State.updRenewal_eraseWindow (f : Renewal → Renewal) (s : State) :
    (s.updRenewal f).eraseWindow = s.eraseWindow := rfl
@[simp] theorem State.updRenewal_chans (f : Renewal → Renewal) (s : State) : (s.updRenewal f).chans = s.chans := rfl
@[simp] theorem State.updRenewal_root (f : Renewal → Renewal) (s : State) : (s.updRenewal f).root = s.root := rfl
@[simp] theorem State.updRenewal_slots (f : Renewal → Renewal) (s : State) : (s.updRenewal f).slots = s.slots := rfl
@[simp] theorem State.updRenewal_pool (f : Renewal → Renewal) (s : State) : (s.updRenewal f).pool = s.pool := rfl
@[simp] theorem State.updRenewal_sIn (f : Renewal → Renewal) (s : State) : (s.updRenewal f).sIn = s.sIn := rfl
@[simp] theorem State.updRenewal_sOut (f : Renewal → Renewal) (s : State) : (s.updRenewal f).sOut = s.sOut := rfl
@[simp] theorem State.updRenewal_lRx (f : Renewal → Renewal) (s : State) : (s.updRenewal f).lRx = s.lRx := rfl
@[simp] theorem State.updRenewal_lTx (f : Renewal → Renewal) (s : State) : (s.updRenewal f).lTx = s.lTx := rfl
@[simp] theorem State.updRenewal_ctrl (f : Renewal → Renewal) (s : State) : (s.updRenewal f).ctrl = s.ctrl := rfl
@[simp] theorem State.updRenewal_engine (f : Renewal → Renewal) (s : State) :
    (s.updRenewal f).engine = s.engine := rfl
@[simp] theorem State.updRenewal_link (f : Renewal → Renewal) (s : State) : (s.updRenewal f).link = s.link := rfl
@[simp] theorem State.updRenewal_messenger (f : Renewal → Renewal) (s : State) :
    (s.updRenewal f).messenger = s.messenger := rfl
@[simp] theorem State.updRenewal_renewal (f : Renewal → Renewal) (s : State) :
    (s.updRenewal f).renewal = f s.renewal := rfl
@[simp] theorem State.updRenewal_faults (f : Renewal → Renewal) (s : State) :
    (s.updRenewal f).faults = s.faults := rfl
@[simp] theorem State.updRenewal_beacon (f : Renewal → Renewal) (s : State) :
    (s.updRenewal f).beacon = s.beacon := rfl
@[simp] theorem State.updRenewal_sPort (f : Renewal → Renewal) (s : State) : (s.updRenewal f).sPort = s.sPort := rfl
@[simp] theorem State.updRenewal_lPort (f : Renewal → Renewal) (s : State) : (s.updRenewal f).lPort = s.lPort := rfl

@[simp] theorem State.updFaults_pending (f : Faults → Faults) (s : State) : (s.updFaults f).pending = s.pending := rfl
@[simp] theorem State.updFaults_partState (f : Faults → Faults) (s : State) :
    (s.updFaults f).partState = s.partState := rfl
@[simp] theorem State.updFaults_tick (f : Faults → Faults) (s : State) : (s.updFaults f).tick = s.tick := rfl
@[simp] theorem State.updFaults_intervalTicks (f : Faults → Faults) (s : State) :
    (s.updFaults f).intervalTicks = s.intervalTicks := rfl
@[simp] theorem State.updFaults_selfCheckPending (f : Faults → Faults) (s : State) :
    (s.updFaults f).selfCheckPending = s.selfCheckPending := rfl
@[simp] theorem State.updFaults_eraseWindow (f : Faults → Faults) (s : State) :
    (s.updFaults f).eraseWindow = s.eraseWindow := rfl
@[simp] theorem State.updFaults_chans (f : Faults → Faults) (s : State) : (s.updFaults f).chans = s.chans := rfl
@[simp] theorem State.updFaults_root (f : Faults → Faults) (s : State) : (s.updFaults f).root = s.root := rfl
@[simp] theorem State.updFaults_slots (f : Faults → Faults) (s : State) : (s.updFaults f).slots = s.slots := rfl
@[simp] theorem State.updFaults_pool (f : Faults → Faults) (s : State) : (s.updFaults f).pool = s.pool := rfl
@[simp] theorem State.updFaults_sIn (f : Faults → Faults) (s : State) : (s.updFaults f).sIn = s.sIn := rfl
@[simp] theorem State.updFaults_sOut (f : Faults → Faults) (s : State) : (s.updFaults f).sOut = s.sOut := rfl
@[simp] theorem State.updFaults_lRx (f : Faults → Faults) (s : State) : (s.updFaults f).lRx = s.lRx := rfl
@[simp] theorem State.updFaults_lTx (f : Faults → Faults) (s : State) : (s.updFaults f).lTx = s.lTx := rfl
@[simp] theorem State.updFaults_ctrl (f : Faults → Faults) (s : State) : (s.updFaults f).ctrl = s.ctrl := rfl
@[simp] theorem State.updFaults_engine (f : Faults → Faults) (s : State) : (s.updFaults f).engine = s.engine := rfl
@[simp] theorem State.updFaults_link (f : Faults → Faults) (s : State) : (s.updFaults f).link = s.link := rfl
@[simp] theorem State.updFaults_messenger (f : Faults → Faults) (s : State) :
    (s.updFaults f).messenger = s.messenger := rfl
@[simp] theorem State.updFaults_renewal (f : Faults → Faults) (s : State) : (s.updFaults f).renewal = s.renewal := rfl
@[simp] theorem State.updFaults_faults (f : Faults → Faults) (s : State) : (s.updFaults f).faults = f s.faults := rfl
@[simp] theorem State.updFaults_beacon (f : Faults → Faults) (s : State) : (s.updFaults f).beacon = s.beacon := rfl
@[simp] theorem State.updFaults_sPort (f : Faults → Faults) (s : State) : (s.updFaults f).sPort = s.sPort := rfl
@[simp] theorem State.updFaults_lPort (f : Faults → Faults) (s : State) : (s.updFaults f).lPort = s.lPort := rfl

@[simp] theorem State.updBeacon_pending (f : Beacon → Beacon) (s : State) : (s.updBeacon f).pending = s.pending := rfl
@[simp] theorem State.updBeacon_partState (f : Beacon → Beacon) (s : State) :
    (s.updBeacon f).partState = s.partState := rfl
@[simp] theorem State.updBeacon_tick (f : Beacon → Beacon) (s : State) : (s.updBeacon f).tick = s.tick := rfl
@[simp] theorem State.updBeacon_intervalTicks (f : Beacon → Beacon) (s : State) :
    (s.updBeacon f).intervalTicks = s.intervalTicks := rfl
@[simp] theorem State.updBeacon_selfCheckPending (f : Beacon → Beacon) (s : State) :
    (s.updBeacon f).selfCheckPending = s.selfCheckPending := rfl
@[simp] theorem State.updBeacon_eraseWindow (f : Beacon → Beacon) (s : State) :
    (s.updBeacon f).eraseWindow = s.eraseWindow := rfl
@[simp] theorem State.updBeacon_chans (f : Beacon → Beacon) (s : State) : (s.updBeacon f).chans = s.chans := rfl
@[simp] theorem State.updBeacon_root (f : Beacon → Beacon) (s : State) : (s.updBeacon f).root = s.root := rfl
@[simp] theorem State.updBeacon_slots (f : Beacon → Beacon) (s : State) : (s.updBeacon f).slots = s.slots := rfl
@[simp] theorem State.updBeacon_pool (f : Beacon → Beacon) (s : State) : (s.updBeacon f).pool = s.pool := rfl
@[simp] theorem State.updBeacon_sIn (f : Beacon → Beacon) (s : State) : (s.updBeacon f).sIn = s.sIn := rfl
@[simp] theorem State.updBeacon_sOut (f : Beacon → Beacon) (s : State) : (s.updBeacon f).sOut = s.sOut := rfl
@[simp] theorem State.updBeacon_lRx (f : Beacon → Beacon) (s : State) : (s.updBeacon f).lRx = s.lRx := rfl
@[simp] theorem State.updBeacon_lTx (f : Beacon → Beacon) (s : State) : (s.updBeacon f).lTx = s.lTx := rfl
@[simp] theorem State.updBeacon_ctrl (f : Beacon → Beacon) (s : State) : (s.updBeacon f).ctrl = s.ctrl := rfl
@[simp] theorem State.updBeacon_engine (f : Beacon → Beacon) (s : State) : (s.updBeacon f).engine = s.engine := rfl
@[simp] theorem State.updBeacon_link (f : Beacon → Beacon) (s : State) : (s.updBeacon f).link = s.link := rfl
@[simp] theorem State.updBeacon_messenger (f : Beacon → Beacon) (s : State) :
    (s.updBeacon f).messenger = s.messenger := rfl
@[simp] theorem State.updBeacon_renewal (f : Beacon → Beacon) (s : State) : (s.updBeacon f).renewal = s.renewal := rfl
@[simp] theorem State.updBeacon_faults (f : Beacon → Beacon) (s : State) : (s.updBeacon f).faults = s.faults := rfl
@[simp] theorem State.updBeacon_beacon (f : Beacon → Beacon) (s : State) : (s.updBeacon f).beacon = f s.beacon := rfl
@[simp] theorem State.updBeacon_sPort (f : Beacon → Beacon) (s : State) : (s.updBeacon f).sPort = s.sPort := rfl
@[simp] theorem State.updBeacon_lPort (f : Beacon → Beacon) (s : State) : (s.updBeacon f).lPort = s.lPort := rfl

@[simp] theorem State.updSPort_pending (f : PortState → PortState) (s : State) :
    (s.updSPort f).pending = s.pending := rfl
@[simp] theorem State.updSPort_partState (f : PortState → PortState) (s : State) :
    (s.updSPort f).partState = s.partState := rfl
@[simp] theorem State.updSPort_tick (f : PortState → PortState) (s : State) : (s.updSPort f).tick = s.tick := rfl
@[simp] theorem State.updSPort_intervalTicks (f : PortState → PortState) (s : State) :
    (s.updSPort f).intervalTicks = s.intervalTicks := rfl
@[simp] theorem State.updSPort_selfCheckPending (f : PortState → PortState) (s : State) :
    (s.updSPort f).selfCheckPending = s.selfCheckPending := rfl
@[simp] theorem State.updSPort_eraseWindow (f : PortState → PortState) (s : State) :
    (s.updSPort f).eraseWindow = s.eraseWindow := rfl
@[simp] theorem State.updSPort_chans (f : PortState → PortState) (s : State) : (s.updSPort f).chans = s.chans := rfl
@[simp] theorem State.updSPort_root (f : PortState → PortState) (s : State) : (s.updSPort f).root = s.root := rfl
@[simp] theorem State.updSPort_slots (f : PortState → PortState) (s : State) : (s.updSPort f).slots = s.slots := rfl
@[simp] theorem State.updSPort_pool (f : PortState → PortState) (s : State) : (s.updSPort f).pool = s.pool := rfl
@[simp] theorem State.updSPort_sIn (f : PortState → PortState) (s : State) : (s.updSPort f).sIn = s.sIn := rfl
@[simp] theorem State.updSPort_sOut (f : PortState → PortState) (s : State) : (s.updSPort f).sOut = s.sOut := rfl
@[simp] theorem State.updSPort_lRx (f : PortState → PortState) (s : State) : (s.updSPort f).lRx = s.lRx := rfl
@[simp] theorem State.updSPort_lTx (f : PortState → PortState) (s : State) : (s.updSPort f).lTx = s.lTx := rfl
@[simp] theorem State.updSPort_ctrl (f : PortState → PortState) (s : State) : (s.updSPort f).ctrl = s.ctrl := rfl
@[simp] theorem State.updSPort_engine (f : PortState → PortState) (s : State) :
    (s.updSPort f).engine = s.engine := rfl
@[simp] theorem State.updSPort_link (f : PortState → PortState) (s : State) : (s.updSPort f).link = s.link := rfl
@[simp] theorem State.updSPort_messenger (f : PortState → PortState) (s : State) :
    (s.updSPort f).messenger = s.messenger := rfl
@[simp] theorem State.updSPort_renewal (f : PortState → PortState) (s : State) :
    (s.updSPort f).renewal = s.renewal := rfl
@[simp] theorem State.updSPort_faults (f : PortState → PortState) (s : State) :
    (s.updSPort f).faults = s.faults := rfl
@[simp] theorem State.updSPort_beacon (f : PortState → PortState) (s : State) :
    (s.updSPort f).beacon = s.beacon := rfl
@[simp] theorem State.updSPort_sPort (f : PortState → PortState) (s : State) : (s.updSPort f).sPort = f s.sPort := rfl
@[simp] theorem State.updSPort_lPort (f : PortState → PortState) (s : State) : (s.updSPort f).lPort = s.lPort := rfl

@[simp] theorem State.updLPort_pending (f : PortState → PortState) (s : State) :
    (s.updLPort f).pending = s.pending := rfl
@[simp] theorem State.updLPort_partState (f : PortState → PortState) (s : State) :
    (s.updLPort f).partState = s.partState := rfl
@[simp] theorem State.updLPort_tick (f : PortState → PortState) (s : State) : (s.updLPort f).tick = s.tick := rfl
@[simp] theorem State.updLPort_intervalTicks (f : PortState → PortState) (s : State) :
    (s.updLPort f).intervalTicks = s.intervalTicks := rfl
@[simp] theorem State.updLPort_selfCheckPending (f : PortState → PortState) (s : State) :
    (s.updLPort f).selfCheckPending = s.selfCheckPending := rfl
@[simp] theorem State.updLPort_eraseWindow (f : PortState → PortState) (s : State) :
    (s.updLPort f).eraseWindow = s.eraseWindow := rfl
@[simp] theorem State.updLPort_chans (f : PortState → PortState) (s : State) : (s.updLPort f).chans = s.chans := rfl
@[simp] theorem State.updLPort_root (f : PortState → PortState) (s : State) : (s.updLPort f).root = s.root := rfl
@[simp] theorem State.updLPort_slots (f : PortState → PortState) (s : State) : (s.updLPort f).slots = s.slots := rfl
@[simp] theorem State.updLPort_pool (f : PortState → PortState) (s : State) : (s.updLPort f).pool = s.pool := rfl
@[simp] theorem State.updLPort_sIn (f : PortState → PortState) (s : State) : (s.updLPort f).sIn = s.sIn := rfl
@[simp] theorem State.updLPort_sOut (f : PortState → PortState) (s : State) : (s.updLPort f).sOut = s.sOut := rfl
@[simp] theorem State.updLPort_lRx (f : PortState → PortState) (s : State) : (s.updLPort f).lRx = s.lRx := rfl
@[simp] theorem State.updLPort_lTx (f : PortState → PortState) (s : State) : (s.updLPort f).lTx = s.lTx := rfl
@[simp] theorem State.updLPort_ctrl (f : PortState → PortState) (s : State) : (s.updLPort f).ctrl = s.ctrl := rfl
@[simp] theorem State.updLPort_engine (f : PortState → PortState) (s : State) :
    (s.updLPort f).engine = s.engine := rfl
@[simp] theorem State.updLPort_link (f : PortState → PortState) (s : State) : (s.updLPort f).link = s.link := rfl
@[simp] theorem State.updLPort_messenger (f : PortState → PortState) (s : State) :
    (s.updLPort f).messenger = s.messenger := rfl
@[simp] theorem State.updLPort_renewal (f : PortState → PortState) (s : State) :
    (s.updLPort f).renewal = s.renewal := rfl
@[simp] theorem State.updLPort_faults (f : PortState → PortState) (s : State) :
    (s.updLPort f).faults = s.faults := rfl
@[simp] theorem State.updLPort_beacon (f : PortState → PortState) (s : State) :
    (s.updLPort f).beacon = s.beacon := rfl
@[simp] theorem State.updLPort_sPort (f : PortState → PortState) (s : State) : (s.updLPort f).sPort = s.sPort := rfl
@[simp] theorem State.updLPort_lPort (f : PortState → PortState) (s : State) : (s.updLPort f).lPort = f s.lPort := rfl

@[simp] theorem State.updChans_pending (f : Vector Channel 48 → Vector Channel 48) (s : State) :
    (s.updChans f).pending = s.pending := rfl
@[simp] theorem State.updChans_partState (f : Vector Channel 48 → Vector Channel 48) (s : State) :
    (s.updChans f).partState = s.partState := rfl
@[simp] theorem State.updChans_tick (f : Vector Channel 48 → Vector Channel 48) (s : State) :
    (s.updChans f).tick = s.tick := rfl
@[simp] theorem State.updChans_intervalTicks (f : Vector Channel 48 → Vector Channel 48) (s : State) :
    (s.updChans f).intervalTicks = s.intervalTicks := rfl
@[simp] theorem State.updChans_selfCheckPending (f : Vector Channel 48 → Vector Channel 48) (s : State) :
    (s.updChans f).selfCheckPending = s.selfCheckPending := rfl
@[simp] theorem State.updChans_eraseWindow (f : Vector Channel 48 → Vector Channel 48) (s : State) :
    (s.updChans f).eraseWindow = s.eraseWindow := rfl
@[simp] theorem State.updChans_chans (f : Vector Channel 48 → Vector Channel 48) (s : State) :
    (s.updChans f).chans = f s.chans := rfl
@[simp] theorem State.updChans_root (f : Vector Channel 48 → Vector Channel 48) (s : State) :
    (s.updChans f).root = s.root := rfl
@[simp] theorem State.updChans_slots (f : Vector Channel 48 → Vector Channel 48) (s : State) :
    (s.updChans f).slots = s.slots := rfl
@[simp] theorem State.updChans_pool (f : Vector Channel 48 → Vector Channel 48) (s : State) :
    (s.updChans f).pool = s.pool := rfl
@[simp] theorem State.updChans_sIn (f : Vector Channel 48 → Vector Channel 48) (s : State) :
    (s.updChans f).sIn = s.sIn := rfl
@[simp] theorem State.updChans_sOut (f : Vector Channel 48 → Vector Channel 48) (s : State) :
    (s.updChans f).sOut = s.sOut := rfl
@[simp] theorem State.updChans_lRx (f : Vector Channel 48 → Vector Channel 48) (s : State) :
    (s.updChans f).lRx = s.lRx := rfl
@[simp] theorem State.updChans_lTx (f : Vector Channel 48 → Vector Channel 48) (s : State) :
    (s.updChans f).lTx = s.lTx := rfl
@[simp] theorem State.updChans_ctrl (f : Vector Channel 48 → Vector Channel 48) (s : State) :
    (s.updChans f).ctrl = s.ctrl := rfl
@[simp] theorem State.updChans_engine (f : Vector Channel 48 → Vector Channel 48) (s : State) :
    (s.updChans f).engine = s.engine := rfl
@[simp] theorem State.updChans_link (f : Vector Channel 48 → Vector Channel 48) (s : State) :
    (s.updChans f).link = s.link := rfl
@[simp] theorem State.updChans_messenger (f : Vector Channel 48 → Vector Channel 48) (s : State) :
    (s.updChans f).messenger = s.messenger := rfl
@[simp] theorem State.updChans_renewal (f : Vector Channel 48 → Vector Channel 48) (s : State) :
    (s.updChans f).renewal = s.renewal := rfl
@[simp] theorem State.updChans_faults (f : Vector Channel 48 → Vector Channel 48) (s : State) :
    (s.updChans f).faults = s.faults := rfl
@[simp] theorem State.updChans_beacon (f : Vector Channel 48 → Vector Channel 48) (s : State) :
    (s.updChans f).beacon = s.beacon := rfl
@[simp] theorem State.updChans_sPort (f : Vector Channel 48 → Vector Channel 48) (s : State) :
    (s.updChans f).sPort = s.sPort := rfl
@[simp] theorem State.updChans_lPort (f : Vector Channel 48 → Vector Channel 48) (s : State) :
    (s.updChans f).lPort = s.lPort := rfl

@[simp] theorem State.updSlots_pending (f : Vector Slot 23 → Vector Slot 23) (s : State) :
    (s.updSlots f).pending = s.pending := rfl
@[simp] theorem State.updSlots_partState (f : Vector Slot 23 → Vector Slot 23) (s : State) :
    (s.updSlots f).partState = s.partState := rfl
@[simp] theorem State.updSlots_tick (f : Vector Slot 23 → Vector Slot 23) (s : State) :
    (s.updSlots f).tick = s.tick := rfl
@[simp] theorem State.updSlots_intervalTicks (f : Vector Slot 23 → Vector Slot 23) (s : State) :
    (s.updSlots f).intervalTicks = s.intervalTicks := rfl
@[simp] theorem State.updSlots_selfCheckPending (f : Vector Slot 23 → Vector Slot 23) (s : State) :
    (s.updSlots f).selfCheckPending = s.selfCheckPending := rfl
@[simp] theorem State.updSlots_eraseWindow (f : Vector Slot 23 → Vector Slot 23) (s : State) :
    (s.updSlots f).eraseWindow = s.eraseWindow := rfl
@[simp] theorem State.updSlots_chans (f : Vector Slot 23 → Vector Slot 23) (s : State) :
    (s.updSlots f).chans = s.chans := rfl
@[simp] theorem State.updSlots_root (f : Vector Slot 23 → Vector Slot 23) (s : State) :
    (s.updSlots f).root = s.root := rfl
@[simp] theorem State.updSlots_slots (f : Vector Slot 23 → Vector Slot 23) (s : State) :
    (s.updSlots f).slots = f s.slots := rfl
@[simp] theorem State.updSlots_pool (f : Vector Slot 23 → Vector Slot 23) (s : State) :
    (s.updSlots f).pool = s.pool := rfl
@[simp] theorem State.updSlots_sIn (f : Vector Slot 23 → Vector Slot 23) (s : State) :
    (s.updSlots f).sIn = s.sIn := rfl
@[simp] theorem State.updSlots_sOut (f : Vector Slot 23 → Vector Slot 23) (s : State) :
    (s.updSlots f).sOut = s.sOut := rfl
@[simp] theorem State.updSlots_lRx (f : Vector Slot 23 → Vector Slot 23) (s : State) :
    (s.updSlots f).lRx = s.lRx := rfl
@[simp] theorem State.updSlots_lTx (f : Vector Slot 23 → Vector Slot 23) (s : State) :
    (s.updSlots f).lTx = s.lTx := rfl
@[simp] theorem State.updSlots_ctrl (f : Vector Slot 23 → Vector Slot 23) (s : State) :
    (s.updSlots f).ctrl = s.ctrl := rfl
@[simp] theorem State.updSlots_engine (f : Vector Slot 23 → Vector Slot 23) (s : State) :
    (s.updSlots f).engine = s.engine := rfl
@[simp] theorem State.updSlots_link (f : Vector Slot 23 → Vector Slot 23) (s : State) :
    (s.updSlots f).link = s.link := rfl
@[simp] theorem State.updSlots_messenger (f : Vector Slot 23 → Vector Slot 23) (s : State) :
    (s.updSlots f).messenger = s.messenger := rfl
@[simp] theorem State.updSlots_renewal (f : Vector Slot 23 → Vector Slot 23) (s : State) :
    (s.updSlots f).renewal = s.renewal := rfl
@[simp] theorem State.updSlots_faults (f : Vector Slot 23 → Vector Slot 23) (s : State) :
    (s.updSlots f).faults = s.faults := rfl
@[simp] theorem State.updSlots_beacon (f : Vector Slot 23 → Vector Slot 23) (s : State) :
    (s.updSlots f).beacon = s.beacon := rfl
@[simp] theorem State.updSlots_sPort (f : Vector Slot 23 → Vector Slot 23) (s : State) :
    (s.updSlots f).sPort = s.sPort := rfl
@[simp] theorem State.updSlots_lPort (f : Vector Slot 23 → Vector Slot 23) (s : State) :
    (s.updSlots f).lPort = s.lPort := rfl

@[simp] theorem State.updSIn_pending (f : List ShopFrame → List ShopFrame) (s : State) :
    (s.updSIn f).pending = s.pending := rfl
@[simp] theorem State.updSIn_partState (f : List ShopFrame → List ShopFrame) (s : State) :
    (s.updSIn f).partState = s.partState := rfl
@[simp] theorem State.updSIn_tick (f : List ShopFrame → List ShopFrame) (s : State) :
    (s.updSIn f).tick = s.tick := rfl
@[simp] theorem State.updSIn_intervalTicks (f : List ShopFrame → List ShopFrame) (s : State) :
    (s.updSIn f).intervalTicks = s.intervalTicks := rfl
@[simp] theorem State.updSIn_selfCheckPending (f : List ShopFrame → List ShopFrame) (s : State) :
    (s.updSIn f).selfCheckPending = s.selfCheckPending := rfl
@[simp] theorem State.updSIn_eraseWindow (f : List ShopFrame → List ShopFrame) (s : State) :
    (s.updSIn f).eraseWindow = s.eraseWindow := rfl
@[simp] theorem State.updSIn_chans (f : List ShopFrame → List ShopFrame) (s : State) :
    (s.updSIn f).chans = s.chans := rfl
@[simp] theorem State.updSIn_root (f : List ShopFrame → List ShopFrame) (s : State) :
    (s.updSIn f).root = s.root := rfl
@[simp] theorem State.updSIn_slots (f : List ShopFrame → List ShopFrame) (s : State) :
    (s.updSIn f).slots = s.slots := rfl
@[simp] theorem State.updSIn_pool (f : List ShopFrame → List ShopFrame) (s : State) :
    (s.updSIn f).pool = s.pool := rfl
@[simp] theorem State.updSIn_sIn (f : List ShopFrame → List ShopFrame) (s : State) : (s.updSIn f).sIn = f s.sIn := rfl
@[simp] theorem State.updSIn_sOut (f : List ShopFrame → List ShopFrame) (s : State) :
    (s.updSIn f).sOut = s.sOut := rfl
@[simp] theorem State.updSIn_lRx (f : List ShopFrame → List ShopFrame) (s : State) : (s.updSIn f).lRx = s.lRx := rfl
@[simp] theorem State.updSIn_lTx (f : List ShopFrame → List ShopFrame) (s : State) : (s.updSIn f).lTx = s.lTx := rfl
@[simp] theorem State.updSIn_ctrl (f : List ShopFrame → List ShopFrame) (s : State) :
    (s.updSIn f).ctrl = s.ctrl := rfl
@[simp] theorem State.updSIn_engine (f : List ShopFrame → List ShopFrame) (s : State) :
    (s.updSIn f).engine = s.engine := rfl
@[simp] theorem State.updSIn_link (f : List ShopFrame → List ShopFrame) (s : State) :
    (s.updSIn f).link = s.link := rfl
@[simp] theorem State.updSIn_messenger (f : List ShopFrame → List ShopFrame) (s : State) :
    (s.updSIn f).messenger = s.messenger := rfl
@[simp] theorem State.updSIn_renewal (f : List ShopFrame → List ShopFrame) (s : State) :
    (s.updSIn f).renewal = s.renewal := rfl
@[simp] theorem State.updSIn_faults (f : List ShopFrame → List ShopFrame) (s : State) :
    (s.updSIn f).faults = s.faults := rfl
@[simp] theorem State.updSIn_beacon (f : List ShopFrame → List ShopFrame) (s : State) :
    (s.updSIn f).beacon = s.beacon := rfl
@[simp] theorem State.updSIn_sPort (f : List ShopFrame → List ShopFrame) (s : State) :
    (s.updSIn f).sPort = s.sPort := rfl
@[simp] theorem State.updSIn_lPort (f : List ShopFrame → List ShopFrame) (s : State) :
    (s.updSIn f).lPort = s.lPort := rfl

@[simp] theorem State.updSOut_pending (f : List OutFrame → List OutFrame) (s : State) :
    (s.updSOut f).pending = s.pending := rfl
@[simp] theorem State.updSOut_partState (f : List OutFrame → List OutFrame) (s : State) :
    (s.updSOut f).partState = s.partState := rfl
@[simp] theorem State.updSOut_tick (f : List OutFrame → List OutFrame) (s : State) :
    (s.updSOut f).tick = s.tick := rfl
@[simp] theorem State.updSOut_intervalTicks (f : List OutFrame → List OutFrame) (s : State) :
    (s.updSOut f).intervalTicks = s.intervalTicks := rfl
@[simp] theorem State.updSOut_selfCheckPending (f : List OutFrame → List OutFrame) (s : State) :
    (s.updSOut f).selfCheckPending = s.selfCheckPending := rfl
@[simp] theorem State.updSOut_eraseWindow (f : List OutFrame → List OutFrame) (s : State) :
    (s.updSOut f).eraseWindow = s.eraseWindow := rfl
@[simp] theorem State.updSOut_chans (f : List OutFrame → List OutFrame) (s : State) :
    (s.updSOut f).chans = s.chans := rfl
@[simp] theorem State.updSOut_root (f : List OutFrame → List OutFrame) (s : State) :
    (s.updSOut f).root = s.root := rfl
@[simp] theorem State.updSOut_slots (f : List OutFrame → List OutFrame) (s : State) :
    (s.updSOut f).slots = s.slots := rfl
@[simp] theorem State.updSOut_pool (f : List OutFrame → List OutFrame) (s : State) :
    (s.updSOut f).pool = s.pool := rfl
@[simp] theorem State.updSOut_sIn (f : List OutFrame → List OutFrame) (s : State) : (s.updSOut f).sIn = s.sIn := rfl
@[simp] theorem State.updSOut_sOut (f : List OutFrame → List OutFrame) (s : State) :
    (s.updSOut f).sOut = f s.sOut := rfl
@[simp] theorem State.updSOut_lRx (f : List OutFrame → List OutFrame) (s : State) : (s.updSOut f).lRx = s.lRx := rfl
@[simp] theorem State.updSOut_lTx (f : List OutFrame → List OutFrame) (s : State) : (s.updSOut f).lTx = s.lTx := rfl
@[simp] theorem State.updSOut_ctrl (f : List OutFrame → List OutFrame) (s : State) :
    (s.updSOut f).ctrl = s.ctrl := rfl
@[simp] theorem State.updSOut_engine (f : List OutFrame → List OutFrame) (s : State) :
    (s.updSOut f).engine = s.engine := rfl
@[simp] theorem State.updSOut_link (f : List OutFrame → List OutFrame) (s : State) :
    (s.updSOut f).link = s.link := rfl
@[simp] theorem State.updSOut_messenger (f : List OutFrame → List OutFrame) (s : State) :
    (s.updSOut f).messenger = s.messenger := rfl
@[simp] theorem State.updSOut_renewal (f : List OutFrame → List OutFrame) (s : State) :
    (s.updSOut f).renewal = s.renewal := rfl
@[simp] theorem State.updSOut_faults (f : List OutFrame → List OutFrame) (s : State) :
    (s.updSOut f).faults = s.faults := rfl
@[simp] theorem State.updSOut_beacon (f : List OutFrame → List OutFrame) (s : State) :
    (s.updSOut f).beacon = s.beacon := rfl
@[simp] theorem State.updSOut_sPort (f : List OutFrame → List OutFrame) (s : State) :
    (s.updSOut f).sPort = s.sPort := rfl
@[simp] theorem State.updSOut_lPort (f : List OutFrame → List OutFrame) (s : State) :
    (s.updSOut f).lPort = s.lPort := rfl

@[simp] theorem State.updLRx_pending (f : List LineIn → List LineIn) (s : State) :
    (s.updLRx f).pending = s.pending := rfl
@[simp] theorem State.updLRx_partState (f : List LineIn → List LineIn) (s : State) :
    (s.updLRx f).partState = s.partState := rfl
@[simp] theorem State.updLRx_tick (f : List LineIn → List LineIn) (s : State) : (s.updLRx f).tick = s.tick := rfl
@[simp] theorem State.updLRx_intervalTicks (f : List LineIn → List LineIn) (s : State) :
    (s.updLRx f).intervalTicks = s.intervalTicks := rfl
@[simp] theorem State.updLRx_selfCheckPending (f : List LineIn → List LineIn) (s : State) :
    (s.updLRx f).selfCheckPending = s.selfCheckPending := rfl
@[simp] theorem State.updLRx_eraseWindow (f : List LineIn → List LineIn) (s : State) :
    (s.updLRx f).eraseWindow = s.eraseWindow := rfl
@[simp] theorem State.updLRx_chans (f : List LineIn → List LineIn) (s : State) : (s.updLRx f).chans = s.chans := rfl
@[simp] theorem State.updLRx_root (f : List LineIn → List LineIn) (s : State) : (s.updLRx f).root = s.root := rfl
@[simp] theorem State.updLRx_slots (f : List LineIn → List LineIn) (s : State) : (s.updLRx f).slots = s.slots := rfl
@[simp] theorem State.updLRx_pool (f : List LineIn → List LineIn) (s : State) : (s.updLRx f).pool = s.pool := rfl
@[simp] theorem State.updLRx_sIn (f : List LineIn → List LineIn) (s : State) : (s.updLRx f).sIn = s.sIn := rfl
@[simp] theorem State.updLRx_sOut (f : List LineIn → List LineIn) (s : State) : (s.updLRx f).sOut = s.sOut := rfl
@[simp] theorem State.updLRx_lRx (f : List LineIn → List LineIn) (s : State) : (s.updLRx f).lRx = f s.lRx := rfl
@[simp] theorem State.updLRx_lTx (f : List LineIn → List LineIn) (s : State) : (s.updLRx f).lTx = s.lTx := rfl
@[simp] theorem State.updLRx_ctrl (f : List LineIn → List LineIn) (s : State) : (s.updLRx f).ctrl = s.ctrl := rfl
@[simp] theorem State.updLRx_engine (f : List LineIn → List LineIn) (s : State) :
    (s.updLRx f).engine = s.engine := rfl
@[simp] theorem State.updLRx_link (f : List LineIn → List LineIn) (s : State) : (s.updLRx f).link = s.link := rfl
@[simp] theorem State.updLRx_messenger (f : List LineIn → List LineIn) (s : State) :
    (s.updLRx f).messenger = s.messenger := rfl
@[simp] theorem State.updLRx_renewal (f : List LineIn → List LineIn) (s : State) :
    (s.updLRx f).renewal = s.renewal := rfl
@[simp] theorem State.updLRx_faults (f : List LineIn → List LineIn) (s : State) :
    (s.updLRx f).faults = s.faults := rfl
@[simp] theorem State.updLRx_beacon (f : List LineIn → List LineIn) (s : State) :
    (s.updLRx f).beacon = s.beacon := rfl
@[simp] theorem State.updLRx_sPort (f : List LineIn → List LineIn) (s : State) : (s.updLRx f).sPort = s.sPort := rfl
@[simp] theorem State.updLRx_lPort (f : List LineIn → List LineIn) (s : State) : (s.updLRx f).lPort = s.lPort := rfl

@[simp] theorem State.updLTx_pending (f : List (List Byte) → List (List Byte)) (s : State) :
    (s.updLTx f).pending = s.pending := rfl
@[simp] theorem State.updLTx_partState (f : List (List Byte) → List (List Byte)) (s : State) :
    (s.updLTx f).partState = s.partState := rfl
@[simp] theorem State.updLTx_tick (f : List (List Byte) → List (List Byte)) (s : State) :
    (s.updLTx f).tick = s.tick := rfl
@[simp] theorem State.updLTx_intervalTicks (f : List (List Byte) → List (List Byte)) (s : State) :
    (s.updLTx f).intervalTicks = s.intervalTicks := rfl
@[simp] theorem State.updLTx_selfCheckPending (f : List (List Byte) → List (List Byte)) (s : State) :
    (s.updLTx f).selfCheckPending = s.selfCheckPending := rfl
@[simp] theorem State.updLTx_eraseWindow (f : List (List Byte) → List (List Byte)) (s : State) :
    (s.updLTx f).eraseWindow = s.eraseWindow := rfl
@[simp] theorem State.updLTx_chans (f : List (List Byte) → List (List Byte)) (s : State) :
    (s.updLTx f).chans = s.chans := rfl
@[simp] theorem State.updLTx_root (f : List (List Byte) → List (List Byte)) (s : State) :
    (s.updLTx f).root = s.root := rfl
@[simp] theorem State.updLTx_slots (f : List (List Byte) → List (List Byte)) (s : State) :
    (s.updLTx f).slots = s.slots := rfl
@[simp] theorem State.updLTx_pool (f : List (List Byte) → List (List Byte)) (s : State) :
    (s.updLTx f).pool = s.pool := rfl
@[simp] theorem State.updLTx_sIn (f : List (List Byte) → List (List Byte)) (s : State) :
    (s.updLTx f).sIn = s.sIn := rfl
@[simp] theorem State.updLTx_sOut (f : List (List Byte) → List (List Byte)) (s : State) :
    (s.updLTx f).sOut = s.sOut := rfl
@[simp] theorem State.updLTx_lRx (f : List (List Byte) → List (List Byte)) (s : State) :
    (s.updLTx f).lRx = s.lRx := rfl
@[simp] theorem State.updLTx_lTx (f : List (List Byte) → List (List Byte)) (s : State) :
    (s.updLTx f).lTx = f s.lTx := rfl
@[simp] theorem State.updLTx_ctrl (f : List (List Byte) → List (List Byte)) (s : State) :
    (s.updLTx f).ctrl = s.ctrl := rfl
@[simp] theorem State.updLTx_engine (f : List (List Byte) → List (List Byte)) (s : State) :
    (s.updLTx f).engine = s.engine := rfl
@[simp] theorem State.updLTx_link (f : List (List Byte) → List (List Byte)) (s : State) :
    (s.updLTx f).link = s.link := rfl
@[simp] theorem State.updLTx_messenger (f : List (List Byte) → List (List Byte)) (s : State) :
    (s.updLTx f).messenger = s.messenger := rfl
@[simp] theorem State.updLTx_renewal (f : List (List Byte) → List (List Byte)) (s : State) :
    (s.updLTx f).renewal = s.renewal := rfl
@[simp] theorem State.updLTx_faults (f : List (List Byte) → List (List Byte)) (s : State) :
    (s.updLTx f).faults = s.faults := rfl
@[simp] theorem State.updLTx_beacon (f : List (List Byte) → List (List Byte)) (s : State) :
    (s.updLTx f).beacon = s.beacon := rfl
@[simp] theorem State.updLTx_sPort (f : List (List Byte) → List (List Byte)) (s : State) :
    (s.updLTx f).sPort = s.sPort := rfl
@[simp] theorem State.updLTx_lPort (f : List (List Byte) → List (List Byte)) (s : State) :
    (s.updLTx f).lPort = s.lPort := rfl

@[simp] theorem State.updCtrl_pending (f : List CtrlMsg → List CtrlMsg) (s : State) :
    (s.updCtrl f).pending = s.pending := rfl
@[simp] theorem State.updCtrl_partState (f : List CtrlMsg → List CtrlMsg) (s : State) :
    (s.updCtrl f).partState = s.partState := rfl
@[simp] theorem State.updCtrl_tick (f : List CtrlMsg → List CtrlMsg) (s : State) : (s.updCtrl f).tick = s.tick := rfl
@[simp] theorem State.updCtrl_intervalTicks (f : List CtrlMsg → List CtrlMsg) (s : State) :
    (s.updCtrl f).intervalTicks = s.intervalTicks := rfl
@[simp] theorem State.updCtrl_selfCheckPending (f : List CtrlMsg → List CtrlMsg) (s : State) :
    (s.updCtrl f).selfCheckPending = s.selfCheckPending := rfl
@[simp] theorem State.updCtrl_eraseWindow (f : List CtrlMsg → List CtrlMsg) (s : State) :
    (s.updCtrl f).eraseWindow = s.eraseWindow := rfl
@[simp] theorem State.updCtrl_chans (f : List CtrlMsg → List CtrlMsg) (s : State) :
    (s.updCtrl f).chans = s.chans := rfl
@[simp] theorem State.updCtrl_root (f : List CtrlMsg → List CtrlMsg) (s : State) : (s.updCtrl f).root = s.root := rfl
@[simp] theorem State.updCtrl_slots (f : List CtrlMsg → List CtrlMsg) (s : State) :
    (s.updCtrl f).slots = s.slots := rfl
@[simp] theorem State.updCtrl_pool (f : List CtrlMsg → List CtrlMsg) (s : State) : (s.updCtrl f).pool = s.pool := rfl
@[simp] theorem State.updCtrl_sIn (f : List CtrlMsg → List CtrlMsg) (s : State) : (s.updCtrl f).sIn = s.sIn := rfl
@[simp] theorem State.updCtrl_sOut (f : List CtrlMsg → List CtrlMsg) (s : State) : (s.updCtrl f).sOut = s.sOut := rfl
@[simp] theorem State.updCtrl_lRx (f : List CtrlMsg → List CtrlMsg) (s : State) : (s.updCtrl f).lRx = s.lRx := rfl
@[simp] theorem State.updCtrl_lTx (f : List CtrlMsg → List CtrlMsg) (s : State) : (s.updCtrl f).lTx = s.lTx := rfl
@[simp] theorem State.updCtrl_ctrl (f : List CtrlMsg → List CtrlMsg) (s : State) :
    (s.updCtrl f).ctrl = f s.ctrl := rfl
@[simp] theorem State.updCtrl_engine (f : List CtrlMsg → List CtrlMsg) (s : State) :
    (s.updCtrl f).engine = s.engine := rfl
@[simp] theorem State.updCtrl_link (f : List CtrlMsg → List CtrlMsg) (s : State) : (s.updCtrl f).link = s.link := rfl
@[simp] theorem State.updCtrl_messenger (f : List CtrlMsg → List CtrlMsg) (s : State) :
    (s.updCtrl f).messenger = s.messenger := rfl
@[simp] theorem State.updCtrl_renewal (f : List CtrlMsg → List CtrlMsg) (s : State) :
    (s.updCtrl f).renewal = s.renewal := rfl
@[simp] theorem State.updCtrl_faults (f : List CtrlMsg → List CtrlMsg) (s : State) :
    (s.updCtrl f).faults = s.faults := rfl
@[simp] theorem State.updCtrl_beacon (f : List CtrlMsg → List CtrlMsg) (s : State) :
    (s.updCtrl f).beacon = s.beacon := rfl
@[simp] theorem State.updCtrl_sPort (f : List CtrlMsg → List CtrlMsg) (s : State) :
    (s.updCtrl f).sPort = s.sPort := rfl
@[simp] theorem State.updCtrl_lPort (f : List CtrlMsg → List CtrlMsg) (s : State) :
    (s.updCtrl f).lPort = s.lPort := rfl

@[simp] theorem State.setPartState_pending (p : PartState) (s : State) : (s.setPartState p).pending = s.pending := rfl
@[simp] theorem State.setPartState_partState (p : PartState) (s : State) : (s.setPartState p).partState = p := rfl
@[simp] theorem State.setPartState_tick (p : PartState) (s : State) : (s.setPartState p).tick = s.tick := rfl
@[simp] theorem State.setPartState_intervalTicks (p : PartState) (s : State) :
    (s.setPartState p).intervalTicks = s.intervalTicks := rfl
@[simp] theorem State.setPartState_selfCheckPending (p : PartState) (s : State) :
    (s.setPartState p).selfCheckPending = s.selfCheckPending := rfl
@[simp] theorem State.setPartState_eraseWindow (p : PartState) (s : State) :
    (s.setPartState p).eraseWindow = s.eraseWindow := rfl
@[simp] theorem State.setPartState_chans (p : PartState) (s : State) : (s.setPartState p).chans = s.chans := rfl
@[simp] theorem State.setPartState_root (p : PartState) (s : State) : (s.setPartState p).root = s.root := rfl
@[simp] theorem State.setPartState_slots (p : PartState) (s : State) : (s.setPartState p).slots = s.slots := rfl
@[simp] theorem State.setPartState_pool (p : PartState) (s : State) : (s.setPartState p).pool = s.pool := rfl
@[simp] theorem State.setPartState_sIn (p : PartState) (s : State) : (s.setPartState p).sIn = s.sIn := rfl
@[simp] theorem State.setPartState_sOut (p : PartState) (s : State) : (s.setPartState p).sOut = s.sOut := rfl
@[simp] theorem State.setPartState_lRx (p : PartState) (s : State) : (s.setPartState p).lRx = s.lRx := rfl
@[simp] theorem State.setPartState_lTx (p : PartState) (s : State) : (s.setPartState p).lTx = s.lTx := rfl
@[simp] theorem State.setPartState_ctrl (p : PartState) (s : State) : (s.setPartState p).ctrl = s.ctrl := rfl
@[simp] theorem State.setPartState_engine (p : PartState) (s : State) : (s.setPartState p).engine = s.engine := rfl
@[simp] theorem State.setPartState_link (p : PartState) (s : State) : (s.setPartState p).link = s.link := rfl
@[simp] theorem State.setPartState_messenger (p : PartState) (s : State) :
    (s.setPartState p).messenger = s.messenger := rfl
@[simp] theorem State.setPartState_renewal (p : PartState) (s : State) : (s.setPartState p).renewal = s.renewal := rfl
@[simp] theorem State.setPartState_faults (p : PartState) (s : State) : (s.setPartState p).faults = s.faults := rfl
@[simp] theorem State.setPartState_beacon (p : PartState) (s : State) : (s.setPartState p).beacon = s.beacon := rfl
@[simp] theorem State.setPartState_sPort (p : PartState) (s : State) : (s.setPartState p).sPort = s.sPort := rfl
@[simp] theorem State.setPartState_lPort (p : PartState) (s : State) : (s.setPartState p).lPort = s.lPort := rfl

@[simp] theorem State.setWindow_pending (w : Option (Port × Nat)) (s : State) :
    (s.setWindow w).pending = s.pending := rfl
@[simp] theorem State.setWindow_partState (w : Option (Port × Nat)) (s : State) :
    (s.setWindow w).partState = s.partState := rfl
@[simp] theorem State.setWindow_tick (w : Option (Port × Nat)) (s : State) : (s.setWindow w).tick = s.tick := rfl
@[simp] theorem State.setWindow_intervalTicks (w : Option (Port × Nat)) (s : State) :
    (s.setWindow w).intervalTicks = s.intervalTicks := rfl
@[simp] theorem State.setWindow_selfCheckPending (w : Option (Port × Nat)) (s : State) :
    (s.setWindow w).selfCheckPending = s.selfCheckPending := rfl
@[simp] theorem State.setWindow_eraseWindow (w : Option (Port × Nat)) (s : State) :
    (s.setWindow w).eraseWindow = w := rfl
@[simp] theorem State.setWindow_chans (w : Option (Port × Nat)) (s : State) : (s.setWindow w).chans = s.chans := rfl
@[simp] theorem State.setWindow_root (w : Option (Port × Nat)) (s : State) : (s.setWindow w).root = s.root := rfl
@[simp] theorem State.setWindow_slots (w : Option (Port × Nat)) (s : State) : (s.setWindow w).slots = s.slots := rfl
@[simp] theorem State.setWindow_pool (w : Option (Port × Nat)) (s : State) : (s.setWindow w).pool = s.pool := rfl
@[simp] theorem State.setWindow_sIn (w : Option (Port × Nat)) (s : State) : (s.setWindow w).sIn = s.sIn := rfl
@[simp] theorem State.setWindow_sOut (w : Option (Port × Nat)) (s : State) : (s.setWindow w).sOut = s.sOut := rfl
@[simp] theorem State.setWindow_lRx (w : Option (Port × Nat)) (s : State) : (s.setWindow w).lRx = s.lRx := rfl
@[simp] theorem State.setWindow_lTx (w : Option (Port × Nat)) (s : State) : (s.setWindow w).lTx = s.lTx := rfl
@[simp] theorem State.setWindow_ctrl (w : Option (Port × Nat)) (s : State) : (s.setWindow w).ctrl = s.ctrl := rfl
@[simp] theorem State.setWindow_engine (w : Option (Port × Nat)) (s : State) :
    (s.setWindow w).engine = s.engine := rfl
@[simp] theorem State.setWindow_link (w : Option (Port × Nat)) (s : State) : (s.setWindow w).link = s.link := rfl
@[simp] theorem State.setWindow_messenger (w : Option (Port × Nat)) (s : State) :
    (s.setWindow w).messenger = s.messenger := rfl
@[simp] theorem State.setWindow_renewal (w : Option (Port × Nat)) (s : State) :
    (s.setWindow w).renewal = s.renewal := rfl
@[simp] theorem State.setWindow_faults (w : Option (Port × Nat)) (s : State) :
    (s.setWindow w).faults = s.faults := rfl
@[simp] theorem State.setWindow_beacon (w : Option (Port × Nat)) (s : State) :
    (s.setWindow w).beacon = s.beacon := rfl
@[simp] theorem State.setWindow_sPort (w : Option (Port × Nat)) (s : State) : (s.setWindow w).sPort = s.sPort := rfl
@[simp] theorem State.setWindow_lPort (w : Option (Port × Nat)) (s : State) : (s.setWindow w).lPort = s.lPort := rfl

@[simp] theorem State.setChan_pending (i : Nat) (c : Channel) (s : State) : (s.setChan i c).pending = s.pending := rfl
@[simp] theorem State.setChan_partState (i : Nat) (c : Channel) (s : State) :
    (s.setChan i c).partState = s.partState := rfl
@[simp] theorem State.setChan_tick (i : Nat) (c : Channel) (s : State) : (s.setChan i c).tick = s.tick := rfl
@[simp] theorem State.setChan_intervalTicks (i : Nat) (c : Channel) (s : State) :
    (s.setChan i c).intervalTicks = s.intervalTicks := rfl
@[simp] theorem State.setChan_selfCheckPending (i : Nat) (c : Channel) (s : State) :
    (s.setChan i c).selfCheckPending = s.selfCheckPending := rfl
@[simp] theorem State.setChan_eraseWindow (i : Nat) (c : Channel) (s : State) :
    (s.setChan i c).eraseWindow = s.eraseWindow := rfl
@[simp] theorem State.setChan_chans (i : Nat) (c : Channel) (s : State) :
    (s.setChan i c).chans = s.chans.setIfInBounds i c := rfl
@[simp] theorem State.setChan_root (i : Nat) (c : Channel) (s : State) : (s.setChan i c).root = s.root := rfl
@[simp] theorem State.setChan_slots (i : Nat) (c : Channel) (s : State) : (s.setChan i c).slots = s.slots := rfl
@[simp] theorem State.setChan_pool (i : Nat) (c : Channel) (s : State) : (s.setChan i c).pool = s.pool := rfl
@[simp] theorem State.setChan_sIn (i : Nat) (c : Channel) (s : State) : (s.setChan i c).sIn = s.sIn := rfl
@[simp] theorem State.setChan_sOut (i : Nat) (c : Channel) (s : State) : (s.setChan i c).sOut = s.sOut := rfl
@[simp] theorem State.setChan_lRx (i : Nat) (c : Channel) (s : State) : (s.setChan i c).lRx = s.lRx := rfl
@[simp] theorem State.setChan_lTx (i : Nat) (c : Channel) (s : State) : (s.setChan i c).lTx = s.lTx := rfl
@[simp] theorem State.setChan_ctrl (i : Nat) (c : Channel) (s : State) : (s.setChan i c).ctrl = s.ctrl := rfl
@[simp] theorem State.setChan_engine (i : Nat) (c : Channel) (s : State) : (s.setChan i c).engine = s.engine := rfl
@[simp] theorem State.setChan_link (i : Nat) (c : Channel) (s : State) : (s.setChan i c).link = s.link := rfl
@[simp] theorem State.setChan_messenger (i : Nat) (c : Channel) (s : State) :
    (s.setChan i c).messenger = s.messenger := rfl
@[simp] theorem State.setChan_renewal (i : Nat) (c : Channel) (s : State) : (s.setChan i c).renewal = s.renewal := rfl
@[simp] theorem State.setChan_faults (i : Nat) (c : Channel) (s : State) : (s.setChan i c).faults = s.faults := rfl
@[simp] theorem State.setChan_beacon (i : Nat) (c : Channel) (s : State) : (s.setChan i c).beacon = s.beacon := rfl
@[simp] theorem State.setChan_sPort (i : Nat) (c : Channel) (s : State) : (s.setChan i c).sPort = s.sPort := rfl
@[simp] theorem State.setChan_lPort (i : Nat) (c : Channel) (s : State) : (s.setChan i c).lPort = s.lPort := rfl

@[simp] theorem State.updChan_pending (i : Nat) (f : Channel → Channel) (s : State) :
    (s.updChan i f).pending = s.pending := rfl
@[simp] theorem State.updChan_partState (i : Nat) (f : Channel → Channel) (s : State) :
    (s.updChan i f).partState = s.partState := rfl
@[simp] theorem State.updChan_tick (i : Nat) (f : Channel → Channel) (s : State) :
    (s.updChan i f).tick = s.tick := rfl
@[simp] theorem State.updChan_intervalTicks (i : Nat) (f : Channel → Channel) (s : State) :
    (s.updChan i f).intervalTicks = s.intervalTicks := rfl
@[simp] theorem State.updChan_selfCheckPending (i : Nat) (f : Channel → Channel) (s : State) :
    (s.updChan i f).selfCheckPending = s.selfCheckPending := rfl
@[simp] theorem State.updChan_eraseWindow (i : Nat) (f : Channel → Channel) (s : State) :
    (s.updChan i f).eraseWindow = s.eraseWindow := rfl
@[simp] theorem State.updChan_chans (i : Nat) (f : Channel → Channel) (s : State) :
    (s.updChan i f).chans = s.chans.setIfInBounds i (f (s.chan i)) := rfl
@[simp] theorem State.updChan_root (i : Nat) (f : Channel → Channel) (s : State) :
    (s.updChan i f).root = s.root := rfl
@[simp] theorem State.updChan_slots (i : Nat) (f : Channel → Channel) (s : State) :
    (s.updChan i f).slots = s.slots := rfl
@[simp] theorem State.updChan_pool (i : Nat) (f : Channel → Channel) (s : State) :
    (s.updChan i f).pool = s.pool := rfl
@[simp] theorem State.updChan_sIn (i : Nat) (f : Channel → Channel) (s : State) : (s.updChan i f).sIn = s.sIn := rfl
@[simp] theorem State.updChan_sOut (i : Nat) (f : Channel → Channel) (s : State) :
    (s.updChan i f).sOut = s.sOut := rfl
@[simp] theorem State.updChan_lRx (i : Nat) (f : Channel → Channel) (s : State) : (s.updChan i f).lRx = s.lRx := rfl
@[simp] theorem State.updChan_lTx (i : Nat) (f : Channel → Channel) (s : State) : (s.updChan i f).lTx = s.lTx := rfl
@[simp] theorem State.updChan_ctrl (i : Nat) (f : Channel → Channel) (s : State) :
    (s.updChan i f).ctrl = s.ctrl := rfl
@[simp] theorem State.updChan_engine (i : Nat) (f : Channel → Channel) (s : State) :
    (s.updChan i f).engine = s.engine := rfl
@[simp] theorem State.updChan_link (i : Nat) (f : Channel → Channel) (s : State) :
    (s.updChan i f).link = s.link := rfl
@[simp] theorem State.updChan_messenger (i : Nat) (f : Channel → Channel) (s : State) :
    (s.updChan i f).messenger = s.messenger := rfl
@[simp] theorem State.updChan_renewal (i : Nat) (f : Channel → Channel) (s : State) :
    (s.updChan i f).renewal = s.renewal := rfl
@[simp] theorem State.updChan_faults (i : Nat) (f : Channel → Channel) (s : State) :
    (s.updChan i f).faults = s.faults := rfl
@[simp] theorem State.updChan_beacon (i : Nat) (f : Channel → Channel) (s : State) :
    (s.updChan i f).beacon = s.beacon := rfl
@[simp] theorem State.updChan_sPort (i : Nat) (f : Channel → Channel) (s : State) :
    (s.updChan i f).sPort = s.sPort := rfl
@[simp] theorem State.updChan_lPort (i : Nat) (f : Channel → Channel) (s : State) :
    (s.updChan i f).lPort = s.lPort := rfl

@[simp] theorem State.mapChans_pending (f : Nat → Channel → Channel) (s : State) :
    (s.mapChans f).pending = s.pending := rfl
@[simp] theorem State.mapChans_partState (f : Nat → Channel → Channel) (s : State) :
    (s.mapChans f).partState = s.partState := rfl
@[simp] theorem State.mapChans_tick (f : Nat → Channel → Channel) (s : State) : (s.mapChans f).tick = s.tick := rfl
@[simp] theorem State.mapChans_intervalTicks (f : Nat → Channel → Channel) (s : State) :
    (s.mapChans f).intervalTicks = s.intervalTicks := rfl
@[simp] theorem State.mapChans_selfCheckPending (f : Nat → Channel → Channel) (s : State) :
    (s.mapChans f).selfCheckPending = s.selfCheckPending := rfl
@[simp] theorem State.mapChans_eraseWindow (f : Nat → Channel → Channel) (s : State) :
    (s.mapChans f).eraseWindow = s.eraseWindow := rfl
@[simp] theorem State.mapChans_chans (f : Nat → Channel → Channel) (s : State) :
    (s.mapChans f).chans = s.chans.mapIdx f := rfl
@[simp] theorem State.mapChans_root (f : Nat → Channel → Channel) (s : State) : (s.mapChans f).root = s.root := rfl
@[simp] theorem State.mapChans_slots (f : Nat → Channel → Channel) (s : State) : (s.mapChans f).slots = s.slots := rfl
@[simp] theorem State.mapChans_pool (f : Nat → Channel → Channel) (s : State) : (s.mapChans f).pool = s.pool := rfl
@[simp] theorem State.mapChans_sIn (f : Nat → Channel → Channel) (s : State) : (s.mapChans f).sIn = s.sIn := rfl
@[simp] theorem State.mapChans_sOut (f : Nat → Channel → Channel) (s : State) : (s.mapChans f).sOut = s.sOut := rfl
@[simp] theorem State.mapChans_lRx (f : Nat → Channel → Channel) (s : State) : (s.mapChans f).lRx = s.lRx := rfl
@[simp] theorem State.mapChans_lTx (f : Nat → Channel → Channel) (s : State) : (s.mapChans f).lTx = s.lTx := rfl
@[simp] theorem State.mapChans_ctrl (f : Nat → Channel → Channel) (s : State) : (s.mapChans f).ctrl = s.ctrl := rfl
@[simp] theorem State.mapChans_engine (f : Nat → Channel → Channel) (s : State) :
    (s.mapChans f).engine = s.engine := rfl
@[simp] theorem State.mapChans_link (f : Nat → Channel → Channel) (s : State) : (s.mapChans f).link = s.link := rfl
@[simp] theorem State.mapChans_messenger (f : Nat → Channel → Channel) (s : State) :
    (s.mapChans f).messenger = s.messenger := rfl
@[simp] theorem State.mapChans_renewal (f : Nat → Channel → Channel) (s : State) :
    (s.mapChans f).renewal = s.renewal := rfl
@[simp] theorem State.mapChans_faults (f : Nat → Channel → Channel) (s : State) :
    (s.mapChans f).faults = s.faults := rfl
@[simp] theorem State.mapChans_beacon (f : Nat → Channel → Channel) (s : State) :
    (s.mapChans f).beacon = s.beacon := rfl
@[simp] theorem State.mapChans_sPort (f : Nat → Channel → Channel) (s : State) : (s.mapChans f).sPort = s.sPort := rfl
@[simp] theorem State.mapChans_lPort (f : Nat → Channel → Channel) (s : State) : (s.mapChans f).lPort = s.lPort := rfl

@[simp] theorem State.setSlot_pending (x : Nat) (v : Slot) (s : State) : (s.setSlot x v).pending = s.pending := rfl
@[simp] theorem State.setSlot_partState (x : Nat) (v : Slot) (s : State) :
    (s.setSlot x v).partState = s.partState := rfl
@[simp] theorem State.setSlot_tick (x : Nat) (v : Slot) (s : State) : (s.setSlot x v).tick = s.tick := rfl
@[simp] theorem State.setSlot_intervalTicks (x : Nat) (v : Slot) (s : State) :
    (s.setSlot x v).intervalTicks = s.intervalTicks := rfl
@[simp] theorem State.setSlot_selfCheckPending (x : Nat) (v : Slot) (s : State) :
    (s.setSlot x v).selfCheckPending = s.selfCheckPending := rfl
@[simp] theorem State.setSlot_eraseWindow (x : Nat) (v : Slot) (s : State) :
    (s.setSlot x v).eraseWindow = s.eraseWindow := rfl
@[simp] theorem State.setSlot_chans (x : Nat) (v : Slot) (s : State) : (s.setSlot x v).chans = s.chans := rfl
@[simp] theorem State.setSlot_root (x : Nat) (v : Slot) (s : State) : (s.setSlot x v).root = s.root := rfl
@[simp] theorem State.setSlot_slots (x : Nat) (v : Slot) (s : State) :
    (s.setSlot x v).slots = setSlotEntry x v s.slots := rfl
@[simp] theorem State.setSlot_pool (x : Nat) (v : Slot) (s : State) : (s.setSlot x v).pool = s.pool := rfl
@[simp] theorem State.setSlot_sIn (x : Nat) (v : Slot) (s : State) : (s.setSlot x v).sIn = s.sIn := rfl
@[simp] theorem State.setSlot_sOut (x : Nat) (v : Slot) (s : State) : (s.setSlot x v).sOut = s.sOut := rfl
@[simp] theorem State.setSlot_lRx (x : Nat) (v : Slot) (s : State) : (s.setSlot x v).lRx = s.lRx := rfl
@[simp] theorem State.setSlot_lTx (x : Nat) (v : Slot) (s : State) : (s.setSlot x v).lTx = s.lTx := rfl
@[simp] theorem State.setSlot_ctrl (x : Nat) (v : Slot) (s : State) : (s.setSlot x v).ctrl = s.ctrl := rfl
@[simp] theorem State.setSlot_engine (x : Nat) (v : Slot) (s : State) : (s.setSlot x v).engine = s.engine := rfl
@[simp] theorem State.setSlot_link (x : Nat) (v : Slot) (s : State) : (s.setSlot x v).link = s.link := rfl
@[simp] theorem State.setSlot_messenger (x : Nat) (v : Slot) (s : State) :
    (s.setSlot x v).messenger = s.messenger := rfl
@[simp] theorem State.setSlot_renewal (x : Nat) (v : Slot) (s : State) : (s.setSlot x v).renewal = s.renewal := rfl
@[simp] theorem State.setSlot_faults (x : Nat) (v : Slot) (s : State) : (s.setSlot x v).faults = s.faults := rfl
@[simp] theorem State.setSlot_beacon (x : Nat) (v : Slot) (s : State) : (s.setSlot x v).beacon = s.beacon := rfl
@[simp] theorem State.setSlot_sPort (x : Nat) (v : Slot) (s : State) : (s.setSlot x v).sPort = s.sPort := rfl
@[simp] theorem State.setSlot_lPort (x : Nat) (v : Slot) (s : State) : (s.setSlot x v).lPort = s.lPort := rfl

@[simp] theorem State.updSlot_pending (x : Nat) (f : Slot → Slot) (s : State) :
    (s.updSlot x f).pending = s.pending := rfl
@[simp] theorem State.updSlot_partState (x : Nat) (f : Slot → Slot) (s : State) :
    (s.updSlot x f).partState = s.partState := rfl
@[simp] theorem State.updSlot_tick (x : Nat) (f : Slot → Slot) (s : State) : (s.updSlot x f).tick = s.tick := rfl
@[simp] theorem State.updSlot_intervalTicks (x : Nat) (f : Slot → Slot) (s : State) :
    (s.updSlot x f).intervalTicks = s.intervalTicks := rfl
@[simp] theorem State.updSlot_selfCheckPending (x : Nat) (f : Slot → Slot) (s : State) :
    (s.updSlot x f).selfCheckPending = s.selfCheckPending := rfl
@[simp] theorem State.updSlot_eraseWindow (x : Nat) (f : Slot → Slot) (s : State) :
    (s.updSlot x f).eraseWindow = s.eraseWindow := rfl
@[simp] theorem State.updSlot_chans (x : Nat) (f : Slot → Slot) (s : State) : (s.updSlot x f).chans = s.chans := rfl
@[simp] theorem State.updSlot_root (x : Nat) (f : Slot → Slot) (s : State) : (s.updSlot x f).root = s.root := rfl
@[simp] theorem State.updSlot_slots (x : Nat) (f : Slot → Slot) (s : State) :
    (s.updSlot x f).slots = setSlotEntry x (f (s.slot x)) s.slots := rfl
@[simp] theorem State.updSlot_pool (x : Nat) (f : Slot → Slot) (s : State) : (s.updSlot x f).pool = s.pool := rfl
@[simp] theorem State.updSlot_sIn (x : Nat) (f : Slot → Slot) (s : State) : (s.updSlot x f).sIn = s.sIn := rfl
@[simp] theorem State.updSlot_sOut (x : Nat) (f : Slot → Slot) (s : State) : (s.updSlot x f).sOut = s.sOut := rfl
@[simp] theorem State.updSlot_lRx (x : Nat) (f : Slot → Slot) (s : State) : (s.updSlot x f).lRx = s.lRx := rfl
@[simp] theorem State.updSlot_lTx (x : Nat) (f : Slot → Slot) (s : State) : (s.updSlot x f).lTx = s.lTx := rfl
@[simp] theorem State.updSlot_ctrl (x : Nat) (f : Slot → Slot) (s : State) : (s.updSlot x f).ctrl = s.ctrl := rfl
@[simp] theorem State.updSlot_engine (x : Nat) (f : Slot → Slot) (s : State) :
    (s.updSlot x f).engine = s.engine := rfl
@[simp] theorem State.updSlot_link (x : Nat) (f : Slot → Slot) (s : State) : (s.updSlot x f).link = s.link := rfl
@[simp] theorem State.updSlot_messenger (x : Nat) (f : Slot → Slot) (s : State) :
    (s.updSlot x f).messenger = s.messenger := rfl
@[simp] theorem State.updSlot_renewal (x : Nat) (f : Slot → Slot) (s : State) :
    (s.updSlot x f).renewal = s.renewal := rfl
@[simp] theorem State.updSlot_faults (x : Nat) (f : Slot → Slot) (s : State) :
    (s.updSlot x f).faults = s.faults := rfl
@[simp] theorem State.updSlot_beacon (x : Nat) (f : Slot → Slot) (s : State) :
    (s.updSlot x f).beacon = s.beacon := rfl
@[simp] theorem State.updSlot_sPort (x : Nat) (f : Slot → Slot) (s : State) : (s.updSlot x f).sPort = s.sPort := rfl
@[simp] theorem State.updSlot_lPort (x : Nat) (f : Slot → Slot) (s : State) : (s.updSlot x f).lPort = s.lPort := rfl

@[simp] theorem State.mapSlots_pending (f : Nat → Slot → Slot) (s : State) : (s.mapSlots f).pending = s.pending := rfl
@[simp] theorem State.mapSlots_partState (f : Nat → Slot → Slot) (s : State) :
    (s.mapSlots f).partState = s.partState := rfl
@[simp] theorem State.mapSlots_tick (f : Nat → Slot → Slot) (s : State) : (s.mapSlots f).tick = s.tick := rfl
@[simp] theorem State.mapSlots_intervalTicks (f : Nat → Slot → Slot) (s : State) :
    (s.mapSlots f).intervalTicks = s.intervalTicks := rfl
@[simp] theorem State.mapSlots_selfCheckPending (f : Nat → Slot → Slot) (s : State) :
    (s.mapSlots f).selfCheckPending = s.selfCheckPending := rfl
@[simp] theorem State.mapSlots_eraseWindow (f : Nat → Slot → Slot) (s : State) :
    (s.mapSlots f).eraseWindow = s.eraseWindow := rfl
@[simp] theorem State.mapSlots_chans (f : Nat → Slot → Slot) (s : State) : (s.mapSlots f).chans = s.chans := rfl
@[simp] theorem State.mapSlots_root (f : Nat → Slot → Slot) (s : State) : (s.mapSlots f).root = s.root := rfl
@[simp] theorem State.mapSlots_slots (f : Nat → Slot → Slot) (s : State) :
    (s.mapSlots f).slots = s.slots.mapIdx fun k a => f (k + 1) a := rfl
@[simp] theorem State.mapSlots_pool (f : Nat → Slot → Slot) (s : State) : (s.mapSlots f).pool = s.pool := rfl
@[simp] theorem State.mapSlots_sIn (f : Nat → Slot → Slot) (s : State) : (s.mapSlots f).sIn = s.sIn := rfl
@[simp] theorem State.mapSlots_sOut (f : Nat → Slot → Slot) (s : State) : (s.mapSlots f).sOut = s.sOut := rfl
@[simp] theorem State.mapSlots_lRx (f : Nat → Slot → Slot) (s : State) : (s.mapSlots f).lRx = s.lRx := rfl
@[simp] theorem State.mapSlots_lTx (f : Nat → Slot → Slot) (s : State) : (s.mapSlots f).lTx = s.lTx := rfl
@[simp] theorem State.mapSlots_ctrl (f : Nat → Slot → Slot) (s : State) : (s.mapSlots f).ctrl = s.ctrl := rfl
@[simp] theorem State.mapSlots_engine (f : Nat → Slot → Slot) (s : State) : (s.mapSlots f).engine = s.engine := rfl
@[simp] theorem State.mapSlots_link (f : Nat → Slot → Slot) (s : State) : (s.mapSlots f).link = s.link := rfl
@[simp] theorem State.mapSlots_messenger (f : Nat → Slot → Slot) (s : State) :
    (s.mapSlots f).messenger = s.messenger := rfl
@[simp] theorem State.mapSlots_renewal (f : Nat → Slot → Slot) (s : State) : (s.mapSlots f).renewal = s.renewal := rfl
@[simp] theorem State.mapSlots_faults (f : Nat → Slot → Slot) (s : State) : (s.mapSlots f).faults = s.faults := rfl
@[simp] theorem State.mapSlots_beacon (f : Nat → Slot → Slot) (s : State) : (s.mapSlots f).beacon = s.beacon := rfl
@[simp] theorem State.mapSlots_sPort (f : Nat → Slot → Slot) (s : State) : (s.mapSlots f).sPort = s.sPort := rfl
@[simp] theorem State.mapSlots_lPort (f : Nat → Slot → Slot) (s : State) : (s.mapSlots f).lPort = s.lPort := rfl

@[simp] theorem State.setBurst_pending (x : Nat) (b : Bool) (s : State) : (s.setBurst x b).pending = s.pending := rfl
@[simp] theorem State.setBurst_partState (x : Nat) (b : Bool) (s : State) :
    (s.setBurst x b).partState = s.partState := rfl
@[simp] theorem State.setBurst_tick (x : Nat) (b : Bool) (s : State) : (s.setBurst x b).tick = s.tick := rfl
@[simp] theorem State.setBurst_intervalTicks (x : Nat) (b : Bool) (s : State) :
    (s.setBurst x b).intervalTicks = s.intervalTicks := rfl
@[simp] theorem State.setBurst_selfCheckPending (x : Nat) (b : Bool) (s : State) :
    (s.setBurst x b).selfCheckPending = s.selfCheckPending := rfl
@[simp] theorem State.setBurst_eraseWindow (x : Nat) (b : Bool) (s : State) :
    (s.setBurst x b).eraseWindow = s.eraseWindow := rfl
@[simp] theorem State.setBurst_chans (x : Nat) (b : Bool) (s : State) : (s.setBurst x b).chans = s.chans := rfl
@[simp] theorem State.setBurst_root (x : Nat) (b : Bool) (s : State) : (s.setBurst x b).root = s.root := rfl
@[simp] theorem State.setBurst_slots (x : Nat) (b : Bool) (s : State) : (s.setBurst x b).slots = s.slots := rfl
@[simp] theorem State.setBurst_pool (x : Nat) (b : Bool) (s : State) : (s.setBurst x b).pool = s.pool := rfl
@[simp] theorem State.setBurst_sIn (x : Nat) (b : Bool) (s : State) : (s.setBurst x b).sIn = s.sIn := rfl
@[simp] theorem State.setBurst_sOut (x : Nat) (b : Bool) (s : State) : (s.setBurst x b).sOut = s.sOut := rfl
@[simp] theorem State.setBurst_lRx (x : Nat) (b : Bool) (s : State) : (s.setBurst x b).lRx = s.lRx := rfl
@[simp] theorem State.setBurst_lTx (x : Nat) (b : Bool) (s : State) : (s.setBurst x b).lTx = s.lTx := rfl
@[simp] theorem State.setBurst_ctrl (x : Nat) (b : Bool) (s : State) : (s.setBurst x b).ctrl = s.ctrl := rfl
@[simp] theorem State.setBurst_engine (x : Nat) (b : Bool) (s : State) :
    (s.setBurst x b).engine = { s.engine with burst := setSlotEntry x b s.engine.burst } := rfl
@[simp] theorem State.setBurst_link (x : Nat) (b : Bool) (s : State) : (s.setBurst x b).link = s.link := rfl
@[simp] theorem State.setBurst_messenger (x : Nat) (b : Bool) (s : State) :
    (s.setBurst x b).messenger = s.messenger := rfl
@[simp] theorem State.setBurst_renewal (x : Nat) (b : Bool) (s : State) : (s.setBurst x b).renewal = s.renewal := rfl
@[simp] theorem State.setBurst_faults (x : Nat) (b : Bool) (s : State) : (s.setBurst x b).faults = s.faults := rfl
@[simp] theorem State.setBurst_beacon (x : Nat) (b : Bool) (s : State) : (s.setBurst x b).beacon = s.beacon := rfl
@[simp] theorem State.setBurst_sPort (x : Nat) (b : Bool) (s : State) : (s.setBurst x b).sPort = s.sPort := rfl
@[simp] theorem State.setBurst_lPort (x : Nat) (b : Bool) (s : State) : (s.setBurst x b).lPort = s.lPort := rfl

@[simp] theorem State.setBackoff_pending (x : Nat) (b : Backoff) (s : State) :
    (s.setBackoff x b).pending = s.pending := rfl
@[simp] theorem State.setBackoff_partState (x : Nat) (b : Backoff) (s : State) :
    (s.setBackoff x b).partState = s.partState := rfl
@[simp] theorem State.setBackoff_tick (x : Nat) (b : Backoff) (s : State) : (s.setBackoff x b).tick = s.tick := rfl
@[simp] theorem State.setBackoff_intervalTicks (x : Nat) (b : Backoff) (s : State) :
    (s.setBackoff x b).intervalTicks = s.intervalTicks := rfl
@[simp] theorem State.setBackoff_selfCheckPending (x : Nat) (b : Backoff) (s : State) :
    (s.setBackoff x b).selfCheckPending = s.selfCheckPending := rfl
@[simp] theorem State.setBackoff_eraseWindow (x : Nat) (b : Backoff) (s : State) :
    (s.setBackoff x b).eraseWindow = s.eraseWindow := rfl
@[simp] theorem State.setBackoff_chans (x : Nat) (b : Backoff) (s : State) : (s.setBackoff x b).chans = s.chans := rfl
@[simp] theorem State.setBackoff_root (x : Nat) (b : Backoff) (s : State) : (s.setBackoff x b).root = s.root := rfl
@[simp] theorem State.setBackoff_slots (x : Nat) (b : Backoff) (s : State) : (s.setBackoff x b).slots = s.slots := rfl
@[simp] theorem State.setBackoff_pool (x : Nat) (b : Backoff) (s : State) : (s.setBackoff x b).pool = s.pool := rfl
@[simp] theorem State.setBackoff_sIn (x : Nat) (b : Backoff) (s : State) : (s.setBackoff x b).sIn = s.sIn := rfl
@[simp] theorem State.setBackoff_sOut (x : Nat) (b : Backoff) (s : State) : (s.setBackoff x b).sOut = s.sOut := rfl
@[simp] theorem State.setBackoff_lRx (x : Nat) (b : Backoff) (s : State) : (s.setBackoff x b).lRx = s.lRx := rfl
@[simp] theorem State.setBackoff_lTx (x : Nat) (b : Backoff) (s : State) : (s.setBackoff x b).lTx = s.lTx := rfl
@[simp] theorem State.setBackoff_ctrl (x : Nat) (b : Backoff) (s : State) : (s.setBackoff x b).ctrl = s.ctrl := rfl
@[simp] theorem State.setBackoff_engine (x : Nat) (b : Backoff) (s : State) :
    (s.setBackoff x b).engine = s.engine := rfl
@[simp] theorem State.setBackoff_link (x : Nat) (b : Backoff) (s : State) : (s.setBackoff x b).link = s.link := rfl
@[simp] theorem State.setBackoff_messenger (x : Nat) (b : Backoff) (s : State) :
    (s.setBackoff x b).messenger = s.messenger := rfl
@[simp] theorem State.setBackoff_renewal (x : Nat) (b : Backoff) (s : State) :
    (s.setBackoff x b).renewal = { s.renewal with backoff := setSlotEntry x b s.renewal.backoff } := rfl
@[simp] theorem State.setBackoff_faults (x : Nat) (b : Backoff) (s : State) :
    (s.setBackoff x b).faults = s.faults := rfl
@[simp] theorem State.setBackoff_beacon (x : Nat) (b : Backoff) (s : State) :
    (s.setBackoff x b).beacon = s.beacon := rfl
@[simp] theorem State.setBackoff_sPort (x : Nat) (b : Backoff) (s : State) : (s.setBackoff x b).sPort = s.sPort := rfl
@[simp] theorem State.setBackoff_lPort (x : Nat) (b : Backoff) (s : State) : (s.setBackoff x b).lPort = s.lPort := rfl

@[simp] theorem State.setCtx_pending (c : Nat) (x : Context) (s : State) : (s.setCtx c x).pending = s.pending := rfl
@[simp] theorem State.setCtx_partState (c : Nat) (x : Context) (s : State) :
    (s.setCtx c x).partState = s.partState := rfl
@[simp] theorem State.setCtx_tick (c : Nat) (x : Context) (s : State) : (s.setCtx c x).tick = s.tick := rfl
@[simp] theorem State.setCtx_intervalTicks (c : Nat) (x : Context) (s : State) :
    (s.setCtx c x).intervalTicks = s.intervalTicks := rfl
@[simp] theorem State.setCtx_selfCheckPending (c : Nat) (x : Context) (s : State) :
    (s.setCtx c x).selfCheckPending = s.selfCheckPending := rfl
@[simp] theorem State.setCtx_eraseWindow (c : Nat) (x : Context) (s : State) :
    (s.setCtx c x).eraseWindow = s.eraseWindow := rfl
@[simp] theorem State.setCtx_chans (c : Nat) (x : Context) (s : State) : (s.setCtx c x).chans = s.chans := rfl
@[simp] theorem State.setCtx_root (c : Nat) (x : Context) (s : State) : (s.setCtx c x).root = s.root := rfl
@[simp] theorem State.setCtx_slots (c : Nat) (x : Context) (s : State) : (s.setCtx c x).slots = s.slots := rfl
@[simp] theorem State.setCtx_pool (c : Nat) (x : Context) (s : State) : (s.setCtx c x).pool = s.pool := rfl
@[simp] theorem State.setCtx_sIn (c : Nat) (x : Context) (s : State) : (s.setCtx c x).sIn = s.sIn := rfl
@[simp] theorem State.setCtx_sOut (c : Nat) (x : Context) (s : State) : (s.setCtx c x).sOut = s.sOut := rfl
@[simp] theorem State.setCtx_lRx (c : Nat) (x : Context) (s : State) : (s.setCtx c x).lRx = s.lRx := rfl
@[simp] theorem State.setCtx_lTx (c : Nat) (x : Context) (s : State) : (s.setCtx c x).lTx = s.lTx := rfl
@[simp] theorem State.setCtx_ctrl (c : Nat) (x : Context) (s : State) : (s.setCtx c x).ctrl = s.ctrl := rfl
@[simp] theorem State.setCtx_engine (c : Nat) (x : Context) (s : State) : (s.setCtx c x).engine = s.engine := rfl
@[simp] theorem State.setCtx_link (c : Nat) (x : Context) (s : State) : (s.setCtx c x).link = s.link := rfl
@[simp] theorem State.setCtx_messenger (c : Nat) (x : Context) (s : State) :
    (s.setCtx c x).messenger = s.messenger := rfl
@[simp] theorem State.setCtx_renewal (c : Nat) (x : Context) (s : State) :
    (s.setCtx c x).renewal = { s.renewal with contexts := s.renewal.contexts.setIfInBounds c x } := rfl
@[simp] theorem State.setCtx_faults (c : Nat) (x : Context) (s : State) : (s.setCtx c x).faults = s.faults := rfl
@[simp] theorem State.setCtx_beacon (c : Nat) (x : Context) (s : State) : (s.setCtx c x).beacon = s.beacon := rfl
@[simp] theorem State.setCtx_sPort (c : Nat) (x : Context) (s : State) : (s.setCtx c x).sPort = s.sPort := rfl
@[simp] theorem State.setCtx_lPort (c : Nat) (x : Context) (s : State) : (s.setCtx c x).lPort = s.lPort := rfl

@[simp] theorem State.updCtx_pending (c : Nat) (f : Context → Context) (s : State) :
    (s.updCtx c f).pending = s.pending := rfl
@[simp] theorem State.updCtx_partState (c : Nat) (f : Context → Context) (s : State) :
    (s.updCtx c f).partState = s.partState := rfl
@[simp] theorem State.updCtx_tick (c : Nat) (f : Context → Context) (s : State) : (s.updCtx c f).tick = s.tick := rfl
@[simp] theorem State.updCtx_intervalTicks (c : Nat) (f : Context → Context) (s : State) :
    (s.updCtx c f).intervalTicks = s.intervalTicks := rfl
@[simp] theorem State.updCtx_selfCheckPending (c : Nat) (f : Context → Context) (s : State) :
    (s.updCtx c f).selfCheckPending = s.selfCheckPending := rfl
@[simp] theorem State.updCtx_eraseWindow (c : Nat) (f : Context → Context) (s : State) :
    (s.updCtx c f).eraseWindow = s.eraseWindow := rfl
@[simp] theorem State.updCtx_chans (c : Nat) (f : Context → Context) (s : State) :
    (s.updCtx c f).chans = s.chans := rfl
@[simp] theorem State.updCtx_root (c : Nat) (f : Context → Context) (s : State) : (s.updCtx c f).root = s.root := rfl
@[simp] theorem State.updCtx_slots (c : Nat) (f : Context → Context) (s : State) :
    (s.updCtx c f).slots = s.slots := rfl
@[simp] theorem State.updCtx_pool (c : Nat) (f : Context → Context) (s : State) : (s.updCtx c f).pool = s.pool := rfl
@[simp] theorem State.updCtx_sIn (c : Nat) (f : Context → Context) (s : State) : (s.updCtx c f).sIn = s.sIn := rfl
@[simp] theorem State.updCtx_sOut (c : Nat) (f : Context → Context) (s : State) : (s.updCtx c f).sOut = s.sOut := rfl
@[simp] theorem State.updCtx_lRx (c : Nat) (f : Context → Context) (s : State) : (s.updCtx c f).lRx = s.lRx := rfl
@[simp] theorem State.updCtx_lTx (c : Nat) (f : Context → Context) (s : State) : (s.updCtx c f).lTx = s.lTx := rfl
@[simp] theorem State.updCtx_ctrl (c : Nat) (f : Context → Context) (s : State) : (s.updCtx c f).ctrl = s.ctrl := rfl
@[simp] theorem State.updCtx_engine (c : Nat) (f : Context → Context) (s : State) :
    (s.updCtx c f).engine = s.engine := rfl
@[simp] theorem State.updCtx_link (c : Nat) (f : Context → Context) (s : State) : (s.updCtx c f).link = s.link := rfl
@[simp] theorem State.updCtx_messenger (c : Nat) (f : Context → Context) (s : State) :
    (s.updCtx c f).messenger = s.messenger := rfl
@[simp] theorem State.updCtx_renewal (c : Nat) (f : Context → Context) (s : State) :
    (s.updCtx c f).renewal = { s.renewal with contexts := s.renewal.contexts.setIfInBounds c (f (s.ctx c)) } := rfl
@[simp] theorem State.updCtx_faults (c : Nat) (f : Context → Context) (s : State) :
    (s.updCtx c f).faults = s.faults := rfl
@[simp] theorem State.updCtx_beacon (c : Nat) (f : Context → Context) (s : State) :
    (s.updCtx c f).beacon = s.beacon := rfl
@[simp] theorem State.updCtx_sPort (c : Nat) (f : Context → Context) (s : State) :
    (s.updCtx c f).sPort = s.sPort := rfl
@[simp] theorem State.updCtx_lPort (c : Nat) (f : Context → Context) (s : State) :
    (s.updCtx c f).lPort = s.lPort := rfl

@[simp] theorem State.takeBuffer_pending (s : State) : (s.takeBuffer).pending = s.pending := rfl
@[simp] theorem State.takeBuffer_partState (s : State) : (s.takeBuffer).partState = s.partState := rfl
@[simp] theorem State.takeBuffer_tick (s : State) : (s.takeBuffer).tick = s.tick := rfl
@[simp] theorem State.takeBuffer_intervalTicks (s : State) : (s.takeBuffer).intervalTicks = s.intervalTicks := rfl
@[simp] theorem State.takeBuffer_selfCheckPending (s : State) :
    (s.takeBuffer).selfCheckPending = s.selfCheckPending := rfl
@[simp] theorem State.takeBuffer_eraseWindow (s : State) : (s.takeBuffer).eraseWindow = s.eraseWindow := rfl
@[simp] theorem State.takeBuffer_chans (s : State) : (s.takeBuffer).chans = s.chans := rfl
@[simp] theorem State.takeBuffer_root (s : State) : (s.takeBuffer).root = s.root := rfl
@[simp] theorem State.takeBuffer_slots (s : State) : (s.takeBuffer).slots = s.slots := rfl
@[simp] theorem State.takeBuffer_pool (s : State) :
    (s.takeBuffer).pool = { s.pool with free := s.pool.free - 1 } := rfl
@[simp] theorem State.takeBuffer_sIn (s : State) : (s.takeBuffer).sIn = s.sIn := rfl
@[simp] theorem State.takeBuffer_sOut (s : State) : (s.takeBuffer).sOut = s.sOut := rfl
@[simp] theorem State.takeBuffer_lRx (s : State) : (s.takeBuffer).lRx = s.lRx := rfl
@[simp] theorem State.takeBuffer_lTx (s : State) : (s.takeBuffer).lTx = s.lTx := rfl
@[simp] theorem State.takeBuffer_ctrl (s : State) : (s.takeBuffer).ctrl = s.ctrl := rfl
@[simp] theorem State.takeBuffer_engine (s : State) : (s.takeBuffer).engine = s.engine := rfl
@[simp] theorem State.takeBuffer_link (s : State) : (s.takeBuffer).link = s.link := rfl
@[simp] theorem State.takeBuffer_messenger (s : State) : (s.takeBuffer).messenger = s.messenger := rfl
@[simp] theorem State.takeBuffer_renewal (s : State) : (s.takeBuffer).renewal = s.renewal := rfl
@[simp] theorem State.takeBuffer_faults (s : State) : (s.takeBuffer).faults = s.faults := rfl
@[simp] theorem State.takeBuffer_beacon (s : State) : (s.takeBuffer).beacon = s.beacon := rfl
@[simp] theorem State.takeBuffer_sPort (s : State) : (s.takeBuffer).sPort = s.sPort := rfl
@[simp] theorem State.takeBuffer_lPort (s : State) : (s.takeBuffer).lPort = s.lPort := rfl

@[simp] theorem State.setAsidePlace_pending (b : Bool) (s : State) : (s.setAsidePlace b).pending = s.pending := rfl
@[simp] theorem State.setAsidePlace_partState (b : Bool) (s : State) :
    (s.setAsidePlace b).partState = s.partState := rfl
@[simp] theorem State.setAsidePlace_tick (b : Bool) (s : State) : (s.setAsidePlace b).tick = s.tick := rfl
@[simp] theorem State.setAsidePlace_intervalTicks (b : Bool) (s : State) :
    (s.setAsidePlace b).intervalTicks = s.intervalTicks := rfl
@[simp] theorem State.setAsidePlace_selfCheckPending (b : Bool) (s : State) :
    (s.setAsidePlace b).selfCheckPending = s.selfCheckPending := rfl
@[simp] theorem State.setAsidePlace_eraseWindow (b : Bool) (s : State) :
    (s.setAsidePlace b).eraseWindow = s.eraseWindow := rfl
@[simp] theorem State.setAsidePlace_chans (b : Bool) (s : State) : (s.setAsidePlace b).chans = s.chans := rfl
@[simp] theorem State.setAsidePlace_root (b : Bool) (s : State) : (s.setAsidePlace b).root = s.root := rfl
@[simp] theorem State.setAsidePlace_slots (b : Bool) (s : State) : (s.setAsidePlace b).slots = s.slots := rfl
@[simp] theorem State.setAsidePlace_pool (b : Bool) (s : State) :
    (s.setAsidePlace b).pool = { s.pool with setAside := b } := rfl
@[simp] theorem State.setAsidePlace_sIn (b : Bool) (s : State) : (s.setAsidePlace b).sIn = s.sIn := rfl
@[simp] theorem State.setAsidePlace_sOut (b : Bool) (s : State) : (s.setAsidePlace b).sOut = s.sOut := rfl
@[simp] theorem State.setAsidePlace_lRx (b : Bool) (s : State) : (s.setAsidePlace b).lRx = s.lRx := rfl
@[simp] theorem State.setAsidePlace_lTx (b : Bool) (s : State) : (s.setAsidePlace b).lTx = s.lTx := rfl
@[simp] theorem State.setAsidePlace_ctrl (b : Bool) (s : State) : (s.setAsidePlace b).ctrl = s.ctrl := rfl
@[simp] theorem State.setAsidePlace_engine (b : Bool) (s : State) : (s.setAsidePlace b).engine = s.engine := rfl
@[simp] theorem State.setAsidePlace_link (b : Bool) (s : State) : (s.setAsidePlace b).link = s.link := rfl
@[simp] theorem State.setAsidePlace_messenger (b : Bool) (s : State) :
    (s.setAsidePlace b).messenger = s.messenger := rfl
@[simp] theorem State.setAsidePlace_renewal (b : Bool) (s : State) : (s.setAsidePlace b).renewal = s.renewal := rfl
@[simp] theorem State.setAsidePlace_faults (b : Bool) (s : State) : (s.setAsidePlace b).faults = s.faults := rfl
@[simp] theorem State.setAsidePlace_beacon (b : Bool) (s : State) : (s.setAsidePlace b).beacon = s.beacon := rfl
@[simp] theorem State.setAsidePlace_sPort (b : Bool) (s : State) : (s.setAsidePlace b).sPort = s.sPort := rfl
@[simp] theorem State.setAsidePlace_lPort (b : Bool) (s : State) : (s.setAsidePlace b).lPort = s.lPort := rfl

@[simp] theorem State.setDirection_pending (d : Direction) (s : State) : (s.setDirection d).pending = s.pending := rfl
@[simp] theorem State.setDirection_partState (d : Direction) (s : State) :
    (s.setDirection d).partState = s.partState := rfl
@[simp] theorem State.setDirection_tick (d : Direction) (s : State) : (s.setDirection d).tick = s.tick := rfl
@[simp] theorem State.setDirection_intervalTicks (d : Direction) (s : State) :
    (s.setDirection d).intervalTicks = s.intervalTicks := rfl
@[simp] theorem State.setDirection_selfCheckPending (d : Direction) (s : State) :
    (s.setDirection d).selfCheckPending = s.selfCheckPending := rfl
@[simp] theorem State.setDirection_eraseWindow (d : Direction) (s : State) :
    (s.setDirection d).eraseWindow = s.eraseWindow := rfl
@[simp] theorem State.setDirection_chans (d : Direction) (s : State) : (s.setDirection d).chans = s.chans := rfl
@[simp] theorem State.setDirection_root (d : Direction) (s : State) : (s.setDirection d).root = s.root := rfl
@[simp] theorem State.setDirection_slots (d : Direction) (s : State) : (s.setDirection d).slots = s.slots := rfl
@[simp] theorem State.setDirection_pool (d : Direction) (s : State) : (s.setDirection d).pool = s.pool := rfl
@[simp] theorem State.setDirection_sIn (d : Direction) (s : State) : (s.setDirection d).sIn = s.sIn := rfl
@[simp] theorem State.setDirection_sOut (d : Direction) (s : State) : (s.setDirection d).sOut = s.sOut := rfl
@[simp] theorem State.setDirection_lRx (d : Direction) (s : State) : (s.setDirection d).lRx = s.lRx := rfl
@[simp] theorem State.setDirection_lTx (d : Direction) (s : State) : (s.setDirection d).lTx = s.lTx := rfl
@[simp] theorem State.setDirection_ctrl (d : Direction) (s : State) : (s.setDirection d).ctrl = s.ctrl := rfl
@[simp] theorem State.setDirection_engine (d : Direction) (s : State) :
    (s.setDirection d).engine = { s.engine with lastDirection := d } := rfl
@[simp] theorem State.setDirection_link (d : Direction) (s : State) : (s.setDirection d).link = s.link := rfl
@[simp] theorem State.setDirection_messenger (d : Direction) (s : State) :
    (s.setDirection d).messenger = s.messenger := rfl
@[simp] theorem State.setDirection_renewal (d : Direction) (s : State) : (s.setDirection d).renewal = s.renewal := rfl
@[simp] theorem State.setDirection_faults (d : Direction) (s : State) : (s.setDirection d).faults = s.faults := rfl
@[simp] theorem State.setDirection_beacon (d : Direction) (s : State) : (s.setDirection d).beacon = s.beacon := rfl
@[simp] theorem State.setDirection_sPort (d : Direction) (s : State) : (s.setDirection d).sPort = s.sPort := rfl
@[simp] theorem State.setDirection_lPort (d : Direction) (s : State) : (s.setDirection d).lPort = s.lPort := rfl

@[simp] theorem State.setWork_pending (w : Option Work) (s : State) : (s.setWork w).pending = s.pending := rfl
@[simp] theorem State.setWork_partState (w : Option Work) (s : State) : (s.setWork w).partState = s.partState := rfl
@[simp] theorem State.setWork_tick (w : Option Work) (s : State) : (s.setWork w).tick = s.tick := rfl
@[simp] theorem State.setWork_intervalTicks (w : Option Work) (s : State) :
    (s.setWork w).intervalTicks = s.intervalTicks := rfl
@[simp] theorem State.setWork_selfCheckPending (w : Option Work) (s : State) :
    (s.setWork w).selfCheckPending = s.selfCheckPending := rfl
@[simp] theorem State.setWork_eraseWindow (w : Option Work) (s : State) :
    (s.setWork w).eraseWindow = s.eraseWindow := rfl
@[simp] theorem State.setWork_chans (w : Option Work) (s : State) : (s.setWork w).chans = s.chans := rfl
@[simp] theorem State.setWork_root (w : Option Work) (s : State) : (s.setWork w).root = s.root := rfl
@[simp] theorem State.setWork_slots (w : Option Work) (s : State) : (s.setWork w).slots = s.slots := rfl
@[simp] theorem State.setWork_pool (w : Option Work) (s : State) : (s.setWork w).pool = s.pool := rfl
@[simp] theorem State.setWork_sIn (w : Option Work) (s : State) : (s.setWork w).sIn = s.sIn := rfl
@[simp] theorem State.setWork_sOut (w : Option Work) (s : State) : (s.setWork w).sOut = s.sOut := rfl
@[simp] theorem State.setWork_lRx (w : Option Work) (s : State) : (s.setWork w).lRx = s.lRx := rfl
@[simp] theorem State.setWork_lTx (w : Option Work) (s : State) : (s.setWork w).lTx = s.lTx := rfl
@[simp] theorem State.setWork_ctrl (w : Option Work) (s : State) : (s.setWork w).ctrl = s.ctrl := rfl
@[simp] theorem State.setWork_engine (w : Option Work) (s : State) :
    (s.setWork w).engine = { s.engine with work := w } := rfl
@[simp] theorem State.setWork_link (w : Option Work) (s : State) : (s.setWork w).link = s.link := rfl
@[simp] theorem State.setWork_messenger (w : Option Work) (s : State) : (s.setWork w).messenger = s.messenger := rfl
@[simp] theorem State.setWork_renewal (w : Option Work) (s : State) : (s.setWork w).renewal = s.renewal := rfl
@[simp] theorem State.setWork_faults (w : Option Work) (s : State) : (s.setWork w).faults = s.faults := rfl
@[simp] theorem State.setWork_beacon (w : Option Work) (s : State) : (s.setWork w).beacon = s.beacon := rfl
@[simp] theorem State.setWork_sPort (w : Option Work) (s : State) : (s.setWork w).sPort = s.sPort := rfl
@[simp] theorem State.setWork_lPort (w : Option Work) (s : State) : (s.setWork w).lPort = s.lPort := rfl

@[simp] theorem State.updPoolPort_pending (p : Port) (f : PoolPort → PoolPort) (s : State) : (s.updPoolPort p f).pending = s.pending := rfl
@[simp] theorem State.updPoolPort_partState (p : Port) (f : PoolPort → PoolPort) (s : State) : (s.updPoolPort p f).partState = s.partState := rfl
@[simp] theorem State.updPoolPort_tick (p : Port) (f : PoolPort → PoolPort) (s : State) : (s.updPoolPort p f).tick = s.tick := rfl
@[simp] theorem State.updPoolPort_intervalTicks (p : Port) (f : PoolPort → PoolPort) (s : State) : (s.updPoolPort p f).intervalTicks = s.intervalTicks := rfl
@[simp] theorem State.updPoolPort_selfCheckPending (p : Port) (f : PoolPort → PoolPort) (s : State) : (s.updPoolPort p f).selfCheckPending = s.selfCheckPending := rfl
@[simp] theorem State.updPoolPort_eraseWindow (p : Port) (f : PoolPort → PoolPort) (s : State) : (s.updPoolPort p f).eraseWindow = s.eraseWindow := rfl
@[simp] theorem State.updPoolPort_chans (p : Port) (f : PoolPort → PoolPort) (s : State) : (s.updPoolPort p f).chans = s.chans := rfl
@[simp] theorem State.updPoolPort_root (p : Port) (f : PoolPort → PoolPort) (s : State) : (s.updPoolPort p f).root = s.root := rfl
@[simp] theorem State.updPoolPort_slots (p : Port) (f : PoolPort → PoolPort) (s : State) : (s.updPoolPort p f).slots = s.slots := rfl
@[simp] theorem State.updPoolPort_sIn (p : Port) (f : PoolPort → PoolPort) (s : State) : (s.updPoolPort p f).sIn = s.sIn := rfl
@[simp] theorem State.updPoolPort_sOut (p : Port) (f : PoolPort → PoolPort) (s : State) : (s.updPoolPort p f).sOut = s.sOut := rfl
@[simp] theorem State.updPoolPort_lRx (p : Port) (f : PoolPort → PoolPort) (s : State) : (s.updPoolPort p f).lRx = s.lRx := rfl
@[simp] theorem State.updPoolPort_lTx (p : Port) (f : PoolPort → PoolPort) (s : State) : (s.updPoolPort p f).lTx = s.lTx := rfl
@[simp] theorem State.updPoolPort_ctrl (p : Port) (f : PoolPort → PoolPort) (s : State) : (s.updPoolPort p f).ctrl = s.ctrl := rfl
@[simp] theorem State.updPoolPort_engine (p : Port) (f : PoolPort → PoolPort) (s : State) : (s.updPoolPort p f).engine = s.engine := rfl
@[simp] theorem State.updPoolPort_link (p : Port) (f : PoolPort → PoolPort) (s : State) : (s.updPoolPort p f).link = s.link := rfl
@[simp] theorem State.updPoolPort_messenger (p : Port) (f : PoolPort → PoolPort) (s : State) : (s.updPoolPort p f).messenger = s.messenger := rfl
@[simp] theorem State.updPoolPort_renewal (p : Port) (f : PoolPort → PoolPort) (s : State) : (s.updPoolPort p f).renewal = s.renewal := rfl
@[simp] theorem State.updPoolPort_faults (p : Port) (f : PoolPort → PoolPort) (s : State) : (s.updPoolPort p f).faults = s.faults := rfl
@[simp] theorem State.updPoolPort_beacon (p : Port) (f : PoolPort → PoolPort) (s : State) : (s.updPoolPort p f).beacon = s.beacon := rfl
@[simp] theorem State.updPoolPort_sPort (p : Port) (f : PoolPort → PoolPort) (s : State) : (s.updPoolPort p f).sPort = s.sPort := rfl
@[simp] theorem State.updPoolPort_lPort (p : Port) (f : PoolPort → PoolPort) (s : State) : (s.updPoolPort p f).lPort = s.lPort := rfl

@[simp] theorem State.updPort_pending (p : Port) (f : PortState → PortState) (s : State) : (s.updPort p f).pending = s.pending := by cases p <;> rfl
@[simp] theorem State.updPort_partState (p : Port) (f : PortState → PortState) (s : State) : (s.updPort p f).partState = s.partState := by cases p <;> rfl
@[simp] theorem State.updPort_tick (p : Port) (f : PortState → PortState) (s : State) : (s.updPort p f).tick = s.tick := by cases p <;> rfl
@[simp] theorem State.updPort_intervalTicks (p : Port) (f : PortState → PortState) (s : State) : (s.updPort p f).intervalTicks = s.intervalTicks := by cases p <;> rfl
@[simp] theorem State.updPort_selfCheckPending (p : Port) (f : PortState → PortState) (s : State) : (s.updPort p f).selfCheckPending = s.selfCheckPending := by cases p <;> rfl
@[simp] theorem State.updPort_eraseWindow (p : Port) (f : PortState → PortState) (s : State) : (s.updPort p f).eraseWindow = s.eraseWindow := by cases p <;> rfl
@[simp] theorem State.updPort_chans (p : Port) (f : PortState → PortState) (s : State) : (s.updPort p f).chans = s.chans := by cases p <;> rfl
@[simp] theorem State.updPort_root (p : Port) (f : PortState → PortState) (s : State) : (s.updPort p f).root = s.root := by cases p <;> rfl
@[simp] theorem State.updPort_slots (p : Port) (f : PortState → PortState) (s : State) : (s.updPort p f).slots = s.slots := by cases p <;> rfl
@[simp] theorem State.updPort_pool (p : Port) (f : PortState → PortState) (s : State) : (s.updPort p f).pool = s.pool := by cases p <;> rfl
@[simp] theorem State.updPort_sIn (p : Port) (f : PortState → PortState) (s : State) : (s.updPort p f).sIn = s.sIn := by cases p <;> rfl
@[simp] theorem State.updPort_sOut (p : Port) (f : PortState → PortState) (s : State) : (s.updPort p f).sOut = s.sOut := by cases p <;> rfl
@[simp] theorem State.updPort_lRx (p : Port) (f : PortState → PortState) (s : State) : (s.updPort p f).lRx = s.lRx := by cases p <;> rfl
@[simp] theorem State.updPort_lTx (p : Port) (f : PortState → PortState) (s : State) : (s.updPort p f).lTx = s.lTx := by cases p <;> rfl
@[simp] theorem State.updPort_ctrl (p : Port) (f : PortState → PortState) (s : State) : (s.updPort p f).ctrl = s.ctrl := by cases p <;> rfl
@[simp] theorem State.updPort_engine (p : Port) (f : PortState → PortState) (s : State) : (s.updPort p f).engine = s.engine := by cases p <;> rfl
@[simp] theorem State.updPort_link (p : Port) (f : PortState → PortState) (s : State) : (s.updPort p f).link = s.link := by cases p <;> rfl
@[simp] theorem State.updPort_messenger (p : Port) (f : PortState → PortState) (s : State) : (s.updPort p f).messenger = s.messenger := by cases p <;> rfl
@[simp] theorem State.updPort_renewal (p : Port) (f : PortState → PortState) (s : State) : (s.updPort p f).renewal = s.renewal := by cases p <;> rfl
@[simp] theorem State.updPort_faults (p : Port) (f : PortState → PortState) (s : State) : (s.updPort p f).faults = s.faults := by cases p <;> rfl
@[simp] theorem State.updPort_beacon (p : Port) (f : PortState → PortState) (s : State) : (s.updPort p f).beacon = s.beacon := by cases p <;> rfl

@[simp] theorem State.updRoot_reads (f : Root → Root) (s : State) :
    (∀ z, (s.updRoot f).chan z = s.chan z) ∧ (∀ z, (s.updRoot f).slot z = s.slot z)
      ∧ (∀ z, (s.updRoot f).ctx z = s.ctx z) ∧ (∀ z, (s.updRoot f).backoff z = s.backoff z)
      ∧ (∀ z, (s.updRoot f).burst z = s.burst z) := by
  simp [State.chan, State.slot, State.ctx, State.backoff, State.burst]

@[simp] theorem State.updPool_reads (f : Pool → Pool) (s : State) :
    (∀ z, (s.updPool f).chan z = s.chan z) ∧ (∀ z, (s.updPool f).slot z = s.slot z)
      ∧ (∀ z, (s.updPool f).ctx z = s.ctx z) ∧ (∀ z, (s.updPool f).backoff z = s.backoff z)
      ∧ (∀ z, (s.updPool f).burst z = s.burst z) := by
  simp [State.chan, State.slot, State.ctx, State.backoff, State.burst]

@[simp] theorem State.updEngine_reads (f : Engine → Engine) (s : State) :
    (∀ z, (s.updEngine f).chan z = s.chan z) ∧ (∀ z, (s.updEngine f).slot z = s.slot z)
      ∧ (∀ z, (s.updEngine f).ctx z = s.ctx z) ∧ (∀ z, (s.updEngine f).backoff z = s.backoff z) := by
  simp [State.chan, State.slot, State.ctx, State.backoff]

@[simp] theorem State.updLink_reads (f : LinkWatch → LinkWatch) (s : State) :
    (∀ z, (s.updLink f).chan z = s.chan z) ∧ (∀ z, (s.updLink f).slot z = s.slot z)
      ∧ (∀ z, (s.updLink f).ctx z = s.ctx z) ∧ (∀ z, (s.updLink f).backoff z = s.backoff z)
      ∧ (∀ z, (s.updLink f).burst z = s.burst z) := by
  simp [State.chan, State.slot, State.ctx, State.backoff, State.burst]

@[simp] theorem State.updMessenger_reads (f : Messenger → Messenger) (s : State) :
    (∀ z, (s.updMessenger f).chan z = s.chan z) ∧ (∀ z, (s.updMessenger f).slot z = s.slot z)
      ∧ (∀ z, (s.updMessenger f).ctx z = s.ctx z) ∧ (∀ z, (s.updMessenger f).backoff z = s.backoff z)
      ∧ (∀ z, (s.updMessenger f).burst z = s.burst z) := by
  simp [State.chan, State.slot, State.ctx, State.backoff, State.burst]

@[simp] theorem State.updRenewal_reads (f : Renewal → Renewal) (s : State) :
    (∀ z, (s.updRenewal f).chan z = s.chan z) ∧ (∀ z, (s.updRenewal f).slot z = s.slot z)
      ∧ (∀ z, (s.updRenewal f).burst z = s.burst z) := by
  simp [State.chan, State.slot, State.burst]

@[simp] theorem State.updFaults_reads (f : Faults → Faults) (s : State) :
    (∀ z, (s.updFaults f).chan z = s.chan z) ∧ (∀ z, (s.updFaults f).slot z = s.slot z)
      ∧ (∀ z, (s.updFaults f).ctx z = s.ctx z) ∧ (∀ z, (s.updFaults f).backoff z = s.backoff z)
      ∧ (∀ z, (s.updFaults f).burst z = s.burst z) := by
  simp [State.chan, State.slot, State.ctx, State.backoff, State.burst]

@[simp] theorem State.updBeacon_reads (f : Beacon → Beacon) (s : State) :
    (∀ z, (s.updBeacon f).chan z = s.chan z) ∧ (∀ z, (s.updBeacon f).slot z = s.slot z)
      ∧ (∀ z, (s.updBeacon f).ctx z = s.ctx z) ∧ (∀ z, (s.updBeacon f).backoff z = s.backoff z)
      ∧ (∀ z, (s.updBeacon f).burst z = s.burst z) := by
  simp [State.chan, State.slot, State.ctx, State.backoff, State.burst]

@[simp] theorem State.updSPort_reads (f : PortState → PortState) (s : State) :
    (∀ z, (s.updSPort f).chan z = s.chan z) ∧ (∀ z, (s.updSPort f).slot z = s.slot z)
      ∧ (∀ z, (s.updSPort f).ctx z = s.ctx z) ∧ (∀ z, (s.updSPort f).backoff z = s.backoff z)
      ∧ (∀ z, (s.updSPort f).burst z = s.burst z) := by
  simp [State.chan, State.slot, State.ctx, State.backoff, State.burst]

@[simp] theorem State.updLPort_reads (f : PortState → PortState) (s : State) :
    (∀ z, (s.updLPort f).chan z = s.chan z) ∧ (∀ z, (s.updLPort f).slot z = s.slot z)
      ∧ (∀ z, (s.updLPort f).ctx z = s.ctx z) ∧ (∀ z, (s.updLPort f).backoff z = s.backoff z)
      ∧ (∀ z, (s.updLPort f).burst z = s.burst z) := by
  simp [State.chan, State.slot, State.ctx, State.backoff, State.burst]

@[simp] theorem State.updChans_reads (f : Vector Channel 48 → Vector Channel 48) (s : State) :
    (∀ z, (s.updChans f).slot z = s.slot z) ∧ (∀ z, (s.updChans f).ctx z = s.ctx z)
      ∧ (∀ z, (s.updChans f).backoff z = s.backoff z) ∧ (∀ z, (s.updChans f).burst z = s.burst z) := by
  simp [State.slot, State.ctx, State.backoff, State.burst]

@[simp] theorem State.updSlots_reads (f : Vector Slot 23 → Vector Slot 23) (s : State) :
    (∀ z, (s.updSlots f).chan z = s.chan z) ∧ (∀ z, (s.updSlots f).ctx z = s.ctx z)
      ∧ (∀ z, (s.updSlots f).backoff z = s.backoff z) ∧ (∀ z, (s.updSlots f).burst z = s.burst z) := by
  simp [State.chan, State.ctx, State.backoff, State.burst]

@[simp] theorem State.updSIn_reads (f : List ShopFrame → List ShopFrame) (s : State) :
    (∀ z, (s.updSIn f).chan z = s.chan z) ∧ (∀ z, (s.updSIn f).slot z = s.slot z)
      ∧ (∀ z, (s.updSIn f).ctx z = s.ctx z) ∧ (∀ z, (s.updSIn f).backoff z = s.backoff z)
      ∧ (∀ z, (s.updSIn f).burst z = s.burst z) := by
  simp [State.chan, State.slot, State.ctx, State.backoff, State.burst]

@[simp] theorem State.updSOut_reads (f : List OutFrame → List OutFrame) (s : State) :
    (∀ z, (s.updSOut f).chan z = s.chan z) ∧ (∀ z, (s.updSOut f).slot z = s.slot z)
      ∧ (∀ z, (s.updSOut f).ctx z = s.ctx z) ∧ (∀ z, (s.updSOut f).backoff z = s.backoff z)
      ∧ (∀ z, (s.updSOut f).burst z = s.burst z) := by
  simp [State.chan, State.slot, State.ctx, State.backoff, State.burst]

@[simp] theorem State.updLRx_reads (f : List LineIn → List LineIn) (s : State) :
    (∀ z, (s.updLRx f).chan z = s.chan z) ∧ (∀ z, (s.updLRx f).slot z = s.slot z)
      ∧ (∀ z, (s.updLRx f).ctx z = s.ctx z) ∧ (∀ z, (s.updLRx f).backoff z = s.backoff z)
      ∧ (∀ z, (s.updLRx f).burst z = s.burst z) := by
  simp [State.chan, State.slot, State.ctx, State.backoff, State.burst]

@[simp] theorem State.updLTx_reads (f : List (List Byte) → List (List Byte)) (s : State) :
    (∀ z, (s.updLTx f).chan z = s.chan z) ∧ (∀ z, (s.updLTx f).slot z = s.slot z)
      ∧ (∀ z, (s.updLTx f).ctx z = s.ctx z) ∧ (∀ z, (s.updLTx f).backoff z = s.backoff z)
      ∧ (∀ z, (s.updLTx f).burst z = s.burst z) := by
  simp [State.chan, State.slot, State.ctx, State.backoff, State.burst]

@[simp] theorem State.updCtrl_reads (f : List CtrlMsg → List CtrlMsg) (s : State) :
    (∀ z, (s.updCtrl f).chan z = s.chan z) ∧ (∀ z, (s.updCtrl f).slot z = s.slot z)
      ∧ (∀ z, (s.updCtrl f).ctx z = s.ctx z) ∧ (∀ z, (s.updCtrl f).backoff z = s.backoff z)
      ∧ (∀ z, (s.updCtrl f).burst z = s.burst z) := by
  simp [State.chan, State.slot, State.ctx, State.backoff, State.burst]

@[simp] theorem State.setPartState_reads (p : PartState) (s : State) :
    (∀ z, (s.setPartState p).chan z = s.chan z) ∧ (∀ z, (s.setPartState p).slot z = s.slot z)
      ∧ (∀ z, (s.setPartState p).ctx z = s.ctx z) ∧ (∀ z, (s.setPartState p).backoff z = s.backoff z)
      ∧ (∀ z, (s.setPartState p).burst z = s.burst z) := by
  simp [State.chan, State.slot, State.ctx, State.backoff, State.burst]

@[simp] theorem State.setWindow_reads (w : Option (Port × Nat)) (s : State) :
    (∀ z, (s.setWindow w).chan z = s.chan z) ∧ (∀ z, (s.setWindow w).slot z = s.slot z)
      ∧ (∀ z, (s.setWindow w).ctx z = s.ctx z) ∧ (∀ z, (s.setWindow w).backoff z = s.backoff z)
      ∧ (∀ z, (s.setWindow w).burst z = s.burst z) := by
  simp [State.chan, State.slot, State.ctx, State.backoff, State.burst]

@[simp] theorem State.setChan_reads (i : Nat) (c : Channel) (s : State) :
    (∀ z, (s.setChan i c).slot z = s.slot z) ∧ (∀ z, (s.setChan i c).ctx z = s.ctx z)
      ∧ (∀ z, (s.setChan i c).backoff z = s.backoff z) ∧ (∀ z, (s.setChan i c).burst z = s.burst z) := by
  simp [State.slot, State.ctx, State.backoff, State.burst]

@[simp] theorem State.updChan_reads (i : Nat) (f : Channel → Channel) (s : State) :
    (∀ z, (s.updChan i f).slot z = s.slot z) ∧ (∀ z, (s.updChan i f).ctx z = s.ctx z)
      ∧ (∀ z, (s.updChan i f).backoff z = s.backoff z) ∧ (∀ z, (s.updChan i f).burst z = s.burst z) := by
  simp [State.slot, State.ctx, State.backoff, State.burst]

@[simp] theorem State.mapChans_reads (f : Nat → Channel → Channel) (s : State) :
    (∀ z, (s.mapChans f).slot z = s.slot z) ∧ (∀ z, (s.mapChans f).ctx z = s.ctx z)
      ∧ (∀ z, (s.mapChans f).backoff z = s.backoff z) ∧ (∀ z, (s.mapChans f).burst z = s.burst z) := by
  simp [State.slot, State.ctx, State.backoff, State.burst]

@[simp] theorem State.setSlot_reads (x : Nat) (v : Slot) (s : State) :
    (∀ z, (s.setSlot x v).chan z = s.chan z) ∧ (∀ z, (s.setSlot x v).ctx z = s.ctx z)
      ∧ (∀ z, (s.setSlot x v).backoff z = s.backoff z) ∧ (∀ z, (s.setSlot x v).burst z = s.burst z) := by
  simp [State.chan, State.ctx, State.backoff, State.burst]

@[simp] theorem State.updSlot_reads (x : Nat) (f : Slot → Slot) (s : State) :
    (∀ z, (s.updSlot x f).chan z = s.chan z) ∧ (∀ z, (s.updSlot x f).ctx z = s.ctx z)
      ∧ (∀ z, (s.updSlot x f).backoff z = s.backoff z) ∧ (∀ z, (s.updSlot x f).burst z = s.burst z) := by
  simp [State.chan, State.ctx, State.backoff, State.burst]

@[simp] theorem State.mapSlots_reads (f : Nat → Slot → Slot) (s : State) :
    (∀ z, (s.mapSlots f).chan z = s.chan z) ∧ (∀ z, (s.mapSlots f).ctx z = s.ctx z)
      ∧ (∀ z, (s.mapSlots f).backoff z = s.backoff z) ∧ (∀ z, (s.mapSlots f).burst z = s.burst z) := by
  simp [State.chan, State.ctx, State.backoff, State.burst]

@[simp] theorem State.setBurst_reads (x : Nat) (b : Bool) (s : State) :
    (∀ z, (s.setBurst x b).chan z = s.chan z) ∧ (∀ z, (s.setBurst x b).slot z = s.slot z)
      ∧ (∀ z, (s.setBurst x b).ctx z = s.ctx z) ∧ (∀ z, (s.setBurst x b).backoff z = s.backoff z) := by
  simp [State.chan, State.slot, State.ctx, State.backoff]

@[simp] theorem State.setBackoff_reads (x : Nat) (b : Backoff) (s : State) :
    (∀ z, (s.setBackoff x b).chan z = s.chan z) ∧ (∀ z, (s.setBackoff x b).slot z = s.slot z)
      ∧ (∀ z, (s.setBackoff x b).ctx z = s.ctx z) ∧ (∀ z, (s.setBackoff x b).burst z = s.burst z) := by
  simp [State.chan, State.slot, State.ctx, State.burst]

@[simp] theorem State.setCtx_reads (c : Nat) (x : Context) (s : State) :
    (∀ z, (s.setCtx c x).chan z = s.chan z) ∧ (∀ z, (s.setCtx c x).slot z = s.slot z)
      ∧ (∀ z, (s.setCtx c x).backoff z = s.backoff z) ∧ (∀ z, (s.setCtx c x).burst z = s.burst z) := by
  simp [State.chan, State.slot, State.backoff, State.burst]

@[simp] theorem State.updCtx_reads (c : Nat) (f : Context → Context) (s : State) :
    (∀ z, (s.updCtx c f).chan z = s.chan z) ∧ (∀ z, (s.updCtx c f).slot z = s.slot z)
      ∧ (∀ z, (s.updCtx c f).backoff z = s.backoff z) ∧ (∀ z, (s.updCtx c f).burst z = s.burst z) := by
  simp [State.chan, State.slot, State.backoff, State.burst]

@[simp] theorem State.takeBuffer_reads (s : State) :
    (∀ z, (s.takeBuffer).chan z = s.chan z) ∧ (∀ z, (s.takeBuffer).slot z = s.slot z)
      ∧ (∀ z, (s.takeBuffer).ctx z = s.ctx z) ∧ (∀ z, (s.takeBuffer).backoff z = s.backoff z)
      ∧ (∀ z, (s.takeBuffer).burst z = s.burst z) := by
  simp [State.chan, State.slot, State.ctx, State.backoff, State.burst]

@[simp] theorem State.setAsidePlace_reads (b : Bool) (s : State) :
    (∀ z, (s.setAsidePlace b).chan z = s.chan z) ∧ (∀ z, (s.setAsidePlace b).slot z = s.slot z)
      ∧ (∀ z, (s.setAsidePlace b).ctx z = s.ctx z) ∧ (∀ z, (s.setAsidePlace b).backoff z = s.backoff z)
      ∧ (∀ z, (s.setAsidePlace b).burst z = s.burst z) := by
  simp [State.chan, State.slot, State.ctx, State.backoff, State.burst]

@[simp] theorem State.setDirection_reads (d : Direction) (s : State) :
    (∀ z, (s.setDirection d).chan z = s.chan z) ∧ (∀ z, (s.setDirection d).slot z = s.slot z)
      ∧ (∀ z, (s.setDirection d).ctx z = s.ctx z) ∧ (∀ z, (s.setDirection d).backoff z = s.backoff z)
      ∧ (∀ z, (s.setDirection d).burst z = s.burst z) := by
  simp [State.chan, State.slot, State.ctx, State.backoff, State.burst]

@[simp] theorem State.setWork_reads (w : Option Work) (s : State) :
    (∀ z, (s.setWork w).chan z = s.chan z) ∧ (∀ z, (s.setWork w).slot z = s.slot z)
      ∧ (∀ z, (s.setWork w).ctx z = s.ctx z) ∧ (∀ z, (s.setWork w).backoff z = s.backoff z)
      ∧ (∀ z, (s.setWork w).burst z = s.burst z) := by
  simp [State.chan, State.slot, State.ctx, State.backoff, State.burst]

@[simp] theorem State.updPoolPort_reads (p : Port) (f : PoolPort → PoolPort) (s : State) :
    (∀ z, (s.updPoolPort p f).chan z = s.chan z) ∧ (∀ z, (s.updPoolPort p f).slot z = s.slot z)
      ∧ (∀ z, (s.updPoolPort p f).ctx z = s.ctx z) ∧ (∀ z, (s.updPoolPort p f).backoff z = s.backoff z)
      ∧ (∀ z, (s.updPoolPort p f).burst z = s.burst z) := by
  simp [State.chan, State.slot, State.ctx, State.backoff, State.burst]

@[simp] theorem State.updPort_reads (p : Port) (f : PortState → PortState) (s : State) :
    (∀ z, (s.updPort p f).chan z = s.chan z) ∧ (∀ z, (s.updPort p f).slot z = s.slot z)
      ∧ (∀ z, (s.updPort p f).ctx z = s.ctx z) ∧ (∀ z, (s.updPort p f).backoff z = s.backoff z)
      ∧ (∀ z, (s.updPort p f).burst z = s.burst z) := by
  simp [State.chan, State.slot, State.ctx, State.backoff, State.burst]

/-- A port updated is the port's image; the other port is as it was. -/
@[simp] theorem State.port_updPort (p q : Port) (f : PortState → PortState) (s : State) :
    (s.updPort p f).port q = if q = p then f (s.port p) else s.port q := by cases p <;> cases q <;> rfl

/-- Two states with the same fields are the same state. -/
theorem State.ext_fields {s t : State} (h1 : s.pending = t.pending) (h2 : s.partState = t.partState)
    (h3 : s.tick = t.tick) (h4 : s.intervalTicks = t.intervalTicks) (h5 : s.selfCheckPending = t.selfCheckPending)
    (h6 : s.eraseWindow = t.eraseWindow) (h7 : s.chans = t.chans) (h8 : s.root = t.root) (h9 : s.slots = t.slots)
    (h10 : s.pool = t.pool) (h11 : s.sIn = t.sIn) (h12 : s.sOut = t.sOut) (h13 : s.lRx = t.lRx) (h14 : s.lTx = t.lTx)
    (h15 : s.ctrl = t.ctrl) (h16 : s.engine = t.engine) (h17 : s.link = t.link) (h18 : s.messenger = t.messenger)
    (h19 : s.renewal = t.renewal) (h20 : s.faults = t.faults) (h21 : s.beacon = t.beacon) (h22 : s.sPort = t.sPort)
    (h23 : s.lPort = t.lPort) : s = t := by
  cases s; cases t; simp_all

end Sys2Proof.Machine
end

