-- ==== Sys2Proof/Laws/Faults.lean ====
section
/-! SUPPORT. Frames of the Fault Monitor's operations: which fields each leaves as they were. -/

namespace Sys2Proof.Machine

@[simp] theorem State.latchFault_frame (s : State) :
    (s.latchFault).pending = s.pending ∧ (s.latchFault).partState = s.partState ∧ (s.latchFault).tick = s.tick
      ∧ (s.latchFault).intervalTicks = s.intervalTicks ∧ (s.latchFault).selfCheckPending = s.selfCheckPending
      ∧ (s.latchFault).eraseWindow = s.eraseWindow ∧ (s.latchFault).chans = s.chans ∧ (s.latchFault).root = s.root
      ∧ (s.latchFault).slots = s.slots ∧ (s.latchFault).pool = s.pool ∧ (s.latchFault).sIn = s.sIn
      ∧ (s.latchFault).sOut = s.sOut ∧ (s.latchFault).lRx = s.lRx ∧ (s.latchFault).lTx = s.lTx
      ∧ (s.latchFault).ctrl = s.ctrl ∧ (s.latchFault).engine = s.engine ∧ (s.latchFault).link = s.link
      ∧ (s.latchFault).messenger = s.messenger ∧ (s.latchFault).renewal = s.renewal
      ∧ (s.latchFault).faults = s.faults ∧ (s.latchFault).beacon = s.beacon := by
  simp [State.latchFault]

@[simp] theorem State.armOneShot_frame (s : State) :
    (s.armOneShot).pending = s.pending ∧ (s.armOneShot).partState = s.partState ∧ (s.armOneShot).tick = s.tick
      ∧ (s.armOneShot).intervalTicks = s.intervalTicks ∧ (s.armOneShot).selfCheckPending = s.selfCheckPending
      ∧ (s.armOneShot).eraseWindow = s.eraseWindow ∧ (s.armOneShot).chans = s.chans ∧ (s.armOneShot).root = s.root
      ∧ (s.armOneShot).slots = s.slots ∧ (s.armOneShot).pool = s.pool ∧ (s.armOneShot).sIn = s.sIn
      ∧ (s.armOneShot).sOut = s.sOut ∧ (s.armOneShot).lRx = s.lRx ∧ (s.armOneShot).lTx = s.lTx
      ∧ (s.armOneShot).ctrl = s.ctrl ∧ (s.armOneShot).engine = s.engine ∧ (s.armOneShot).link = s.link
      ∧ (s.armOneShot).messenger = s.messenger ∧ (s.armOneShot).renewal = s.renewal
      ∧ (s.armOneShot).faults = s.faults ∧ (s.armOneShot).sPort = s.sPort ∧ (s.armOneShot).lPort = s.lPort := by
  simp [State.armOneShot]

@[simp] theorem State.updRecord_frame (k : FaultKind) (x : Subject) (g : FaultRecord → FaultRecord) (s : State) :
    (s.updRecord k x g).pending = s.pending ∧ (s.updRecord k x g).partState = s.partState
      ∧ (s.updRecord k x g).tick = s.tick ∧ (s.updRecord k x g).intervalTicks = s.intervalTicks
      ∧ (s.updRecord k x g).selfCheckPending = s.selfCheckPending ∧ (s.updRecord k x g).eraseWindow = s.eraseWindow
      ∧ (s.updRecord k x g).chans = s.chans ∧ (s.updRecord k x g).root = s.root
      ∧ (s.updRecord k x g).slots = s.slots ∧ (s.updRecord k x g).pool = s.pool ∧ (s.updRecord k x g).sIn = s.sIn
      ∧ (s.updRecord k x g).sOut = s.sOut ∧ (s.updRecord k x g).lRx = s.lRx ∧ (s.updRecord k x g).lTx = s.lTx
      ∧ (s.updRecord k x g).ctrl = s.ctrl ∧ (s.updRecord k x g).engine = s.engine
      ∧ (s.updRecord k x g).link = s.link ∧ (s.updRecord k x g).messenger = s.messenger
      ∧ (s.updRecord k x g).renewal = s.renewal ∧ (s.updRecord k x g).beacon = s.beacon
      ∧ (s.updRecord k x g).sPort = s.sPort ∧ (s.updRecord k x g).lPort = s.lPort := by
  simp [State.updRecord]

@[simp] theorem State.removeRecord_frame (id : Nat) (s : State) :
    (s.removeRecord id).pending = s.pending ∧ (s.removeRecord id).partState = s.partState
      ∧ (s.removeRecord id).tick = s.tick ∧ (s.removeRecord id).intervalTicks = s.intervalTicks
      ∧ (s.removeRecord id).selfCheckPending = s.selfCheckPending ∧ (s.removeRecord id).eraseWindow = s.eraseWindow
      ∧ (s.removeRecord id).chans = s.chans ∧ (s.removeRecord id).root = s.root
      ∧ (s.removeRecord id).slots = s.slots ∧ (s.removeRecord id).pool = s.pool ∧ (s.removeRecord id).sIn = s.sIn
      ∧ (s.removeRecord id).sOut = s.sOut ∧ (s.removeRecord id).lRx = s.lRx ∧ (s.removeRecord id).lTx = s.lTx
      ∧ (s.removeRecord id).ctrl = s.ctrl ∧ (s.removeRecord id).engine = s.engine
      ∧ (s.removeRecord id).link = s.link ∧ (s.removeRecord id).messenger = s.messenger
      ∧ (s.removeRecord id).renewal = s.renewal ∧ (s.removeRecord id).sPort = s.sPort
      ∧ (s.removeRecord id).lPort = s.lPort := by
  simp [State.removeRecord]

@[simp] theorem State.createRecord_frame (k : FaultKind) (x : Subject) (a : Bool) (s : State) :
    (s.createRecord k x a).pending = s.pending ∧ (s.createRecord k x a).partState = s.partState
      ∧ (s.createRecord k x a).tick = s.tick ∧ (s.createRecord k x a).intervalTicks = s.intervalTicks
      ∧ (s.createRecord k x a).selfCheckPending = s.selfCheckPending
      ∧ (s.createRecord k x a).eraseWindow = s.eraseWindow ∧ (s.createRecord k x a).chans = s.chans
      ∧ (s.createRecord k x a).root = s.root ∧ (s.createRecord k x a).slots = s.slots
      ∧ (s.createRecord k x a).pool = s.pool ∧ (s.createRecord k x a).sIn = s.sIn
      ∧ (s.createRecord k x a).sOut = s.sOut ∧ (s.createRecord k x a).lRx = s.lRx
      ∧ (s.createRecord k x a).lTx = s.lTx ∧ (s.createRecord k x a).ctrl = s.ctrl
      ∧ (s.createRecord k x a).engine = s.engine ∧ (s.createRecord k x a).link = s.link
      ∧ (s.createRecord k x a).messenger = s.messenger ∧ (s.createRecord k x a).renewal = s.renewal := by
  simp [State.createRecord]

@[simp] theorem State.setOverflow_frame (s : State) :
    (s.setOverflow).pending = s.pending ∧ (s.setOverflow).partState = s.partState ∧ (s.setOverflow).tick = s.tick
      ∧ (s.setOverflow).intervalTicks = s.intervalTicks ∧ (s.setOverflow).selfCheckPending = s.selfCheckPending
      ∧ (s.setOverflow).eraseWindow = s.eraseWindow ∧ (s.setOverflow).chans = s.chans
      ∧ (s.setOverflow).root = s.root ∧ (s.setOverflow).slots = s.slots ∧ (s.setOverflow).pool = s.pool
      ∧ (s.setOverflow).sIn = s.sIn ∧ (s.setOverflow).sOut = s.sOut ∧ (s.setOverflow).lRx = s.lRx
      ∧ (s.setOverflow).lTx = s.lTx ∧ (s.setOverflow).ctrl = s.ctrl ∧ (s.setOverflow).engine = s.engine
      ∧ (s.setOverflow).link = s.link ∧ (s.setOverflow).messenger = s.messenger
      ∧ (s.setOverflow).renewal = s.renewal := by
  unfold State.setOverflow
  try dsimp only
  (repeat' split) <;> simp

@[simp] theorem State.raiseFault_frame (k : FaultKind) (x : Subject) (s : State) :
    (s.raiseFault k x).pending = s.pending ∧ (s.raiseFault k x).partState = s.partState
      ∧ (s.raiseFault k x).tick = s.tick ∧ (s.raiseFault k x).intervalTicks = s.intervalTicks
      ∧ (s.raiseFault k x).selfCheckPending = s.selfCheckPending ∧ (s.raiseFault k x).eraseWindow = s.eraseWindow
      ∧ (s.raiseFault k x).chans = s.chans ∧ (s.raiseFault k x).root = s.root ∧ (s.raiseFault k x).slots = s.slots
      ∧ (s.raiseFault k x).pool = s.pool ∧ (s.raiseFault k x).sIn = s.sIn ∧ (s.raiseFault k x).sOut = s.sOut
      ∧ (s.raiseFault k x).lRx = s.lRx ∧ (s.raiseFault k x).lTx = s.lTx ∧ (s.raiseFault k x).ctrl = s.ctrl
      ∧ (s.raiseFault k x).engine = s.engine ∧ (s.raiseFault k x).link = s.link
      ∧ (s.raiseFault k x).messenger = s.messenger ∧ (s.raiseFault k x).renewal = s.renewal := by
  unfold State.raiseFault
  try dsimp only
  (repeat' split) <;> simp

@[simp] theorem State.clearFault_frame (k : FaultKind) (x : Subject) (s : State) :
    (s.clearFault k x).pending = s.pending ∧ (s.clearFault k x).partState = s.partState
      ∧ (s.clearFault k x).tick = s.tick ∧ (s.clearFault k x).intervalTicks = s.intervalTicks
      ∧ (s.clearFault k x).selfCheckPending = s.selfCheckPending ∧ (s.clearFault k x).eraseWindow = s.eraseWindow
      ∧ (s.clearFault k x).chans = s.chans ∧ (s.clearFault k x).root = s.root ∧ (s.clearFault k x).slots = s.slots
      ∧ (s.clearFault k x).pool = s.pool ∧ (s.clearFault k x).sIn = s.sIn ∧ (s.clearFault k x).sOut = s.sOut
      ∧ (s.clearFault k x).lRx = s.lRx ∧ (s.clearFault k x).lTx = s.lTx ∧ (s.clearFault k x).ctrl = s.ctrl
      ∧ (s.clearFault k x).engine = s.engine ∧ (s.clearFault k x).link = s.link
      ∧ (s.clearFault k x).messenger = s.messenger ∧ (s.clearFault k x).renewal = s.renewal := by
  unfold State.clearFault
  try dsimp only
  (repeat' split) <;> simp

@[simp] theorem State.resetFaults_frame (k : FaultKind) (s : State) :
    (s.resetFaults k).pending = s.pending ∧ (s.resetFaults k).partState = s.partState
      ∧ (s.resetFaults k).tick = s.tick ∧ (s.resetFaults k).intervalTicks = s.intervalTicks
      ∧ (s.resetFaults k).selfCheckPending = s.selfCheckPending ∧ (s.resetFaults k).eraseWindow = s.eraseWindow
      ∧ (s.resetFaults k).chans = s.chans ∧ (s.resetFaults k).root = s.root ∧ (s.resetFaults k).slots = s.slots
      ∧ (s.resetFaults k).pool = s.pool ∧ (s.resetFaults k).sIn = s.sIn ∧ (s.resetFaults k).sOut = s.sOut
      ∧ (s.resetFaults k).lRx = s.lRx ∧ (s.resetFaults k).lTx = s.lTx ∧ (s.resetFaults k).ctrl = s.ctrl
      ∧ (s.resetFaults k).engine = s.engine ∧ (s.resetFaults k).link = s.link
      ∧ (s.resetFaults k).messenger = s.messenger ∧ (s.resetFaults k).renewal = s.renewal := by
  simp [State.resetFaults]

@[simp] theorem State.latchFault_reads (s : State) :
    (∀ z, (s.latchFault).chan z = s.chan z) ∧ (∀ z, (s.latchFault).slot z = s.slot z)
      ∧ (∀ z, (s.latchFault).ctx z = s.ctx z) ∧ (∀ z, (s.latchFault).backoff z = s.backoff z)
      ∧ (∀ z, (s.latchFault).burst z = s.burst z) := by
  simp [State.chan, State.slot, State.ctx, State.backoff, State.burst]

@[simp] theorem State.armOneShot_reads (s : State) :
    (∀ z, (s.armOneShot).chan z = s.chan z) ∧ (∀ z, (s.armOneShot).slot z = s.slot z)
      ∧ (∀ z, (s.armOneShot).ctx z = s.ctx z) ∧ (∀ z, (s.armOneShot).backoff z = s.backoff z)
      ∧ (∀ z, (s.armOneShot).burst z = s.burst z) := by
  simp [State.chan, State.slot, State.ctx, State.backoff, State.burst]

@[simp] theorem State.updRecord_reads (k : FaultKind) (x : Subject) (g : FaultRecord → FaultRecord) (s : State) :
    (∀ z, (s.updRecord k x g).chan z = s.chan z) ∧ (∀ z, (s.updRecord k x g).slot z = s.slot z)
      ∧ (∀ z, (s.updRecord k x g).ctx z = s.ctx z) ∧ (∀ z, (s.updRecord k x g).backoff z = s.backoff z)
      ∧ (∀ z, (s.updRecord k x g).burst z = s.burst z) := by
  simp [State.chan, State.slot, State.ctx, State.backoff, State.burst]

@[simp] theorem State.removeRecord_reads (id : Nat) (s : State) :
    (∀ z, (s.removeRecord id).chan z = s.chan z) ∧ (∀ z, (s.removeRecord id).slot z = s.slot z)
      ∧ (∀ z, (s.removeRecord id).ctx z = s.ctx z) ∧ (∀ z, (s.removeRecord id).backoff z = s.backoff z)
      ∧ (∀ z, (s.removeRecord id).burst z = s.burst z) := by
  simp [State.chan, State.slot, State.ctx, State.backoff, State.burst]

@[simp] theorem State.createRecord_reads (k : FaultKind) (x : Subject) (a : Bool) (s : State) :
    (∀ z, (s.createRecord k x a).chan z = s.chan z) ∧ (∀ z, (s.createRecord k x a).slot z = s.slot z)
      ∧ (∀ z, (s.createRecord k x a).ctx z = s.ctx z) ∧ (∀ z, (s.createRecord k x a).backoff z = s.backoff z)
      ∧ (∀ z, (s.createRecord k x a).burst z = s.burst z) := by
  simp [State.chan, State.slot, State.ctx, State.backoff, State.burst]

@[simp] theorem State.setOverflow_reads (s : State) :
    (∀ z, (s.setOverflow).chan z = s.chan z) ∧ (∀ z, (s.setOverflow).slot z = s.slot z)
      ∧ (∀ z, (s.setOverflow).ctx z = s.ctx z) ∧ (∀ z, (s.setOverflow).backoff z = s.backoff z)
      ∧ (∀ z, (s.setOverflow).burst z = s.burst z) := by
  simp [State.chan, State.slot, State.ctx, State.backoff, State.burst]

@[simp] theorem State.raiseFault_reads (k : FaultKind) (x : Subject) (s : State) :
    (∀ z, (s.raiseFault k x).chan z = s.chan z) ∧ (∀ z, (s.raiseFault k x).slot z = s.slot z)
      ∧ (∀ z, (s.raiseFault k x).ctx z = s.ctx z) ∧ (∀ z, (s.raiseFault k x).backoff z = s.backoff z)
      ∧ (∀ z, (s.raiseFault k x).burst z = s.burst z) := by
  simp [State.chan, State.slot, State.ctx, State.backoff, State.burst]

@[simp] theorem State.clearFault_reads (k : FaultKind) (x : Subject) (s : State) :
    (∀ z, (s.clearFault k x).chan z = s.chan z) ∧ (∀ z, (s.clearFault k x).slot z = s.slot z)
      ∧ (∀ z, (s.clearFault k x).ctx z = s.ctx z) ∧ (∀ z, (s.clearFault k x).backoff z = s.backoff z)
      ∧ (∀ z, (s.clearFault k x).burst z = s.burst z) := by
  simp [State.chan, State.slot, State.ctx, State.backoff, State.burst]

@[simp] theorem State.resetFaults_reads (k : FaultKind) (s : State) :
    (∀ z, (s.resetFaults k).chan z = s.chan z) ∧ (∀ z, (s.resetFaults k).slot z = s.slot z)
      ∧ (∀ z, (s.resetFaults k).ctx z = s.ctx z) ∧ (∀ z, (s.resetFaults k).backoff z = s.backoff z)
      ∧ (∀ z, (s.resetFaults k).burst z = s.burst z) := by
  simp [State.chan, State.slot, State.ctx, State.backoff, State.burst]

end Sys2Proof.Machine
end

