-- ==== Sys2Proof/Laws/Pool.lean ====
section
/-! SUPPORT. Frames of the pool's and the ports' operations: which fields each leaves as they were. -/

namespace Sys2Proof.Machine

@[simp] theorem State.losePush_frame (p : Port) (s : State) :
    (s.losePush p).pending = s.pending ∧ (s.losePush p).partState = s.partState ∧ (s.losePush p).tick = s.tick
      ∧ (s.losePush p).intervalTicks = s.intervalTicks ∧ (s.losePush p).selfCheckPending = s.selfCheckPending
      ∧ (s.losePush p).eraseWindow = s.eraseWindow ∧ (s.losePush p).chans = s.chans ∧ (s.losePush p).root = s.root
      ∧ (s.losePush p).slots = s.slots ∧ (s.losePush p).pool = s.pool ∧ (s.losePush p).sIn = s.sIn
      ∧ (s.losePush p).sOut = s.sOut ∧ (s.losePush p).lRx = s.lRx ∧ (s.losePush p).lTx = s.lTx
      ∧ (s.losePush p).ctrl = s.ctrl ∧ (s.losePush p).engine = s.engine ∧ (s.losePush p).link = s.link
      ∧ (s.losePush p).messenger = s.messenger ∧ (s.losePush p).renewal = s.renewal
      ∧ (s.losePush p).faults = s.faults ∧ (s.losePush p).beacon = s.beacon := by
  simp [State.losePush]

@[simp] theorem State.loseMail_frame (p : Port) (s : State) :
    (s.loseMail p).pending = s.pending ∧ (s.loseMail p).partState = s.partState ∧ (s.loseMail p).tick = s.tick
      ∧ (s.loseMail p).intervalTicks = s.intervalTicks ∧ (s.loseMail p).selfCheckPending = s.selfCheckPending
      ∧ (s.loseMail p).eraseWindow = s.eraseWindow ∧ (s.loseMail p).chans = s.chans ∧ (s.loseMail p).root = s.root
      ∧ (s.loseMail p).slots = s.slots ∧ (s.loseMail p).pool = s.pool ∧ (s.loseMail p).sIn = s.sIn
      ∧ (s.loseMail p).sOut = s.sOut ∧ (s.loseMail p).lRx = s.lRx ∧ (s.loseMail p).lTx = s.lTx
      ∧ (s.loseMail p).ctrl = s.ctrl ∧ (s.loseMail p).engine = s.engine ∧ (s.loseMail p).link = s.link
      ∧ (s.loseMail p).messenger = s.messenger ∧ (s.loseMail p).renewal = s.renewal
      ∧ (s.loseMail p).faults = s.faults ∧ (s.loseMail p).beacon = s.beacon := by
  simp [State.loseMail]

@[simp] theorem State.loseCommand_frame (p : Port) (s : State) :
    (s.loseCommand p).pending = s.pending ∧ (s.loseCommand p).partState = s.partState
      ∧ (s.loseCommand p).tick = s.tick ∧ (s.loseCommand p).intervalTicks = s.intervalTicks
      ∧ (s.loseCommand p).selfCheckPending = s.selfCheckPending ∧ (s.loseCommand p).eraseWindow = s.eraseWindow
      ∧ (s.loseCommand p).chans = s.chans ∧ (s.loseCommand p).root = s.root ∧ (s.loseCommand p).slots = s.slots
      ∧ (s.loseCommand p).pool = s.pool ∧ (s.loseCommand p).sIn = s.sIn ∧ (s.loseCommand p).sOut = s.sOut
      ∧ (s.loseCommand p).lRx = s.lRx ∧ (s.loseCommand p).lTx = s.lTx ∧ (s.loseCommand p).ctrl = s.ctrl
      ∧ (s.loseCommand p).engine = s.engine ∧ (s.loseCommand p).link = s.link
      ∧ (s.loseCommand p).messenger = s.messenger ∧ (s.loseCommand p).renewal = s.renewal
      ∧ (s.loseCommand p).faults = s.faults ∧ (s.loseCommand p).beacon = s.beacon := by
  simp [State.loseCommand]

@[simp] theorem State.returnWord_frame (p : Port) (w : Word) (s : State) :
    (s.returnWord p w).pending = s.pending ∧ (s.returnWord p w).partState = s.partState
      ∧ (s.returnWord p w).tick = s.tick ∧ (s.returnWord p w).intervalTicks = s.intervalTicks
      ∧ (s.returnWord p w).selfCheckPending = s.selfCheckPending ∧ (s.returnWord p w).eraseWindow = s.eraseWindow
      ∧ (s.returnWord p w).chans = s.chans ∧ (s.returnWord p w).root = s.root ∧ (s.returnWord p w).slots = s.slots
      ∧ (s.returnWord p w).pool = s.pool ∧ (s.returnWord p w).sIn = s.sIn ∧ (s.returnWord p w).sOut = s.sOut
      ∧ (s.returnWord p w).lRx = s.lRx ∧ (s.returnWord p w).lTx = s.lTx ∧ (s.returnWord p w).ctrl = s.ctrl
      ∧ (s.returnWord p w).engine = s.engine ∧ (s.returnWord p w).link = s.link
      ∧ (s.returnWord p w).messenger = s.messenger ∧ (s.returnWord p w).renewal = s.renewal
      ∧ (s.returnWord p w).faults = s.faults ∧ (s.returnWord p w).beacon = s.beacon := by
  simp [State.returnWord]

@[simp] theorem State.endPush_frame (p : Port) (s : State) :
    (s.endPush p).pending = s.pending ∧ (s.endPush p).partState = s.partState ∧ (s.endPush p).tick = s.tick
      ∧ (s.endPush p).intervalTicks = s.intervalTicks ∧ (s.endPush p).selfCheckPending = s.selfCheckPending
      ∧ (s.endPush p).eraseWindow = s.eraseWindow ∧ (s.endPush p).chans = s.chans ∧ (s.endPush p).root = s.root
      ∧ (s.endPush p).slots = s.slots ∧ (s.endPush p).pool = s.pool ∧ (s.endPush p).sIn = s.sIn
      ∧ (s.endPush p).sOut = s.sOut ∧ (s.endPush p).lRx = s.lRx ∧ (s.endPush p).lTx = s.lTx
      ∧ (s.endPush p).ctrl = s.ctrl ∧ (s.endPush p).engine = s.engine ∧ (s.endPush p).link = s.link
      ∧ (s.endPush p).messenger = s.messenger ∧ (s.endPush p).renewal = s.renewal ∧ (s.endPush p).faults = s.faults
      ∧ (s.endPush p).beacon = s.beacon := by
  unfold State.endPush
  try dsimp only
  (repeat' split) <;> simp

@[simp] theorem State.returnBuffer_frame (s : State) :
    (s.returnBuffer).pending = s.pending ∧ (s.returnBuffer).partState = s.partState ∧ (s.returnBuffer).tick = s.tick
      ∧ (s.returnBuffer).intervalTicks = s.intervalTicks ∧ (s.returnBuffer).selfCheckPending = s.selfCheckPending
      ∧ (s.returnBuffer).eraseWindow = s.eraseWindow ∧ (s.returnBuffer).chans = s.chans
      ∧ (s.returnBuffer).root = s.root ∧ (s.returnBuffer).slots = s.slots ∧ (s.returnBuffer).sIn = s.sIn
      ∧ (s.returnBuffer).sOut = s.sOut ∧ (s.returnBuffer).lRx = s.lRx ∧ (s.returnBuffer).lTx = s.lTx
      ∧ (s.returnBuffer).ctrl = s.ctrl ∧ (s.returnBuffer).engine = s.engine ∧ (s.returnBuffer).link = s.link
      ∧ (s.returnBuffer).messenger = s.messenger ∧ (s.returnBuffer).renewal = s.renewal := by
  unfold State.returnBuffer
  try dsimp only
  (repeat' split) <;> simp

@[simp] theorem State.returnBuffers_frame (n : Nat) (s : State) :
    (s.returnBuffers n).pending = s.pending ∧ (s.returnBuffers n).partState = s.partState
      ∧ (s.returnBuffers n).tick = s.tick ∧ (s.returnBuffers n).intervalTicks = s.intervalTicks
      ∧ (s.returnBuffers n).selfCheckPending = s.selfCheckPending ∧ (s.returnBuffers n).eraseWindow = s.eraseWindow
      ∧ (s.returnBuffers n).chans = s.chans ∧ (s.returnBuffers n).root = s.root
      ∧ (s.returnBuffers n).slots = s.slots ∧ (s.returnBuffers n).sIn = s.sIn ∧ (s.returnBuffers n).sOut = s.sOut
      ∧ (s.returnBuffers n).lRx = s.lRx ∧ (s.returnBuffers n).lTx = s.lTx ∧ (s.returnBuffers n).ctrl = s.ctrl
      ∧ (s.returnBuffers n).engine = s.engine ∧ (s.returnBuffers n).link = s.link
      ∧ (s.returnBuffers n).messenger = s.messenger ∧ (s.returnBuffers n).renewal = s.renewal := by
  induction n generalizing s with
  | zero => simp [State.returnBuffers]
  | succ n ih => simp [State.returnBuffers, ih]

@[simp] theorem State.noticeOrFree_frame (f : ShopFrame) (r : RefuseReason) (s : State) :
    (s.noticeOrFree f r).pending = s.pending ∧ (s.noticeOrFree f r).partState = s.partState
      ∧ (s.noticeOrFree f r).tick = s.tick ∧ (s.noticeOrFree f r).intervalTicks = s.intervalTicks
      ∧ (s.noticeOrFree f r).selfCheckPending = s.selfCheckPending
      ∧ (s.noticeOrFree f r).eraseWindow = s.eraseWindow ∧ (s.noticeOrFree f r).chans = s.chans
      ∧ (s.noticeOrFree f r).root = s.root ∧ (s.noticeOrFree f r).slots = s.slots ∧ (s.noticeOrFree f r).sIn = s.sIn
      ∧ (s.noticeOrFree f r).lRx = s.lRx ∧ (s.noticeOrFree f r).lTx = s.lTx ∧ (s.noticeOrFree f r).ctrl = s.ctrl
      ∧ (s.noticeOrFree f r).engine = s.engine ∧ (s.noticeOrFree f r).link = s.link
      ∧ (s.noticeOrFree f r).messenger = s.messenger ∧ (s.noticeOrFree f r).renewal = s.renewal := by
  unfold State.noticeOrFree
  try dsimp only
  (repeat' split) <;> simp

theorem State.removeShopFrames_notices (l : List ShopFrame) (s : State) :
    (l.foldl (fun u f => u.noticeOrFree f .noChannel) s).pending = s.pending
      ∧ (l.foldl (fun u f => u.noticeOrFree f .noChannel) s).partState = s.partState
      ∧ (l.foldl (fun u f => u.noticeOrFree f .noChannel) s).tick = s.tick
      ∧ (l.foldl (fun u f => u.noticeOrFree f .noChannel) s).intervalTicks = s.intervalTicks
      ∧ (l.foldl (fun u f => u.noticeOrFree f .noChannel) s).selfCheckPending = s.selfCheckPending
      ∧ (l.foldl (fun u f => u.noticeOrFree f .noChannel) s).eraseWindow = s.eraseWindow
      ∧ (l.foldl (fun u f => u.noticeOrFree f .noChannel) s).chans = s.chans
      ∧ (l.foldl (fun u f => u.noticeOrFree f .noChannel) s).root = s.root
      ∧ (l.foldl (fun u f => u.noticeOrFree f .noChannel) s).slots = s.slots
      ∧ (l.foldl (fun u f => u.noticeOrFree f .noChannel) s).sIn = s.sIn
      ∧ (l.foldl (fun u f => u.noticeOrFree f .noChannel) s).lRx = s.lRx
      ∧ (l.foldl (fun u f => u.noticeOrFree f .noChannel) s).lTx = s.lTx
      ∧ (l.foldl (fun u f => u.noticeOrFree f .noChannel) s).ctrl = s.ctrl
      ∧ (l.foldl (fun u f => u.noticeOrFree f .noChannel) s).engine = s.engine
      ∧ (l.foldl (fun u f => u.noticeOrFree f .noChannel) s).link = s.link
      ∧ (l.foldl (fun u f => u.noticeOrFree f .noChannel) s).messenger = s.messenger
      ∧ (l.foldl (fun u f => u.noticeOrFree f .noChannel) s).renewal = s.renewal := by
  induction l generalizing s with
  | nil => simp
  | cons a l ih => simp [ih]

@[simp] theorem State.removeShopFrames_frame (q : ShopFrame → Bool) (s : State) :
    (s.removeShopFrames q).pending = s.pending ∧ (s.removeShopFrames q).partState = s.partState
      ∧ (s.removeShopFrames q).tick = s.tick ∧ (s.removeShopFrames q).intervalTicks = s.intervalTicks
      ∧ (s.removeShopFrames q).selfCheckPending = s.selfCheckPending
      ∧ (s.removeShopFrames q).eraseWindow = s.eraseWindow ∧ (s.removeShopFrames q).chans = s.chans
      ∧ (s.removeShopFrames q).root = s.root ∧ (s.removeShopFrames q).slots = s.slots
      ∧ (s.removeShopFrames q).lRx = s.lRx ∧ (s.removeShopFrames q).lTx = s.lTx
      ∧ (s.removeShopFrames q).ctrl = s.ctrl ∧ (s.removeShopFrames q).engine = s.engine
      ∧ (s.removeShopFrames q).link = s.link ∧ (s.removeShopFrames q).messenger = s.messenger
      ∧ (s.removeShopFrames q).renewal = s.renewal := by
  unfold State.removeShopFrames
  try dsimp only
  (repeat' split) <;> simp [State.removeShopFrames_notices]

@[simp] theorem State.losePush_reads (p : Port) (s : State) :
    (∀ z, (s.losePush p).chan z = s.chan z) ∧ (∀ z, (s.losePush p).slot z = s.slot z)
      ∧ (∀ z, (s.losePush p).ctx z = s.ctx z) ∧ (∀ z, (s.losePush p).backoff z = s.backoff z)
      ∧ (∀ z, (s.losePush p).burst z = s.burst z) := by
  simp [State.chan, State.slot, State.ctx, State.backoff, State.burst]

@[simp] theorem State.loseMail_reads (p : Port) (s : State) :
    (∀ z, (s.loseMail p).chan z = s.chan z) ∧ (∀ z, (s.loseMail p).slot z = s.slot z)
      ∧ (∀ z, (s.loseMail p).ctx z = s.ctx z) ∧ (∀ z, (s.loseMail p).backoff z = s.backoff z)
      ∧ (∀ z, (s.loseMail p).burst z = s.burst z) := by
  simp [State.chan, State.slot, State.ctx, State.backoff, State.burst]

@[simp] theorem State.loseCommand_reads (p : Port) (s : State) :
    (∀ z, (s.loseCommand p).chan z = s.chan z) ∧ (∀ z, (s.loseCommand p).slot z = s.slot z)
      ∧ (∀ z, (s.loseCommand p).ctx z = s.ctx z) ∧ (∀ z, (s.loseCommand p).backoff z = s.backoff z)
      ∧ (∀ z, (s.loseCommand p).burst z = s.burst z) := by
  simp [State.chan, State.slot, State.ctx, State.backoff, State.burst]

@[simp] theorem State.returnWord_reads (p : Port) (w : Word) (s : State) :
    (∀ z, (s.returnWord p w).chan z = s.chan z) ∧ (∀ z, (s.returnWord p w).slot z = s.slot z)
      ∧ (∀ z, (s.returnWord p w).ctx z = s.ctx z) ∧ (∀ z, (s.returnWord p w).backoff z = s.backoff z)
      ∧ (∀ z, (s.returnWord p w).burst z = s.burst z) := by
  simp [State.chan, State.slot, State.ctx, State.backoff, State.burst]

@[simp] theorem State.endPush_reads (p : Port) (s : State) :
    (∀ z, (s.endPush p).chan z = s.chan z) ∧ (∀ z, (s.endPush p).slot z = s.slot z)
      ∧ (∀ z, (s.endPush p).ctx z = s.ctx z) ∧ (∀ z, (s.endPush p).backoff z = s.backoff z)
      ∧ (∀ z, (s.endPush p).burst z = s.burst z) := by
  simp [State.chan, State.slot, State.ctx, State.backoff, State.burst]

@[simp] theorem State.returnBuffer_reads (s : State) :
    (∀ z, (s.returnBuffer).chan z = s.chan z) ∧ (∀ z, (s.returnBuffer).slot z = s.slot z)
      ∧ (∀ z, (s.returnBuffer).ctx z = s.ctx z) ∧ (∀ z, (s.returnBuffer).backoff z = s.backoff z)
      ∧ (∀ z, (s.returnBuffer).burst z = s.burst z) := by
  simp [State.chan, State.slot, State.ctx, State.backoff, State.burst]

@[simp] theorem State.returnBuffers_reads (n : Nat) (s : State) :
    (∀ z, (s.returnBuffers n).chan z = s.chan z) ∧ (∀ z, (s.returnBuffers n).slot z = s.slot z)
      ∧ (∀ z, (s.returnBuffers n).ctx z = s.ctx z) ∧ (∀ z, (s.returnBuffers n).backoff z = s.backoff z)
      ∧ (∀ z, (s.returnBuffers n).burst z = s.burst z) := by
  simp [State.chan, State.slot, State.ctx, State.backoff, State.burst]

@[simp] theorem State.noticeOrFree_reads (f : ShopFrame) (r : RefuseReason) (s : State) :
    (∀ z, (s.noticeOrFree f r).chan z = s.chan z) ∧ (∀ z, (s.noticeOrFree f r).slot z = s.slot z)
      ∧ (∀ z, (s.noticeOrFree f r).ctx z = s.ctx z) ∧ (∀ z, (s.noticeOrFree f r).backoff z = s.backoff z)
      ∧ (∀ z, (s.noticeOrFree f r).burst z = s.burst z) := by
  simp [State.chan, State.slot, State.ctx, State.backoff, State.burst]

@[simp] theorem State.removeShopFrames_reads (q : ShopFrame → Bool) (s : State) :
    (∀ z, (s.removeShopFrames q).chan z = s.chan z) ∧ (∀ z, (s.removeShopFrames q).slot z = s.slot z)
      ∧ (∀ z, (s.removeShopFrames q).ctx z = s.ctx z) ∧ (∀ z, (s.removeShopFrames q).backoff z = s.backoff z)
      ∧ (∀ z, (s.removeShopFrames q).burst z = s.burst z) := by
  simp [State.chan, State.slot, State.ctx, State.backoff, State.burst]

end Sys2Proof.Machine
end

