-- ==== Sys2Proof/Laws/Channels.lean ====
section
/-! SUPPORT. Frames of the Channel Table's operations: which fields each leaves as they were. -/

namespace Sys2Proof.Machine

@[simp] theorem State.addRefs_frame (x n : Nat) (s : State) :
    (s.addRefs x n).pending = s.pending ∧ (s.addRefs x n).partState = s.partState ∧ (s.addRefs x n).tick = s.tick
      ∧ (s.addRefs x n).intervalTicks = s.intervalTicks ∧ (s.addRefs x n).selfCheckPending = s.selfCheckPending
      ∧ (s.addRefs x n).eraseWindow = s.eraseWindow ∧ (s.addRefs x n).chans = s.chans
      ∧ (s.addRefs x n).root = s.root ∧ (s.addRefs x n).pool = s.pool ∧ (s.addRefs x n).sIn = s.sIn
      ∧ (s.addRefs x n).sOut = s.sOut ∧ (s.addRefs x n).lRx = s.lRx ∧ (s.addRefs x n).lTx = s.lTx
      ∧ (s.addRefs x n).ctrl = s.ctrl ∧ (s.addRefs x n).engine = s.engine ∧ (s.addRefs x n).link = s.link
      ∧ (s.addRefs x n).messenger = s.messenger ∧ (s.addRefs x n).renewal = s.renewal
      ∧ (s.addRefs x n).faults = s.faults ∧ (s.addRefs x n).beacon = s.beacon ∧ (s.addRefs x n).sPort = s.sPort
      ∧ (s.addRefs x n).lPort = s.lPort := by
  simp [State.addRefs]

@[simp] theorem State.dropRefs_frame (x n : Nat) (s : State) :
    (s.dropRefs x n).pending = s.pending ∧ (s.dropRefs x n).partState = s.partState ∧ (s.dropRefs x n).tick = s.tick
      ∧ (s.dropRefs x n).intervalTicks = s.intervalTicks ∧ (s.dropRefs x n).selfCheckPending = s.selfCheckPending
      ∧ (s.dropRefs x n).eraseWindow = s.eraseWindow ∧ (s.dropRefs x n).chans = s.chans
      ∧ (s.dropRefs x n).root = s.root ∧ (s.dropRefs x n).pool = s.pool ∧ (s.dropRefs x n).sIn = s.sIn
      ∧ (s.dropRefs x n).sOut = s.sOut ∧ (s.dropRefs x n).lRx = s.lRx ∧ (s.dropRefs x n).lTx = s.lTx
      ∧ (s.dropRefs x n).ctrl = s.ctrl ∧ (s.dropRefs x n).engine = s.engine ∧ (s.dropRefs x n).link = s.link
      ∧ (s.dropRefs x n).messenger = s.messenger ∧ (s.dropRefs x n).renewal = s.renewal
      ∧ (s.dropRefs x n).faults = s.faults ∧ (s.dropRefs x n).beacon = s.beacon ∧ (s.dropRefs x n).sPort = s.sPort
      ∧ (s.dropRefs x n).lPort = s.lPort := by
  simp [State.dropRefs]

@[simp] theorem State.dropName_frame (o : Option Nat) (s : State) :
    (s.dropName o).pending = s.pending ∧ (s.dropName o).partState = s.partState ∧ (s.dropName o).tick = s.tick
      ∧ (s.dropName o).intervalTicks = s.intervalTicks ∧ (s.dropName o).selfCheckPending = s.selfCheckPending
      ∧ (s.dropName o).eraseWindow = s.eraseWindow ∧ (s.dropName o).chans = s.chans ∧ (s.dropName o).root = s.root
      ∧ (s.dropName o).pool = s.pool ∧ (s.dropName o).sIn = s.sIn ∧ (s.dropName o).sOut = s.sOut
      ∧ (s.dropName o).lRx = s.lRx ∧ (s.dropName o).lTx = s.lTx ∧ (s.dropName o).ctrl = s.ctrl
      ∧ (s.dropName o).engine = s.engine ∧ (s.dropName o).link = s.link ∧ (s.dropName o).messenger = s.messenger
      ∧ (s.dropName o).renewal = s.renewal ∧ (s.dropName o).faults = s.faults ∧ (s.dropName o).beacon = s.beacon
      ∧ (s.dropName o).sPort = s.sPort ∧ (s.dropName o).lPort = s.lPort := by
  unfold State.dropName
  try dsimp only
  (repeat' split) <;> simp

@[simp] theorem State.markExhausted_frame (x : Nat) (s : State) :
    (s.markExhausted x).pending = s.pending ∧ (s.markExhausted x).partState = s.partState
      ∧ (s.markExhausted x).tick = s.tick ∧ (s.markExhausted x).intervalTicks = s.intervalTicks
      ∧ (s.markExhausted x).selfCheckPending = s.selfCheckPending ∧ (s.markExhausted x).eraseWindow = s.eraseWindow
      ∧ (s.markExhausted x).root = s.root ∧ (s.markExhausted x).slots = s.slots ∧ (s.markExhausted x).pool = s.pool
      ∧ (s.markExhausted x).sIn = s.sIn ∧ (s.markExhausted x).sOut = s.sOut ∧ (s.markExhausted x).lRx = s.lRx
      ∧ (s.markExhausted x).lTx = s.lTx ∧ (s.markExhausted x).ctrl = s.ctrl ∧ (s.markExhausted x).engine = s.engine
      ∧ (s.markExhausted x).link = s.link ∧ (s.markExhausted x).messenger = s.messenger
      ∧ (s.markExhausted x).renewal = s.renewal ∧ (s.markExhausted x).faults = s.faults
      ∧ (s.markExhausted x).beacon = s.beacon ∧ (s.markExhausted x).sPort = s.sPort
      ∧ (s.markExhausted x).lPort = s.lPort := by
  simp [State.markExhausted]

@[simp] theorem State.rebind_frame (x y : Nat) (s : State) :
    (s.rebind x y).pending = s.pending ∧ (s.rebind x y).partState = s.partState ∧ (s.rebind x y).tick = s.tick
      ∧ (s.rebind x y).intervalTicks = s.intervalTicks ∧ (s.rebind x y).selfCheckPending = s.selfCheckPending
      ∧ (s.rebind x y).eraseWindow = s.eraseWindow ∧ (s.rebind x y).root = s.root ∧ (s.rebind x y).pool = s.pool
      ∧ (s.rebind x y).sIn = s.sIn ∧ (s.rebind x y).sOut = s.sOut ∧ (s.rebind x y).lRx = s.lRx
      ∧ (s.rebind x y).lTx = s.lTx ∧ (s.rebind x y).ctrl = s.ctrl ∧ (s.rebind x y).engine = s.engine
      ∧ (s.rebind x y).link = s.link ∧ (s.rebind x y).messenger = s.messenger ∧ (s.rebind x y).renewal = s.renewal
      ∧ (s.rebind x y).faults = s.faults ∧ (s.rebind x y).beacon = s.beacon ∧ (s.rebind x y).sPort = s.sPort
      ∧ (s.rebind x y).lPort = s.lPort := by
  simp [State.rebind]

@[simp] theorem State.dropAlternate_frame (x : Nat) (s : State) :
    (s.dropAlternate x).pending = s.pending ∧ (s.dropAlternate x).partState = s.partState
      ∧ (s.dropAlternate x).tick = s.tick ∧ (s.dropAlternate x).intervalTicks = s.intervalTicks
      ∧ (s.dropAlternate x).selfCheckPending = s.selfCheckPending ∧ (s.dropAlternate x).eraseWindow = s.eraseWindow
      ∧ (s.dropAlternate x).root = s.root ∧ (s.dropAlternate x).pool = s.pool ∧ (s.dropAlternate x).sIn = s.sIn
      ∧ (s.dropAlternate x).sOut = s.sOut ∧ (s.dropAlternate x).lRx = s.lRx ∧ (s.dropAlternate x).lTx = s.lTx
      ∧ (s.dropAlternate x).ctrl = s.ctrl ∧ (s.dropAlternate x).engine = s.engine
      ∧ (s.dropAlternate x).link = s.link ∧ (s.dropAlternate x).messenger = s.messenger
      ∧ (s.dropAlternate x).renewal = s.renewal ∧ (s.dropAlternate x).faults = s.faults
      ∧ (s.dropAlternate x).beacon = s.beacon ∧ (s.dropAlternate x).sPort = s.sPort
      ∧ (s.dropAlternate x).lPort = s.lPort := by
  simp [State.dropAlternate]

@[simp] theorem State.openChannel_frame (q : OpenRequest) (s : State) :
    (s.openChannel q).pending = s.pending ∧ (s.openChannel q).partState = s.partState
      ∧ (s.openChannel q).tick = s.tick ∧ (s.openChannel q).intervalTicks = s.intervalTicks
      ∧ (s.openChannel q).selfCheckPending = s.selfCheckPending ∧ (s.openChannel q).eraseWindow = s.eraseWindow
      ∧ (s.openChannel q).root = s.root ∧ (s.openChannel q).pool = s.pool ∧ (s.openChannel q).sIn = s.sIn
      ∧ (s.openChannel q).sOut = s.sOut ∧ (s.openChannel q).lRx = s.lRx ∧ (s.openChannel q).lTx = s.lTx
      ∧ (s.openChannel q).ctrl = s.ctrl ∧ (s.openChannel q).engine = s.engine ∧ (s.openChannel q).link = s.link
      ∧ (s.openChannel q).messenger = s.messenger ∧ (s.openChannel q).renewal = s.renewal
      ∧ (s.openChannel q).faults = s.faults ∧ (s.openChannel q).beacon = s.beacon
      ∧ (s.openChannel q).sPort = s.sPort ∧ (s.openChannel q).lPort = s.lPort := by
  unfold State.openChannel
  try dsimp only
  (repeat' split) <;> simp

@[simp] theorem State.closeData_frame (i : Nat) (s : State) :
    (s.closeData i).pending = s.pending ∧ (s.closeData i).partState = s.partState ∧ (s.closeData i).tick = s.tick
      ∧ (s.closeData i).intervalTicks = s.intervalTicks ∧ (s.closeData i).selfCheckPending = s.selfCheckPending
      ∧ (s.closeData i).eraseWindow = s.eraseWindow ∧ (s.closeData i).root = s.root ∧ (s.closeData i).lRx = s.lRx
      ∧ (s.closeData i).lTx = s.lTx ∧ (s.closeData i).ctrl = s.ctrl ∧ (s.closeData i).engine = s.engine
      ∧ (s.closeData i).link = s.link ∧ (s.closeData i).messenger = s.messenger
      ∧ (s.closeData i).renewal = s.renewal := by
  simp [State.closeData]

@[simp] theorem State.closeAlias_frame (i : Nat) (s : State) :
    (s.closeAlias i).pending = s.pending ∧ (s.closeAlias i).partState = s.partState ∧ (s.closeAlias i).tick = s.tick
      ∧ (s.closeAlias i).intervalTicks = s.intervalTicks ∧ (s.closeAlias i).selfCheckPending = s.selfCheckPending
      ∧ (s.closeAlias i).eraseWindow = s.eraseWindow ∧ (s.closeAlias i).root = s.root
      ∧ (s.closeAlias i).slots = s.slots ∧ (s.closeAlias i).lRx = s.lRx ∧ (s.closeAlias i).lTx = s.lTx
      ∧ (s.closeAlias i).ctrl = s.ctrl ∧ (s.closeAlias i).engine = s.engine ∧ (s.closeAlias i).link = s.link
      ∧ (s.closeAlias i).messenger = s.messenger ∧ (s.closeAlias i).renewal = s.renewal := by
  simp [State.closeAlias]

@[simp] theorem State.closeChannel_frame (i : Nat) (s : State) :
    (s.closeChannel i).pending = s.pending ∧ (s.closeChannel i).partState = s.partState
      ∧ (s.closeChannel i).tick = s.tick ∧ (s.closeChannel i).intervalTicks = s.intervalTicks
      ∧ (s.closeChannel i).selfCheckPending = s.selfCheckPending ∧ (s.closeChannel i).eraseWindow = s.eraseWindow
      ∧ (s.closeChannel i).root = s.root ∧ (s.closeChannel i).lRx = s.lRx ∧ (s.closeChannel i).lTx = s.lTx
      ∧ (s.closeChannel i).ctrl = s.ctrl ∧ (s.closeChannel i).engine = s.engine ∧ (s.closeChannel i).link = s.link
      ∧ (s.closeChannel i).messenger = s.messenger ∧ (s.closeChannel i).renewal = s.renewal := by
  unfold State.closeChannel
  try dsimp only
  (repeat' split) <;> simp

@[simp] theorem State.addRefs_reads (x n : Nat) (s : State) :
    (∀ z, (s.addRefs x n).chan z = s.chan z) ∧ (∀ z, (s.addRefs x n).ctx z = s.ctx z)
      ∧ (∀ z, (s.addRefs x n).backoff z = s.backoff z) ∧ (∀ z, (s.addRefs x n).burst z = s.burst z) := by
  simp [State.chan, State.ctx, State.backoff, State.burst]

@[simp] theorem State.dropRefs_reads (x n : Nat) (s : State) :
    (∀ z, (s.dropRefs x n).chan z = s.chan z) ∧ (∀ z, (s.dropRefs x n).ctx z = s.ctx z)
      ∧ (∀ z, (s.dropRefs x n).backoff z = s.backoff z) ∧ (∀ z, (s.dropRefs x n).burst z = s.burst z) := by
  simp [State.chan, State.ctx, State.backoff, State.burst]

@[simp] theorem State.dropName_reads (o : Option Nat) (s : State) :
    (∀ z, (s.dropName o).chan z = s.chan z) ∧ (∀ z, (s.dropName o).ctx z = s.ctx z)
      ∧ (∀ z, (s.dropName o).backoff z = s.backoff z) ∧ (∀ z, (s.dropName o).burst z = s.burst z) := by
  simp [State.chan, State.ctx, State.backoff, State.burst]

@[simp] theorem State.markExhausted_reads (x : Nat) (s : State) :
    (∀ z, (s.markExhausted x).slot z = s.slot z) ∧ (∀ z, (s.markExhausted x).ctx z = s.ctx z)
      ∧ (∀ z, (s.markExhausted x).backoff z = s.backoff z) ∧ (∀ z, (s.markExhausted x).burst z = s.burst z) := by
  simp [State.slot, State.ctx, State.backoff, State.burst]

@[simp] theorem State.rebind_reads (x y : Nat) (s : State) :
    (∀ z, (s.rebind x y).ctx z = s.ctx z) ∧ (∀ z, (s.rebind x y).backoff z = s.backoff z)
      ∧ (∀ z, (s.rebind x y).burst z = s.burst z) := by
  simp [State.ctx, State.backoff, State.burst]

@[simp] theorem State.dropAlternate_reads (x : Nat) (s : State) :
    (∀ z, (s.dropAlternate x).ctx z = s.ctx z) ∧ (∀ z, (s.dropAlternate x).backoff z = s.backoff z)
      ∧ (∀ z, (s.dropAlternate x).burst z = s.burst z) := by
  simp [State.ctx, State.backoff, State.burst]

@[simp] theorem State.openChannel_reads (q : OpenRequest) (s : State) :
    (∀ z, (s.openChannel q).ctx z = s.ctx z) ∧ (∀ z, (s.openChannel q).backoff z = s.backoff z)
      ∧ (∀ z, (s.openChannel q).burst z = s.burst z) := by
  simp [State.ctx, State.backoff, State.burst]

@[simp] theorem State.closeData_reads (i : Nat) (s : State) :
    (∀ z, (s.closeData i).ctx z = s.ctx z) ∧ (∀ z, (s.closeData i).backoff z = s.backoff z)
      ∧ (∀ z, (s.closeData i).burst z = s.burst z) := by
  simp [State.ctx, State.backoff, State.burst]

@[simp] theorem State.closeAlias_reads (i : Nat) (s : State) :
    (∀ z, (s.closeAlias i).slot z = s.slot z) ∧ (∀ z, (s.closeAlias i).ctx z = s.ctx z)
      ∧ (∀ z, (s.closeAlias i).backoff z = s.backoff z) ∧ (∀ z, (s.closeAlias i).burst z = s.burst z) := by
  simp [State.slot, State.ctx, State.backoff, State.burst]

@[simp] theorem State.closeChannel_reads (i : Nat) (s : State) :
    (∀ z, (s.closeChannel i).ctx z = s.ctx z) ∧ (∀ z, (s.closeChannel i).backoff z = s.backoff z)
      ∧ (∀ z, (s.closeChannel i).burst z = s.burst z) := by
  simp [State.ctx, State.backoff, State.burst]

end Sys2Proof.Machine
end

