-- ==== Sys2Proof/Laws/Keys.lean ====
section
/-! SUPPORT. Frames of the Key Store's, the triggers' and the Account Unit's operations: which fields each leaves as they were. -/

namespace Sys2Proof.Machine

@[simp] theorem State.emptySlot_frame (x : Nat) (s : State) :
    (s.emptySlot x).pending = s.pending ∧ (s.emptySlot x).partState = s.partState ∧ (s.emptySlot x).tick = s.tick
      ∧ (s.emptySlot x).intervalTicks = s.intervalTicks ∧ (s.emptySlot x).selfCheckPending = s.selfCheckPending
      ∧ (s.emptySlot x).eraseWindow = s.eraseWindow ∧ (s.emptySlot x).chans = s.chans
      ∧ (s.emptySlot x).root = s.root ∧ (s.emptySlot x).pool = s.pool ∧ (s.emptySlot x).sIn = s.sIn
      ∧ (s.emptySlot x).sOut = s.sOut ∧ (s.emptySlot x).lRx = s.lRx ∧ (s.emptySlot x).lTx = s.lTx
      ∧ (s.emptySlot x).ctrl = s.ctrl ∧ (s.emptySlot x).link = s.link ∧ (s.emptySlot x).messenger = s.messenger
      ∧ (s.emptySlot x).renewal = s.renewal := by
  unfold State.emptySlot
  try dsimp only
  (repeat' split) <;> simp

@[simp] theorem State.discardSlot_frame (x : Nat) (s : State) :
    (s.discardSlot x).pending = s.pending ∧ (s.discardSlot x).partState = s.partState
      ∧ (s.discardSlot x).tick = s.tick ∧ (s.discardSlot x).intervalTicks = s.intervalTicks
      ∧ (s.discardSlot x).selfCheckPending = s.selfCheckPending ∧ (s.discardSlot x).eraseWindow = s.eraseWindow
      ∧ (s.discardSlot x).chans = s.chans ∧ (s.discardSlot x).root = s.root ∧ (s.discardSlot x).pool = s.pool
      ∧ (s.discardSlot x).sIn = s.sIn ∧ (s.discardSlot x).sOut = s.sOut ∧ (s.discardSlot x).lRx = s.lRx
      ∧ (s.discardSlot x).lTx = s.lTx ∧ (s.discardSlot x).ctrl = s.ctrl ∧ (s.discardSlot x).link = s.link
      ∧ (s.discardSlot x).messenger = s.messenger ∧ (s.discardSlot x).renewal = s.renewal := by
  unfold State.discardSlot
  try dsimp only
  (repeat' split) <;> simp

@[simp] theorem State.endDrain_frame (x : Nat) (s : State) :
    (s.endDrain x).pending = s.pending ∧ (s.endDrain x).partState = s.partState ∧ (s.endDrain x).tick = s.tick
      ∧ (s.endDrain x).intervalTicks = s.intervalTicks ∧ (s.endDrain x).selfCheckPending = s.selfCheckPending
      ∧ (s.endDrain x).eraseWindow = s.eraseWindow ∧ (s.endDrain x).root = s.root ∧ (s.endDrain x).pool = s.pool
      ∧ (s.endDrain x).sIn = s.sIn ∧ (s.endDrain x).sOut = s.sOut ∧ (s.endDrain x).lRx = s.lRx
      ∧ (s.endDrain x).lTx = s.lTx ∧ (s.endDrain x).ctrl = s.ctrl ∧ (s.endDrain x).link = s.link
      ∧ (s.endDrain x).messenger = s.messenger ∧ (s.endDrain x).renewal = s.renewal := by
  unfold State.endDrain
  try dsimp only
  (repeat' split) <;> simp

@[simp] theorem State.switchSlots_frame (x y : Nat) (s : State) :
    (s.switchSlots x y).pending = s.pending ∧ (s.switchSlots x y).partState = s.partState
      ∧ (s.switchSlots x y).tick = s.tick ∧ (s.switchSlots x y).intervalTicks = s.intervalTicks
      ∧ (s.switchSlots x y).selfCheckPending = s.selfCheckPending ∧ (s.switchSlots x y).eraseWindow = s.eraseWindow
      ∧ (s.switchSlots x y).root = s.root ∧ (s.switchSlots x y).pool = s.pool ∧ (s.switchSlots x y).sIn = s.sIn
      ∧ (s.switchSlots x y).sOut = s.sOut ∧ (s.switchSlots x y).lRx = s.lRx ∧ (s.switchSlots x y).lTx = s.lTx
      ∧ (s.switchSlots x y).ctrl = s.ctrl ∧ (s.switchSlots x y).engine = s.engine
      ∧ (s.switchSlots x y).link = s.link ∧ (s.switchSlots x y).messenger = s.messenger
      ∧ (s.switchSlots x y).renewal = s.renewal ∧ (s.switchSlots x y).faults = s.faults
      ∧ (s.switchSlots x y).beacon = s.beacon ∧ (s.switchSlots x y).sPort = s.sPort
      ∧ (s.switchSlots x y).lPort = s.lPort := by
  unfold State.switchSlots
  try dsimp only
  (repeat' split) <;> simp

@[simp] theorem State.setRequested_frame (o : Option Nat) (b : Bool) (s : State) :
    (s.setRequested o b).pending = s.pending ∧ (s.setRequested o b).partState = s.partState
      ∧ (s.setRequested o b).tick = s.tick ∧ (s.setRequested o b).intervalTicks = s.intervalTicks
      ∧ (s.setRequested o b).selfCheckPending = s.selfCheckPending
      ∧ (s.setRequested o b).eraseWindow = s.eraseWindow ∧ (s.setRequested o b).chans = s.chans
      ∧ (s.setRequested o b).root = s.root ∧ (s.setRequested o b).pool = s.pool ∧ (s.setRequested o b).sIn = s.sIn
      ∧ (s.setRequested o b).sOut = s.sOut ∧ (s.setRequested o b).lRx = s.lRx ∧ (s.setRequested o b).lTx = s.lTx
      ∧ (s.setRequested o b).ctrl = s.ctrl ∧ (s.setRequested o b).engine = s.engine
      ∧ (s.setRequested o b).link = s.link ∧ (s.setRequested o b).messenger = s.messenger
      ∧ (s.setRequested o b).renewal = s.renewal ∧ (s.setRequested o b).faults = s.faults
      ∧ (s.setRequested o b).beacon = s.beacon ∧ (s.setRequested o b).sPort = s.sPort
      ∧ (s.setRequested o b).lPort = s.lPort := by
  unfold State.setRequested
  try dsimp only
  (repeat' split) <;> simp

@[simp] theorem State.listNew_frame (o : Option Nat) (r : Reason) (s : State) :
    (s.listNew o r).1.pending = s.pending ∧ (s.listNew o r).1.partState = s.partState
      ∧ (s.listNew o r).1.tick = s.tick ∧ (s.listNew o r).1.intervalTicks = s.intervalTicks
      ∧ (s.listNew o r).1.selfCheckPending = s.selfCheckPending ∧ (s.listNew o r).1.eraseWindow = s.eraseWindow
      ∧ (s.listNew o r).1.chans = s.chans ∧ (s.listNew o r).1.root = s.root ∧ (s.listNew o r).1.pool = s.pool
      ∧ (s.listNew o r).1.sIn = s.sIn ∧ (s.listNew o r).1.sOut = s.sOut ∧ (s.listNew o r).1.lRx = s.lRx
      ∧ (s.listNew o r).1.lTx = s.lTx ∧ (s.listNew o r).1.ctrl = s.ctrl ∧ (s.listNew o r).1.engine = s.engine
      ∧ (s.listNew o r).1.link = s.link ∧ (s.listNew o r).1.messenger = s.messenger
      ∧ (s.listNew o r).1.faults = s.faults ∧ (s.listNew o r).1.beacon = s.beacon
      ∧ (s.listNew o r).1.sPort = s.sPort ∧ (s.listNew o r).1.lPort = s.lPort := by
  unfold State.listNew
  try dsimp only
  (repeat' split) <;> simp

@[simp] theorem State.listTrigger_frame (o : Option Nat) (r : Reason) (s : State) :
    (s.listTrigger o r).1.pending = s.pending ∧ (s.listTrigger o r).1.partState = s.partState
      ∧ (s.listTrigger o r).1.tick = s.tick ∧ (s.listTrigger o r).1.intervalTicks = s.intervalTicks
      ∧ (s.listTrigger o r).1.selfCheckPending = s.selfCheckPending
      ∧ (s.listTrigger o r).1.eraseWindow = s.eraseWindow ∧ (s.listTrigger o r).1.chans = s.chans
      ∧ (s.listTrigger o r).1.root = s.root ∧ (s.listTrigger o r).1.pool = s.pool
      ∧ (s.listTrigger o r).1.sIn = s.sIn ∧ (s.listTrigger o r).1.sOut = s.sOut ∧ (s.listTrigger o r).1.lRx = s.lRx
      ∧ (s.listTrigger o r).1.lTx = s.lTx ∧ (s.listTrigger o r).1.ctrl = s.ctrl
      ∧ (s.listTrigger o r).1.engine = s.engine ∧ (s.listTrigger o r).1.link = s.link
      ∧ (s.listTrigger o r).1.messenger = s.messenger ∧ (s.listTrigger o r).1.faults = s.faults
      ∧ (s.listTrigger o r).1.beacon = s.beacon ∧ (s.listTrigger o r).1.sPort = s.sPort
      ∧ (s.listTrigger o r).1.lPort = s.lPort := by
  unfold State.listTrigger
  try dsimp only
  (repeat' split) <;> simp

@[simp] theorem State.receiveTrigger_frame (o : Option Nat) (r : Reason) (s : State) :
    (s.receiveTrigger o r).1.pending = s.pending ∧ (s.receiveTrigger o r).1.partState = s.partState
      ∧ (s.receiveTrigger o r).1.tick = s.tick ∧ (s.receiveTrigger o r).1.intervalTicks = s.intervalTicks
      ∧ (s.receiveTrigger o r).1.selfCheckPending = s.selfCheckPending
      ∧ (s.receiveTrigger o r).1.eraseWindow = s.eraseWindow ∧ (s.receiveTrigger o r).1.chans = s.chans
      ∧ (s.receiveTrigger o r).1.root = s.root ∧ (s.receiveTrigger o r).1.pool = s.pool
      ∧ (s.receiveTrigger o r).1.sIn = s.sIn ∧ (s.receiveTrigger o r).1.sOut = s.sOut
      ∧ (s.receiveTrigger o r).1.lRx = s.lRx ∧ (s.receiveTrigger o r).1.lTx = s.lTx
      ∧ (s.receiveTrigger o r).1.ctrl = s.ctrl ∧ (s.receiveTrigger o r).1.engine = s.engine
      ∧ (s.receiveTrigger o r).1.link = s.link ∧ (s.receiveTrigger o r).1.messenger = s.messenger
      ∧ (s.receiveTrigger o r).1.faults = s.faults ∧ (s.receiveTrigger o r).1.beacon = s.beacon
      ∧ (s.receiveTrigger o r).1.sPort = s.sPort ∧ (s.receiveTrigger o r).1.lPort = s.lPort := by
  unfold State.receiveTrigger
  try dsimp only
  (repeat' split) <;> simp

@[simp] theorem State.sendTrigger_frame (x : Nat) (r : Reason) (s : State) :
    (s.sendTrigger x r).pending = s.pending ∧ (s.sendTrigger x r).partState = s.partState
      ∧ (s.sendTrigger x r).tick = s.tick ∧ (s.sendTrigger x r).intervalTicks = s.intervalTicks
      ∧ (s.sendTrigger x r).selfCheckPending = s.selfCheckPending ∧ (s.sendTrigger x r).eraseWindow = s.eraseWindow
      ∧ (s.sendTrigger x r).chans = s.chans ∧ (s.sendTrigger x r).root = s.root ∧ (s.sendTrigger x r).pool = s.pool
      ∧ (s.sendTrigger x r).sIn = s.sIn ∧ (s.sendTrigger x r).sOut = s.sOut ∧ (s.sendTrigger x r).lRx = s.lRx
      ∧ (s.sendTrigger x r).lTx = s.lTx ∧ (s.sendTrigger x r).ctrl = s.ctrl ∧ (s.sendTrigger x r).engine = s.engine
      ∧ (s.sendTrigger x r).link = s.link ∧ (s.sendTrigger x r).messenger = s.messenger
      ∧ (s.sendTrigger x r).faults = s.faults ∧ (s.sendTrigger x r).beacon = s.beacon
      ∧ (s.sendTrigger x r).sPort = s.sPort ∧ (s.sendTrigger x r).lPort = s.lPort := by
  simp [State.sendTrigger]

@[simp] theorem State.sendBoot_frame (s : State) :
    (s.sendBoot).pending = s.pending ∧ (s.sendBoot).partState = s.partState ∧ (s.sendBoot).tick = s.tick
      ∧ (s.sendBoot).intervalTicks = s.intervalTicks ∧ (s.sendBoot).selfCheckPending = s.selfCheckPending
      ∧ (s.sendBoot).eraseWindow = s.eraseWindow ∧ (s.sendBoot).chans = s.chans ∧ (s.sendBoot).root = s.root
      ∧ (s.sendBoot).pool = s.pool ∧ (s.sendBoot).sIn = s.sIn ∧ (s.sendBoot).sOut = s.sOut
      ∧ (s.sendBoot).lRx = s.lRx ∧ (s.sendBoot).lTx = s.lTx ∧ (s.sendBoot).ctrl = s.ctrl
      ∧ (s.sendBoot).engine = s.engine ∧ (s.sendBoot).link = s.link ∧ (s.sendBoot).messenger = s.messenger
      ∧ (s.sendBoot).faults = s.faults ∧ (s.sendBoot).beacon = s.beacon ∧ (s.sendBoot).sPort = s.sPort
      ∧ (s.sendBoot).lPort = s.lPort := by
  simp [State.sendBoot]

@[simp] theorem State.spendSlot_frame (x : Nat) (k : FaultKind) (s : State) :
    (s.spendSlot x k).pending = s.pending ∧ (s.spendSlot x k).partState = s.partState
      ∧ (s.spendSlot x k).tick = s.tick ∧ (s.spendSlot x k).intervalTicks = s.intervalTicks
      ∧ (s.spendSlot x k).selfCheckPending = s.selfCheckPending ∧ (s.spendSlot x k).eraseWindow = s.eraseWindow
      ∧ (s.spendSlot x k).root = s.root ∧ (s.spendSlot x k).pool = s.pool ∧ (s.spendSlot x k).sIn = s.sIn
      ∧ (s.spendSlot x k).sOut = s.sOut ∧ (s.spendSlot x k).lRx = s.lRx ∧ (s.spendSlot x k).lTx = s.lTx
      ∧ (s.spendSlot x k).ctrl = s.ctrl ∧ (s.spendSlot x k).engine = s.engine ∧ (s.spendSlot x k).link = s.link
      ∧ (s.spendSlot x k).messenger = s.messenger := by
  simp [State.spendSlot]

@[simp] theorem State.softTest_frame (x : Nat) (s : State) :
    (s.softTest x).pending = s.pending ∧ (s.softTest x).partState = s.partState ∧ (s.softTest x).tick = s.tick
      ∧ (s.softTest x).intervalTicks = s.intervalTicks ∧ (s.softTest x).selfCheckPending = s.selfCheckPending
      ∧ (s.softTest x).eraseWindow = s.eraseWindow ∧ (s.softTest x).chans = s.chans ∧ (s.softTest x).root = s.root
      ∧ (s.softTest x).pool = s.pool ∧ (s.softTest x).sIn = s.sIn ∧ (s.softTest x).sOut = s.sOut
      ∧ (s.softTest x).lRx = s.lRx ∧ (s.softTest x).lTx = s.lTx ∧ (s.softTest x).ctrl = s.ctrl
      ∧ (s.softTest x).engine = s.engine ∧ (s.softTest x).link = s.link ∧ (s.softTest x).messenger = s.messenger
      ∧ (s.softTest x).faults = s.faults ∧ (s.softTest x).beacon = s.beacon ∧ (s.softTest x).sPort = s.sPort
      ∧ (s.softTest x).lPort = s.lPort := by
  unfold State.softTest
  try dsimp only
  (repeat' split) <;> simp

@[simp] theorem State.charge_frame (x c : Nat) (s : State) :
    (s.charge x c).1.pending = s.pending ∧ (s.charge x c).1.partState = s.partState ∧ (s.charge x c).1.tick = s.tick
      ∧ (s.charge x c).1.intervalTicks = s.intervalTicks ∧ (s.charge x c).1.selfCheckPending = s.selfCheckPending
      ∧ (s.charge x c).1.eraseWindow = s.eraseWindow ∧ (s.charge x c).1.root = s.root
      ∧ (s.charge x c).1.pool = s.pool ∧ (s.charge x c).1.sIn = s.sIn ∧ (s.charge x c).1.sOut = s.sOut
      ∧ (s.charge x c).1.lRx = s.lRx ∧ (s.charge x c).1.lTx = s.lTx ∧ (s.charge x c).1.ctrl = s.ctrl
      ∧ (s.charge x c).1.engine = s.engine ∧ (s.charge x c).1.link = s.link
      ∧ (s.charge x c).1.messenger = s.messenger := by
  unfold State.charge
  try dsimp only
  (repeat' split) <;> simp

@[simp] theorem State.rateUpdate_frame (x : Nat) (s : State) :
    (s.rateUpdate x).pending = s.pending ∧ (s.rateUpdate x).partState = s.partState ∧ (s.rateUpdate x).tick = s.tick
      ∧ (s.rateUpdate x).intervalTicks = s.intervalTicks ∧ (s.rateUpdate x).selfCheckPending = s.selfCheckPending
      ∧ (s.rateUpdate x).eraseWindow = s.eraseWindow ∧ (s.rateUpdate x).chans = s.chans
      ∧ (s.rateUpdate x).root = s.root ∧ (s.rateUpdate x).pool = s.pool ∧ (s.rateUpdate x).sIn = s.sIn
      ∧ (s.rateUpdate x).sOut = s.sOut ∧ (s.rateUpdate x).lRx = s.lRx ∧ (s.rateUpdate x).lTx = s.lTx
      ∧ (s.rateUpdate x).ctrl = s.ctrl ∧ (s.rateUpdate x).engine = s.engine ∧ (s.rateUpdate x).link = s.link
      ∧ (s.rateUpdate x).messenger = s.messenger ∧ (s.rateUpdate x).renewal = s.renewal
      ∧ (s.rateUpdate x).faults = s.faults ∧ (s.rateUpdate x).beacon = s.beacon ∧ (s.rateUpdate x).sPort = s.sPort
      ∧ (s.rateUpdate x).lPort = s.lPort := by
  simp [State.rateUpdate]

@[simp] theorem State.reevaluateSlot_frame (x : Nat) (s : State) :
    (s.reevaluateSlot x).pending = s.pending ∧ (s.reevaluateSlot x).partState = s.partState
      ∧ (s.reevaluateSlot x).tick = s.tick ∧ (s.reevaluateSlot x).intervalTicks = s.intervalTicks
      ∧ (s.reevaluateSlot x).selfCheckPending = s.selfCheckPending
      ∧ (s.reevaluateSlot x).eraseWindow = s.eraseWindow ∧ (s.reevaluateSlot x).chans = s.chans
      ∧ (s.reevaluateSlot x).root = s.root ∧ (s.reevaluateSlot x).pool = s.pool ∧ (s.reevaluateSlot x).sIn = s.sIn
      ∧ (s.reevaluateSlot x).sOut = s.sOut ∧ (s.reevaluateSlot x).lRx = s.lRx ∧ (s.reevaluateSlot x).lTx = s.lTx
      ∧ (s.reevaluateSlot x).ctrl = s.ctrl ∧ (s.reevaluateSlot x).engine = s.engine
      ∧ (s.reevaluateSlot x).link = s.link ∧ (s.reevaluateSlot x).messenger = s.messenger
      ∧ (s.reevaluateSlot x).faults = s.faults ∧ (s.reevaluateSlot x).beacon = s.beacon
      ∧ (s.reevaluateSlot x).sPort = s.sPort ∧ (s.reevaluateSlot x).lPort = s.lPort := by
  unfold State.reevaluateSlot
  try dsimp only
  (repeat' split) <;> simp

@[simp] theorem State.visitSlot_frame (x : Nat) (s : State) :
    (s.visitSlot x).pending = s.pending ∧ (s.visitSlot x).partState = s.partState ∧ (s.visitSlot x).tick = s.tick
      ∧ (s.visitSlot x).intervalTicks = s.intervalTicks ∧ (s.visitSlot x).selfCheckPending = s.selfCheckPending
      ∧ (s.visitSlot x).eraseWindow = s.eraseWindow ∧ (s.visitSlot x).chans = s.chans
      ∧ (s.visitSlot x).root = s.root ∧ (s.visitSlot x).pool = s.pool ∧ (s.visitSlot x).sIn = s.sIn
      ∧ (s.visitSlot x).sOut = s.sOut ∧ (s.visitSlot x).lRx = s.lRx ∧ (s.visitSlot x).lTx = s.lTx
      ∧ (s.visitSlot x).ctrl = s.ctrl ∧ (s.visitSlot x).engine = s.engine ∧ (s.visitSlot x).link = s.link
      ∧ (s.visitSlot x).messenger = s.messenger ∧ (s.visitSlot x).faults = s.faults
      ∧ (s.visitSlot x).beacon = s.beacon ∧ (s.visitSlot x).sPort = s.sPort ∧ (s.visitSlot x).lPort = s.lPort := by
  unfold State.visitSlot
  try dsimp only
  (repeat' split) <;> simp

@[simp] theorem State.drawCounter_frame (x : Nat) (s : State) :
    (s.drawCounter x).1.pending = s.pending ∧ (s.drawCounter x).1.partState = s.partState
      ∧ (s.drawCounter x).1.tick = s.tick ∧ (s.drawCounter x).1.intervalTicks = s.intervalTicks
      ∧ (s.drawCounter x).1.selfCheckPending = s.selfCheckPending ∧ (s.drawCounter x).1.eraseWindow = s.eraseWindow
      ∧ (s.drawCounter x).1.chans = s.chans ∧ (s.drawCounter x).1.root = s.root ∧ (s.drawCounter x).1.pool = s.pool
      ∧ (s.drawCounter x).1.sIn = s.sIn ∧ (s.drawCounter x).1.sOut = s.sOut ∧ (s.drawCounter x).1.lRx = s.lRx
      ∧ (s.drawCounter x).1.lTx = s.lTx ∧ (s.drawCounter x).1.ctrl = s.ctrl ∧ (s.drawCounter x).1.engine = s.engine
      ∧ (s.drawCounter x).1.link = s.link ∧ (s.drawCounter x).1.messenger = s.messenger
      ∧ (s.drawCounter x).1.renewal = s.renewal ∧ (s.drawCounter x).1.faults = s.faults
      ∧ (s.drawCounter x).1.beacon = s.beacon ∧ (s.drawCounter x).1.sPort = s.sPort
      ∧ (s.drawCounter x).1.lPort = s.lPort := by
  simp [State.drawCounter]

@[simp] theorem State.drawRootCounter_frame (s : State) :
    (s.drawRootCounter).1.pending = s.pending ∧ (s.drawRootCounter).1.partState = s.partState
      ∧ (s.drawRootCounter).1.tick = s.tick ∧ (s.drawRootCounter).1.intervalTicks = s.intervalTicks
      ∧ (s.drawRootCounter).1.selfCheckPending = s.selfCheckPending
      ∧ (s.drawRootCounter).1.eraseWindow = s.eraseWindow ∧ (s.drawRootCounter).1.chans = s.chans
      ∧ (s.drawRootCounter).1.slots = s.slots ∧ (s.drawRootCounter).1.pool = s.pool
      ∧ (s.drawRootCounter).1.sIn = s.sIn ∧ (s.drawRootCounter).1.sOut = s.sOut ∧ (s.drawRootCounter).1.lRx = s.lRx
      ∧ (s.drawRootCounter).1.lTx = s.lTx ∧ (s.drawRootCounter).1.ctrl = s.ctrl
      ∧ (s.drawRootCounter).1.engine = s.engine ∧ (s.drawRootCounter).1.link = s.link
      ∧ (s.drawRootCounter).1.messenger = s.messenger ∧ (s.drawRootCounter).1.renewal = s.renewal
      ∧ (s.drawRootCounter).1.faults = s.faults ∧ (s.drawRootCounter).1.beacon = s.beacon
      ∧ (s.drawRootCounter).1.sPort = s.sPort ∧ (s.drawRootCounter).1.lPort = s.lPort := by
  simp [State.drawRootCounter]

@[simp] theorem State.emptySlot_reads (x : Nat) (s : State) :
    (∀ z, (s.emptySlot x).chan z = s.chan z) ∧ (∀ z, (s.emptySlot x).ctx z = s.ctx z)
      ∧ (∀ z, (s.emptySlot x).backoff z = s.backoff z) := by
  simp [State.chan, State.ctx, State.backoff]

@[simp] theorem State.discardSlot_reads (x : Nat) (s : State) :
    (∀ z, (s.discardSlot x).chan z = s.chan z) ∧ (∀ z, (s.discardSlot x).ctx z = s.ctx z)
      ∧ (∀ z, (s.discardSlot x).backoff z = s.backoff z) := by
  simp [State.chan, State.ctx, State.backoff]

@[simp] theorem State.endDrain_reads (x : Nat) (s : State) :
    (∀ z, (s.endDrain x).ctx z = s.ctx z) ∧ (∀ z, (s.endDrain x).backoff z = s.backoff z) := by
  simp [State.ctx, State.backoff]

@[simp] theorem State.switchSlots_reads (x y : Nat) (s : State) :
    (∀ z, (s.switchSlots x y).ctx z = s.ctx z) ∧ (∀ z, (s.switchSlots x y).backoff z = s.backoff z)
      ∧ (∀ z, (s.switchSlots x y).burst z = s.burst z) := by
  simp [State.ctx, State.backoff, State.burst]

@[simp] theorem State.setRequested_reads (o : Option Nat) (b : Bool) (s : State) :
    (∀ z, (s.setRequested o b).chan z = s.chan z) ∧ (∀ z, (s.setRequested o b).ctx z = s.ctx z)
      ∧ (∀ z, (s.setRequested o b).backoff z = s.backoff z) ∧ (∀ z, (s.setRequested o b).burst z = s.burst z) := by
  simp [State.chan, State.ctx, State.backoff, State.burst]

@[simp] theorem State.listNew_reads (o : Option Nat) (r : Reason) (s : State) :
    (∀ z, (s.listNew o r).1.chan z = s.chan z) ∧ (∀ z, (s.listNew o r).1.burst z = s.burst z) := by
  simp [State.chan, State.burst]

@[simp] theorem State.listTrigger_reads (o : Option Nat) (r : Reason) (s : State) :
    (∀ z, (s.listTrigger o r).1.chan z = s.chan z) ∧ (∀ z, (s.listTrigger o r).1.burst z = s.burst z) := by
  simp [State.chan, State.burst]

@[simp] theorem State.receiveTrigger_reads (o : Option Nat) (r : Reason) (s : State) :
    (∀ z, (s.receiveTrigger o r).1.chan z = s.chan z) ∧ (∀ z, (s.receiveTrigger o r).1.burst z = s.burst z) := by
  simp [State.chan, State.burst]

@[simp] theorem State.sendTrigger_reads (x : Nat) (r : Reason) (s : State) :
    (∀ z, (s.sendTrigger x r).chan z = s.chan z) ∧ (∀ z, (s.sendTrigger x r).burst z = s.burst z) := by
  simp [State.chan, State.burst]

@[simp] theorem State.sendBoot_reads (s : State) :
    (∀ z, (s.sendBoot).chan z = s.chan z) ∧ (∀ z, (s.sendBoot).burst z = s.burst z) := by
  simp [State.chan, State.burst]

@[simp] theorem State.spendSlot_reads (x : Nat) (k : FaultKind) (s : State) :
    (∀ z, (s.spendSlot x k).burst z = s.burst z) := by
  simp [State.burst]

@[simp] theorem State.softTest_reads (x : Nat) (s : State) :
    (∀ z, (s.softTest x).chan z = s.chan z) ∧ (∀ z, (s.softTest x).burst z = s.burst z) := by
  simp [State.chan, State.burst]

@[simp] theorem State.charge_reads (x c : Nat) (s : State) :
    (∀ z, (s.charge x c).1.burst z = s.burst z) := by
  simp [State.burst]

@[simp] theorem State.rateUpdate_reads (x : Nat) (s : State) :
    (∀ z, (s.rateUpdate x).chan z = s.chan z) ∧ (∀ z, (s.rateUpdate x).ctx z = s.ctx z)
      ∧ (∀ z, (s.rateUpdate x).backoff z = s.backoff z) ∧ (∀ z, (s.rateUpdate x).burst z = s.burst z) := by
  simp [State.chan, State.ctx, State.backoff, State.burst]

@[simp] theorem State.reevaluateSlot_reads (x : Nat) (s : State) :
    (∀ z, (s.reevaluateSlot x).chan z = s.chan z) ∧ (∀ z, (s.reevaluateSlot x).burst z = s.burst z) := by
  simp [State.chan, State.burst]

@[simp] theorem State.visitSlot_reads (x : Nat) (s : State) :
    (∀ z, (s.visitSlot x).chan z = s.chan z) ∧ (∀ z, (s.visitSlot x).burst z = s.burst z) := by
  simp [State.chan, State.burst]

@[simp] theorem State.drawCounter_reads (x : Nat) (s : State) :
    (∀ z, (s.drawCounter x).1.chan z = s.chan z) ∧ (∀ z, (s.drawCounter x).1.ctx z = s.ctx z)
      ∧ (∀ z, (s.drawCounter x).1.backoff z = s.backoff z) ∧ (∀ z, (s.drawCounter x).1.burst z = s.burst z) := by
  simp [State.chan, State.ctx, State.backoff, State.burst]

@[simp] theorem State.drawRootCounter_reads (s : State) :
    (∀ z, (s.drawRootCounter).1.chan z = s.chan z) ∧ (∀ z, (s.drawRootCounter).1.slot z = s.slot z)
      ∧ (∀ z, (s.drawRootCounter).1.ctx z = s.ctx z) ∧ (∀ z, (s.drawRootCounter).1.backoff z = s.backoff z)
      ∧ (∀ z, (s.drawRootCounter).1.burst z = s.burst z) := by
  simp [State.chan, State.slot, State.ctx, State.backoff, State.burst]

end Sys2Proof.Machine
end

