-- ==== Sys2Proof/Laws/Messages.lean ====
section
/-! SUPPORT. Frames of the renewal exchanges and the control messages: which fields each leaves as they were. -/

namespace Sys2Proof.Machine

@[simp] theorem State.compose_frame (bs : List Byte) (s : State) :
    (s.compose bs).1.pending = s.pending ∧ (s.compose bs).1.partState = s.partState ∧ (s.compose bs).1.tick = s.tick
      ∧ (s.compose bs).1.intervalTicks = s.intervalTicks ∧ (s.compose bs).1.selfCheckPending = s.selfCheckPending
      ∧ (s.compose bs).1.eraseWindow = s.eraseWindow ∧ (s.compose bs).1.chans = s.chans
      ∧ (s.compose bs).1.root = s.root ∧ (s.compose bs).1.slots = s.slots ∧ (s.compose bs).1.sIn = s.sIn
      ∧ (s.compose bs).1.sOut = s.sOut ∧ (s.compose bs).1.lRx = s.lRx ∧ (s.compose bs).1.lTx = s.lTx
      ∧ (s.compose bs).1.engine = s.engine ∧ (s.compose bs).1.link = s.link
      ∧ (s.compose bs).1.messenger = s.messenger := by
  unfold State.compose
  try dsimp only
  (repeat' split) <;> simp

@[simp] theorem State.assignExchange_frame (s : State) :
    (s.assignExchange).1.pending = s.pending ∧ (s.assignExchange).1.partState = s.partState
      ∧ (s.assignExchange).1.tick = s.tick ∧ (s.assignExchange).1.intervalTicks = s.intervalTicks
      ∧ (s.assignExchange).1.selfCheckPending = s.selfCheckPending
      ∧ (s.assignExchange).1.eraseWindow = s.eraseWindow ∧ (s.assignExchange).1.chans = s.chans
      ∧ (s.assignExchange).1.root = s.root ∧ (s.assignExchange).1.slots = s.slots
      ∧ (s.assignExchange).1.pool = s.pool ∧ (s.assignExchange).1.sIn = s.sIn ∧ (s.assignExchange).1.sOut = s.sOut
      ∧ (s.assignExchange).1.lRx = s.lRx ∧ (s.assignExchange).1.lTx = s.lTx ∧ (s.assignExchange).1.ctrl = s.ctrl
      ∧ (s.assignExchange).1.engine = s.engine ∧ (s.assignExchange).1.link = s.link
      ∧ (s.assignExchange).1.renewal = s.renewal ∧ (s.assignExchange).1.faults = s.faults
      ∧ (s.assignExchange).1.beacon = s.beacon ∧ (s.assignExchange).1.sPort = s.sPort
      ∧ (s.assignExchange).1.lPort = s.lPort := by
  simp [State.assignExchange]

@[simp] theorem State.freeContext_frame (c : Nat) (s : State) :
    (s.freeContext c).pending = s.pending ∧ (s.freeContext c).partState = s.partState
      ∧ (s.freeContext c).tick = s.tick ∧ (s.freeContext c).intervalTicks = s.intervalTicks
      ∧ (s.freeContext c).selfCheckPending = s.selfCheckPending ∧ (s.freeContext c).eraseWindow = s.eraseWindow
      ∧ (s.freeContext c).chans = s.chans ∧ (s.freeContext c).root = s.root ∧ (s.freeContext c).slots = s.slots
      ∧ (s.freeContext c).pool = s.pool ∧ (s.freeContext c).sIn = s.sIn ∧ (s.freeContext c).sOut = s.sOut
      ∧ (s.freeContext c).lRx = s.lRx ∧ (s.freeContext c).lTx = s.lTx ∧ (s.freeContext c).ctrl = s.ctrl
      ∧ (s.freeContext c).engine = s.engine ∧ (s.freeContext c).link = s.link ∧ (s.freeContext c).faults = s.faults
      ∧ (s.freeContext c).beacon = s.beacon ∧ (s.freeContext c).sPort = s.sPort ∧ (s.freeContext c).lPort = s.lPort := by
  unfold State.freeContext
  try dsimp only
  (repeat' split) <;> simp

@[simp] theorem State.composeContext_frame (c : Nat) (s : State) :
    (s.composeContext c).pending = s.pending ∧ (s.composeContext c).partState = s.partState
      ∧ (s.composeContext c).tick = s.tick ∧ (s.composeContext c).intervalTicks = s.intervalTicks
      ∧ (s.composeContext c).selfCheckPending = s.selfCheckPending
      ∧ (s.composeContext c).eraseWindow = s.eraseWindow ∧ (s.composeContext c).chans = s.chans
      ∧ (s.composeContext c).root = s.root ∧ (s.composeContext c).slots = s.slots ∧ (s.composeContext c).sIn = s.sIn
      ∧ (s.composeContext c).sOut = s.sOut ∧ (s.composeContext c).lRx = s.lRx ∧ (s.composeContext c).lTx = s.lTx
      ∧ (s.composeContext c).engine = s.engine ∧ (s.composeContext c).link = s.link
      ∧ (s.composeContext c).messenger = s.messenger := by
  unfold State.composeContext
  try dsimp only
  (repeat' split) <;> simp

@[simp] theorem State.reportPlaced_frame (n : Nat) (s : State) :
    (s.reportPlaced n).pending = s.pending ∧ (s.reportPlaced n).partState = s.partState
      ∧ (s.reportPlaced n).tick = s.tick ∧ (s.reportPlaced n).intervalTicks = s.intervalTicks
      ∧ (s.reportPlaced n).selfCheckPending = s.selfCheckPending ∧ (s.reportPlaced n).eraseWindow = s.eraseWindow
      ∧ (s.reportPlaced n).chans = s.chans ∧ (s.reportPlaced n).root = s.root ∧ (s.reportPlaced n).slots = s.slots
      ∧ (s.reportPlaced n).pool = s.pool ∧ (s.reportPlaced n).sIn = s.sIn ∧ (s.reportPlaced n).sOut = s.sOut
      ∧ (s.reportPlaced n).lRx = s.lRx ∧ (s.reportPlaced n).lTx = s.lTx ∧ (s.reportPlaced n).ctrl = s.ctrl
      ∧ (s.reportPlaced n).engine = s.engine ∧ (s.reportPlaced n).link = s.link
      ∧ (s.reportPlaced n).messenger = s.messenger ∧ (s.reportPlaced n).faults = s.faults
      ∧ (s.reportPlaced n).beacon = s.beacon ∧ (s.reportPlaced n).sPort = s.sPort
      ∧ (s.reportPlaced n).lPort = s.lPort := by
  unfold State.reportPlaced
  try dsimp only
  (repeat' split) <;> simp

@[simp] theorem State.openContext_frame (c : Nat) (x : Context) (s : State) :
    (s.openContext c x).pending = s.pending ∧ (s.openContext c x).partState = s.partState
      ∧ (s.openContext c x).tick = s.tick ∧ (s.openContext c x).intervalTicks = s.intervalTicks
      ∧ (s.openContext c x).selfCheckPending = s.selfCheckPending ∧ (s.openContext c x).eraseWindow = s.eraseWindow
      ∧ (s.openContext c x).chans = s.chans ∧ (s.openContext c x).root = s.root
      ∧ (s.openContext c x).slots = s.slots ∧ (s.openContext c x).pool = s.pool ∧ (s.openContext c x).sIn = s.sIn
      ∧ (s.openContext c x).sOut = s.sOut ∧ (s.openContext c x).lRx = s.lRx ∧ (s.openContext c x).lTx = s.lTx
      ∧ (s.openContext c x).ctrl = s.ctrl ∧ (s.openContext c x).engine = s.engine
      ∧ (s.openContext c x).link = s.link ∧ (s.openContext c x).faults = s.faults
      ∧ (s.openContext c x).beacon = s.beacon ∧ (s.openContext c x).sPort = s.sPort
      ∧ (s.openContext c x).lPort = s.lPort := by
  simp [State.openContext]

@[simp] theorem State.startExchange_frame (s : State) :
    (s.startExchange).pending = s.pending ∧ (s.startExchange).partState = s.partState
      ∧ (s.startExchange).tick = s.tick ∧ (s.startExchange).intervalTicks = s.intervalTicks
      ∧ (s.startExchange).selfCheckPending = s.selfCheckPending ∧ (s.startExchange).eraseWindow = s.eraseWindow
      ∧ (s.startExchange).chans = s.chans ∧ (s.startExchange).root = s.root ∧ (s.startExchange).slots = s.slots
      ∧ (s.startExchange).sIn = s.sIn ∧ (s.startExchange).sOut = s.sOut ∧ (s.startExchange).lRx = s.lRx
      ∧ (s.startExchange).lTx = s.lTx ∧ (s.startExchange).engine = s.engine ∧ (s.startExchange).link = s.link := by
  unfold State.startExchange
  try dsimp only
  (repeat' split) <;> simp

@[simp] theorem State.discardSuccessor_frame (c : Nat) (s : State) :
    (s.discardSuccessor c).pending = s.pending ∧ (s.discardSuccessor c).partState = s.partState
      ∧ (s.discardSuccessor c).tick = s.tick ∧ (s.discardSuccessor c).intervalTicks = s.intervalTicks
      ∧ (s.discardSuccessor c).selfCheckPending = s.selfCheckPending
      ∧ (s.discardSuccessor c).eraseWindow = s.eraseWindow ∧ (s.discardSuccessor c).chans = s.chans
      ∧ (s.discardSuccessor c).pool = s.pool ∧ (s.discardSuccessor c).sIn = s.sIn
      ∧ (s.discardSuccessor c).sOut = s.sOut ∧ (s.discardSuccessor c).lRx = s.lRx
      ∧ (s.discardSuccessor c).lTx = s.lTx ∧ (s.discardSuccessor c).ctrl = s.ctrl
      ∧ (s.discardSuccessor c).link = s.link ∧ (s.discardSuccessor c).messenger = s.messenger
      ∧ (s.discardSuccessor c).renewal = s.renewal := by
  unfold State.discardSuccessor
  try dsimp only
  (repeat' split) <;> simp

@[simp] theorem State.startBackoff_frame (x : Context) (s : State) :
    (s.startBackoff x).pending = s.pending ∧ (s.startBackoff x).partState = s.partState
      ∧ (s.startBackoff x).tick = s.tick ∧ (s.startBackoff x).intervalTicks = s.intervalTicks
      ∧ (s.startBackoff x).selfCheckPending = s.selfCheckPending ∧ (s.startBackoff x).eraseWindow = s.eraseWindow
      ∧ (s.startBackoff x).chans = s.chans ∧ (s.startBackoff x).root = s.root ∧ (s.startBackoff x).slots = s.slots
      ∧ (s.startBackoff x).pool = s.pool ∧ (s.startBackoff x).sIn = s.sIn ∧ (s.startBackoff x).sOut = s.sOut
      ∧ (s.startBackoff x).lRx = s.lRx ∧ (s.startBackoff x).lTx = s.lTx ∧ (s.startBackoff x).ctrl = s.ctrl
      ∧ (s.startBackoff x).engine = s.engine ∧ (s.startBackoff x).link = s.link
      ∧ (s.startBackoff x).messenger = s.messenger ∧ (s.startBackoff x).faults = s.faults
      ∧ (s.startBackoff x).beacon = s.beacon ∧ (s.startBackoff x).sPort = s.sPort
      ∧ (s.startBackoff x).lPort = s.lPort := by
  unfold State.startBackoff
  try dsimp only
  (repeat' split) <;> simp

@[simp] theorem State.failContext_frame (c : Nat) (s : State) :
    (s.failContext c).pending = s.pending ∧ (s.failContext c).partState = s.partState
      ∧ (s.failContext c).tick = s.tick ∧ (s.failContext c).intervalTicks = s.intervalTicks
      ∧ (s.failContext c).selfCheckPending = s.selfCheckPending ∧ (s.failContext c).eraseWindow = s.eraseWindow
      ∧ (s.failContext c).chans = s.chans ∧ (s.failContext c).pool = s.pool ∧ (s.failContext c).sIn = s.sIn
      ∧ (s.failContext c).sOut = s.sOut ∧ (s.failContext c).lRx = s.lRx ∧ (s.failContext c).lTx = s.lTx
      ∧ (s.failContext c).ctrl = s.ctrl ∧ (s.failContext c).link = s.link := by
  simp [State.failContext]

@[simp] theorem State.refuseContext_frame (c : Nat) (s : State) :
    (s.refuseContext c).pending = s.pending ∧ (s.refuseContext c).partState = s.partState
      ∧ (s.refuseContext c).tick = s.tick ∧ (s.refuseContext c).intervalTicks = s.intervalTicks
      ∧ (s.refuseContext c).selfCheckPending = s.selfCheckPending ∧ (s.refuseContext c).eraseWindow = s.eraseWindow
      ∧ (s.refuseContext c).chans = s.chans ∧ (s.refuseContext c).pool = s.pool ∧ (s.refuseContext c).sIn = s.sIn
      ∧ (s.refuseContext c).sOut = s.sOut ∧ (s.refuseContext c).lRx = s.lRx ∧ (s.refuseContext c).lTx = s.lTx
      ∧ (s.refuseContext c).ctrl = s.ctrl ∧ (s.refuseContext c).link = s.link := by
  simp [State.refuseContext]

@[simp] theorem State.clearRenewalFaults_frame (x : Subject) (s : State) :
    (s.clearRenewalFaults x).pending = s.pending ∧ (s.clearRenewalFaults x).partState = s.partState
      ∧ (s.clearRenewalFaults x).tick = s.tick ∧ (s.clearRenewalFaults x).intervalTicks = s.intervalTicks
      ∧ (s.clearRenewalFaults x).selfCheckPending = s.selfCheckPending
      ∧ (s.clearRenewalFaults x).eraseWindow = s.eraseWindow ∧ (s.clearRenewalFaults x).chans = s.chans
      ∧ (s.clearRenewalFaults x).root = s.root ∧ (s.clearRenewalFaults x).slots = s.slots
      ∧ (s.clearRenewalFaults x).pool = s.pool ∧ (s.clearRenewalFaults x).sIn = s.sIn
      ∧ (s.clearRenewalFaults x).sOut = s.sOut ∧ (s.clearRenewalFaults x).lRx = s.lRx
      ∧ (s.clearRenewalFaults x).lTx = s.lTx ∧ (s.clearRenewalFaults x).ctrl = s.ctrl
      ∧ (s.clearRenewalFaults x).engine = s.engine ∧ (s.clearRenewalFaults x).link = s.link
      ∧ (s.clearRenewalFaults x).messenger = s.messenger ∧ (s.clearRenewalFaults x).renewal = s.renewal := by
  simp [State.clearRenewalFaults]

@[simp] theorem State.finishContext_frame (c : Nat) (s : State) :
    (s.finishContext c).pending = s.pending ∧ (s.finishContext c).partState = s.partState
      ∧ (s.finishContext c).tick = s.tick ∧ (s.finishContext c).intervalTicks = s.intervalTicks
      ∧ (s.finishContext c).selfCheckPending = s.selfCheckPending ∧ (s.finishContext c).eraseWindow = s.eraseWindow
      ∧ (s.finishContext c).chans = s.chans ∧ (s.finishContext c).root = s.root
      ∧ (s.finishContext c).slots = s.slots ∧ (s.finishContext c).pool = s.pool ∧ (s.finishContext c).sIn = s.sIn
      ∧ (s.finishContext c).sOut = s.sOut ∧ (s.finishContext c).lRx = s.lRx ∧ (s.finishContext c).lTx = s.lTx
      ∧ (s.finishContext c).ctrl = s.ctrl ∧ (s.finishContext c).engine = s.engine
      ∧ (s.finishContext c).link = s.link ∧ (s.finishContext c).faults = s.faults
      ∧ (s.finishContext c).beacon = s.beacon ∧ (s.finishContext c).sPort = s.sPort
      ∧ (s.finishContext c).lPort = s.lPort := by
  simp [State.finishContext]

@[simp] theorem State.completeRenewal_frame (c : Nat) (s : State) :
    (s.completeRenewal c).pending = s.pending ∧ (s.completeRenewal c).partState = s.partState
      ∧ (s.completeRenewal c).tick = s.tick ∧ (s.completeRenewal c).intervalTicks = s.intervalTicks
      ∧ (s.completeRenewal c).selfCheckPending = s.selfCheckPending
      ∧ (s.completeRenewal c).eraseWindow = s.eraseWindow ∧ (s.completeRenewal c).root = s.root
      ∧ (s.completeRenewal c).pool = s.pool ∧ (s.completeRenewal c).sIn = s.sIn
      ∧ (s.completeRenewal c).sOut = s.sOut ∧ (s.completeRenewal c).lRx = s.lRx ∧ (s.completeRenewal c).lTx = s.lTx
      ∧ (s.completeRenewal c).ctrl = s.ctrl ∧ (s.completeRenewal c).engine = s.engine
      ∧ (s.completeRenewal c).link = s.link := by
  simp [State.completeRenewal]

@[simp] theorem State.enterRun_frame (s : State) :
    (s.enterRun).pending = s.pending ∧ (s.enterRun).tick = s.tick ∧ (s.enterRun).intervalTicks = s.intervalTicks
      ∧ (s.enterRun).selfCheckPending = s.selfCheckPending ∧ (s.enterRun).eraseWindow = s.eraseWindow
      ∧ (s.enterRun).chans = s.chans ∧ (s.enterRun).root = s.root ∧ (s.enterRun).slots = s.slots
      ∧ (s.enterRun).pool = s.pool ∧ (s.enterRun).sIn = s.sIn ∧ (s.enterRun).sOut = s.sOut
      ∧ (s.enterRun).lRx = s.lRx ∧ (s.enterRun).lTx = s.lTx ∧ (s.enterRun).ctrl = s.ctrl
      ∧ (s.enterRun).engine = s.engine ∧ (s.enterRun).messenger = s.messenger ∧ (s.enterRun).renewal = s.renewal
      ∧ (s.enterRun).faults = s.faults ∧ (s.enterRun).beacon = s.beacon ∧ (s.enterRun).sPort = s.sPort
      ∧ (s.enterRun).lPort = s.lPort := by
  unfold State.enterRun
  try dsimp only
  (repeat' split) <;> simp

@[simp] theorem State.endBootRequest_frame (c : Nat) (s : State) :
    (s.endBootRequest c).pending = s.pending ∧ (s.endBootRequest c).partState = s.partState
      ∧ (s.endBootRequest c).tick = s.tick ∧ (s.endBootRequest c).intervalTicks = s.intervalTicks
      ∧ (s.endBootRequest c).selfCheckPending = s.selfCheckPending
      ∧ (s.endBootRequest c).eraseWindow = s.eraseWindow ∧ (s.endBootRequest c).chans = s.chans
      ∧ (s.endBootRequest c).root = s.root ∧ (s.endBootRequest c).slots = s.slots
      ∧ (s.endBootRequest c).pool = s.pool ∧ (s.endBootRequest c).sIn = s.sIn ∧ (s.endBootRequest c).sOut = s.sOut
      ∧ (s.endBootRequest c).lRx = s.lRx ∧ (s.endBootRequest c).lTx = s.lTx ∧ (s.endBootRequest c).ctrl = s.ctrl
      ∧ (s.endBootRequest c).engine = s.engine ∧ (s.endBootRequest c).link = s.link
      ∧ (s.endBootRequest c).faults = s.faults ∧ (s.endBootRequest c).beacon = s.beacon
      ∧ (s.endBootRequest c).sPort = s.sPort ∧ (s.endBootRequest c).lPort = s.lPort := by
  unfold State.endBootRequest
  try dsimp only
  (repeat' split) <;> simp

@[simp] theorem State.bindControl_frame (c y : Nat) (s : State) :
    (s.bindControl c y).pending = s.pending ∧ (s.bindControl c y).tick = s.tick
      ∧ (s.bindControl c y).intervalTicks = s.intervalTicks
      ∧ (s.bindControl c y).selfCheckPending = s.selfCheckPending ∧ (s.bindControl c y).eraseWindow = s.eraseWindow
      ∧ (s.bindControl c y).root = s.root ∧ (s.bindControl c y).pool = s.pool ∧ (s.bindControl c y).sIn = s.sIn
      ∧ (s.bindControl c y).sOut = s.sOut ∧ (s.bindControl c y).lRx = s.lRx ∧ (s.bindControl c y).lTx = s.lTx
      ∧ (s.bindControl c y).ctrl = s.ctrl ∧ (s.bindControl c y).engine = s.engine
      ∧ (s.bindControl c y).faults = s.faults ∧ (s.bindControl c y).beacon = s.beacon
      ∧ (s.bindControl c y).sPort = s.sPort ∧ (s.bindControl c y).lPort = s.lPort := by
  unfold State.bindControl
  try dsimp only
  (repeat' split) <;> simp

@[simp] theorem State.completeInstall_frame (c : Nat) (s : State) :
    (s.completeInstall c).pending = s.pending ∧ (s.completeInstall c).tick = s.tick
      ∧ (s.completeInstall c).intervalTicks = s.intervalTicks
      ∧ (s.completeInstall c).selfCheckPending = s.selfCheckPending
      ∧ (s.completeInstall c).eraseWindow = s.eraseWindow ∧ (s.completeInstall c).root = s.root
      ∧ (s.completeInstall c).pool = s.pool ∧ (s.completeInstall c).sIn = s.sIn
      ∧ (s.completeInstall c).sOut = s.sOut ∧ (s.completeInstall c).lRx = s.lRx ∧ (s.completeInstall c).lTx = s.lTx
      ∧ (s.completeInstall c).ctrl = s.ctrl ∧ (s.completeInstall c).engine = s.engine := by
  unfold State.completeInstall
  try dsimp only
  (repeat' split) <;> simp

@[simp] theorem State.completeRoot_frame (c : Nat) (s : State) :
    (s.completeRoot c).pending = s.pending ∧ (s.completeRoot c).partState = s.partState
      ∧ (s.completeRoot c).tick = s.tick ∧ (s.completeRoot c).intervalTicks = s.intervalTicks
      ∧ (s.completeRoot c).selfCheckPending = s.selfCheckPending ∧ (s.completeRoot c).eraseWindow = s.eraseWindow
      ∧ (s.completeRoot c).chans = s.chans ∧ (s.completeRoot c).slots = s.slots ∧ (s.completeRoot c).pool = s.pool
      ∧ (s.completeRoot c).sIn = s.sIn ∧ (s.completeRoot c).sOut = s.sOut ∧ (s.completeRoot c).lRx = s.lRx
      ∧ (s.completeRoot c).lTx = s.lTx ∧ (s.completeRoot c).ctrl = s.ctrl ∧ (s.completeRoot c).engine = s.engine
      ∧ (s.completeRoot c).link = s.link := by
  unfold State.completeRoot
  try dsimp only
  (repeat' split) <;> simp

@[simp] theorem State.commitContext_frame (c : Nat) (s : State) :
    (s.commitContext c).pending = s.pending ∧ (s.commitContext c).tick = s.tick
      ∧ (s.commitContext c).intervalTicks = s.intervalTicks
      ∧ (s.commitContext c).selfCheckPending = s.selfCheckPending ∧ (s.commitContext c).eraseWindow = s.eraseWindow
      ∧ (s.commitContext c).pool = s.pool ∧ (s.commitContext c).sIn = s.sIn ∧ (s.commitContext c).sOut = s.sOut
      ∧ (s.commitContext c).lRx = s.lRx ∧ (s.commitContext c).lTx = s.lTx ∧ (s.commitContext c).ctrl = s.ctrl
      ∧ (s.commitContext c).engine = s.engine := by
  unfold State.commitContext
  try dsimp only
  (repeat' split) <;> simp

@[simp] theorem State.rejectDelivery_frame (d : Delivery) (r : Reject) (s : State) :
    (s.rejectDelivery d r).pending = s.pending ∧ (s.rejectDelivery d r).partState = s.partState
      ∧ (s.rejectDelivery d r).tick = s.tick ∧ (s.rejectDelivery d r).intervalTicks = s.intervalTicks
      ∧ (s.rejectDelivery d r).selfCheckPending = s.selfCheckPending
      ∧ (s.rejectDelivery d r).eraseWindow = s.eraseWindow ∧ (s.rejectDelivery d r).chans = s.chans
      ∧ (s.rejectDelivery d r).root = s.root ∧ (s.rejectDelivery d r).slots = s.slots
      ∧ (s.rejectDelivery d r).sIn = s.sIn ∧ (s.rejectDelivery d r).sOut = s.sOut
      ∧ (s.rejectDelivery d r).lRx = s.lRx ∧ (s.rejectDelivery d r).lTx = s.lTx
      ∧ (s.rejectDelivery d r).engine = s.engine ∧ (s.rejectDelivery d r).link = s.link := by
  unfold State.rejectDelivery
  try dsimp only
  (repeat' split) <;> simp

@[simp] theorem State.stageSlot_frame (d : Delivery) (key : Block) (y : Nat) (s : State) :
    (s.stageSlot d key y).pending = s.pending ∧ (s.stageSlot d key y).partState = s.partState
      ∧ (s.stageSlot d key y).tick = s.tick ∧ (s.stageSlot d key y).intervalTicks = s.intervalTicks
      ∧ (s.stageSlot d key y).selfCheckPending = s.selfCheckPending
      ∧ (s.stageSlot d key y).eraseWindow = s.eraseWindow ∧ (s.stageSlot d key y).chans = s.chans
      ∧ (s.stageSlot d key y).root = s.root ∧ (s.stageSlot d key y).pool = s.pool
      ∧ (s.stageSlot d key y).sIn = s.sIn ∧ (s.stageSlot d key y).sOut = s.sOut ∧ (s.stageSlot d key y).lRx = s.lRx
      ∧ (s.stageSlot d key y).lTx = s.lTx ∧ (s.stageSlot d key y).ctrl = s.ctrl
      ∧ (s.stageSlot d key y).engine = s.engine ∧ (s.stageSlot d key y).link = s.link
      ∧ (s.stageSlot d key y).renewal = s.renewal := by
  unfold State.stageSlot
  try dsimp only
  (repeat' split) <;> simp

@[simp] theorem State.acceptDelivery_frame (d : Delivery) (c y : Nat) (s : State) :
    (s.acceptDelivery d c y).pending = s.pending ∧ (s.acceptDelivery d c y).partState = s.partState
      ∧ (s.acceptDelivery d c y).tick = s.tick ∧ (s.acceptDelivery d c y).intervalTicks = s.intervalTicks
      ∧ (s.acceptDelivery d c y).selfCheckPending = s.selfCheckPending
      ∧ (s.acceptDelivery d c y).eraseWindow = s.eraseWindow ∧ (s.acceptDelivery d c y).chans = s.chans
      ∧ (s.acceptDelivery d c y).root = s.root ∧ (s.acceptDelivery d c y).slots = s.slots
      ∧ (s.acceptDelivery d c y).sIn = s.sIn ∧ (s.acceptDelivery d c y).sOut = s.sOut
      ∧ (s.acceptDelivery d c y).lRx = s.lRx ∧ (s.acceptDelivery d c y).lTx = s.lTx
      ∧ (s.acceptDelivery d c y).engine = s.engine ∧ (s.acceptDelivery d c y).link = s.link := by
  unfold State.acceptDelivery
  try dsimp only
  (repeat' split) <;> simp

@[simp] theorem State.takeDelivery_frame (d : Delivery) (s : State) :
    (s.takeDelivery d).pending = s.pending ∧ (s.takeDelivery d).partState = s.partState
      ∧ (s.takeDelivery d).tick = s.tick ∧ (s.takeDelivery d).intervalTicks = s.intervalTicks
      ∧ (s.takeDelivery d).selfCheckPending = s.selfCheckPending ∧ (s.takeDelivery d).eraseWindow = s.eraseWindow
      ∧ (s.takeDelivery d).chans = s.chans ∧ (s.takeDelivery d).sIn = s.sIn ∧ (s.takeDelivery d).sOut = s.sOut
      ∧ (s.takeDelivery d).lRx = s.lRx ∧ (s.takeDelivery d).lTx = s.lTx ∧ (s.takeDelivery d).engine = s.engine
      ∧ (s.takeDelivery d).link = s.link := by
  unfold State.takeDelivery
  try dsimp only
  (repeat' split) <;> simp

@[simp] theorem State.countStale_frame (s : State) :
    (s.countStale).pending = s.pending ∧ (s.countStale).partState = s.partState ∧ (s.countStale).tick = s.tick
      ∧ (s.countStale).intervalTicks = s.intervalTicks ∧ (s.countStale).selfCheckPending = s.selfCheckPending
      ∧ (s.countStale).eraseWindow = s.eraseWindow ∧ (s.countStale).chans = s.chans ∧ (s.countStale).root = s.root
      ∧ (s.countStale).slots = s.slots ∧ (s.countStale).pool = s.pool ∧ (s.countStale).sIn = s.sIn
      ∧ (s.countStale).sOut = s.sOut ∧ (s.countStale).lRx = s.lRx ∧ (s.countStale).lTx = s.lTx
      ∧ (s.countStale).ctrl = s.ctrl ∧ (s.countStale).engine = s.engine ∧ (s.countStale).link = s.link
      ∧ (s.countStale).renewal = s.renewal ∧ (s.countStale).faults = s.faults ∧ (s.countStale).beacon = s.beacon
      ∧ (s.countStale).sPort = s.sPort ∧ (s.countStale).lPort = s.lPort := by
  simp [State.countStale]

@[simp] theorem State.countOrder_frame (b : Bool) (s : State) :
    (s.countOrder b).pending = s.pending ∧ (s.countOrder b).partState = s.partState ∧ (s.countOrder b).tick = s.tick
      ∧ (s.countOrder b).intervalTicks = s.intervalTicks ∧ (s.countOrder b).selfCheckPending = s.selfCheckPending
      ∧ (s.countOrder b).eraseWindow = s.eraseWindow ∧ (s.countOrder b).chans = s.chans
      ∧ (s.countOrder b).root = s.root ∧ (s.countOrder b).slots = s.slots ∧ (s.countOrder b).pool = s.pool
      ∧ (s.countOrder b).sIn = s.sIn ∧ (s.countOrder b).sOut = s.sOut ∧ (s.countOrder b).lRx = s.lRx
      ∧ (s.countOrder b).lTx = s.lTx ∧ (s.countOrder b).ctrl = s.ctrl ∧ (s.countOrder b).engine = s.engine
      ∧ (s.countOrder b).link = s.link ∧ (s.countOrder b).renewal = s.renewal ∧ (s.countOrder b).faults = s.faults
      ∧ (s.countOrder b).beacon = s.beacon ∧ (s.countOrder b).sPort = s.sPort ∧ (s.countOrder b).lPort = s.lPort := by
  unfold State.countOrder
  try dsimp only
  (repeat' split) <;> simp

@[simp] theorem State.takeCommit_frame (e : Nat) (s : State) :
    (s.takeCommit e).pending = s.pending ∧ (s.takeCommit e).tick = s.tick
      ∧ (s.takeCommit e).intervalTicks = s.intervalTicks ∧ (s.takeCommit e).selfCheckPending = s.selfCheckPending
      ∧ (s.takeCommit e).eraseWindow = s.eraseWindow ∧ (s.takeCommit e).pool = s.pool ∧ (s.takeCommit e).sIn = s.sIn
      ∧ (s.takeCommit e).sOut = s.sOut ∧ (s.takeCommit e).lRx = s.lRx ∧ (s.takeCommit e).lTx = s.lTx
      ∧ (s.takeCommit e).ctrl = s.ctrl ∧ (s.takeCommit e).engine = s.engine := by
  unfold State.takeCommit
  try dsimp only
  (repeat' split) <;> simp

@[simp] theorem State.takeRefuse_frame (e r : Nat) (s : State) :
    (s.takeRefuse e r).pending = s.pending ∧ (s.takeRefuse e r).partState = s.partState
      ∧ (s.takeRefuse e r).tick = s.tick ∧ (s.takeRefuse e r).intervalTicks = s.intervalTicks
      ∧ (s.takeRefuse e r).selfCheckPending = s.selfCheckPending ∧ (s.takeRefuse e r).eraseWindow = s.eraseWindow
      ∧ (s.takeRefuse e r).chans = s.chans ∧ (s.takeRefuse e r).pool = s.pool ∧ (s.takeRefuse e r).sIn = s.sIn
      ∧ (s.takeRefuse e r).sOut = s.sOut ∧ (s.takeRefuse e r).lRx = s.lRx ∧ (s.takeRefuse e r).lTx = s.lTx
      ∧ (s.takeRefuse e r).ctrl = s.ctrl ∧ (s.takeRefuse e r).link = s.link := by
  unfold State.takeRefuse
  try dsimp only
  (repeat' split) <;> simp

@[simp] theorem State.takeRenew_frame (x : Nat) (s : State) :
    (s.takeRenew x).pending = s.pending ∧ (s.takeRenew x).partState = s.partState ∧ (s.takeRenew x).tick = s.tick
      ∧ (s.takeRenew x).intervalTicks = s.intervalTicks ∧ (s.takeRenew x).selfCheckPending = s.selfCheckPending
      ∧ (s.takeRenew x).eraseWindow = s.eraseWindow ∧ (s.takeRenew x).chans = s.chans
      ∧ (s.takeRenew x).root = s.root ∧ (s.takeRenew x).pool = s.pool ∧ (s.takeRenew x).sIn = s.sIn
      ∧ (s.takeRenew x).sOut = s.sOut ∧ (s.takeRenew x).lRx = s.lRx ∧ (s.takeRenew x).lTx = s.lTx
      ∧ (s.takeRenew x).ctrl = s.ctrl ∧ (s.takeRenew x).engine = s.engine ∧ (s.takeRenew x).link = s.link
      ∧ (s.takeRenew x).faults = s.faults ∧ (s.takeRenew x).beacon = s.beacon ∧ (s.takeRenew x).sPort = s.sPort
      ∧ (s.takeRenew x).lPort = s.lPort := by
  unfold State.takeRenew
  try dsimp only
  (repeat' split) <;> simp

@[simp] theorem State.takeOrder_frame (b : Bool) (q : OpenRequest) (s : State) :
    (s.takeOrder b q).pending = s.pending ∧ (s.takeOrder b q).partState = s.partState
      ∧ (s.takeOrder b q).tick = s.tick ∧ (s.takeOrder b q).intervalTicks = s.intervalTicks
      ∧ (s.takeOrder b q).selfCheckPending = s.selfCheckPending ∧ (s.takeOrder b q).eraseWindow = s.eraseWindow
      ∧ (s.takeOrder b q).root = s.root ∧ (s.takeOrder b q).lRx = s.lRx ∧ (s.takeOrder b q).lTx = s.lTx
      ∧ (s.takeOrder b q).ctrl = s.ctrl ∧ (s.takeOrder b q).engine = s.engine ∧ (s.takeOrder b q).link = s.link
      ∧ (s.takeOrder b q).renewal = s.renewal := by
  unfold State.takeOrder
  try dsimp only
  (repeat' split) <;> simp

@[simp] theorem State.takePair_frame (p : Nat × Nat) (s : State) :
    (s.takePair p).pending = s.pending ∧ (s.takePair p).partState = s.partState ∧ (s.takePair p).tick = s.tick
      ∧ (s.takePair p).intervalTicks = s.intervalTicks ∧ (s.takePair p).selfCheckPending = s.selfCheckPending
      ∧ (s.takePair p).eraseWindow = s.eraseWindow ∧ (s.takePair p).chans = s.chans ∧ (s.takePair p).root = s.root
      ∧ (s.takePair p).slots = s.slots ∧ (s.takePair p).pool = s.pool ∧ (s.takePair p).sIn = s.sIn
      ∧ (s.takePair p).sOut = s.sOut ∧ (s.takePair p).lRx = s.lRx ∧ (s.takePair p).lTx = s.lTx
      ∧ (s.takePair p).ctrl = s.ctrl ∧ (s.takePair p).engine = s.engine ∧ (s.takePair p).link = s.link
      ∧ (s.takePair p).messenger = s.messenger ∧ (s.takePair p).renewal = s.renewal ∧ (s.takePair p).sPort = s.sPort
      ∧ (s.takePair p).lPort = s.lPort := by
  unfold State.takePair
  try dsimp only
  (repeat' split) <;> simp

theorem State.takeAck_pairs (l : List (Nat × Nat)) (s : State) :
    (l.foldl State.takePair s).pending = s.pending ∧ (l.foldl State.takePair s).partState = s.partState
      ∧ (l.foldl State.takePair s).tick = s.tick ∧ (l.foldl State.takePair s).intervalTicks = s.intervalTicks
      ∧ (l.foldl State.takePair s).selfCheckPending = s.selfCheckPending
      ∧ (l.foldl State.takePair s).eraseWindow = s.eraseWindow ∧ (l.foldl State.takePair s).chans = s.chans
      ∧ (l.foldl State.takePair s).root = s.root ∧ (l.foldl State.takePair s).slots = s.slots
      ∧ (l.foldl State.takePair s).pool = s.pool ∧ (l.foldl State.takePair s).sIn = s.sIn
      ∧ (l.foldl State.takePair s).sOut = s.sOut ∧ (l.foldl State.takePair s).lRx = s.lRx
      ∧ (l.foldl State.takePair s).lTx = s.lTx ∧ (l.foldl State.takePair s).ctrl = s.ctrl
      ∧ (l.foldl State.takePair s).engine = s.engine ∧ (l.foldl State.takePair s).link = s.link
      ∧ (l.foldl State.takePair s).messenger = s.messenger ∧ (l.foldl State.takePair s).renewal = s.renewal
      ∧ (l.foldl State.takePair s).sPort = s.sPort ∧ (l.foldl State.takePair s).lPort = s.lPort := by
  induction l generalizing s with
  | nil => simp
  | cons a l ih => simp [ih]

@[simp] theorem State.takeAck_frame (n : Nat) (ps : List (Nat × Nat)) (s : State) :
    (s.takeAck n ps).pending = s.pending ∧ (s.takeAck n ps).partState = s.partState ∧ (s.takeAck n ps).tick = s.tick
      ∧ (s.takeAck n ps).intervalTicks = s.intervalTicks ∧ (s.takeAck n ps).selfCheckPending = s.selfCheckPending
      ∧ (s.takeAck n ps).eraseWindow = s.eraseWindow ∧ (s.takeAck n ps).chans = s.chans
      ∧ (s.takeAck n ps).root = s.root ∧ (s.takeAck n ps).slots = s.slots ∧ (s.takeAck n ps).pool = s.pool
      ∧ (s.takeAck n ps).sIn = s.sIn ∧ (s.takeAck n ps).sOut = s.sOut ∧ (s.takeAck n ps).lRx = s.lRx
      ∧ (s.takeAck n ps).lTx = s.lTx ∧ (s.takeAck n ps).ctrl = s.ctrl ∧ (s.takeAck n ps).engine = s.engine
      ∧ (s.takeAck n ps).link = s.link ∧ (s.takeAck n ps).messenger = s.messenger
      ∧ (s.takeAck n ps).renewal = s.renewal ∧ (s.takeAck n ps).sPort = s.sPort ∧ (s.takeAck n ps).lPort = s.lPort := by
  unfold State.takeAck
  try dsimp only
  (repeat' split) <;> simp [State.takeAck_pairs]

@[simp] theorem State.takeProbe_frame (n f : Nat) (bs : List Byte) (s : State) :
    (s.takeProbe n f bs).pending = s.pending ∧ (s.takeProbe n f bs).partState = s.partState
      ∧ (s.takeProbe n f bs).tick = s.tick ∧ (s.takeProbe n f bs).intervalTicks = s.intervalTicks
      ∧ (s.takeProbe n f bs).selfCheckPending = s.selfCheckPending
      ∧ (s.takeProbe n f bs).eraseWindow = s.eraseWindow ∧ (s.takeProbe n f bs).chans = s.chans
      ∧ (s.takeProbe n f bs).root = s.root ∧ (s.takeProbe n f bs).slots = s.slots ∧ (s.takeProbe n f bs).sIn = s.sIn
      ∧ (s.takeProbe n f bs).sOut = s.sOut ∧ (s.takeProbe n f bs).lRx = s.lRx ∧ (s.takeProbe n f bs).lTx = s.lTx
      ∧ (s.takeProbe n f bs).engine = s.engine ∧ (s.takeProbe n f bs).messenger = s.messenger := by
  unfold State.takeProbe
  try dsimp only
  (repeat' split) <;> simp

@[simp] theorem State.takeMessage_frame (m : Message) (s : State) :
    (s.takeMessage m).pending = s.pending ∧ (s.takeMessage m).tick = s.tick
      ∧ (s.takeMessage m).intervalTicks = s.intervalTicks ∧ (s.takeMessage m).selfCheckPending = s.selfCheckPending
      ∧ (s.takeMessage m).eraseWindow = s.eraseWindow ∧ (s.takeMessage m).lRx = s.lRx
      ∧ (s.takeMessage m).lTx = s.lTx := by
  unfold State.takeMessage
  try dsimp only
  (repeat' split) <;> simp

@[simp] theorem State.handleControl_frame (bs : List Byte) (s : State) :
    (s.handleControl bs).pending = s.pending ∧ (s.handleControl bs).tick = s.tick
      ∧ (s.handleControl bs).intervalTicks = s.intervalTicks
      ∧ (s.handleControl bs).selfCheckPending = s.selfCheckPending
      ∧ (s.handleControl bs).eraseWindow = s.eraseWindow ∧ (s.handleControl bs).lRx = s.lRx
      ∧ (s.handleControl bs).lTx = s.lTx := by
  unfold State.handleControl
  try dsimp only
  (repeat' split) <;> simp

@[simp] theorem State.compose_reads (bs : List Byte) (s : State) :
    (∀ z, (s.compose bs).1.chan z = s.chan z) ∧ (∀ z, (s.compose bs).1.slot z = s.slot z)
      ∧ (∀ z, (s.compose bs).1.burst z = s.burst z) := by
  simp [State.chan, State.slot, State.burst]

@[simp] theorem State.assignExchange_reads (s : State) :
    (∀ z, (s.assignExchange).1.chan z = s.chan z) ∧ (∀ z, (s.assignExchange).1.slot z = s.slot z)
      ∧ (∀ z, (s.assignExchange).1.ctx z = s.ctx z) ∧ (∀ z, (s.assignExchange).1.backoff z = s.backoff z)
      ∧ (∀ z, (s.assignExchange).1.burst z = s.burst z) := by
  simp [State.chan, State.slot, State.ctx, State.backoff, State.burst]

@[simp] theorem State.freeContext_reads (c : Nat) (s : State) :
    (∀ z, (s.freeContext c).chan z = s.chan z) ∧ (∀ z, (s.freeContext c).slot z = s.slot z)
      ∧ (∀ z, (s.freeContext c).burst z = s.burst z) := by
  simp [State.chan, State.slot, State.burst]

@[simp] theorem State.composeContext_reads (c : Nat) (s : State) :
    (∀ z, (s.composeContext c).chan z = s.chan z) ∧ (∀ z, (s.composeContext c).slot z = s.slot z)
      ∧ (∀ z, (s.composeContext c).burst z = s.burst z) := by
  simp [State.chan, State.slot, State.burst]

@[simp] theorem State.reportPlaced_reads (n : Nat) (s : State) :
    (∀ z, (s.reportPlaced n).chan z = s.chan z) ∧ (∀ z, (s.reportPlaced n).slot z = s.slot z)
      ∧ (∀ z, (s.reportPlaced n).burst z = s.burst z) := by
  simp [State.chan, State.slot, State.burst]

@[simp] theorem State.openContext_reads (c : Nat) (x : Context) (s : State) :
    (∀ z, (s.openContext c x).chan z = s.chan z) ∧ (∀ z, (s.openContext c x).slot z = s.slot z)
      ∧ (∀ z, (s.openContext c x).burst z = s.burst z) := by
  simp [State.chan, State.slot, State.burst]

@[simp] theorem State.startExchange_reads (s : State) :
    (∀ z, (s.startExchange).chan z = s.chan z) ∧ (∀ z, (s.startExchange).slot z = s.slot z)
      ∧ (∀ z, (s.startExchange).burst z = s.burst z) := by
  simp [State.chan, State.slot, State.burst]

@[simp] theorem State.discardSuccessor_reads (c : Nat) (s : State) :
    (∀ z, (s.discardSuccessor c).chan z = s.chan z) ∧ (∀ z, (s.discardSuccessor c).ctx z = s.ctx z)
      ∧ (∀ z, (s.discardSuccessor c).backoff z = s.backoff z) := by
  simp [State.chan, State.ctx, State.backoff]

@[simp] theorem State.startBackoff_reads (x : Context) (s : State) :
    (∀ z, (s.startBackoff x).chan z = s.chan z) ∧ (∀ z, (s.startBackoff x).slot z = s.slot z)
      ∧ (∀ z, (s.startBackoff x).burst z = s.burst z) := by
  simp [State.chan, State.slot, State.burst]

@[simp] theorem State.failContext_reads (c : Nat) (s : State) :
    (∀ z, (s.failContext c).chan z = s.chan z) := by
  simp [State.chan]

@[simp] theorem State.refuseContext_reads (c : Nat) (s : State) :
    (∀ z, (s.refuseContext c).chan z = s.chan z) := by
  simp [State.chan]

@[simp] theorem State.clearRenewalFaults_reads (x : Subject) (s : State) :
    (∀ z, (s.clearRenewalFaults x).chan z = s.chan z) ∧ (∀ z, (s.clearRenewalFaults x).slot z = s.slot z)
      ∧ (∀ z, (s.clearRenewalFaults x).ctx z = s.ctx z) ∧ (∀ z, (s.clearRenewalFaults x).backoff z = s.backoff z)
      ∧ (∀ z, (s.clearRenewalFaults x).burst z = s.burst z) := by
  simp [State.chan, State.slot, State.ctx, State.backoff, State.burst]

@[simp] theorem State.finishContext_reads (c : Nat) (s : State) :
    (∀ z, (s.finishContext c).chan z = s.chan z) ∧ (∀ z, (s.finishContext c).slot z = s.slot z)
      ∧ (∀ z, (s.finishContext c).burst z = s.burst z) := by
  simp [State.chan, State.slot, State.burst]

@[simp] theorem State.completeRenewal_reads (c : Nat) (s : State) :
    (∀ z, (s.completeRenewal c).burst z = s.burst z) := by
  simp [State.burst]

@[simp] theorem State.enterRun_reads (s : State) :
    (∀ z, (s.enterRun).chan z = s.chan z) ∧ (∀ z, (s.enterRun).slot z = s.slot z)
      ∧ (∀ z, (s.enterRun).ctx z = s.ctx z) ∧ (∀ z, (s.enterRun).backoff z = s.backoff z)
      ∧ (∀ z, (s.enterRun).burst z = s.burst z) := by
  simp [State.chan, State.slot, State.ctx, State.backoff, State.burst]

@[simp] theorem State.endBootRequest_reads (c : Nat) (s : State) :
    (∀ z, (s.endBootRequest c).chan z = s.chan z) ∧ (∀ z, (s.endBootRequest c).slot z = s.slot z)
      ∧ (∀ z, (s.endBootRequest c).burst z = s.burst z) := by
  simp [State.chan, State.slot, State.burst]

@[simp] theorem State.bindControl_reads (c y : Nat) (s : State) :
    (∀ z, (s.bindControl c y).burst z = s.burst z) := by
  simp [State.burst]

@[simp] theorem State.completeInstall_reads (c : Nat) (s : State) :
    (∀ z, (s.completeInstall c).burst z = s.burst z) := by
  simp [State.burst]

@[simp] theorem State.completeRoot_reads (c : Nat) (s : State) :
    (∀ z, (s.completeRoot c).chan z = s.chan z) ∧ (∀ z, (s.completeRoot c).slot z = s.slot z)
      ∧ (∀ z, (s.completeRoot c).burst z = s.burst z) := by
  simp [State.chan, State.slot, State.burst]

@[simp] theorem State.commitContext_reads (c : Nat) (s : State) :
    (∀ z, (s.commitContext c).burst z = s.burst z) := by
  simp [State.burst]

@[simp] theorem State.rejectDelivery_reads (d : Delivery) (r : Reject) (s : State) :
    (∀ z, (s.rejectDelivery d r).chan z = s.chan z) ∧ (∀ z, (s.rejectDelivery d r).slot z = s.slot z)
      ∧ (∀ z, (s.rejectDelivery d r).burst z = s.burst z) := by
  simp [State.chan, State.slot, State.burst]

@[simp] theorem State.stageSlot_reads (d : Delivery) (key : Block) (y : Nat) (s : State) :
    (∀ z, (s.stageSlot d key y).chan z = s.chan z) ∧ (∀ z, (s.stageSlot d key y).ctx z = s.ctx z)
      ∧ (∀ z, (s.stageSlot d key y).backoff z = s.backoff z) ∧ (∀ z, (s.stageSlot d key y).burst z = s.burst z) := by
  simp [State.chan, State.ctx, State.backoff, State.burst]

@[simp] theorem State.acceptDelivery_reads (d : Delivery) (c y : Nat) (s : State) :
    (∀ z, (s.acceptDelivery d c y).chan z = s.chan z) ∧ (∀ z, (s.acceptDelivery d c y).slot z = s.slot z)
      ∧ (∀ z, (s.acceptDelivery d c y).burst z = s.burst z) := by
  simp [State.chan, State.slot, State.burst]

@[simp] theorem State.takeDelivery_reads (d : Delivery) (s : State) :
    (∀ z, (s.takeDelivery d).chan z = s.chan z) ∧ (∀ z, (s.takeDelivery d).burst z = s.burst z) := by
  simp [State.chan, State.burst]

@[simp] theorem State.countStale_reads (s : State) :
    (∀ z, (s.countStale).chan z = s.chan z) ∧ (∀ z, (s.countStale).slot z = s.slot z)
      ∧ (∀ z, (s.countStale).ctx z = s.ctx z) ∧ (∀ z, (s.countStale).backoff z = s.backoff z)
      ∧ (∀ z, (s.countStale).burst z = s.burst z) := by
  simp [State.chan, State.slot, State.ctx, State.backoff, State.burst]

@[simp] theorem State.countOrder_reads (b : Bool) (s : State) :
    (∀ z, (s.countOrder b).chan z = s.chan z) ∧ (∀ z, (s.countOrder b).slot z = s.slot z)
      ∧ (∀ z, (s.countOrder b).ctx z = s.ctx z) ∧ (∀ z, (s.countOrder b).backoff z = s.backoff z)
      ∧ (∀ z, (s.countOrder b).burst z = s.burst z) := by
  simp [State.chan, State.slot, State.ctx, State.backoff, State.burst]

@[simp] theorem State.takeCommit_reads (e : Nat) (s : State) :
    (∀ z, (s.takeCommit e).burst z = s.burst z) := by
  simp [State.burst]

@[simp] theorem State.takeRefuse_reads (e r : Nat) (s : State) :
    (∀ z, (s.takeRefuse e r).chan z = s.chan z) := by
  simp [State.chan]

@[simp] theorem State.takeRenew_reads (x : Nat) (s : State) :
    (∀ z, (s.takeRenew x).chan z = s.chan z) ∧ (∀ z, (s.takeRenew x).burst z = s.burst z) := by
  simp [State.chan, State.burst]

@[simp] theorem State.takeOrder_reads (b : Bool) (q : OpenRequest) (s : State) :
    (∀ z, (s.takeOrder b q).ctx z = s.ctx z) ∧ (∀ z, (s.takeOrder b q).backoff z = s.backoff z)
      ∧ (∀ z, (s.takeOrder b q).burst z = s.burst z) := by
  simp [State.ctx, State.backoff, State.burst]

@[simp] theorem State.takePair_reads (p : Nat × Nat) (s : State) :
    (∀ z, (s.takePair p).chan z = s.chan z) ∧ (∀ z, (s.takePair p).slot z = s.slot z)
      ∧ (∀ z, (s.takePair p).ctx z = s.ctx z) ∧ (∀ z, (s.takePair p).backoff z = s.backoff z)
      ∧ (∀ z, (s.takePair p).burst z = s.burst z) := by
  simp [State.chan, State.slot, State.ctx, State.backoff, State.burst]

@[simp] theorem State.takeAck_reads (n : Nat) (ps : List (Nat × Nat)) (s : State) :
    (∀ z, (s.takeAck n ps).chan z = s.chan z) ∧ (∀ z, (s.takeAck n ps).slot z = s.slot z)
      ∧ (∀ z, (s.takeAck n ps).ctx z = s.ctx z) ∧ (∀ z, (s.takeAck n ps).backoff z = s.backoff z)
      ∧ (∀ z, (s.takeAck n ps).burst z = s.burst z) := by
  simp [State.chan, State.slot, State.ctx, State.backoff, State.burst]

@[simp] theorem State.takeProbe_reads (n f : Nat) (bs : List Byte) (s : State) :
    (∀ z, (s.takeProbe n f bs).chan z = s.chan z) ∧ (∀ z, (s.takeProbe n f bs).slot z = s.slot z)
      ∧ (∀ z, (s.takeProbe n f bs).burst z = s.burst z) := by
  simp [State.chan, State.slot, State.burst]

end Sys2Proof.Machine
end

