-- ==== Sys2Proof/Laws/Times.lean ====
section
/-! SUPPORT. Frames of the events that ticks make due: which fields each leaves as they were. -/

namespace Sys2Proof.Machine

@[simp] theorem State.ageTest_frame (x : Nat) (s : State) :
    (s.ageTest x).pending = s.pending ∧ (s.ageTest x).partState = s.partState ∧ (s.ageTest x).tick = s.tick
      ∧ (s.ageTest x).intervalTicks = s.intervalTicks ∧ (s.ageTest x).selfCheckPending = s.selfCheckPending
      ∧ (s.ageTest x).eraseWindow = s.eraseWindow ∧ (s.ageTest x).chans = s.chans ∧ (s.ageTest x).root = s.root
      ∧ (s.ageTest x).pool = s.pool ∧ (s.ageTest x).sIn = s.sIn ∧ (s.ageTest x).sOut = s.sOut
      ∧ (s.ageTest x).lRx = s.lRx ∧ (s.ageTest x).lTx = s.lTx ∧ (s.ageTest x).ctrl = s.ctrl
      ∧ (s.ageTest x).engine = s.engine ∧ (s.ageTest x).link = s.link ∧ (s.ageTest x).messenger = s.messenger
      ∧ (s.ageTest x).faults = s.faults ∧ (s.ageTest x).beacon = s.beacon ∧ (s.ageTest x).sPort = s.sPort
      ∧ (s.ageTest x).lPort = s.lPort := by
  unfold State.ageTest
  try dsimp only
  (repeat' split) <;> simp

@[simp] theorem State.graceTest_frame (x : Nat) (s : State) :
    (s.graceTest x).pending = s.pending ∧ (s.graceTest x).partState = s.partState ∧ (s.graceTest x).tick = s.tick
      ∧ (s.graceTest x).intervalTicks = s.intervalTicks ∧ (s.graceTest x).selfCheckPending = s.selfCheckPending
      ∧ (s.graceTest x).eraseWindow = s.eraseWindow ∧ (s.graceTest x).root = s.root ∧ (s.graceTest x).pool = s.pool
      ∧ (s.graceTest x).sIn = s.sIn ∧ (s.graceTest x).sOut = s.sOut ∧ (s.graceTest x).lRx = s.lRx
      ∧ (s.graceTest x).lTx = s.lTx ∧ (s.graceTest x).ctrl = s.ctrl ∧ (s.graceTest x).engine = s.engine
      ∧ (s.graceTest x).link = s.link ∧ (s.graceTest x).messenger = s.messenger := by
  unfold State.graceTest
  try dsimp only
  (repeat' split) <;> simp

@[simp] theorem State.endBurst_frame (x : Nat) (s : State) :
    (s.endBurst x).pending = s.pending ∧ (s.endBurst x).partState = s.partState ∧ (s.endBurst x).tick = s.tick
      ∧ (s.endBurst x).intervalTicks = s.intervalTicks ∧ (s.endBurst x).selfCheckPending = s.selfCheckPending
      ∧ (s.endBurst x).eraseWindow = s.eraseWindow ∧ (s.endBurst x).chans = s.chans ∧ (s.endBurst x).root = s.root
      ∧ (s.endBurst x).slots = s.slots ∧ (s.endBurst x).pool = s.pool ∧ (s.endBurst x).sIn = s.sIn
      ∧ (s.endBurst x).sOut = s.sOut ∧ (s.endBurst x).lRx = s.lRx ∧ (s.endBurst x).lTx = s.lTx
      ∧ (s.endBurst x).ctrl = s.ctrl ∧ (s.endBurst x).link = s.link ∧ (s.endBurst x).messenger = s.messenger
      ∧ (s.endBurst x).renewal = s.renewal := by
  unfold State.endBurst
  try dsimp only
  (repeat' split) <;> simp

@[simp] theorem State.endOverrun_frame (p : Port) (s : State) :
    (s.endOverrun p).pending = s.pending ∧ (s.endOverrun p).partState = s.partState ∧ (s.endOverrun p).tick = s.tick
      ∧ (s.endOverrun p).intervalTicks = s.intervalTicks ∧ (s.endOverrun p).selfCheckPending = s.selfCheckPending
      ∧ (s.endOverrun p).eraseWindow = s.eraseWindow ∧ (s.endOverrun p).chans = s.chans
      ∧ (s.endOverrun p).root = s.root ∧ (s.endOverrun p).slots = s.slots ∧ (s.endOverrun p).sIn = s.sIn
      ∧ (s.endOverrun p).sOut = s.sOut ∧ (s.endOverrun p).lRx = s.lRx ∧ (s.endOverrun p).lTx = s.lTx
      ∧ (s.endOverrun p).ctrl = s.ctrl ∧ (s.endOverrun p).engine = s.engine ∧ (s.endOverrun p).link = s.link
      ∧ (s.endOverrun p).messenger = s.messenger ∧ (s.endOverrun p).renewal = s.renewal := by
  unfold State.endOverrun
  try dsimp only
  (repeat' split) <;> simp

@[simp] theorem State.endLink_frame (s : State) :
    (s.endLink).pending = s.pending ∧ (s.endLink).partState = s.partState ∧ (s.endLink).tick = s.tick
      ∧ (s.endLink).intervalTicks = s.intervalTicks ∧ (s.endLink).selfCheckPending = s.selfCheckPending
      ∧ (s.endLink).eraseWindow = s.eraseWindow ∧ (s.endLink).chans = s.chans ∧ (s.endLink).root = s.root
      ∧ (s.endLink).slots = s.slots ∧ (s.endLink).pool = s.pool ∧ (s.endLink).sIn = s.sIn
      ∧ (s.endLink).sOut = s.sOut ∧ (s.endLink).lRx = s.lRx ∧ (s.endLink).lTx = s.lTx ∧ (s.endLink).ctrl = s.ctrl
      ∧ (s.endLink).engine = s.engine ∧ (s.endLink).messenger = s.messenger ∧ (s.endLink).renewal = s.renewal := by
  unfold State.endLink
  try dsimp only
  (repeat' split) <;> simp

@[simp] theorem State.clearIntervalCounts_frame (s : State) :
    (s.clearIntervalCounts).pending = s.pending ∧ (s.clearIntervalCounts).partState = s.partState
      ∧ (s.clearIntervalCounts).tick = s.tick ∧ (s.clearIntervalCounts).intervalTicks = s.intervalTicks
      ∧ (s.clearIntervalCounts).selfCheckPending = s.selfCheckPending
      ∧ (s.clearIntervalCounts).eraseWindow = s.eraseWindow ∧ (s.clearIntervalCounts).chans = s.chans
      ∧ (s.clearIntervalCounts).root = s.root ∧ (s.clearIntervalCounts).pool = s.pool
      ∧ (s.clearIntervalCounts).sIn = s.sIn ∧ (s.clearIntervalCounts).sOut = s.sOut
      ∧ (s.clearIntervalCounts).lRx = s.lRx ∧ (s.clearIntervalCounts).lTx = s.lTx
      ∧ (s.clearIntervalCounts).ctrl = s.ctrl ∧ (s.clearIntervalCounts).engine = s.engine
      ∧ (s.clearIntervalCounts).link = s.link ∧ (s.clearIntervalCounts).messenger = s.messenger
      ∧ (s.clearIntervalCounts).renewal = s.renewal ∧ (s.clearIntervalCounts).faults = s.faults
      ∧ (s.clearIntervalCounts).beacon = s.beacon ∧ (s.clearIntervalCounts).sPort = s.sPort
      ∧ (s.clearIntervalCounts).lPort = s.lPort := by
  simp [State.clearIntervalCounts]

theorem State.endInterval_visits (l : List Nat) (s : State) :
    (l.foldl State.visitSlot s).pending = s.pending ∧ (l.foldl State.visitSlot s).partState = s.partState
      ∧ (l.foldl State.visitSlot s).tick = s.tick ∧ (l.foldl State.visitSlot s).intervalTicks = s.intervalTicks
      ∧ (l.foldl State.visitSlot s).selfCheckPending = s.selfCheckPending
      ∧ (l.foldl State.visitSlot s).eraseWindow = s.eraseWindow ∧ (l.foldl State.visitSlot s).chans = s.chans
      ∧ (l.foldl State.visitSlot s).root = s.root ∧ (l.foldl State.visitSlot s).pool = s.pool
      ∧ (l.foldl State.visitSlot s).sIn = s.sIn ∧ (l.foldl State.visitSlot s).sOut = s.sOut
      ∧ (l.foldl State.visitSlot s).lRx = s.lRx ∧ (l.foldl State.visitSlot s).lTx = s.lTx
      ∧ (l.foldl State.visitSlot s).ctrl = s.ctrl ∧ (l.foldl State.visitSlot s).engine = s.engine
      ∧ (l.foldl State.visitSlot s).link = s.link ∧ (l.foldl State.visitSlot s).messenger = s.messenger
      ∧ (l.foldl State.visitSlot s).faults = s.faults ∧ (l.foldl State.visitSlot s).beacon = s.beacon
      ∧ (l.foldl State.visitSlot s).sPort = s.sPort ∧ (l.foldl State.visitSlot s).lPort = s.lPort := by
  induction l generalizing s with
  | nil => simp
  | cons a l ih => simp [ih]

theorem State.endInterval_bursts (l : List Nat) (s : State) :
    (l.foldl State.endBurst s).pending = s.pending ∧ (l.foldl State.endBurst s).partState = s.partState
      ∧ (l.foldl State.endBurst s).tick = s.tick ∧ (l.foldl State.endBurst s).intervalTicks = s.intervalTicks
      ∧ (l.foldl State.endBurst s).selfCheckPending = s.selfCheckPending
      ∧ (l.foldl State.endBurst s).eraseWindow = s.eraseWindow ∧ (l.foldl State.endBurst s).chans = s.chans
      ∧ (l.foldl State.endBurst s).root = s.root ∧ (l.foldl State.endBurst s).slots = s.slots
      ∧ (l.foldl State.endBurst s).pool = s.pool ∧ (l.foldl State.endBurst s).sIn = s.sIn
      ∧ (l.foldl State.endBurst s).sOut = s.sOut ∧ (l.foldl State.endBurst s).lRx = s.lRx
      ∧ (l.foldl State.endBurst s).lTx = s.lTx ∧ (l.foldl State.endBurst s).ctrl = s.ctrl
      ∧ (l.foldl State.endBurst s).link = s.link ∧ (l.foldl State.endBurst s).messenger = s.messenger
      ∧ (l.foldl State.endBurst s).renewal = s.renewal := by
  induction l generalizing s with
  | nil => simp
  | cons a l ih => simp [ih]

@[simp] theorem State.endInterval_frame (s : State) :
    (s.endInterval).pending = s.pending ∧ (s.endInterval).partState = s.partState ∧ (s.endInterval).tick = s.tick
      ∧ (s.endInterval).selfCheckPending = s.selfCheckPending ∧ (s.endInterval).eraseWindow = s.eraseWindow
      ∧ (s.endInterval).chans = s.chans ∧ (s.endInterval).root = s.root ∧ (s.endInterval).sIn = s.sIn
      ∧ (s.endInterval).sOut = s.sOut ∧ (s.endInterval).lRx = s.lRx ∧ (s.endInterval).lTx = s.lTx
      ∧ (s.endInterval).ctrl = s.ctrl ∧ (s.endInterval).messenger = s.messenger := by
  unfold State.endInterval
  try dsimp only
  (repeat' split) <;> simp [State.endInterval_visits, State.endInterval_bursts]

@[simp] theorem State.expireWindow_frame (s : State) :
    (s.expireWindow).pending = s.pending ∧ (s.expireWindow).partState = s.partState ∧ (s.expireWindow).tick = s.tick
      ∧ (s.expireWindow).intervalTicks = s.intervalTicks ∧ (s.expireWindow).selfCheckPending = s.selfCheckPending
      ∧ (s.expireWindow).chans = s.chans ∧ (s.expireWindow).root = s.root ∧ (s.expireWindow).slots = s.slots
      ∧ (s.expireWindow).pool = s.pool ∧ (s.expireWindow).sIn = s.sIn ∧ (s.expireWindow).sOut = s.sOut
      ∧ (s.expireWindow).lRx = s.lRx ∧ (s.expireWindow).lTx = s.lTx ∧ (s.expireWindow).ctrl = s.ctrl
      ∧ (s.expireWindow).engine = s.engine ∧ (s.expireWindow).link = s.link
      ∧ (s.expireWindow).messenger = s.messenger ∧ (s.expireWindow).renewal = s.renewal
      ∧ (s.expireWindow).faults = s.faults ∧ (s.expireWindow).beacon = s.beacon ∧ (s.expireWindow).sPort = s.sPort
      ∧ (s.expireWindow).lPort = s.lPort := by
  unfold State.expireWindow
  try dsimp only
  (repeat' split) <;> simp

@[simp] theorem State.expireQuiet_frame (s : State) :
    (s.expireQuiet).pending = s.pending ∧ (s.expireQuiet).partState = s.partState ∧ (s.expireQuiet).tick = s.tick
      ∧ (s.expireQuiet).intervalTicks = s.intervalTicks ∧ (s.expireQuiet).selfCheckPending = s.selfCheckPending
      ∧ (s.expireQuiet).eraseWindow = s.eraseWindow ∧ (s.expireQuiet).chans = s.chans
      ∧ (s.expireQuiet).root = s.root ∧ (s.expireQuiet).slots = s.slots ∧ (s.expireQuiet).pool = s.pool
      ∧ (s.expireQuiet).sIn = s.sIn ∧ (s.expireQuiet).sOut = s.sOut ∧ (s.expireQuiet).lRx = s.lRx
      ∧ (s.expireQuiet).lTx = s.lTx ∧ (s.expireQuiet).ctrl = s.ctrl ∧ (s.expireQuiet).engine = s.engine
      ∧ (s.expireQuiet).messenger = s.messenger ∧ (s.expireQuiet).renewal = s.renewal := by
  unfold State.expireQuiet
  try dsimp only
  (repeat' split) <;> simp

@[simp] theorem State.expireReply_frame (c : Nat) (s : State) :
    (s.expireReply c).pending = s.pending ∧ (s.expireReply c).partState = s.partState
      ∧ (s.expireReply c).tick = s.tick ∧ (s.expireReply c).intervalTicks = s.intervalTicks
      ∧ (s.expireReply c).selfCheckPending = s.selfCheckPending ∧ (s.expireReply c).eraseWindow = s.eraseWindow
      ∧ (s.expireReply c).chans = s.chans ∧ (s.expireReply c).sIn = s.sIn ∧ (s.expireReply c).sOut = s.sOut
      ∧ (s.expireReply c).lRx = s.lRx ∧ (s.expireReply c).lTx = s.lTx ∧ (s.expireReply c).link = s.link := by
  unfold State.expireReply
  try dsimp only
  (repeat' split) <;> simp

@[simp] theorem State.endBackoff_frame (x : Nat) (s : State) :
    (s.endBackoff x).pending = s.pending ∧ (s.endBackoff x).partState = s.partState ∧ (s.endBackoff x).tick = s.tick
      ∧ (s.endBackoff x).intervalTicks = s.intervalTicks ∧ (s.endBackoff x).selfCheckPending = s.selfCheckPending
      ∧ (s.endBackoff x).eraseWindow = s.eraseWindow ∧ (s.endBackoff x).chans = s.chans
      ∧ (s.endBackoff x).root = s.root ∧ (s.endBackoff x).pool = s.pool ∧ (s.endBackoff x).sIn = s.sIn
      ∧ (s.endBackoff x).sOut = s.sOut ∧ (s.endBackoff x).lRx = s.lRx ∧ (s.endBackoff x).lTx = s.lTx
      ∧ (s.endBackoff x).ctrl = s.ctrl ∧ (s.endBackoff x).engine = s.engine ∧ (s.endBackoff x).link = s.link
      ∧ (s.endBackoff x).messenger = s.messenger ∧ (s.endBackoff x).faults = s.faults
      ∧ (s.endBackoff x).beacon = s.beacon ∧ (s.endBackoff x).sPort = s.sPort ∧ (s.endBackoff x).lPort = s.lPort := by
  unfold State.endBackoff
  try dsimp only
  (repeat' split) <;> simp

@[simp] theorem State.endBootBackoff_frame (s : State) :
    (s.endBootBackoff).pending = s.pending ∧ (s.endBootBackoff).partState = s.partState
      ∧ (s.endBootBackoff).tick = s.tick ∧ (s.endBootBackoff).intervalTicks = s.intervalTicks
      ∧ (s.endBootBackoff).selfCheckPending = s.selfCheckPending ∧ (s.endBootBackoff).eraseWindow = s.eraseWindow
      ∧ (s.endBootBackoff).chans = s.chans ∧ (s.endBootBackoff).root = s.root ∧ (s.endBootBackoff).pool = s.pool
      ∧ (s.endBootBackoff).sIn = s.sIn ∧ (s.endBootBackoff).sOut = s.sOut ∧ (s.endBootBackoff).lRx = s.lRx
      ∧ (s.endBootBackoff).lTx = s.lTx ∧ (s.endBootBackoff).ctrl = s.ctrl ∧ (s.endBootBackoff).engine = s.engine
      ∧ (s.endBootBackoff).link = s.link ∧ (s.endBootBackoff).messenger = s.messenger
      ∧ (s.endBootBackoff).faults = s.faults ∧ (s.endBootBackoff).beacon = s.beacon
      ∧ (s.endBootBackoff).sPort = s.sPort ∧ (s.endBootBackoff).lPort = s.lPort := by
  unfold State.endBootBackoff
  try dsimp only
  (repeat' split) <;> simp

@[simp] theorem State.retryCompose_frame (c : Nat) (s : State) :
    (s.retryCompose c).pending = s.pending ∧ (s.retryCompose c).partState = s.partState
      ∧ (s.retryCompose c).tick = s.tick ∧ (s.retryCompose c).intervalTicks = s.intervalTicks
      ∧ (s.retryCompose c).selfCheckPending = s.selfCheckPending ∧ (s.retryCompose c).eraseWindow = s.eraseWindow
      ∧ (s.retryCompose c).chans = s.chans ∧ (s.retryCompose c).root = s.root ∧ (s.retryCompose c).slots = s.slots
      ∧ (s.retryCompose c).sIn = s.sIn ∧ (s.retryCompose c).sOut = s.sOut ∧ (s.retryCompose c).lRx = s.lRx
      ∧ (s.retryCompose c).lTx = s.lTx ∧ (s.retryCompose c).engine = s.engine ∧ (s.retryCompose c).link = s.link
      ∧ (s.retryCompose c).messenger = s.messenger := by
  unfold State.retryCompose
  try dsimp only
  (repeat' split) <;> simp

@[simp] theorem State.relistBoot_frame (s : State) :
    (s.relistBoot).pending = s.pending ∧ (s.relistBoot).partState = s.partState ∧ (s.relistBoot).tick = s.tick
      ∧ (s.relistBoot).intervalTicks = s.intervalTicks ∧ (s.relistBoot).selfCheckPending = s.selfCheckPending
      ∧ (s.relistBoot).eraseWindow = s.eraseWindow ∧ (s.relistBoot).chans = s.chans ∧ (s.relistBoot).root = s.root
      ∧ (s.relistBoot).pool = s.pool ∧ (s.relistBoot).sIn = s.sIn ∧ (s.relistBoot).sOut = s.sOut
      ∧ (s.relistBoot).lRx = s.lRx ∧ (s.relistBoot).lTx = s.lTx ∧ (s.relistBoot).ctrl = s.ctrl
      ∧ (s.relistBoot).engine = s.engine ∧ (s.relistBoot).link = s.link ∧ (s.relistBoot).messenger = s.messenger
      ∧ (s.relistBoot).faults = s.faults ∧ (s.relistBoot).beacon = s.beacon ∧ (s.relistBoot).sPort = s.sPort
      ∧ (s.relistBoot).lPort = s.lPort := by
  unfold State.relistBoot
  try dsimp only
  (repeat' split) <;> simp

@[simp] theorem State.askReport_frame (s : State) :
    (s.askReport).1.pending = s.pending ∧ (s.askReport).1.partState = s.partState ∧ (s.askReport).1.tick = s.tick
      ∧ (s.askReport).1.intervalTicks = s.intervalTicks ∧ (s.askReport).1.selfCheckPending = s.selfCheckPending
      ∧ (s.askReport).1.eraseWindow = s.eraseWindow ∧ (s.askReport).1.chans = s.chans
      ∧ (s.askReport).1.root = s.root ∧ (s.askReport).1.slots = s.slots ∧ (s.askReport).1.sIn = s.sIn
      ∧ (s.askReport).1.sOut = s.sOut ∧ (s.askReport).1.lRx = s.lRx ∧ (s.askReport).1.lTx = s.lTx
      ∧ (s.askReport).1.engine = s.engine ∧ (s.askReport).1.link = s.link ∧ (s.askReport).1.messenger = s.messenger := by
  unfold State.askReport
  try dsimp only
  (repeat' split) <;> simp

@[simp] theorem State.cycleReport_frame (s : State) :
    (s.cycleReport).pending = s.pending ∧ (s.cycleReport).partState = s.partState ∧ (s.cycleReport).tick = s.tick
      ∧ (s.cycleReport).intervalTicks = s.intervalTicks ∧ (s.cycleReport).selfCheckPending = s.selfCheckPending
      ∧ (s.cycleReport).eraseWindow = s.eraseWindow ∧ (s.cycleReport).chans = s.chans
      ∧ (s.cycleReport).root = s.root ∧ (s.cycleReport).slots = s.slots ∧ (s.cycleReport).sIn = s.sIn
      ∧ (s.cycleReport).sOut = s.sOut ∧ (s.cycleReport).lRx = s.lRx ∧ (s.cycleReport).lTx = s.lTx
      ∧ (s.cycleReport).engine = s.engine ∧ (s.cycleReport).link = s.link ∧ (s.cycleReport).messenger = s.messenger := by
  unfold State.cycleReport
  try dsimp only
  (repeat' split) <;> simp

@[simp] theorem State.endCycle_frame (s : State) :
    (s.endCycle).pending = s.pending ∧ (s.endCycle).partState = s.partState ∧ (s.endCycle).tick = s.tick
      ∧ (s.endCycle).intervalTicks = s.intervalTicks ∧ (s.endCycle).selfCheckPending = s.selfCheckPending
      ∧ (s.endCycle).eraseWindow = s.eraseWindow ∧ (s.endCycle).chans = s.chans ∧ (s.endCycle).root = s.root
      ∧ (s.endCycle).slots = s.slots ∧ (s.endCycle).sIn = s.sIn ∧ (s.endCycle).sOut = s.sOut
      ∧ (s.endCycle).lRx = s.lRx ∧ (s.endCycle).lTx = s.lTx ∧ (s.endCycle).engine = s.engine
      ∧ (s.endCycle).link = s.link ∧ (s.endCycle).messenger = s.messenger := by
  unfold State.endCycle
  try dsimp only
  (repeat' split) <;> simp

/-- A reply timer that expires below attempt 3 ends no exchange. -/
@[simp] theorem State.expireReply_below (c : Nat) (s : State) (h : (s.ctx c).attempt < 3) :
    (s.expireReply c).root = s.root ∧ (s.expireReply c).slots = s.slots ∧ (s.expireReply c).engine = s.engine
      ∧ (s.expireReply c).messenger = s.messenger := by
  unfold State.expireReply
  simp only [h, if_true]
  split <;> simp

@[simp] theorem State.takeComposition_frame (s : State) :
    (s.takeComposition).pending = s.pending ∧ (s.takeComposition).partState = s.partState
      ∧ (s.takeComposition).tick = s.tick ∧ (s.takeComposition).intervalTicks = s.intervalTicks
      ∧ (s.takeComposition).selfCheckPending = s.selfCheckPending ∧ (s.takeComposition).eraseWindow = s.eraseWindow
      ∧ (s.takeComposition).chans = s.chans ∧ (s.takeComposition).root = s.root ∧ (s.takeComposition).slots = s.slots
      ∧ (s.takeComposition).sIn = s.sIn ∧ (s.takeComposition).sOut = s.sOut ∧ (s.takeComposition).lRx = s.lRx
      ∧ (s.takeComposition).lTx = s.lTx ∧ (s.takeComposition).engine = s.engine ∧ (s.takeComposition).link = s.link := by
  unfold State.takeComposition State.compositionEvent State.asksComposition
  (repeat' split) <;> simp_all

@[simp] theorem State.ageTest_reads (x : Nat) (s : State) :
    (∀ z, (s.ageTest x).chan z = s.chan z) ∧ (∀ z, (s.ageTest x).burst z = s.burst z) := by
  simp [State.chan, State.burst]

@[simp] theorem State.graceTest_reads (x : Nat) (s : State) :
    (∀ z, (s.graceTest x).burst z = s.burst z) := by
  simp [State.burst]

@[simp] theorem State.endBurst_reads (x : Nat) (s : State) :
    (∀ z, (s.endBurst x).chan z = s.chan z) ∧ (∀ z, (s.endBurst x).slot z = s.slot z)
      ∧ (∀ z, (s.endBurst x).ctx z = s.ctx z) ∧ (∀ z, (s.endBurst x).backoff z = s.backoff z) := by
  simp [State.chan, State.slot, State.ctx, State.backoff]

@[simp] theorem State.endOverrun_reads (p : Port) (s : State) :
    (∀ z, (s.endOverrun p).chan z = s.chan z) ∧ (∀ z, (s.endOverrun p).slot z = s.slot z)
      ∧ (∀ z, (s.endOverrun p).ctx z = s.ctx z) ∧ (∀ z, (s.endOverrun p).backoff z = s.backoff z)
      ∧ (∀ z, (s.endOverrun p).burst z = s.burst z) := by
  simp [State.chan, State.slot, State.ctx, State.backoff, State.burst]

@[simp] theorem State.endLink_reads (s : State) :
    (∀ z, (s.endLink).chan z = s.chan z) ∧ (∀ z, (s.endLink).slot z = s.slot z)
      ∧ (∀ z, (s.endLink).ctx z = s.ctx z) ∧ (∀ z, (s.endLink).backoff z = s.backoff z)
      ∧ (∀ z, (s.endLink).burst z = s.burst z) := by
  simp [State.chan, State.slot, State.ctx, State.backoff, State.burst]

@[simp] theorem State.clearIntervalCounts_reads (s : State) :
    (∀ z, (s.clearIntervalCounts).chan z = s.chan z) ∧ (∀ z, (s.clearIntervalCounts).ctx z = s.ctx z)
      ∧ (∀ z, (s.clearIntervalCounts).backoff z = s.backoff z)
      ∧ (∀ z, (s.clearIntervalCounts).burst z = s.burst z) := by
  simp [State.chan, State.ctx, State.backoff, State.burst]

@[simp] theorem State.endInterval_reads (s : State) :
    (∀ z, (s.endInterval).chan z = s.chan z) := by
  simp [State.chan]

@[simp] theorem State.expireWindow_reads (s : State) :
    (∀ z, (s.expireWindow).chan z = s.chan z) ∧ (∀ z, (s.expireWindow).slot z = s.slot z)
      ∧ (∀ z, (s.expireWindow).ctx z = s.ctx z) ∧ (∀ z, (s.expireWindow).backoff z = s.backoff z)
      ∧ (∀ z, (s.expireWindow).burst z = s.burst z) := by
  simp [State.chan, State.slot, State.ctx, State.backoff, State.burst]

@[simp] theorem State.expireQuiet_reads (s : State) :
    (∀ z, (s.expireQuiet).chan z = s.chan z) ∧ (∀ z, (s.expireQuiet).slot z = s.slot z)
      ∧ (∀ z, (s.expireQuiet).ctx z = s.ctx z) ∧ (∀ z, (s.expireQuiet).backoff z = s.backoff z)
      ∧ (∀ z, (s.expireQuiet).burst z = s.burst z) := by
  simp [State.chan, State.slot, State.ctx, State.backoff, State.burst]

@[simp] theorem State.expireReply_reads (c : Nat) (s : State) :
    (∀ z, (s.expireReply c).chan z = s.chan z) := by
  simp [State.chan]

@[simp] theorem State.endBackoff_reads (x : Nat) (s : State) :
    (∀ z, (s.endBackoff x).chan z = s.chan z) ∧ (∀ z, (s.endBackoff x).burst z = s.burst z) := by
  simp [State.chan, State.burst]

@[simp] theorem State.endBootBackoff_reads (s : State) :
    (∀ z, (s.endBootBackoff).chan z = s.chan z) ∧ (∀ z, (s.endBootBackoff).burst z = s.burst z) := by
  simp [State.chan, State.burst]

@[simp] theorem State.retryCompose_reads (c : Nat) (s : State) :
    (∀ z, (s.retryCompose c).chan z = s.chan z) ∧ (∀ z, (s.retryCompose c).slot z = s.slot z)
      ∧ (∀ z, (s.retryCompose c).burst z = s.burst z) := by
  simp [State.chan, State.slot, State.burst]

@[simp] theorem State.relistBoot_reads (s : State) :
    (∀ z, (s.relistBoot).chan z = s.chan z) ∧ (∀ z, (s.relistBoot).burst z = s.burst z) := by
  simp [State.chan, State.burst]

@[simp] theorem State.askReport_reads (s : State) :
    (∀ z, (s.askReport).1.chan z = s.chan z) ∧ (∀ z, (s.askReport).1.slot z = s.slot z)
      ∧ (∀ z, (s.askReport).1.burst z = s.burst z) := by
  simp [State.chan, State.slot, State.burst]

@[simp] theorem State.cycleReport_reads (s : State) :
    (∀ z, (s.cycleReport).chan z = s.chan z) ∧ (∀ z, (s.cycleReport).slot z = s.slot z)
      ∧ (∀ z, (s.cycleReport).burst z = s.burst z) := by
  simp [State.chan, State.slot, State.burst]

@[simp] theorem State.endCycle_reads (s : State) :
    (∀ z, (s.endCycle).chan z = s.chan z) ∧ (∀ z, (s.endCycle).slot z = s.slot z)
      ∧ (∀ z, (s.endCycle).burst z = s.burst z) := by
  simp [State.chan, State.slot, State.burst]

end Sys2Proof.Machine
end

