-- ==== Sys2Proof/Laws/Engines.lean ====
section
/-! SUPPORT. Frames of the engine's starts and completions: which fields each leaves as they were. -/

namespace Sys2Proof.Machine

@[simp] theorem State.respond_frame (p : Port) (st : Status) (ws : List Word) (s : State) :
    (s.respond p st ws).pending = s.pending ∧ (s.respond p st ws).partState = s.partState
      ∧ (s.respond p st ws).tick = s.tick ∧ (s.respond p st ws).intervalTicks = s.intervalTicks
      ∧ (s.respond p st ws).selfCheckPending = s.selfCheckPending ∧ (s.respond p st ws).eraseWindow = s.eraseWindow
      ∧ (s.respond p st ws).chans = s.chans ∧ (s.respond p st ws).root = s.root
      ∧ (s.respond p st ws).slots = s.slots ∧ (s.respond p st ws).pool = s.pool ∧ (s.respond p st ws).sIn = s.sIn
      ∧ (s.respond p st ws).sOut = s.sOut ∧ (s.respond p st ws).lRx = s.lRx ∧ (s.respond p st ws).lTx = s.lTx
      ∧ (s.respond p st ws).ctrl = s.ctrl ∧ (s.respond p st ws).engine = s.engine
      ∧ (s.respond p st ws).link = s.link ∧ (s.respond p st ws).messenger = s.messenger
      ∧ (s.respond p st ws).renewal = s.renewal ∧ (s.respond p st ws).faults = s.faults
      ∧ (s.respond p st ws).beacon = s.beacon := by
  simp [State.respond]

@[simp] theorem State.enterBootstrap_frame (s : State) :
    (s.enterBootstrap).pending = s.pending ∧ (s.enterBootstrap).tick = s.tick
      ∧ (s.enterBootstrap).intervalTicks = s.intervalTicks
      ∧ (s.enterBootstrap).selfCheckPending = s.selfCheckPending ∧ (s.enterBootstrap).eraseWindow = s.eraseWindow
      ∧ (s.enterBootstrap).chans = s.chans ∧ (s.enterBootstrap).root = s.root ∧ (s.enterBootstrap).pool = s.pool
      ∧ (s.enterBootstrap).sIn = s.sIn ∧ (s.enterBootstrap).sOut = s.sOut ∧ (s.enterBootstrap).lRx = s.lRx
      ∧ (s.enterBootstrap).lTx = s.lTx ∧ (s.enterBootstrap).ctrl = s.ctrl ∧ (s.enterBootstrap).engine = s.engine
      ∧ (s.enterBootstrap).link = s.link ∧ (s.enterBootstrap).messenger = s.messenger
      ∧ (s.enterBootstrap).faults = s.faults ∧ (s.enterBootstrap).beacon = s.beacon
      ∧ (s.enterBootstrap).sPort = s.sPort ∧ (s.enterBootstrap).lPort = s.lPort := by
  simp [State.enterBootstrap]

@[simp] theorem State.endCommand_frame (p : Port) (s : State) :
    (s.endCommand p).pending = s.pending ∧ (s.endCommand p).partState = s.partState ∧ (s.endCommand p).tick = s.tick
      ∧ (s.endCommand p).intervalTicks = s.intervalTicks ∧ (s.endCommand p).selfCheckPending = s.selfCheckPending
      ∧ (s.endCommand p).eraseWindow = s.eraseWindow ∧ (s.endCommand p).chans = s.chans
      ∧ (s.endCommand p).root = s.root ∧ (s.endCommand p).slots = s.slots ∧ (s.endCommand p).pool = s.pool
      ∧ (s.endCommand p).sIn = s.sIn ∧ (s.endCommand p).sOut = s.sOut ∧ (s.endCommand p).lRx = s.lRx
      ∧ (s.endCommand p).lTx = s.lTx ∧ (s.endCommand p).ctrl = s.ctrl ∧ (s.endCommand p).engine = s.engine
      ∧ (s.endCommand p).link = s.link ∧ (s.endCommand p).messenger = s.messenger
      ∧ (s.endCommand p).renewal = s.renewal ∧ (s.endCommand p).faults = s.faults
      ∧ (s.endCommand p).beacon = s.beacon := by
  unfold State.endCommand
  try dsimp only
  (repeat' split) <;> simp

@[simp] theorem State.resetPorts_frame (s : State) :
    (s.resetPorts).pending = s.pending ∧ (s.resetPorts).partState = s.partState ∧ (s.resetPorts).tick = s.tick
      ∧ (s.resetPorts).intervalTicks = s.intervalTicks ∧ (s.resetPorts).selfCheckPending = s.selfCheckPending
      ∧ (s.resetPorts).eraseWindow = s.eraseWindow ∧ (s.resetPorts).chans = s.chans ∧ (s.resetPorts).root = s.root
      ∧ (s.resetPorts).slots = s.slots ∧ (s.resetPorts).pool = s.pool ∧ (s.resetPorts).sIn = s.sIn
      ∧ (s.resetPorts).sOut = s.sOut ∧ (s.resetPorts).lRx = s.lRx ∧ (s.resetPorts).lTx = s.lTx
      ∧ (s.resetPorts).ctrl = s.ctrl ∧ (s.resetPorts).engine = s.engine ∧ (s.resetPorts).link = s.link
      ∧ (s.resetPorts).messenger = s.messenger ∧ (s.resetPorts).renewal = s.renewal
      ∧ (s.resetPorts).faults = s.faults ∧ (s.resetPorts).beacon = s.beacon := by
  simp [State.resetPorts]

@[simp] theorem State.markChannel_frame (i : Nat) (s : State) :
    (s.markChannel i).pending = s.pending ∧ (s.markChannel i).partState = s.partState
      ∧ (s.markChannel i).tick = s.tick ∧ (s.markChannel i).intervalTicks = s.intervalTicks
      ∧ (s.markChannel i).selfCheckPending = s.selfCheckPending ∧ (s.markChannel i).eraseWindow = s.eraseWindow
      ∧ (s.markChannel i).root = s.root ∧ (s.markChannel i).slots = s.slots ∧ (s.markChannel i).pool = s.pool
      ∧ (s.markChannel i).sIn = s.sIn ∧ (s.markChannel i).sOut = s.sOut ∧ (s.markChannel i).lRx = s.lRx
      ∧ (s.markChannel i).lTx = s.lTx ∧ (s.markChannel i).ctrl = s.ctrl ∧ (s.markChannel i).engine = s.engine
      ∧ (s.markChannel i).link = s.link ∧ (s.markChannel i).messenger = s.messenger
      ∧ (s.markChannel i).renewal = s.renewal ∧ (s.markChannel i).faults = s.faults
      ∧ (s.markChannel i).beacon = s.beacon ∧ (s.markChannel i).sPort = s.sPort ∧ (s.markChannel i).lPort = s.lPort := by
  simp [State.markChannel]

@[simp] theorem State.markSlot_frame (x : Nat) (s : State) :
    (s.markSlot x).pending = s.pending ∧ (s.markSlot x).partState = s.partState ∧ (s.markSlot x).tick = s.tick
      ∧ (s.markSlot x).intervalTicks = s.intervalTicks ∧ (s.markSlot x).selfCheckPending = s.selfCheckPending
      ∧ (s.markSlot x).eraseWindow = s.eraseWindow ∧ (s.markSlot x).chans = s.chans ∧ (s.markSlot x).root = s.root
      ∧ (s.markSlot x).pool = s.pool ∧ (s.markSlot x).sIn = s.sIn ∧ (s.markSlot x).sOut = s.sOut
      ∧ (s.markSlot x).lRx = s.lRx ∧ (s.markSlot x).lTx = s.lTx ∧ (s.markSlot x).ctrl = s.ctrl
      ∧ (s.markSlot x).engine = s.engine ∧ (s.markSlot x).link = s.link ∧ (s.markSlot x).messenger = s.messenger
      ∧ (s.markSlot x).renewal = s.renewal ∧ (s.markSlot x).faults = s.faults ∧ (s.markSlot x).beacon = s.beacon
      ∧ (s.markSlot x).sPort = s.sPort ∧ (s.markSlot x).lPort = s.lPort := by
  simp [State.markSlot]

@[simp] theorem State.refuseFrame_frame (f : ShopFrame) (r : RefuseReason) (s : State) :
    (s.refuseFrame f r).pending = s.pending ∧ (s.refuseFrame f r).partState = s.partState
      ∧ (s.refuseFrame f r).tick = s.tick ∧ (s.refuseFrame f r).intervalTicks = s.intervalTicks
      ∧ (s.refuseFrame f r).selfCheckPending = s.selfCheckPending ∧ (s.refuseFrame f r).eraseWindow = s.eraseWindow
      ∧ (s.refuseFrame f r).root = s.root ∧ (s.refuseFrame f r).slots = s.slots ∧ (s.refuseFrame f r).sIn = s.sIn
      ∧ (s.refuseFrame f r).lRx = s.lRx ∧ (s.refuseFrame f r).lTx = s.lTx ∧ (s.refuseFrame f r).ctrl = s.ctrl
      ∧ (s.refuseFrame f r).engine = s.engine ∧ (s.refuseFrame f r).link = s.link
      ∧ (s.refuseFrame f r).messenger = s.messenger ∧ (s.refuseFrame f r).renewal = s.renewal := by
  unfold State.refuseFrame
  try dsimp only
  (repeat' split) <;> simp

@[simp] theorem State.startFrame_frame (f : ShopFrame) (s : State) :
    (s.startFrame f).pending = s.pending ∧ (s.startFrame f).partState = s.partState ∧ (s.startFrame f).tick = s.tick
      ∧ (s.startFrame f).intervalTicks = s.intervalTicks ∧ (s.startFrame f).selfCheckPending = s.selfCheckPending
      ∧ (s.startFrame f).eraseWindow = s.eraseWindow ∧ (s.startFrame f).root = s.root ∧ (s.startFrame f).sIn = s.sIn
      ∧ (s.startFrame f).lRx = s.lRx ∧ (s.startFrame f).lTx = s.lTx ∧ (s.startFrame f).ctrl = s.ctrl
      ∧ (s.startFrame f).link = s.link ∧ (s.startFrame f).messenger = s.messenger := by
  unfold State.startFrame
  try dsimp only
  (repeat' split) <;> simp

@[simp] theorem State.startData_frame (s : State) :
    (s.startData).pending = s.pending ∧ (s.startData).partState = s.partState ∧ (s.startData).tick = s.tick
      ∧ (s.startData).intervalTicks = s.intervalTicks ∧ (s.startData).selfCheckPending = s.selfCheckPending
      ∧ (s.startData).eraseWindow = s.eraseWindow ∧ (s.startData).root = s.root ∧ (s.startData).lRx = s.lRx
      ∧ (s.startData).lTx = s.lTx ∧ (s.startData).ctrl = s.ctrl ∧ (s.startData).link = s.link
      ∧ (s.startData).messenger = s.messenger := by
  unfold State.startData
  try dsimp only
  (repeat' split) <;> simp

@[simp] theorem State.launchControl_frame (m : CtrlMsg) (k : WorkKey) (n : Nat) (s : State) :
    (s.launchControl m k n).pending = s.pending ∧ (s.launchControl m k n).partState = s.partState
      ∧ (s.launchControl m k n).tick = s.tick ∧ (s.launchControl m k n).intervalTicks = s.intervalTicks
      ∧ (s.launchControl m k n).selfCheckPending = s.selfCheckPending
      ∧ (s.launchControl m k n).eraseWindow = s.eraseWindow ∧ (s.launchControl m k n).root = s.root
      ∧ (s.launchControl m k n).slots = s.slots ∧ (s.launchControl m k n).pool = s.pool
      ∧ (s.launchControl m k n).sIn = s.sIn ∧ (s.launchControl m k n).sOut = s.sOut
      ∧ (s.launchControl m k n).lRx = s.lRx ∧ (s.launchControl m k n).lTx = s.lTx
      ∧ (s.launchControl m k n).ctrl = s.ctrl ∧ (s.launchControl m k n).link = s.link
      ∧ (s.launchControl m k n).messenger = s.messenger ∧ (s.launchControl m k n).renewal = s.renewal
      ∧ (s.launchControl m k n).faults = s.faults ∧ (s.launchControl m k n).beacon = s.beacon
      ∧ (s.launchControl m k n).sPort = s.sPort ∧ (s.launchControl m k n).lPort = s.lPort := by
  simp [State.launchControl]

@[simp] theorem State.startUnderRoot_frame (m : CtrlMsg) (s : State) :
    (s.startUnderRoot m).pending = s.pending ∧ (s.startUnderRoot m).partState = s.partState
      ∧ (s.startUnderRoot m).tick = s.tick ∧ (s.startUnderRoot m).intervalTicks = s.intervalTicks
      ∧ (s.startUnderRoot m).selfCheckPending = s.selfCheckPending
      ∧ (s.startUnderRoot m).eraseWindow = s.eraseWindow ∧ (s.startUnderRoot m).slots = s.slots
      ∧ (s.startUnderRoot m).sIn = s.sIn ∧ (s.startUnderRoot m).sOut = s.sOut ∧ (s.startUnderRoot m).lRx = s.lRx
      ∧ (s.startUnderRoot m).lTx = s.lTx ∧ (s.startUnderRoot m).ctrl = s.ctrl ∧ (s.startUnderRoot m).link = s.link
      ∧ (s.startUnderRoot m).messenger = s.messenger := by
  unfold State.startUnderRoot
  try dsimp only
  (repeat' split) <;> simp

@[simp] theorem State.startMessage_frame (m : CtrlMsg) (s : State) :
    (s.startMessage m).pending = s.pending ∧ (s.startMessage m).partState = s.partState
      ∧ (s.startMessage m).tick = s.tick ∧ (s.startMessage m).intervalTicks = s.intervalTicks
      ∧ (s.startMessage m).selfCheckPending = s.selfCheckPending ∧ (s.startMessage m).eraseWindow = s.eraseWindow
      ∧ (s.startMessage m).sIn = s.sIn ∧ (s.startMessage m).sOut = s.sOut ∧ (s.startMessage m).lRx = s.lRx
      ∧ (s.startMessage m).lTx = s.lTx ∧ (s.startMessage m).ctrl = s.ctrl ∧ (s.startMessage m).link = s.link
      ∧ (s.startMessage m).messenger = s.messenger := by
  unfold State.startMessage
  try dsimp only
  (repeat' split) <;> simp

@[simp] theorem State.startControl_frame (s : State) :
    (s.startControl).pending = s.pending ∧ (s.startControl).partState = s.partState ∧ (s.startControl).tick = s.tick
      ∧ (s.startControl).intervalTicks = s.intervalTicks ∧ (s.startControl).selfCheckPending = s.selfCheckPending
      ∧ (s.startControl).eraseWindow = s.eraseWindow ∧ (s.startControl).sIn = s.sIn ∧ (s.startControl).sOut = s.sOut
      ∧ (s.startControl).lRx = s.lRx ∧ (s.startControl).lTx = s.lTx ∧ (s.startControl).link = s.link
      ∧ (s.startControl).messenger = s.messenger := by
  unfold State.startControl
  try dsimp only
  (repeat' split) <;> simp

@[simp] theorem State.updateWindow_frame (k : FoundKey) (n : Nat) (s : State) :
    (s.updateWindow k n).pending = s.pending ∧ (s.updateWindow k n).partState = s.partState
      ∧ (s.updateWindow k n).tick = s.tick ∧ (s.updateWindow k n).intervalTicks = s.intervalTicks
      ∧ (s.updateWindow k n).selfCheckPending = s.selfCheckPending
      ∧ (s.updateWindow k n).eraseWindow = s.eraseWindow ∧ (s.updateWindow k n).chans = s.chans
      ∧ (s.updateWindow k n).root = s.root ∧ (s.updateWindow k n).pool = s.pool ∧ (s.updateWindow k n).sIn = s.sIn
      ∧ (s.updateWindow k n).sOut = s.sOut ∧ (s.updateWindow k n).lRx = s.lRx ∧ (s.updateWindow k n).lTx = s.lTx
      ∧ (s.updateWindow k n).ctrl = s.ctrl ∧ (s.updateWindow k n).engine = s.engine
      ∧ (s.updateWindow k n).link = s.link ∧ (s.updateWindow k n).messenger = s.messenger
      ∧ (s.updateWindow k n).renewal = s.renewal ∧ (s.updateWindow k n).faults = s.faults
      ∧ (s.updateWindow k n).beacon = s.beacon ∧ (s.updateWindow k n).sPort = s.sPort
      ∧ (s.updateWindow k n).lPort = s.lPort := by
  unfold State.updateWindow
  try dsimp only
  (repeat' split) <;> simp

@[simp] theorem State.reportValid_frame (s : State) :
    (s.reportValid).pending = s.pending ∧ (s.reportValid).partState = s.partState ∧ (s.reportValid).tick = s.tick
      ∧ (s.reportValid).intervalTicks = s.intervalTicks ∧ (s.reportValid).selfCheckPending = s.selfCheckPending
      ∧ (s.reportValid).eraseWindow = s.eraseWindow ∧ (s.reportValid).chans = s.chans
      ∧ (s.reportValid).root = s.root ∧ (s.reportValid).slots = s.slots ∧ (s.reportValid).pool = s.pool
      ∧ (s.reportValid).sIn = s.sIn ∧ (s.reportValid).sOut = s.sOut ∧ (s.reportValid).lRx = s.lRx
      ∧ (s.reportValid).lTx = s.lTx ∧ (s.reportValid).ctrl = s.ctrl ∧ (s.reportValid).engine = s.engine
      ∧ (s.reportValid).messenger = s.messenger ∧ (s.reportValid).renewal = s.renewal := by
  unfold State.reportValid
  try dsimp only
  (repeat' split) <;> simp

@[simp] theorem State.countMalformed_frame (s : State) :
    (s.countMalformed).pending = s.pending ∧ (s.countMalformed).partState = s.partState
      ∧ (s.countMalformed).tick = s.tick ∧ (s.countMalformed).intervalTicks = s.intervalTicks
      ∧ (s.countMalformed).selfCheckPending = s.selfCheckPending ∧ (s.countMalformed).eraseWindow = s.eraseWindow
      ∧ (s.countMalformed).chans = s.chans ∧ (s.countMalformed).root = s.root ∧ (s.countMalformed).slots = s.slots
      ∧ (s.countMalformed).pool = s.pool ∧ (s.countMalformed).sIn = s.sIn ∧ (s.countMalformed).sOut = s.sOut
      ∧ (s.countMalformed).lRx = s.lRx ∧ (s.countMalformed).lTx = s.lTx ∧ (s.countMalformed).ctrl = s.ctrl
      ∧ (s.countMalformed).engine = s.engine ∧ (s.countMalformed).messenger = s.messenger
      ∧ (s.countMalformed).renewal = s.renewal := by
  unfold State.countMalformed
  try dsimp only
  (repeat' split) <;> simp

@[simp] theorem State.countForeign_frame (s : State) :
    (s.countForeign).pending = s.pending ∧ (s.countForeign).partState = s.partState ∧ (s.countForeign).tick = s.tick
      ∧ (s.countForeign).intervalTicks = s.intervalTicks ∧ (s.countForeign).selfCheckPending = s.selfCheckPending
      ∧ (s.countForeign).eraseWindow = s.eraseWindow ∧ (s.countForeign).chans = s.chans
      ∧ (s.countForeign).root = s.root ∧ (s.countForeign).slots = s.slots ∧ (s.countForeign).pool = s.pool
      ∧ (s.countForeign).sIn = s.sIn ∧ (s.countForeign).sOut = s.sOut ∧ (s.countForeign).lRx = s.lRx
      ∧ (s.countForeign).lTx = s.lTx ∧ (s.countForeign).ctrl = s.ctrl ∧ (s.countForeign).engine = s.engine
      ∧ (s.countForeign).messenger = s.messenger ∧ (s.countForeign).renewal = s.renewal
      ∧ (s.countForeign).faults = s.faults ∧ (s.countForeign).beacon = s.beacon ∧ (s.countForeign).sPort = s.sPort
      ∧ (s.countForeign).lPort = s.lPort := by
  simp [State.countForeign]

@[simp] theorem State.countReplay_frame (x : Nat) (s : State) :
    (s.countReplay x).pending = s.pending ∧ (s.countReplay x).partState = s.partState
      ∧ (s.countReplay x).tick = s.tick ∧ (s.countReplay x).intervalTicks = s.intervalTicks
      ∧ (s.countReplay x).selfCheckPending = s.selfCheckPending ∧ (s.countReplay x).eraseWindow = s.eraseWindow
      ∧ (s.countReplay x).chans = s.chans ∧ (s.countReplay x).root = s.root ∧ (s.countReplay x).pool = s.pool
      ∧ (s.countReplay x).sIn = s.sIn ∧ (s.countReplay x).sOut = s.sOut ∧ (s.countReplay x).lRx = s.lRx
      ∧ (s.countReplay x).lTx = s.lTx ∧ (s.countReplay x).ctrl = s.ctrl ∧ (s.countReplay x).link = s.link
      ∧ (s.countReplay x).messenger = s.messenger ∧ (s.countReplay x).renewal = s.renewal := by
  unfold State.countReplay
  try dsimp only
  (repeat' split) <;> simp

@[simp] theorem State.countTagFailure_frame (x : Nat) (s : State) :
    (s.countTagFailure x).pending = s.pending ∧ (s.countTagFailure x).partState = s.partState
      ∧ (s.countTagFailure x).tick = s.tick ∧ (s.countTagFailure x).intervalTicks = s.intervalTicks
      ∧ (s.countTagFailure x).selfCheckPending = s.selfCheckPending
      ∧ (s.countTagFailure x).eraseWindow = s.eraseWindow ∧ (s.countTagFailure x).chans = s.chans
      ∧ (s.countTagFailure x).root = s.root ∧ (s.countTagFailure x).pool = s.pool
      ∧ (s.countTagFailure x).sIn = s.sIn ∧ (s.countTagFailure x).sOut = s.sOut ∧ (s.countTagFailure x).lRx = s.lRx
      ∧ (s.countTagFailure x).lTx = s.lTx ∧ (s.countTagFailure x).ctrl = s.ctrl
      ∧ (s.countTagFailure x).engine = s.engine ∧ (s.countTagFailure x).link = s.link
      ∧ (s.countTagFailure x).messenger = s.messenger := by
  unfold State.countTagFailure
  try dsimp only
  (repeat' split) <;> simp

@[simp] theorem State.discardExtra_frame (r : Discard) (k : Option FoundKey) (s : State) :
    (s.discardExtra r k).pending = s.pending ∧ (s.discardExtra r k).partState = s.partState
      ∧ (s.discardExtra r k).tick = s.tick ∧ (s.discardExtra r k).intervalTicks = s.intervalTicks
      ∧ (s.discardExtra r k).selfCheckPending = s.selfCheckPending
      ∧ (s.discardExtra r k).eraseWindow = s.eraseWindow ∧ (s.discardExtra r k).chans = s.chans
      ∧ (s.discardExtra r k).root = s.root ∧ (s.discardExtra r k).pool = s.pool ∧ (s.discardExtra r k).sIn = s.sIn
      ∧ (s.discardExtra r k).sOut = s.sOut ∧ (s.discardExtra r k).lRx = s.lRx ∧ (s.discardExtra r k).lTx = s.lTx
      ∧ (s.discardExtra r k).ctrl = s.ctrl ∧ (s.discardExtra r k).messenger = s.messenger := by
  unfold State.discardExtra
  try dsimp only
  (repeat' split) <;> simp

@[simp] theorem State.discardFrame_frame (r : Discard) (i : Nat) (k : Option FoundKey) (s : State) :
    (s.discardFrame r i k).pending = s.pending ∧ (s.discardFrame r i k).partState = s.partState
      ∧ (s.discardFrame r i k).tick = s.tick ∧ (s.discardFrame r i k).intervalTicks = s.intervalTicks
      ∧ (s.discardFrame r i k).selfCheckPending = s.selfCheckPending
      ∧ (s.discardFrame r i k).eraseWindow = s.eraseWindow ∧ (s.discardFrame r i k).root = s.root
      ∧ (s.discardFrame r i k).sIn = s.sIn ∧ (s.discardFrame r i k).sOut = s.sOut
      ∧ (s.discardFrame r i k).lRx = s.lRx ∧ (s.discardFrame r i k).lTx = s.lTx
      ∧ (s.discardFrame r i k).ctrl = s.ctrl ∧ (s.discardFrame r i k).messenger = s.messenger := by
  unfold State.discardFrame
  try dsimp only
  (repeat' split) <;> simp

@[simp] theorem State.launchInbound_frame (f : LineIn) (k : FoundKey) (i : Nat) (s : State) :
    (s.launchInbound f k i).pending = s.pending ∧ (s.launchInbound f k i).partState = s.partState
      ∧ (s.launchInbound f k i).tick = s.tick ∧ (s.launchInbound f k i).intervalTicks = s.intervalTicks
      ∧ (s.launchInbound f k i).selfCheckPending = s.selfCheckPending
      ∧ (s.launchInbound f k i).eraseWindow = s.eraseWindow ∧ (s.launchInbound f k i).root = s.root
      ∧ (s.launchInbound f k i).pool = s.pool ∧ (s.launchInbound f k i).sIn = s.sIn
      ∧ (s.launchInbound f k i).sOut = s.sOut ∧ (s.launchInbound f k i).lRx = s.lRx
      ∧ (s.launchInbound f k i).lTx = s.lTx ∧ (s.launchInbound f k i).ctrl = s.ctrl
      ∧ (s.launchInbound f k i).link = s.link := by
  unfold State.launchInbound
  try dsimp only
  (repeat' split) <;> simp

@[simp] theorem State.checkKey_frame (f : LineIn) (i : Nat) (s : State) :
    (s.checkKey f i).pending = s.pending ∧ (s.checkKey f i).partState = s.partState ∧ (s.checkKey f i).tick = s.tick
      ∧ (s.checkKey f i).intervalTicks = s.intervalTicks ∧ (s.checkKey f i).selfCheckPending = s.selfCheckPending
      ∧ (s.checkKey f i).eraseWindow = s.eraseWindow ∧ (s.checkKey f i).root = s.root ∧ (s.checkKey f i).sIn = s.sIn
      ∧ (s.checkKey f i).sOut = s.sOut ∧ (s.checkKey f i).lRx = s.lRx ∧ (s.checkKey f i).lTx = s.lTx
      ∧ (s.checkKey f i).ctrl = s.ctrl := by
  unfold State.checkKey
  try dsimp only
  (repeat' split) <;> simp

@[simp] theorem State.checkInbound_frame (f : LineIn) (s : State) :
    (s.checkInbound f).pending = s.pending ∧ (s.checkInbound f).partState = s.partState
      ∧ (s.checkInbound f).tick = s.tick ∧ (s.checkInbound f).intervalTicks = s.intervalTicks
      ∧ (s.checkInbound f).selfCheckPending = s.selfCheckPending ∧ (s.checkInbound f).eraseWindow = s.eraseWindow
      ∧ (s.checkInbound f).root = s.root ∧ (s.checkInbound f).sIn = s.sIn ∧ (s.checkInbound f).sOut = s.sOut
      ∧ (s.checkInbound f).lRx = s.lRx ∧ (s.checkInbound f).lTx = s.lTx ∧ (s.checkInbound f).ctrl = s.ctrl := by
  unfold State.checkInbound
  try dsimp only
  (repeat' split) <;> simp

@[simp] theorem State.startInbound_frame (s : State) :
    (s.startInbound).pending = s.pending ∧ (s.startInbound).partState = s.partState ∧ (s.startInbound).tick = s.tick
      ∧ (s.startInbound).intervalTicks = s.intervalTicks ∧ (s.startInbound).selfCheckPending = s.selfCheckPending
      ∧ (s.startInbound).eraseWindow = s.eraseWindow ∧ (s.startInbound).root = s.root ∧ (s.startInbound).sIn = s.sIn
      ∧ (s.startInbound).sOut = s.sOut ∧ (s.startInbound).lTx = s.lTx ∧ (s.startInbound).ctrl = s.ctrl := by
  unfold State.startInbound
  try dsimp only
  (repeat' split) <;> simp

@[simp] theorem State.startTest_frame (s : State) :
    (s.startTest).pending = s.pending ∧ (s.startTest).partState = s.partState ∧ (s.startTest).tick = s.tick
      ∧ (s.startTest).intervalTicks = s.intervalTicks ∧ (s.startTest).selfCheckPending = s.selfCheckPending
      ∧ (s.startTest).eraseWindow = s.eraseWindow ∧ (s.startTest).chans = s.chans ∧ (s.startTest).root = s.root
      ∧ (s.startTest).slots = s.slots ∧ (s.startTest).pool = s.pool ∧ (s.startTest).sIn = s.sIn
      ∧ (s.startTest).sOut = s.sOut ∧ (s.startTest).lRx = s.lRx ∧ (s.startTest).lTx = s.lTx
      ∧ (s.startTest).ctrl = s.ctrl ∧ (s.startTest).link = s.link ∧ (s.startTest).messenger = s.messenger
      ∧ (s.startTest).renewal = s.renewal ∧ (s.startTest).faults = s.faults ∧ (s.startTest).beacon = s.beacon
      ∧ (s.startTest).sPort = s.sPort ∧ (s.startTest).lPort = s.lPort := by
  unfold State.startTest
  try dsimp only
  (repeat' split) <;> simp

@[simp] theorem State.startSelfCheck_frame (s : State) :
    (s.startSelfCheck).pending = s.pending ∧ (s.startSelfCheck).partState = s.partState
      ∧ (s.startSelfCheck).tick = s.tick ∧ (s.startSelfCheck).intervalTicks = s.intervalTicks
      ∧ (s.startSelfCheck).eraseWindow = s.eraseWindow ∧ (s.startSelfCheck).chans = s.chans
      ∧ (s.startSelfCheck).root = s.root ∧ (s.startSelfCheck).slots = s.slots ∧ (s.startSelfCheck).pool = s.pool
      ∧ (s.startSelfCheck).sIn = s.sIn ∧ (s.startSelfCheck).sOut = s.sOut ∧ (s.startSelfCheck).lRx = s.lRx
      ∧ (s.startSelfCheck).lTx = s.lTx ∧ (s.startSelfCheck).ctrl = s.ctrl ∧ (s.startSelfCheck).link = s.link
      ∧ (s.startSelfCheck).messenger = s.messenger ∧ (s.startSelfCheck).renewal = s.renewal
      ∧ (s.startSelfCheck).faults = s.faults ∧ (s.startSelfCheck).beacon = s.beacon
      ∧ (s.startSelfCheck).sPort = s.sPort ∧ (s.startSelfCheck).lPort = s.lPort := by
  unfold State.startSelfCheck
  try dsimp only
  (repeat' split) <;> simp

@[simp] theorem State.endFlight_frame (i : Nat) (k : KeyRef) (s : State) :
    (s.endFlight i k).pending = s.pending ∧ (s.endFlight i k).partState = s.partState
      ∧ (s.endFlight i k).tick = s.tick ∧ (s.endFlight i k).intervalTicks = s.intervalTicks
      ∧ (s.endFlight i k).selfCheckPending = s.selfCheckPending ∧ (s.endFlight i k).eraseWindow = s.eraseWindow
      ∧ (s.endFlight i k).pool = s.pool ∧ (s.endFlight i k).sIn = s.sIn ∧ (s.endFlight i k).sOut = s.sOut
      ∧ (s.endFlight i k).lRx = s.lRx ∧ (s.endFlight i k).lTx = s.lTx ∧ (s.endFlight i k).ctrl = s.ctrl
      ∧ (s.endFlight i k).link = s.link ∧ (s.endFlight i k).messenger = s.messenger
      ∧ (s.endFlight i k).renewal = s.renewal := by
  unfold State.endFlight
  try dsimp only
  (repeat' split) <;> simp

@[simp] theorem State.completeOutbound_frame (s : State) :
    (s.completeOutbound).pending = s.pending ∧ (s.completeOutbound).partState = s.partState
      ∧ (s.completeOutbound).tick = s.tick ∧ (s.completeOutbound).intervalTicks = s.intervalTicks
      ∧ (s.completeOutbound).selfCheckPending = s.selfCheckPending
      ∧ (s.completeOutbound).eraseWindow = s.eraseWindow ∧ (s.completeOutbound).pool = s.pool
      ∧ (s.completeOutbound).sIn = s.sIn ∧ (s.completeOutbound).sOut = s.sOut ∧ (s.completeOutbound).lRx = s.lRx
      ∧ (s.completeOutbound).ctrl = s.ctrl ∧ (s.completeOutbound).link = s.link
      ∧ (s.completeOutbound).messenger = s.messenger := by
  unfold State.completeOutbound
  try dsimp only
  (repeat' split) <;> simp

@[simp] theorem State.deliverData_frame (f : LineIn) (k : WorkKey) (i : Nat) (s : State) :
    (s.deliverData f k i).pending = s.pending ∧ (s.deliverData f k i).partState = s.partState
      ∧ (s.deliverData f k i).tick = s.tick ∧ (s.deliverData f k i).intervalTicks = s.intervalTicks
      ∧ (s.deliverData f k i).selfCheckPending = s.selfCheckPending
      ∧ (s.deliverData f k i).eraseWindow = s.eraseWindow ∧ (s.deliverData f k i).root = s.root
      ∧ (s.deliverData f k i).slots = s.slots ∧ (s.deliverData f k i).sIn = s.sIn
      ∧ (s.deliverData f k i).lRx = s.lRx ∧ (s.deliverData f k i).lTx = s.lTx ∧ (s.deliverData f k i).ctrl = s.ctrl
      ∧ (s.deliverData f k i).engine = s.engine ∧ (s.deliverData f k i).link = s.link
      ∧ (s.deliverData f k i).messenger = s.messenger ∧ (s.deliverData f k i).renewal = s.renewal
      ∧ (s.deliverData f k i).faults = s.faults ∧ (s.deliverData f k i).beacon = s.beacon
      ∧ (s.deliverData f k i).sPort = s.sPort ∧ (s.deliverData f k i).lPort = s.lPort := by
  unfold State.deliverData
  try dsimp only
  (repeat' split) <;> simp

@[simp] theorem State.deliverControl_frame (f : LineIn) (k : WorkKey) (s : State) :
    (s.deliverControl f k).pending = s.pending ∧ (s.deliverControl f k).tick = s.tick
      ∧ (s.deliverControl f k).intervalTicks = s.intervalTicks
      ∧ (s.deliverControl f k).selfCheckPending = s.selfCheckPending
      ∧ (s.deliverControl f k).eraseWindow = s.eraseWindow ∧ (s.deliverControl f k).lRx = s.lRx
      ∧ (s.deliverControl f k).lTx = s.lTx := by
  unfold State.deliverControl
  dsimp only
  split <;> simp

@[simp] theorem State.completeInbound_frame (s : State) :
    (s.completeInbound).pending = s.pending ∧ (s.completeInbound).tick = s.tick
      ∧ (s.completeInbound).intervalTicks = s.intervalTicks
      ∧ (s.completeInbound).selfCheckPending = s.selfCheckPending ∧ (s.completeInbound).eraseWindow = s.eraseWindow
      ∧ (s.completeInbound).lRx = s.lRx ∧ (s.completeInbound).lTx = s.lTx := by
  unfold State.completeInbound
  try dsimp only
  (repeat' split) <;> simp

@[simp] theorem State.endTest_frame (t : TestRecord) (s : State) :
    (s.endTest t).pending = s.pending ∧ (s.endTest t).partState = s.partState ∧ (s.endTest t).tick = s.tick
      ∧ (s.endTest t).intervalTicks = s.intervalTicks ∧ (s.endTest t).selfCheckPending = s.selfCheckPending
      ∧ (s.endTest t).eraseWindow = s.eraseWindow ∧ (s.endTest t).chans = s.chans ∧ (s.endTest t).root = s.root
      ∧ (s.endTest t).slots = s.slots ∧ (s.endTest t).pool = s.pool ∧ (s.endTest t).sIn = s.sIn
      ∧ (s.endTest t).sOut = s.sOut ∧ (s.endTest t).lRx = s.lRx ∧ (s.endTest t).lTx = s.lTx
      ∧ (s.endTest t).ctrl = s.ctrl ∧ (s.endTest t).engine = s.engine ∧ (s.endTest t).messenger = s.messenger
      ∧ (s.endTest t).renewal = s.renewal := by
  unfold State.endTest
  try dsimp only
  (repeat' split) <;> simp

@[simp] theorem State.completeTest_frame (a : BitVec 64) (b : BitVec 512) (s : State) :
    (s.completeTest a b).pending = s.pending ∧ (s.completeTest a b).partState = s.partState
      ∧ (s.completeTest a b).tick = s.tick ∧ (s.completeTest a b).intervalTicks = s.intervalTicks
      ∧ (s.completeTest a b).selfCheckPending = s.selfCheckPending
      ∧ (s.completeTest a b).eraseWindow = s.eraseWindow ∧ (s.completeTest a b).chans = s.chans
      ∧ (s.completeTest a b).root = s.root ∧ (s.completeTest a b).slots = s.slots
      ∧ (s.completeTest a b).pool = s.pool ∧ (s.completeTest a b).sIn = s.sIn ∧ (s.completeTest a b).sOut = s.sOut
      ∧ (s.completeTest a b).lRx = s.lRx ∧ (s.completeTest a b).lTx = s.lTx ∧ (s.completeTest a b).ctrl = s.ctrl
      ∧ (s.completeTest a b).messenger = s.messenger ∧ (s.completeTest a b).renewal = s.renewal := by
  unfold State.completeTest
  try dsimp only
  (repeat' split) <;> simp

@[simp] theorem State.respond_reads (p : Port) (st : Status) (ws : List Word) (s : State) :
    (∀ z, (s.respond p st ws).chan z = s.chan z) ∧ (∀ z, (s.respond p st ws).slot z = s.slot z)
      ∧ (∀ z, (s.respond p st ws).ctx z = s.ctx z) ∧ (∀ z, (s.respond p st ws).backoff z = s.backoff z)
      ∧ (∀ z, (s.respond p st ws).burst z = s.burst z) := by
  simp [State.chan, State.slot, State.ctx, State.backoff, State.burst]

@[simp] theorem State.enterBootstrap_reads (s : State) :
    (∀ z, (s.enterBootstrap).chan z = s.chan z) ∧ (∀ z, (s.enterBootstrap).burst z = s.burst z) := by
  simp [State.chan, State.burst]

@[simp] theorem State.endCommand_reads (p : Port) (s : State) :
    (∀ z, (s.endCommand p).chan z = s.chan z) ∧ (∀ z, (s.endCommand p).slot z = s.slot z)
      ∧ (∀ z, (s.endCommand p).ctx z = s.ctx z) ∧ (∀ z, (s.endCommand p).backoff z = s.backoff z)
      ∧ (∀ z, (s.endCommand p).burst z = s.burst z) := by
  simp [State.chan, State.slot, State.ctx, State.backoff, State.burst]

@[simp] theorem State.resetPorts_reads (s : State) :
    (∀ z, (s.resetPorts).chan z = s.chan z) ∧ (∀ z, (s.resetPorts).slot z = s.slot z)
      ∧ (∀ z, (s.resetPorts).ctx z = s.ctx z) ∧ (∀ z, (s.resetPorts).backoff z = s.backoff z)
      ∧ (∀ z, (s.resetPorts).burst z = s.burst z) := by
  simp [State.chan, State.slot, State.ctx, State.backoff, State.burst]

@[simp] theorem State.markChannel_reads (i : Nat) (s : State) :
    (∀ z, (s.markChannel i).slot z = s.slot z) ∧ (∀ z, (s.markChannel i).ctx z = s.ctx z)
      ∧ (∀ z, (s.markChannel i).backoff z = s.backoff z) ∧ (∀ z, (s.markChannel i).burst z = s.burst z) := by
  simp [State.slot, State.ctx, State.backoff, State.burst]

@[simp] theorem State.markSlot_reads (x : Nat) (s : State) :
    (∀ z, (s.markSlot x).chan z = s.chan z) ∧ (∀ z, (s.markSlot x).ctx z = s.ctx z)
      ∧ (∀ z, (s.markSlot x).backoff z = s.backoff z) ∧ (∀ z, (s.markSlot x).burst z = s.burst z) := by
  simp [State.chan, State.ctx, State.backoff, State.burst]

@[simp] theorem State.refuseFrame_reads (f : ShopFrame) (r : RefuseReason) (s : State) :
    (∀ z, (s.refuseFrame f r).slot z = s.slot z) ∧ (∀ z, (s.refuseFrame f r).ctx z = s.ctx z)
      ∧ (∀ z, (s.refuseFrame f r).backoff z = s.backoff z) ∧ (∀ z, (s.refuseFrame f r).burst z = s.burst z) := by
  simp [State.slot, State.ctx, State.backoff, State.burst]

@[simp] theorem State.launchControl_reads (m : CtrlMsg) (k : WorkKey) (n : Nat) (s : State) :
    (∀ z, (s.launchControl m k n).slot z = s.slot z) ∧ (∀ z, (s.launchControl m k n).ctx z = s.ctx z)
      ∧ (∀ z, (s.launchControl m k n).backoff z = s.backoff z) := by
  simp [State.slot, State.ctx, State.backoff]

@[simp] theorem State.startUnderRoot_reads (m : CtrlMsg) (s : State) :
    (∀ z, (s.startUnderRoot m).slot z = s.slot z) := by
  simp [State.slot]

@[simp] theorem State.updateWindow_reads (k : FoundKey) (n : Nat) (s : State) :
    (∀ z, (s.updateWindow k n).chan z = s.chan z) ∧ (∀ z, (s.updateWindow k n).ctx z = s.ctx z)
      ∧ (∀ z, (s.updateWindow k n).backoff z = s.backoff z) ∧ (∀ z, (s.updateWindow k n).burst z = s.burst z) := by
  simp [State.chan, State.ctx, State.backoff, State.burst]

@[simp] theorem State.reportValid_reads (s : State) :
    (∀ z, (s.reportValid).chan z = s.chan z) ∧ (∀ z, (s.reportValid).slot z = s.slot z)
      ∧ (∀ z, (s.reportValid).ctx z = s.ctx z) ∧ (∀ z, (s.reportValid).backoff z = s.backoff z)
      ∧ (∀ z, (s.reportValid).burst z = s.burst z) := by
  simp [State.chan, State.slot, State.ctx, State.backoff, State.burst]

@[simp] theorem State.countMalformed_reads (s : State) :
    (∀ z, (s.countMalformed).chan z = s.chan z) ∧ (∀ z, (s.countMalformed).slot z = s.slot z)
      ∧ (∀ z, (s.countMalformed).ctx z = s.ctx z) ∧ (∀ z, (s.countMalformed).backoff z = s.backoff z)
      ∧ (∀ z, (s.countMalformed).burst z = s.burst z) := by
  simp [State.chan, State.slot, State.ctx, State.backoff, State.burst]

@[simp] theorem State.countForeign_reads (s : State) :
    (∀ z, (s.countForeign).chan z = s.chan z) ∧ (∀ z, (s.countForeign).slot z = s.slot z)
      ∧ (∀ z, (s.countForeign).ctx z = s.ctx z) ∧ (∀ z, (s.countForeign).backoff z = s.backoff z)
      ∧ (∀ z, (s.countForeign).burst z = s.burst z) := by
  simp [State.chan, State.slot, State.ctx, State.backoff, State.burst]

@[simp] theorem State.countReplay_reads (x : Nat) (s : State) :
    (∀ z, (s.countReplay x).chan z = s.chan z) ∧ (∀ z, (s.countReplay x).ctx z = s.ctx z)
      ∧ (∀ z, (s.countReplay x).backoff z = s.backoff z) := by
  simp [State.chan, State.ctx, State.backoff]

@[simp] theorem State.countTagFailure_reads (x : Nat) (s : State) :
    (∀ z, (s.countTagFailure x).chan z = s.chan z) ∧ (∀ z, (s.countTagFailure x).burst z = s.burst z) := by
  simp [State.chan, State.burst]

@[simp] theorem State.discardExtra_reads (r : Discard) (k : Option FoundKey) (s : State) :
    (∀ z, (s.discardExtra r k).chan z = s.chan z) := by
  simp [State.chan]

@[simp] theorem State.startTest_reads (s : State) :
    (∀ z, (s.startTest).chan z = s.chan z) ∧ (∀ z, (s.startTest).slot z = s.slot z)
      ∧ (∀ z, (s.startTest).ctx z = s.ctx z) ∧ (∀ z, (s.startTest).backoff z = s.backoff z) := by
  simp [State.chan, State.slot, State.ctx, State.backoff]

@[simp] theorem State.startSelfCheck_reads (s : State) :
    (∀ z, (s.startSelfCheck).chan z = s.chan z) ∧ (∀ z, (s.startSelfCheck).slot z = s.slot z)
      ∧ (∀ z, (s.startSelfCheck).ctx z = s.ctx z) ∧ (∀ z, (s.startSelfCheck).backoff z = s.backoff z) := by
  simp [State.chan, State.slot, State.ctx, State.backoff]

@[simp] theorem State.endFlight_reads (i : Nat) (k : KeyRef) (s : State) :
    (∀ z, (s.endFlight i k).ctx z = s.ctx z) ∧ (∀ z, (s.endFlight i k).backoff z = s.backoff z) := by
  simp [State.ctx, State.backoff]

@[simp] theorem State.deliverData_reads (f : LineIn) (k : WorkKey) (i : Nat) (s : State) :
    (∀ z, (s.deliverData f k i).slot z = s.slot z) ∧ (∀ z, (s.deliverData f k i).ctx z = s.ctx z)
      ∧ (∀ z, (s.deliverData f k i).backoff z = s.backoff z) ∧ (∀ z, (s.deliverData f k i).burst z = s.burst z) := by
  simp [State.slot, State.ctx, State.backoff, State.burst]

@[simp] theorem State.endTest_reads (t : TestRecord) (s : State) :
    (∀ z, (s.endTest t).chan z = s.chan z) ∧ (∀ z, (s.endTest t).slot z = s.slot z)
      ∧ (∀ z, (s.endTest t).ctx z = s.ctx z) ∧ (∀ z, (s.endTest t).backoff z = s.backoff z)
      ∧ (∀ z, (s.endTest t).burst z = s.burst z) := by
  simp [State.chan, State.slot, State.ctx, State.backoff, State.burst]

@[simp] theorem State.completeTest_reads (a : BitVec 64) (b : BitVec 512) (s : State) :
    (∀ z, (s.completeTest a b).chan z = s.chan z) ∧ (∀ z, (s.completeTest a b).slot z = s.slot z)
      ∧ (∀ z, (s.completeTest a b).ctx z = s.ctx z) ∧ (∀ z, (s.completeTest a b).backoff z = s.backoff z) := by
  simp [State.chan, State.slot, State.ctx, State.backoff]

end Sys2Proof.Machine
end

