-- ==== Sys2Proof/Laws/Commands.lean ====
section
/-! SUPPORT. A command whose words are written one after another to an idle port is taken as one (R168, R169). -/

namespace Sys2Proof.Machine

/-- The first word of a command names it. -/
@[simp] theorem Command.ofNumber_firstWord (c : Command) : Command.ofNumber (commandNumber c.firstWord) = some c := by
  cases c <;> decide

/-- The first word of a command states its word count. -/
@[simp] theorem Command.statedCount_firstWord (c : Command) : statedCount c.firstWord = c.words := by
  cases c <;> decide

theorem Command.words_range (c : Command) : 1 ≤ c.words ∧ c.words ≤ 8 := by cases c <;> decide

/-- A port's update of nothing is nothing. -/
theorem State.updPort_self {s : State} {p : Port} {f : PortState → PortState} (h : f (s.port p) = s.port p) :
    s.updPort p f = s := by
  cases p
  · simp only [State.port] at h
    simp [State.updPort, State.updSPort, h]
  · simp only [State.port] at h
    simp [State.updPort, State.updLPort, h]

/-- Two updates of a port are one. -/
theorem State.updPort_updPort (s : State) (p : Port) (f g : PortState → PortState) :
    (s.updPort p f).updPort p g = s.updPort p (g ∘ f) := by cases p <;> rfl

/-- One more word of a command being written: the command taken at its last word, or written on (R168). -/
theorem State.writeCommand_writing {s : State} {p : Port} {ws : List Word} (w : Word) (h : (s.port p).cmd = .writing ws) :
    s.writeCommand p w =
      if statedCount ((ws ++ [w]).headD 0) ≤ (ws ++ [w]).length then s.takeCommand p (ws ++ [w])
      else s.updPort p fun q => { q with cmd := .writing (ws ++ [w]) } := by simp only [State.writeCommand, h]

/-- Taking a command does not depend on the progress it had. -/
theorem State.takeCommand_progress (s : State) (p : Port) (c : CmdProgress) (ws : List Word) :
    (s.updPort p fun q => { q with cmd := c }).takeCommand p ws = s.takeCommand p ws := by
  simp only [State.takeCommand, State.updPort_updPort, Function.comp_def]

/-- The further words of a command being written end in the command taken. -/
theorem State.writeCommandWords_writing (s : State) (p : Port) (ws args : List Word)
    (hn : ws ≠ []) (ha : args ≠ []) (hl : statedCount (ws.headD 0) = ws.length + args.length) :
    (s.updPort p fun q => { q with cmd := .writing ws }).writeCommandWords p args = s.takeCommand p (ws ++ args) := by
  induction args generalizing ws with
  | nil => exact absurd rfl ha
  | cons w args ih =>
    have hhead : (ws ++ [w]).headD 0 = ws.headD 0 := by cases ws <;> simp_all
    have hcmd : ((s.updPort p fun q => { q with cmd := .writing ws }).port p).cmd = .writing ws := by simp
    rw [State.writeCommandWords, List.foldl_cons, State.writeCommand_writing w hcmd, hhead, hl]
    by_cases hargs : args = []
    · subst hargs
      rw [if_pos (by simp), List.foldl_nil, State.takeCommand_progress]
    · have hlen : 0 < args.length := List.length_pos_iff.mpr hargs
      rw [if_neg (by simp; omega), State.updPort_updPort]
      have := ih (ws ++ [w]) (by simp) hargs (by rw [hhead, hl]; simp; omega)
      simpa [State.writeCommandWords, Function.comp_def] using this

/-- A command's words written to an idle port: the command acts, or is refused for its port (R168, R169). -/
theorem State.writeCommandWords_idle (c : Command) (s : State) (p : Port) (args : List Word)
    (h : (s.port p).cmd = .idle) (hl : args.length + 1 = c.words) :
    s.writeCommandWords p (c.firstWord :: args) =
      if c.permits p then runCommand c p (fun k => (c.firstWord :: args).getD (k - 1) 0) s
      else s.refuse p .refusedPort := by
  have hself : (s.updPort p fun q => { q with cmd := .idle }) = s := State.updPort_self (by rw [← h])
  have htake : s.takeCommand p (c.firstWord :: args) =
      if c.permits p then runCommand c p (fun k => (c.firstWord :: args).getD (k - 1) 0) s
      else s.refuse p .refusedPort := by
    simp only [State.takeCommand, hself, List.headD_cons, Command.ofNumber_firstWord, Command.statedCount_firstWord,
      ne_eq, not_true_eq_false, if_false]
  have hw := c.words_range
  rw [← htake]
  by_cases ha : args = []
  · subst ha
    have : statedCount c.firstWord ≤ 1 ∨ 8 < statedCount c.firstWord := .inl (by simp at hl ⊢; omega)
    simp only [State.writeCommandWords, List.foldl_cons, List.foldl_nil, State.writeCommand, h, if_pos this]
  · have hlen : 0 < args.length := List.length_pos_iff.mpr ha
    have hstep : s.writeCommand p c.firstWord = s.updPort p fun q => { q with cmd := .writing [c.firstWord] } := by
      have : ¬ (statedCount c.firstWord ≤ 1 ∨ 8 < statedCount c.firstWord) := by simp; omega
      simp only [State.writeCommand, h, if_neg this]
    have := State.writeCommandWords_writing s p [c.firstWord] args (by simp) ha (by simp; omega)
    simpa [State.writeCommandWords, hstep] using this

/-- A command in progress turns every word away (R168). -/
theorem State.writeCommand_busy {s : State} {p : Port} {c : HeldCommand} (w : Word) (h : (s.port p).cmd = .inProgress c) :
    s.writeCommand p w = s.loseCommand p := by simp [State.writeCommand, h]

end Sys2Proof.Machine
end

