-- ==== Sys2Proof/Laws/Tables.lean ====
section
/-! SUPPORT. Reading the tables of the part after writing them: channels (R1), working slots (R24), replay burst marks
(R76), backoffs (R128) and contexts (R132). -/

namespace Sys2Proof.Machine

/-! ### Tables of the working slots -/

theorem slotEntry_setSlotEntry {α : Type} (d a : α) (x y : Nat) (v : Vector α 23) :
    slotEntry d (setSlotEntry x a v) y = if y = x ∧ 1 ≤ x ∧ x ≤ 23 then a else slotEntry d v y := by
  unfold slotEntry setSlotEntry
  by_cases hy : y = 0
  · subst hy
    simp
    intro h
    omega
  · by_cases hx : x = 0
    · subst hx
      simp [hy]
    · simp only [hx, hy, if_false, Vector.getElem?_setIfInBounds]
      by_cases h : y = x
      · subst h
        by_cases hb : y - 1 < 23
        · simp [hb, show 1 ≤ y ∧ y ≤ 23 by omega]
        · simp [hb, show ¬ (1 ≤ y ∧ y ≤ 23) by omega]
      · simp [h, show ¬ (x - 1 = y - 1) by omega]

theorem slotEntry_mapIdx {α : Type} (d : α) (f : Nat → α → α) (y : Nat) (v : Vector α 23) :
    slotEntry d (v.mapIdx fun k a => f (k + 1) a) y
      = if 1 ≤ y ∧ y ≤ 23 then f y (slotEntry d v y) else d := by
  unfold slotEntry
  by_cases hy : y = 0
  · subst hy
    simp
  · by_cases hb : y - 1 < 23
    · have h1 : 1 ≤ y ∧ y ≤ 23 := by omega
      have h2 : y - 1 + 1 = y := by omega
      simp [hy, hb, h1, h2]
    · have h1 : ¬ (1 ≤ y ∧ y ≤ 23) := by omega
      simp only [hy, if_false, h1]
      rw [Vector.getElem?_eq_none (by omega)]
      rfl

theorem slotEntry_out {α : Type} (d : α) (v : Vector α 23) (y : Nat) (h : ¬ (1 ≤ y ∧ y ≤ 23)) : slotEntry d v y = d := by
  unfold slotEntry
  by_cases hy : y = 0
  · simp [hy]
  · simp only [hy, if_false]
    rw [Vector.getElem?_eq_none (by omega)]
    rfl

/-! ### Working slots -/

theorem State.slot_congr {s t : State} (h : t.slots = s.slots) (x : Nat) : t.slot x = s.slot x := by
  unfold State.slot
  rw [h]

theorem State.slot_setSlot (x y : Nat) (v : Slot) (s : State) :
    (s.setSlot x v).slot y = if y = x ∧ 1 ≤ x ∧ x ≤ 23 then v else s.slot y :=
  slotEntry_setSlotEntry ..

theorem State.slot_updSlot (x y : Nat) (f : Slot → Slot) (s : State) :
    (s.updSlot x f).slot y = if y = x ∧ 1 ≤ x ∧ x ≤ 23 then f (s.slot x) else s.slot y :=
  slotEntry_setSlotEntry ..

theorem State.slot_mapSlots (f : Nat → Slot → Slot) (y : Nat) (s : State) :
    (s.mapSlots f).slot y = if 1 ≤ y ∧ y ≤ 23 then f y (s.slot y) else {} :=
  slotEntry_mapIdx ..

theorem State.slot_out (s : State) (y : Nat) (h : ¬ (1 ≤ y ∧ y ≤ 23)) : s.slot y = {} := slotEntry_out _ _ _ h

/-- The working slots are exactly the numbers 1 to 23 (R24). -/
theorem mem_workingSlots (x : Nat) : x ∈ workingSlots ↔ 1 ≤ x ∧ x ≤ 23 := by
  simp only [workingSlots, List.mem_map, List.mem_range]
  constructor
  · rintro ⟨a, h, rfl⟩
    omega
  · intro h
    exact ⟨x - 1, by omega, by omega⟩

/-- Working slots are equal when every one of them reads the same. -/
theorem State.slots_ext {s t : State} (h : ∀ x, 1 ≤ x → x ≤ 23 → t.slot x = s.slot x) : t.slots = s.slots := by
  apply Vector.ext
  intro i hi
  have := h (i + 1) (by omega) (by omega)
  simpa [State.slot, slotEntry, hi] using this

/-! ### Channels -/

theorem State.chan_congr {s t : State} (h : t.chans = s.chans) (i : Nat) : t.chan i = s.chan i := by
  unfold State.chan
  rw [h]

theorem State.chan_setChan (i j : Nat) (c : Channel) (s : State) :
    (s.setChan i c).chan j = if j = i ∧ i < 48 then c else s.chan j := by
  simp only [State.chan, State.setChan_chans, Vector.getElem?_setIfInBounds]
  by_cases h : j = i
  · subst h
    by_cases hb : j < 48
    · simp [hb]
    · simp only [hb, and_false, if_false, if_true]
      rw [Vector.getElem?_eq_none (by omega)]
  · simp [h, show ¬ i = j from fun e => h e.symm]

theorem State.chan_updChan (i j : Nat) (f : Channel → Channel) (s : State) :
    (s.updChan i f).chan j = if j = i ∧ i < 48 then f (s.chan i) else s.chan j := State.chan_setChan ..

theorem State.chan_mapChans (f : Nat → Channel → Channel) (j : Nat) (s : State) :
    (s.mapChans f).chan j = if j < 48 then f j (s.chan j) else {} := by
  simp only [State.chan, State.mapChans_chans]
  by_cases hb : j < 48
  · simp [hb]
  · simp only [hb, if_false]
    rw [Vector.getElem?_eq_none (by omega)]
    rfl

theorem State.chan_out (s : State) (j : Nat) (h : ¬ j < 48) : s.chan j = {} := by
  unfold State.chan
  rw [Vector.getElem?_eq_none (by omega)]
  rfl

/-- Channel tables are equal when every descriptor reads the same. -/
theorem State.chans_ext {s t : State} (h : ∀ i, i < 48 → t.chan i = s.chan i) : t.chans = s.chans := by
  apply Vector.ext
  intro i hi
  have := h i hi
  simpa [State.chan, hi] using this

/-! ### Contexts, backoffs and replay burst marks -/

theorem State.ctx_congr {s t : State} (h : t.renewal.contexts = s.renewal.contexts) (c : Nat) : t.ctx c = s.ctx c := by
  unfold State.ctx
  rw [h]

theorem State.ctx_setCtx (c d : Nat) (x : Context) (s : State) :
    (s.setCtx c x).ctx d = if d = c ∧ c < 4 then x else s.ctx d := by
  simp only [State.ctx, State.setCtx_renewal, Vector.getElem?_setIfInBounds]
  by_cases h : d = c
  · subst h
    by_cases hb : d < 4
    · simp [hb]
    · simp only [hb, and_false, if_false, if_true]
      rw [Vector.getElem?_eq_none (by omega)]
  · simp [h, show ¬ c = d from fun e => h e.symm]

theorem State.ctx_updCtx (c d : Nat) (f : Context → Context) (s : State) :
    (s.updCtx c f).ctx d = if d = c ∧ c < 4 then f (s.ctx c) else s.ctx d := State.ctx_setCtx ..

theorem State.ctx_out (s : State) (c : Nat) (h : ¬ c < 4) : s.ctx c = {} := by
  unfold State.ctx
  rw [Vector.getElem?_eq_none (by omega)]
  rfl

theorem State.backoff_setBackoff (x y : Nat) (b : Backoff) (s : State) :
    (s.setBackoff x b).backoff y = if y = x ∧ 1 ≤ x ∧ x ≤ 23 then b else s.backoff y := slotEntry_setSlotEntry ..

theorem State.burst_setBurst (x y : Nat) (b : Bool) (s : State) :
    (s.setBurst x b).burst y = if y = x ∧ 1 ≤ x ∧ x ≤ 23 then b else s.burst y := slotEntry_setSlotEntry ..

theorem State.burst_out (s : State) (y : Nat) (h : ¬ (1 ≤ y ∧ y ≤ 23)) : s.burst y = false := slotEntry_out _ _ _ h

theorem State.backoff_out (s : State) (y : Nat) (h : ¬ (1 ≤ y ∧ y ≤ 23)) : s.backoff y = {} := slotEntry_out _ _ _ h

/-- No context found: none of the four has the property. -/
theorem State.findCtx_none {s : State} {q : Context → Bool} (h : s.findCtx q = none) (c : Nat) (hc : c < 4) :
    q (s.ctx c) = false := by
  unfold State.findCtx contextNumbers at h
  rw [List.find?_eq_none] at h
  have := h c (by interval_cases c <;> simp)
  simpa using this

/-- The context found has the property and is the first of the four that has it. -/
theorem State.findCtx_some {s : State} {q : Context → Bool} {c : Nat} (h : s.findCtx q = some c) :
    c < 4 ∧ q (s.ctx c) = true := by
  unfold State.findCtx contextNumbers at h
  have h1 := List.find?_some h
  have h2 := List.mem_of_find?_eq_some h
  simp at h2
  exact ⟨by omega, h1⟩

end Sys2Proof.Machine
end

