-- ==== Sys2Proof/Laws/Effects.lean ====
section
/-! SUPPORT. What each shared operation does to the fields its frame leaves open, said once for every outcome. -/

namespace Sys2Proof.Machine

/-! ### Ports under the fault operations (R161) -/

/-- Only the FAULT cause of a port may differ. -/
def PortState.sameButCause (q r : PortState) : Prop := r = { q with faultCause := r.faultCause }

theorem PortState.sameButCause.refl (q : PortState) : q.sameButCause q := rfl

theorem PortState.sameButCause.trans {q r u : PortState} (h : q.sameButCause r) (k : r.sameButCause u) :
    q.sameButCause u := by
  unfold PortState.sameButCause at *
  rw [k, h]

theorem State.createRecord_port (k : FaultKind) (x : Subject) (a : Bool) (s : State) (p : Port) :
    (s.createRecord k x a).port p = { s.port p with faultCause := true } := by cases p <;> rfl

theorem State.raiseFault_port (k : FaultKind) (x : Subject) (s : State) (p : Port) :
    (s.port p).sameButCause ((s.raiseFault k x).port p) := by
  unfold PortState.sameButCause State.raiseFault
  dsimp only
  (repeat' split) <;> cases p <;> first | rfl | (unfold State.setOverflow; split <;> rfl)

theorem State.clearFault_port (k : FaultKind) (x : Subject) (s : State) (p : Port) :
    (s.port p).sameButCause ((s.clearFault k x).port p) := by
  unfold PortState.sameButCause State.clearFault
  (repeat' split) <;> cases p <;> rfl

/-! ### Buffers (R60, R70) -/

theorem State.returnBuffer_pool (s : State) :
    s.returnBuffer.pool = { s.pool with free := s.pool.free + 1, low := s.pool.low && decide (s.pool.free + 1 < 16) } := by
  unfold State.returnBuffer
  dsimp only
  split <;> rename_i h <;> simp at h ⊢
  · simp [h.1]; omega
  · cases hl : s.pool.low <;> simp [hl] at h ⊢
    omega

theorem State.returnBuffer_port (s : State) (p : Port) : (s.port p).sameButCause (s.returnBuffer.port p) := by
  unfold State.returnBuffer
  dsimp only
  split
  · exact PortState.sameButCause.trans (r := s.port p) rfl (State.clearFault_port ..)
  · rfl

theorem State.returnBuffers_pool (n : Nat) (s : State) :
    (State.returnBuffers n s).pool
      = { s.pool with free := s.pool.free + n, low := s.pool.low && decide (n = 0 ∨ s.pool.free + n < 16) } := by
  induction n generalizing s with
  | zero => simp [State.returnBuffers]
  | succ n ih =>
    rw [State.returnBuffers, ih, State.returnBuffer_pool]
    have h : (decide (s.pool.free + 1 < 16) && decide (n = 0 ∨ s.pool.free + 1 + n < 16))
        = decide (n + 1 = 0 ∨ s.pool.free + (n + 1) < 16) := by
      rw [← Bool.decide_and, decide_eq_decide]
      omega
    simp only [Bool.and_assoc, h, Pool.mk.injEq, and_true]
    omega

theorem State.returnBuffers_port (n : Nat) (s : State) (p : Port) :
    (s.port p).sameButCause ((State.returnBuffers n s).port p) := by
  induction n generalizing s with
  | zero => rfl
  | succ n ih => exact (s.returnBuffer_port p).trans (ih _)

/-- A shop frame handed back becomes a notice or a free buffer, never both (R68). -/
theorem State.noticeOrFree_cases (f : ShopFrame) (r : RefuseReason) (s : State) :
    ((s.isOpenIndex f.channel = true ∧ (s.chan f.channel).flags.notify = true ∧ s.sOutRoom = true)
        ∧ s.noticeOrFree f r = s.updSOut fun q =>
            q ++ [{ channel := f.channel, level := f.level, length := f.length, refusal := some r }])
      ∨ (¬ (s.isOpenIndex f.channel = true ∧ (s.chan f.channel).flags.notify = true ∧ s.sOutRoom = true)
        ∧ s.noticeOrFree f r = s.returnBuffer) := by
  unfold State.noticeOrFree
  split <;> rename_i h <;> simp at h ⊢
  · exact .inl ⟨h.1.1, h.1.2, h.2⟩
  · exact .inr h

/-! ### The fault list (R150 to R152) -/

/-- A raised fault stands in the list, or the list is full of ACTIVE records (R150, R152). -/
theorem State.raiseFault_stands (k : FaultKind) (x : Subject) (s : State) : (s.raiseFault k x).faultStands k x := by
  unfold State.raiseFault
  cases hf : s.faults.records.find? (·.hits k x) with
  | some r =>
    have hh := List.find?_some hf
    have hm := List.mem_of_find?_eq_some hf
    have hk : r.kind = k ∧ r.subject = x := by simpa [FaultRecord.hits] using hh
    have key : ∀ g : FaultRecord → FaultRecord, (g r).kind = k → (g r).subject = x → (g r).active = true →
        ∃ q ∈ (s.updRecord k x g).faults.records, q.kind = k ∧ q.subject = x ∧ q.active = true := by
      intro g h1 h2 h3
      refine ⟨g r, ?_, h1, h2, h3⟩
      simp only [State.updRecord, State.updFaults_faults, List.mem_map]
      exact ⟨r, hm, by rw [if_pos hh]⟩
    by_cases ha : r.active = true
    · obtain ⟨q, hq, hq'⟩ := key (·.raiseAgain s.tick) (by unfold FaultRecord.raiseAgain; split <;> exact hk.1)
        (by unfold FaultRecord.raiseAgain; split <;> exact hk.2) (by unfold FaultRecord.raiseAgain; split <;> exact ha)
      refine .inl ⟨q, ?_, hq'⟩
      simp only [ha, if_true]
      split <;> exact hq
    · obtain ⟨q, hq, hq'⟩ := key (·.reactivate s.tick) hk.1 hk.2 rfl
      refine .inl ⟨q, ?_, hq'⟩
      simp only [ha, Bool.false_eq_true, if_false]
      exact hq
  | none =>
    have hc : ∀ t : State, (t.createRecord k x true).faultStands k x := fun t =>
      .inl ⟨_, by simp only [State.createRecord, State.latchFault_frame, State.armOneShot_frame, State.updFaults_faults];
                  exact List.mem_append_right _ (List.mem_singleton_self _), rfl, rfl, rfl⟩
    dsimp only
    split
    · exact hc _
    · split
      · exact hc _
      · refine .inr ?_
        unfold State.setOverflow
        split
        · assumption
        · rfl

/-- What stands in the list goes on standing when the list does not change. -/
theorem State.faultStands_congr {k : FaultKind} {x : Subject} {s t : State} (h : t.faults = s.faults)
    (hs : s.faultStands k x) : t.faultStands k x := by
  unfold State.faultStands at *
  rw [h]
  exact hs

/-- A raise changes only what a fault event may change. -/
theorem State.raiseFault_same (k : FaultKind) (x : Subject) (s : State) : s.sameButFaults (s.raiseFault k x) := by
  have hs := State.raiseFault_port k x s .s
  have hl := State.raiseFault_port k x s .l
  simp only [State.port, PortState.sameButCause] at hs hl
  unfold State.sameButFaults
  apply State.ext_fields <;> first | exact hs | exact hl | simp

/-- A clear changes only what a fault event may change. -/
theorem State.clearFault_same (k : FaultKind) (x : Subject) (s : State) : s.sameButFaults (s.clearFault k x) := by
  have hs := State.clearFault_port k x s .s
  have hl := State.clearFault_port k x s .l
  simp only [State.port, PortState.sameButCause] at hs hl
  unfold State.sameButFaults
  apply State.ext_fields <;> first | exact hs | exact hl | simp

theorem State.sameButFaults.refl (s : State) : s.sameButFaults s := rfl

theorem State.sameButFaults.trans {s t u : State} (h : s.sameButFaults t) (k : t.sameButFaults u) : s.sameButFaults u := by
  unfold State.sameButFaults at *
  rw [k, h]

/-! ### Compositions (R69, R70, R135) -/

/-- A composition that can succeed takes one buffer and joins the tail of the control pending list (R69). -/
theorem State.compose_success (bs : List Byte) (s : State) (hp : s.partState.composes = true) (hf : 0 < s.pool.free)
    (hl : s.ctrl.length < 8) :
    s.compose bs = ({ s with pool := { s.pool with free := s.pool.free - 1 }
                             ctrl := s.ctrl ++ [{ payload := bs, serial := s.renewal.nextSerial }]
                             renewal := { s.renewal with nextSerial := s.renewal.nextSerial + 1 } }, true) := by
  have h1 : ¬ s.pool.free = 0 := by omega
  have h2 : ¬ 8 ≤ s.ctrl.length := by omega
  simp only [State.compose, hp, h1, h2, Bool.not_true, Bool.false_eq_true, if_false]
  rfl

/-- A composition with no buffer free fails and raises POOL_LOW (R70). -/
theorem State.compose_noBuffer (bs : List Byte) (s : State) (hp : s.partState.composes = true) (hf : s.pool.free = 0) :
    s.compose bs = ((s.updPool fun q => { q with low := true }).raiseFault .poolLow .nothing, false) := by
  simp [State.compose, hp, hf]

/-- A composition with the list full and a buffer free fails and changes nothing (R70). -/
theorem State.compose_fullList (bs : List Byte) (s : State) (hf : 0 < s.pool.free) (hl : 8 ≤ s.ctrl.length) :
    s.compose bs = (s, false) := by
  have : ¬ s.pool.free = 0 := by omega
  simp [State.compose, this, hl]

/-- What falls together with a step is the event of the next command, when that asks for a composition, or nothing (R109). -/
theorem State.takeComposition_cases (s : State) :
    (∃ i, s.pending.head? = some i ∧ s.asksComposition i = true ∧ s.takeComposition = s.compositionEvent i)
      ∨ ((∀ i ∈ s.pending.head?, s.asksComposition i = false) ∧ s.takeComposition = s) := by
  unfold State.takeComposition
  cases h : s.pending.head? with
  | none => exact .inr ⟨by simp, rfl⟩
  | some i =>
    cases ha : s.asksComposition i with
    | true => exact .inl ⟨i, rfl, ha, by simp [ha]⟩
    | false => exact .inr ⟨by simpa using ha, by simp [ha]⟩

/-- The message a context's state asks for (R135). -/
def State.contextMessage (s : State) (x : Context) : List Byte :=
  if x.state = .awaitDelivery then keyRequestBytes s x else keyAcceptBytes s x

/-- A context whose composition can succeed is QUEUED, with the message's serial number (R135). -/
theorem State.composeContext_success (c : Nat) (s : State) (hp : s.partState.composes = true) (hf : 0 < s.pool.free)
    (hl : s.ctrl.length < 8) :
    s.composeContext c =
      ({ s with pool := { s.pool with free := s.pool.free - 1 }
                ctrl := s.ctrl ++ [{ payload := s.contextMessage (s.ctx c), serial := s.renewal.nextSerial }]
                renewal := { s.renewal with nextSerial := s.renewal.nextSerial + 1 } } : State).updCtx c fun y =>
          { y with send := .queued, latest := some s.renewal.nextSerial, retryDue := false } := by
  unfold State.composeContext
  dsimp only
  rw [State.compose_success _ s hp hf hl]
  rfl

/-! ### Working slots (R33, R35) -/

/-- Emptying a slot: its EMPTY values, and no link names it (R33). -/
theorem State.emptySlot_slot (x y : Nat) (s : State) (hx : 1 ≤ x ∧ x ≤ 23) :
    (s.emptySlot x).slot y =
      if y = x then {}
      else { s.slot y with predecessor := if (s.slot y).predecessor = some x then none else (s.slot y).predecessor
                           successor := if (s.slot y).successor = some x then none else (s.slot y).successor } := by
  have : (s.emptySlot x).slot y = (s.mapSlots fun y v =>
      if y = x then {}
      else { v with predecessor := if v.predecessor = some x then none else v.predecessor
                    successor := if v.successor = some x then none else v.successor }).slot y := by
    unfold State.emptySlot
    dsimp only
    (repeat' split) <;> simp
  rw [this, State.slot_mapSlots]
  by_cases hy : y = x
  · simp [hy, hx]
  · by_cases hb : 1 ≤ y ∧ y ≤ 23
    · simp [hy, hb]
    · simp [hy, hb, State.slot_out _ _ hb]

/-- Emptying a slot releases its replay burst mark and no other (R94). -/
theorem State.emptySlot_burst (x y : Nat) (s : State) :
    (s.emptySlot x).burst y = if y = x then false else s.burst y := by
  have h : ∀ t : State, t.burst = s.burst →
      (if s.burst x then (t.setBurst x false).clearFault .replayBurst (.slot x) else t).burst y
        = if y = x then false else s.burst y := by
    intro t ht
    split <;> rename_i hb
    · simp only [State.clearFault_reads, State.burst_setBurst, ht]
      by_cases hy : y = x
      · subst hy
        simp only [true_and, if_true]
        split
        · rfl
        · rename_i hn
          have := State.burst_out s y hn
          simp [this] at hb
      · simp [hy]
    · rw [ht]
      split
      · rename_i hy
        simpa [hy] using hb
      · rfl
  unfold State.emptySlot
  dsimp only
  refine h _ ?_
  funext z
  split <;> simp

end Sys2Proof.Machine
end

