-- ==== Sys2Proof/Laws/Words.lean ====
section
/-! SUPPORT. The fields of the words the model builds, read back (R183 to R185). -/

namespace Sys2Proof.Machine

/-- The number an append spells. -/
theorem toNat_append_eq {m n : Nat} (x : BitVec m) (y : BitVec n) : (x ++ y).toNat = x.toNat * 2 ^ n + y.toNat := by
  rw [BitVec.toNat_append, ← Nat.shiftLeft_add_eq_or_of_lt y.isLt, Nat.shiftLeft_eq]

theorem word4_toNat (a b c d : Nat) :
    (word4 a b c d).toNat = a % 256 * 16777216 + b % 256 * 65536 + c % 256 * 256 + d % 256 := by
  unfold word4
  rw [show (BitVec.ofNat 8 a ++ BitVec.ofNat 8 b ++ BitVec.ofNat 8 c ++ BitVec.ofNat 8 d : Word).toNat = _ from
      toNat_append_eq (m := 24) (n := 8) (BitVec.ofNat 8 a ++ BitVec.ofNat 8 b ++ BitVec.ofNat 8 c) _,
    show (BitVec.ofNat 8 a ++ BitVec.ofNat 8 b ++ BitVec.ofNat 8 c : BitVec 24).toNat = _ from
      toNat_append_eq (m := 16) (n := 8) (BitVec.ofNat 8 a ++ BitVec.ofNat 8 b) _,
    show (BitVec.ofNat 8 a ++ BitVec.ofNat 8 b : BitVec 16).toNat = _ from toNat_append_eq (m := 8) (n := 8) _ _]
  simp only [BitVec.toNat_ofNat]
  omega

theorem word2_toNat (a b : Nat) : (word2 a b).toNat = a % 65536 * 65536 + b % 65536 := by
  unfold word2
  rw [show (BitVec.ofNat 16 a ++ BitVec.ofNat 16 b : Word).toNat = _ from toNat_append_eq (m := 16) (n := 16) _ _]
  simp only [BitVec.toNat_ofNat]
  omega

theorem word1_toNat (a : Nat) : (word1 a).toNat = a % 4294967296 := by simp [word1]

theorem fieldA_toNat (w : Word) : fieldA w = w.toNat / 16777216 % 256 := by
  simp [fieldA, BitVec.extractLsb'_toNat, Nat.shiftRight_eq_div_pow]

theorem fieldB_toNat (w : Word) : fieldB w = w.toNat / 65536 % 256 := by
  simp [fieldB, BitVec.extractLsb'_toNat, Nat.shiftRight_eq_div_pow]

theorem fieldC_toNat (w : Word) : fieldC w = w.toNat / 256 % 256 := by
  simp [fieldC, BitVec.extractLsb'_toNat, Nat.shiftRight_eq_div_pow]

theorem fieldD_toNat (w : Word) : fieldD w = w.toNat % 256 := by
  simp [fieldD, BitVec.extractLsb'_toNat, Nat.shiftRight_eq_div_pow]

theorem fieldLow_toNat (w : Word) : fieldLow w = w.toNat % 65536 := by
  simp [fieldLow, BitVec.extractLsb'_toNat, Nat.shiftRight_eq_div_pow]

@[simp] theorem fieldA_word4 (a b c d : Nat) : fieldA (word4 a b c d) = a % 256 := by
  rw [fieldA_toNat, word4_toNat]; omega

@[simp] theorem fieldB_word4 (a b c d : Nat) : fieldB (word4 a b c d) = b % 256 := by
  rw [fieldB_toNat, word4_toNat]; omega

@[simp] theorem fieldC_word4 (a b c d : Nat) : fieldC (word4 a b c d) = c % 256 := by
  rw [fieldC_toNat, word4_toNat]; omega

@[simp] theorem fieldD_word4 (a b c d : Nat) : fieldD (word4 a b c d) = d % 256 := by
  rw [fieldD_toNat, word4_toNat]; omega

@[simp] theorem fieldLow_word2 (a b : Nat) : fieldLow (word2 a b) = b % 65536 := by
  rw [fieldLow_toNat, word2_toNat]; omega

/-- Each of the low eight bits of a word is that bit of its field D. -/
theorem getLsbD_fieldD (w : Word) (i : Nat) (h : i < 8) : w.getLsbD i = (fieldD w).testBit i := by
  rw [BitVec.getLsbD, fieldD_toNat, show 256 = 2 ^ 8 from rfl, Nat.testBit_mod_two_pow]; simp [h]

/-- Each bit of field B is that bit of the word, from bit 16. -/
theorem testBit_fieldB (w : Word) (i : Nat) (h : i < 8) : (fieldB w).testBit i = w.getLsbD (16 + i) := by
  rw [fieldB, ← BitVec.getLsbD, BitVec.getLsbD_extractLsb']
  simp [h]

/-- Each bit of field A is that bit of the word, from bit 24. -/
theorem testBit_fieldA (w : Word) (i : Nat) (h : i < 8) : (fieldA w).testBit i = w.getLsbD (24 + i) := by
  rw [fieldA, ← BitVec.getLsbD, BitVec.getLsbD_extractLsb']
  simp [h]

end Sys2Proof.Machine
end

