-- ==== Sys2Proof/Tests/Slice0.lean ====
section
/-! SUPPORT. Our own tests: ill-formed commands are refused, values worked out in the manual's examples, and for every
statement with hypotheses a witness: a concrete part and operands that meet all of them together. -/

namespace Sys2Proof.Tests

open Sys2Proof Sys2Proof.Machine

/-! ### Well-formedness: an ill-formed command is refused, one at each boundary is not -/

theorem test_wf_keyAgeLimit :
    (Instr.keyAgeLimit 0).wf = false ∧ (Instr.keyAgeLimit 24).wf = false ∧ (Instr.keyAgeLimit 23).wf = true := by decide
theorem test_wf_keyGraceExpiry :
    (Instr.keyGraceExpiry 0).wf = false ∧ (Instr.keyGraceExpiry 24).wf = false ∧ (Instr.keyGraceExpiry 1).wf = true := by
  decide
theorem test_wf_drainEnd :
    (Instr.drainEnd 0).wf = false ∧ (Instr.drainEnd 24).wf = false ∧ (Instr.drainEnd 23).wf = true := by decide
theorem test_wf_backoffEnd :
    (Instr.backoffEnd 0).wf = false ∧ (Instr.backoffEnd 24).wf = false ∧ (Instr.backoffEnd 1).wf = true := by decide
theorem test_wf_replyTimerExpiry :
    (Instr.replyTimerExpiry 4).wf = false ∧ (Instr.replyTimerExpiry 3).wf = true := by decide
theorem test_wf_contextComposeRetry :
    (Instr.contextComposeRetry 4).wf = false ∧ (Instr.contextComposeRetry 0).wf = true := by decide

/-- No row of the table has bits, so no word spells a command. -/
theorem test_decode_none : decodeTableWord 32 1 = none ∧ State.reset.withFetchWord 32 1 = State.reset := ⟨rfl, rfl⟩

/-! ### Values worked out in the manual -/

/-- Sections 3.7, 3.8: the costs of frames of 980, 1500 and 600 bytes; R46: the least cost. -/
theorem test_frameCost : frameCost 980 = 64 ∧ frameCost 1500 = 96 ∧ frameCost 600 = 40 ∧ frameCost 1 = 3 := by decide
/-- Section 3.7: the rates at the ends of intervals k, k+1, k+2 and the first of the successor. -/
theorem test_nextRate : nextRate 4000 4800 = 4100 ∧ nextRate 4100 4800 = 4188 ∧ nextRate 4188 4800 = 4265
    ∧ nextRate 4265 4800 = 4332 := by decide
/-- Section 3.7: the projections at the ends of intervals k, k+1 and the first of the successor. -/
theorem test_projection : projection { hard := 262144, used := 204800, rate := 4100 } = 13
    ∧ projection { hard := 262144, used := 209600, rate := 4188 } = 12
    ∧ projection { hard := 262144, used := 4800, rate := 4332 } = 59 := by decide
/-- Section 3.9: two deliveries clamped. -/
theorem test_clamps : clampHard 1000 = 4096 ∧ clampSoft 4096 0 = 3584 ∧ clampLead 0 = 12 ∧ clampAge 30 = 64
    ∧ clampHard 3000000000 = 2147483648 ∧ clampSoft 2147483648 2500000000 = 1879048192 ∧ clampLead 300 = 255
    ∧ clampAge 604800 = 604800 := by decide
/-- Section 5.11: the window over the counters 5, 9, 7, 80, 20: its top and the entries marked. -/
theorem test_nextWindow : nextWindow 5 0 0 = (5, 1) ∧ nextWindow 9 5 1 = (9, 17) ∧ nextWindow 7 9 17 = (9, 21)
    ∧ nextWindow 80 9 21 = (80, 1) ∧ nextWindow 20 80 1 = (80, 1#64 ||| 1#64 <<< 60) := by decide
/-- Section 5.11: 7 again is a replay, as are 9 and 7 under top 80; 20 is not. -/
theorem test_isReplay : isReplay 7 9 21 = true ∧ isReplay 9 80 1 = true ∧ isReplay 7 80 1 = true
    ∧ isReplay 20 80 1 = false ∧ isReplay 0 0 0 = true := by decide
/-- Chapter 7, section 7.10: with 42 next and free, 42 is assigned; R115: a number held is passed over, 0 is skipped. -/
theorem test_exchangeNumbers : firstUnused 5 [41] 42 = 42 ∧ firstUnused 5 [255, 1] 255 = 2 := by decide
/-- Section 9.8: six records 30 to 35 taken in turns of four. -/
theorem test_turns :
    let rs := [30, 31, 32, 33, 34, 35].map fun i => ({ id := i, kind := .poolLow, subject := .nothing, first := 0, last := 0 } : FaultRecord)
    ((walkFrom (some 33) rs).take 4).map (·.id) = [34, 35, 30, 31] ∧ ((walkFrom (some 31) rs).take 4).map (·.id) = [32, 33, 34, 35] := by
  decide
/-- R184: the first word of LOAD ROOT is number 16 with 6 words, that of ERASE number 21 with 1. -/
theorem test_firstWord : Command.loadRoot.firstWord = 0x10000006 ∧ Command.erase.firstWord = 0x15000001 := by decide
/-- R176: the known-answer value is reached by a sound engine alone. -/
theorem test_selfCheck : selfCheckPasses 0 = true ∧ selfCheckPasses 1 = false := by
  have h : Config.E Config.knownAnswerKey Config.knownAnswerBlock = Config.knownAnswerValue := by simp [Config.E]
  simp only [selfCheckPasses, h]
  decide

/-! ### Parts to test with -/

/-- A part in RUN with a root. -/
def base : State :=
  { State.reset with
    partState := .run
    root := { active := true, material := 7, storeTag := some 0x2A61, txCounter := 1204 } }

/-- Slot 5 of the examples: level 0, generation 17, limits of section 3.7. -/
def key5 : Slot :=
  { state := .active, generation := 17, material := 5, txCounter := 48211, top := 30906, hard := 262144, soft := 229376
    lead := 12, maxAge := 86400 }

/-- Section 1.10: channel 3 on slot 5, its alias 12, channel 20 of level 2 on slot 11 with NOTIFY. -/
def shop : State :=
  (((((base.setSlot 5 { key5 with refs := 1 }).setSlot 11 { key5 with level := 2, material := 11, refs := 1 }).setChan 3
      { kind := .data, state := .opened, current := some 5, aliasCount := 1 }).setChan 12
      { kind := .aliased, level := 2, state := .opened, target := some 3 }).setChan 20
      { kind := .data, level := 2, state := .opened, current := some 11, flags := { notify := true } })

/-- A complete shop frame. -/
def frame (channel level length : Nat) : ShopFrame :=
  { channel := channel, level := level, length := length, words := List.replicate (wordCount length) 0 }

/-- The state after a step that goes on. -/
def after (i : Instr) (s : State) : State :=
  match exec i s with
  | .next t => t
  | .fault _ => s
  | .refused _ => s

/-- Section 1.10, admission: level 2 on channel 3 of level 0 is refused LEVEL and counted; no notice. -/
theorem test_admission_refused : (after .outboundDataStart { shop with sIn := [frame 3 2 8] }).engine.work = none
    ∧ ((after .outboundDataStart { shop with sIn := [frame 3 2 8] }).chan 3).refused = 1
    ∧ (after .outboundDataStart { shop with sIn := [frame 3 2 8] }).sOut = [] := by decide
/-- Section 1.10, admission: level 3 on channel 20 leaves a notice LEVEL. -/
theorem test_admission_notice : (after .outboundDataStart { shop with sIn := [frame 20 3 8] }).sOut
    = [{ channel := 20, level := 3, length := 8, refusal := some .level }] := by decide
/-- Section 1.10, admission: the same frame on alias 12 is sent for channel 12 and marks channel 3. -/
theorem test_admission_alias : ((after .outboundDataStart { shop with sIn := [frame 12 2 8] }).chan 12).sent = 1
    ∧ ((after .outboundDataStart { shop with sIn := [frame 12 2 8] }).chan 3).inEngine = true
    ∧ ((after .outboundDataStart { shop with sIn := [frame 12 2 8] }).slot 5).txCounter = 48212 := by decide
set_option maxRecDepth 8000 in
/-- Section 3.8: at U = 262,100 a frame of 1,500 bytes spends the key; at 262,048 it is charged exactly to H. -/
theorem test_lastBlocks :
    ((after .outboundDataStart { shop.updSlot 5 (fun v => { v with used := 262100 }) with sIn := [frame 3 0 1500] }).slot 5).spent = true
    ∧ ((after .outboundDataStart { shop.updSlot 5 (fun v => { v with used := 262100 }) with sIn := [frame 3 0 1500] }).chan 12).state = .exhausted
    ∧ ((after .outboundDataStart { shop.updSlot 5 (fun v => { v with used := 262048 }) with sIn := [frame 3 0 1500] }).slot 5).used = 262144 := by
  decide
/-- Section 4.9, event 1: a push at the control reserve is refused and counted. -/
theorem test_reserve : (after (.frameInWrite .s 0x0C000008) { base with pool := { free := 8 } }).pool.sPort.overrun = 1
    ∧ (after (.frameInWrite .s 0x0C000008) { base with pool := { free := 8 } }).sPort.lostPush = true
    ∧ (after (.frameInWrite .s 0x0C000008) { base with pool := { free := 9 } }).pool.free = 8 := by decide
/-- R109: a composition that falls together with the completion of a probe finds no buffer, then that probe's returns. -/
theorem test_probeTakesLast :
    let s : State := { base with pool := { free := 0 }, pending := [.contextComposeRetry 0], renewal :=
      { contexts := Vector.replicate 4 { state := .awaitDelivery, exchange := some 1, kind := some .boot, retryDue := true } } }
    (s.takeComposition.ctx 0).send = .compose ∧ s.takeComposition.ctrl = []
      ∧ s.takeComposition.returnBuffer.pool = { free := 1, low := true } ∧ after (.contextComposeRetry 0) s.takeComposition
        = s.takeComposition := by decide
/-- R189: a KEY REQUEST for slot 5 of generation 17, reason AGE, attempt 2, U 258, R 3, H 262,144. -/
theorem test_requestBytes :
    let c : Context :=
      { state := .awaitDelivery, exchange := some 41, kind := some .renewal, subject := some 5, reason := some .age, send := .sent }
    let s : State := (shop.updSlot 5 fun v => { v with used := 258, rate := 3 }).setCtx 1 c
    ((after (.replyTimerExpiry 1) s).ctrl.map (·.payload)) =
      [[0x11, 41, 5, 17, 3, 2, 0, 0, 1, 2, 0, 0, 0, 3, 0, 4, 0, 0]] := by decide
/-- R189: a KEY ACCEPT of exchange 41 for slot 9 of generation 18. -/
theorem test_acceptBytes :
    let s : State := (shop.setSlot 9 { key5 with state := .staged, generation := 18, predecessor := some 5 }).setCtx 1
      { state := .awaitCommit, exchange := some 41, kind := some .renewal, subject := some 5, successor := some 9, retryDue := true }
    ((after (.contextComposeRetry 1) s).ctrl.map (·.payload)) = [[0x12, 41, 9, 18]] := by decide
/-- R189: report 7 with the overflow mark and record 30: TAG_FAILS of slot 5, count 2, ticks 1 and 258, CLEARED. -/
theorem test_reportBytes :
    let s : State := { base with beacon := { remaining := 0, nextReport := 7 }, faults := { overflow := true, records :=
      [{ id := 30, kind := .tagFails, subject := .slot 5, count := 2, first := 1, last := 258, active := false }] } }
    ((after .beaconCycleEnd s).ctrl.map (·.payload)) =
      [[0x14, 7, 1, 1, 30, 2, 5, 2, 0, 0, 0, 1, 0, 0, 1, 2, 2]] := by decide
/-- Section 10.7, steps 1 to 3: a mailbox of 12 bytes is written and read. -/
theorem test_mailbox :
    (([12, 1, 2, 3].foldl (fun s w => after (.mailboxWrite .s w) s) base).sPort.mailbox.full = true)
    ∧ (([12, 1, 2, 3].foldl (fun s w => after (.mailboxWrite .s w) s) base).lPort.mailCause = true)
    ∧ ((List.range 4).foldl (fun s _ => after (.mailboxRead .l) s)
        ([12, 1, 2, 3].foldl (fun s w => after (.mailboxWrite .s w) s) base)).sPort.mailbox.full = false := by decide
/-- Section 10.7, step 5: a command written while one is IN PROGRESS is ignored with COMMAND lost. -/
theorem test_commandLost : (after (.partRead .l 2) { base with lPort := { cmd := .inProgress .localLoop } }).lPort.lostCommand = true
    ∧ (after (.partRead .l 2) { base with lPort := { cmd := .inProgress .localLoop } }).lPort.response = [] := by decide
/-- Section 11.6: entering BOOTSTRAP lists the BOOT trigger at urgency 2, and the exchange opens as number 1. -/
theorem test_bootTrigger : (base.enterBootstrap.renewal.list.map fun e => (e.slot, e.urgency)) = [(none, 2)]
    ∧ ((after .exchangeStart base.enterBootstrap).ctx 0).exchange = some 1
    ∧ ((after .exchangeStart base.enterBootstrap).ctx 0).send = .queued := by decide

/-- R165, R190: a read of FRAME IN, of COMMAND or of select code 6 or 7 returns 0. -/
theorem test_readsZero : ∀ sel ∈ [(0 : BitVec 3), 2, 6, 7],
    (after (.registerWriteOther .s sel .read) { base with sPort := { dataOut := 5 } }).sPort.dataOut = 0 := by decide
set_option maxRecDepth 8000 in
/-- R53: an ACTIVE slot that is SPENT, with REQUESTED clear and no projection left, sends SPENT at an interval end. -/
theorem test_spentAgain :
    ((after .accountIntervalEnd { base.setSlot 5 { key5 with used := 262144, spent := true } with intervalTicks := 8 }).renewal.list.map
      fun e => (e.slot, e.urgency, e.reason)) = [(some 5, 2, .spent)] := by decide
set_option maxRecDepth 8000 in
/-- R54: a PROJECTED trigger that finds no place is the slot's only trigger at that interval end. -/
theorem test_projectedOnce :
    let full : List Entry := (List.range 8).map fun k => { slot := some (k + 6), urgency := 2, reason := .spent, arrival := k }
    let t := after .accountIntervalEnd { base.setSlot 5 { key5 with used := 262144 } with intervalTicks := 8, renewal := { list := full } }
    t.renewal.received = 1 ∧ t.renewal.notListed = 1 ∧ (t.slot 5).requested = false := by decide

/-! ### Witnesses: parts that meet all hypotheses of a statement together

Where a hypothesis ranges over every slot, channel or context, the three lemmas below reduce it to those the part has. -/

theorem every_slot {p : Nat → Slot → Prop} (s : State) (h : ∀ x ∈ List.range 24, p x (s.slot x)) (h0 : ∀ x, p x {}) (x : Nat) :
    p x (s.slot x) := by
  by_cases hx : x < 24
  · exact h x (List.mem_range.mpr hx)
  · rw [State.slot_out _ _ (by omega)]
    exact h0 x

theorem every_chan {p : Nat → Channel → Prop} (s : State) (h : ∀ i ∈ List.range 48, p i (s.chan i)) (h0 : ∀ i, p i {}) (i : Nat) :
    p i (s.chan i) := by
  by_cases hi : i < 48
  · exact h i (List.mem_range.mpr hi)
  · rw [State.chan_out _ _ hi]
    exact h0 i

theorem every_ctx {p : Nat → Context → Prop} (s : State) (h : ∀ c ∈ List.range 4, p c (s.ctx c)) (h0 : ∀ c, p c {}) (c : Nat) :
    p c (s.ctx c) := by
  by_cases hc : c < 4
  · exact h c (List.mem_range.mpr hc)
  · rw [State.ctx_out _ _ hc]
    exact h0 c

set_option maxRecDepth 8000 in
/-- Channels, slots and exchanges of the shop agree. -/
theorem shop_keyLaw : shop.KeyLaw := by
  have links : ∀ x, (shop.slot x).successor = none ∧ (shop.slot x).predecessor = none ∧ (shop.slot x).state ≠ .staged
      ∧ ((shop.slot x).state = .empty → shop.slot x = {}) :=
    every_slot (p := fun _ v => v.successor = none ∧ v.predecessor = none ∧ v.state ≠ .staged ∧ (v.state = .empty → v = {})) _
      (by decide) fun _ => by decide
  have shut : ∀ c, shop.ctx c = {} := every_ctx (p := fun _ c => c = {}) _ (by decide) fun _ => rfl
  have refs : ∀ x, x < 24 → (shop.slot x).refs =
      shop.countChans (fun c => c.current == some x) + shop.countChans (fun c => c.alternate == some x) := by decide
  refine ⟨⟨fun x _ h => refs x (by omega), ?_, ?_, ?_, ?_, by decide, by decide, by decide⟩, ⟨?_, ?_⟩, ⟨?_, ?_, ?_, ?_, ?_⟩, by decide,
    ?_, ?_, ?_, ?_, by decide, nofun⟩
  · exact every_chan (p := fun i c => ∀ x ∈ c.current, c.namesKey = true ∧ (shop.slot x).state = .active
      ∧ c.state = (if (shop.slot x).spent then .exhausted else .opened) ∧ (shop.slot x).level = c.level) shop (by decide) (by simp)
  · exact every_chan (p := fun i c => ∀ x ∈ c.alternate, ∃ y, c.current = some y ∧ (shop.slot y).predecessor = some x) shop
      (fun i hi x hx => absurd (show (shop.chan i).alternate = some x from hx)
        (by have : ∀ i ∈ List.range 48, (shop.chan i).alternate = none := by decide
            rw [this i hi]; nofun)) (by simp)
  · exact every_chan (p := fun i c => c.kind = .data → c.current = none → c.state = .closing) _ (by decide) (by simp)
  · exact every_chan (p := fun i c => i ≠ 0 → c.kind ≠ .control) _ (by decide) (by simp)
  · intro i hi
    have h := every_chan (p := fun i c => c.kind = .aliased → c.target = some 3 ∧ c.state = .opened) shop (by decide) (by simp) i hi
    exact ⟨3, h.1, rfl, by rw [h.2]; rfl, by rw [h.2]; decide⟩
  · have h : ∀ g, g < 48 → (shop.chan g).namesKey = true → (shop.chan g).aliasCount = shop.countChans (Channel.aliasTo g) := by
      decide
    intro g hg
    by_cases hl : g < 48
    · exact h g hl hg
    · rw [State.chan_out _ _ hl] at hg
      cases hg
  · intro x y
    simp [links]
  · intro x y h
    simp [links] at h
  · intro x y h
    simp [links] at h
  · exact fun x h => absurd h (links x).2.2.1
  · exact fun x => (links x).2.2.2
  · exact fun c _ => shut c
  · intro c h; rw [shut] at h; cases h
  · intro c d _ h; rw [shut] at h; cases h
  · exact fun y h => absurd h (links y).2.2.1

/-- A part with a command waiting meets every law and the key clause, and its step goes on. -/
theorem witness_StepKeeps :
    ∃ s t : State, step s = .next t ∧ s.Conserved ∧ s.WithinCapacity ∧ s.WithinHardLimits ∧ s.FaultListLaw
      ∧ s.RequestListLaw ∧ s.MarksOfWork ∧ s.KeyLaw ∧ (s.slot 5).state ≠ .empty ∧ (t.slot 5).state ≠ .empty := by
  refine ⟨{ shop with pending := [.frameInWrite .s 0x0C000008] }, _, rfl, rfl, ?_, ?_, ?_, ?_, ?_, shop_keyLaw, by decide, by decide⟩
  · unfold State.WithinCapacity; decide
  · exact every_slot (p := fun _ v => v.used ≤ v.hard) _ (by decide) fun _ => by decide
  · unfold State.FaultListLaw; decide
  · exact ⟨by decide, by decide, .nil⟩
  · exact ⟨every_chan (p := fun i c => c.inEngine = true → _ = some i) _ (by decide) (by simp),
      every_slot (p := fun x v => v.engineUse = true → _ = some x) _ (by decide) (by simp)⟩

theorem witness_StepRunsFrontCommand : ({ base with pending := [.tick] } : State).pending = .tick :: [] ∧ base.pending = [] :=
  ⟨rfl, rfl⟩

/-- A part that counts everything a tick counts, each count at a boundary. -/
def ticking : State :=
  ((((({ shop with
      eraseWindow := some (.s, 0)
      link := { quiet := .running, quietRemaining := 0 }
      beacon := { remaining := 0 } }.updSlot 5 (fun v => { v with age := 4294967295 })).setSlot 6
      { key5 with state := .draining, drain := 0 }).setCtx 0
      { state := .awaitDelivery, send := .sent, reply := 0 }).setCtx 1
      { state := .awaitCommit, send := .compose }).setCtx 2
      { state := .awaitCommit, send := .queued })

theorem witness_TickCounts : (ticking.slot 5).state = .active ∧ (ticking.slot 5).age = 4294967295
    ∧ (ticking.slot 6).state = .draining ∧ (ticking.slot 6).drain = 0 ∧ (ticking.slot 7).state = .empty
    ∧ ticking.eraseWindow = some (.s, 0) ∧ base.eraseWindow = none ∧ (ticking.ctx 0).isOpen = true ∧ (ticking.ctx 0).send = .sent
    ∧ ticking.partState ≠ .quiesced ∧ (ticking.ctx 1).isOpen = true ∧ (ticking.ctx 1).send = .compose
    ∧ (ticking.ctx 2).send = .queued ∧ (ticking.ctx 3).isOpen = false ∧ ticking.link.quiet = .running
    ∧ base.link.quiet ≠ .running ∧ ticking.beacon.running = true := by decide

theorem witness_TickCounts_quiesced :
    ({ ticking with partState := .quiesced } : State).partState = .quiesced
      ∧ (({ ticking with partState := .quiesced } : State).ctx 0).isOpen = true
      ∧ (({ ticking with partState := .quiesced } : State).ctx 0).send = .sent := by decide

/-- The backoffs of the slots and the boot backoff at 0, 1 and 2. -/
theorem witness_TickCounts_backoff : ∀ n ∈ [0, 1, 2], let b : Backoff := { remaining := n }
    let s : State := { ticking with renewal := { ticking.renewal with backoff := Vector.replicate 23 b, bootBackoff := b } }
    s.partState ≠ .quiesced ∧ (s.backoff 5).remaining = n ∧ s.renewal.bootBackoff.remaining = n := by decide

/-- Seven entries on the request list, for slots 7 to 13. -/
def seven : List Entry := (List.range 7).map fun k => { slot := some (k + 7), urgency := 2, reason := .spent, arrival := k }

theorem witness_AgeTestSendsTrigger : ∃ (s : State) (x : Nat), 1 ≤ x ∧ x ≤ 23 ∧ (s.slot x).ageTestDue = true
    ∧ (s.slot x).state = .active ∧ (s.slot x).maxAge ≤ (s.slot x).age ∧ (s.slot x).requested = false
    ∧ (∀ c, (s.ctx c).isOpen = true → (s.ctx c).subject ≠ some x) ∧ s.backoff x = {}
    ∧ (∀ e ∈ s.renewal.list, e.slot ≠ some x) ∧ s.renewal.list.length < 8 := by
  refine ⟨{ shop.updSlot 5 (fun v => { v with age := 86400, ageTestDue := true }) with renewal := { list := seven } }, 5,
    by decide, by decide, by decide, by decide, by decide, by decide,
    every_ctx (p := fun _ z => z.isOpen = true → z.subject ≠ some 5) _ (by decide) fun _ => by decide, by decide, by decide, by decide⟩

theorem witness_GraceExpirySpendsKey : ∃ (s : State) (x i j : Nat), 1 ≤ x ∧ x ≤ 23 ∧ (s.slot x).graceTestDue = true
    ∧ (s.slot x).state = .active ∧ (s.slot x).maxAge + 256 ≤ (s.slot x).age ∧ (s.slot x).successor = none
    ∧ (s.slot x).spent = false ∧ (s.chan i).currentIs x = true ∧ (s.chan i).state = .opened
    ∧ (s.chan j).kind = .aliased ∧ (s.chan j).target = some i ∧ (s.chan 20).currentIs x = false ∧ (s.chan 20).kind ≠ .aliased :=
  ⟨shop.updSlot 5 (fun v => { v with age := 86656, graceTestDue := true }), 5, 3, 12, by decide⟩

theorem witness_IntervalEndAverages : ∃ s : State, 8 ≤ s.intervalTicks ∧ (s.slot 5).state = .active ∧ (s.slot 6).state ≠ .active :=
  ⟨{ shop with intervalTicks := 8 }, by decide⟩

/-- One ACTIVE slot, without a successor and with REQUESTED clear: the value of its projection and one reason for each. -/
theorem witness_IntervalEndAverages_trigger : ∀ q ∈
      [(({ key5 with spent := true } : Slot), some Reason.spent), ({ key5 with used := 262144 }, some .projected),
        ({ key5 with suspect := true }, some .suspect), ({ key5 with used := 229376 }, some .soft), (key5, none),
        ({ key5 with requested := true }, none)],
    let s : State := { base.setSlot 5 q.1 with intervalTicks := 8 }
    8 ≤ s.intervalTicks ∧ (s.slot 5).state = .active ∧ (∀ y, y ≠ 5 → (s.slot y).state ≠ .active) ∧ s.backoff 5 = {}
      ∧ (∀ c, (s.ctx c).isOpen = true → (s.ctx c).subject ≠ some 5) ∧ s.renewal.list = []
      ∧ q.2 = (if q.1.requested = true ∨ q.1.successor ≠ none then none
          else if q.1.spent = true then some .spent else if (if q.1.hard ≤ q.1.used then 0 else 65535) ≤ q.1.lead then some .projected
          else if q.1.suspect = true then some .suspect else if q.1.soft ≤ q.1.used then some .soft else none) := by
  intro q hq
  simp only [List.mem_cons, List.not_mem_nil, or_false] at hq
  refine ⟨by show 8 ≤ 8; decide, ?_, ?_, rfl, fun c h => ?_, rfl, ?_⟩
  · rcases hq with rfl | rfl | rfl | rfl | rfl | rfl <;> rfl
  · intro y hy
    show (((base.setSlot 5 q.1).slot y).state ≠ .active)
    rw [State.slot_setSlot, if_neg (fun h => hy h.1)]
    exact every_slot (p := fun _ v => v.state ≠ .active) base (by decide) (fun _ => by decide) y
  · have h0 : ∀ c, base.ctx c = {} := every_ctx (p := fun _ c => c = {}) _ (by decide) fun _ => rfl
    rw [show ({ base.setSlot 5 q.1 with intervalTicks := 8 } : State).ctx c = base.ctx c from rfl, h0 c] at h
    cases h
  · rcases hq with rfl | rfl | rfl | rfl | rfl | rfl <;> decide

/-- A full list of urgency 2, so that a trigger finds no place. -/
theorem witness_IntervalEndAverages_full : let e : Entry := { slot := none, urgency := 2, reason := .boot, arrival := 9 }
    8 ≤ (seven ++ [e]).length ∧ (∀ d ∈ seven ++ [e], 2 ≤ d.urgency ∧ d.slot ≠ some 5) := by decide

/-- Port S with refused pushes, its record at count 255; port L, the line and slot 5 raised, and their counts 0. -/
theorem witness_IntervalEndAverages_faults :
    let r (id : Nat) (k : FaultKind) (u : Subject) : FaultRecord := { id := id, kind := k, subject := u, count := 255, first := 0, last := 0 }
    let s : State := { shop with intervalTicks := 8, pool := { sPort := { overrun := 1 }, lPort := { raised := true } }
                                 link := { malformedMark := true }, engine := { burst := Vector.replicate 23 true }
                                 faults := { records := [r 1 .portOverrun (.port .s), r 2 .portOverrun (.port .l),
                                   r 3 .malformedBurst .link, r 255 .replayBurst (.slot 5), r 4 .poolLow .nothing], nextId := 255 } }
    8 ≤ s.intervalTicks ∧ s.FaultListLaw ∧ 0 < (s.pool.port .s).overrun ∧ (s.pool.port .l).overrun = 0
      ∧ (s.pool.port .l).raised = true ∧ s.link.malformedMark = true ∧ s.link.malformed = 0 ∧ s.burst 5 = true
      ∧ (s.slot 5).replays = 0 ∧ (∀ f ∈ s.faults.records, f.active = true) := by
  refine ⟨by decide, ?_, by decide⟩
  unfold State.FaultListLaw
  decide

/-- Slot 5 at the end of its drain, named as alternate by channel 3, with successor 9. -/
def drained : State :=
  ((shop.updSlot 5 fun v => { v with state := .draining, drain := 0, successor := some 9 }).setSlot 9
    { key5 with predecessor := some 5 }).updChan 3 fun c => { c with current := some 9, alternate := some 5 }

theorem witness_DrainEndEmptiesSlot : (1 ≤ 5 ∧ 5 ≤ 23 ∧ (drained.slot 5).state = .draining ∧ (drained.slot 5).drain = 0
      ∧ (drained.slot 5).engineUse = false)
    ∧ ((drained.markSlot 5).slot 5).state = .draining ∧ ((drained.markSlot 5).slot 5).drain = 0
    ∧ ((drained.markSlot 5).slot 5).engineUse = true := by decide

/-- The drain end waits for a frame in flight under slot 5, outbound or inbound. -/
theorem witness_DrainEndEmptiesSlot_waiting : ∀ w ∈ [Work.outData { channel := 3, level := 0, length := 0 } { ref := .slot 5, material := 5, generation := 17 } 9 3,
      .inbound { count := 16, words := [0x2A610103, 0, 1, 0] } { ref := .slot 5, material := 5, generation := 17 } 1 3],
    ((drained.setWork (some w)).slot 5).state = .draining ∧ ((drained.setWork (some w)).slot 5).drain = 0
      ∧ (drained.setWork (some w)).engine.work = some w
      ∧ ({ count := 16, words := [0x2A610103, 0, 1, 0] } : LineIn).parts.header.kind = kindData := by decide

/-- It waits too for a control message under slot 5, outbound, and inbound with an empty payload. -/
theorem witness_DrainEndEmptiesSlot_control :
    let k : WorkKey := { ref := .slot 5, material := 5, generation := 17 }
    let f : LineIn := { count := 16, words := [0x2A610200, 0, 1, 0] }
    let s (w : Work) : State := drained.setWork (some w)
    (∀ w ∈ [Work.outControl { payload := [0x15], serial := 0 } k 9, .inbound f k 1 0], (s w).engine.work = some w
        ∧ ((s w).slot 5).state = .draining ∧ ((s w).slot 5).drain = 0) ∧ f.parts.header.kind = kindControl
      ∧ (((s (.inbound f k 1 0)).handleControl (f.payload k.material)).slot 5).state = .draining
      ∧ (((s (.inbound f k 1 0)).handleControl (f.payload k.material)).slot 5).drain = 0 :=
  ⟨by decide, by decide, rfl, rfl⟩

theorem witness_QuietWatchRaisesOnce : ∃ s t : State, s.link.quiet = .running ∧ s.link.quietRemaining = 0 ∧ s.link.quietMark = false
    ∧ t.link.quiet = .running ∧ t.link.quietRemaining = 0 ∧ t.link.quietMark = true :=
  ⟨{ base with link := { quiet := .running, quietRemaining := 0 } },
    { base with link := { quiet := .running, quietRemaining := 0, quietMark := true } }, by decide⟩

/-- A part with one free buffer and seven control messages, so that one composition can still succeed. -/
def tight (c : Nat) (x : Context) : State :=
  { shop.setCtx c x with pool := { free := 1 }, ctrl := List.replicate 7 { payload := [0], serial := 0 } }

/-- At attempts 2 and 3 and in COMPOSE, in RUN, BOOTSTRAP and QUIESCED; awaiting delivery and commit; with one buffer and none. -/
theorem witness_ContextComposesAgain : ∀ n ∈ [0, 1],
    (∀ k ∈ [1, 2], let s : State := { tight 3 { state := .awaitDelivery, send := .sent, attempt := k, exchange := some 39
                                                subject := some 5, kind := some .renewal } with pool := { free := n } }
      (s.ctx 3).isOpen = true ∧ s.partState = .run ∧ (s.ctx 3).send = .sent ∧ (s.ctx 3).reply = 0 ∧ (s.ctx 3).attempt < 3
        ∧ s.ctrl.length < 8 ∧ (s.ctx 3).state = .awaitDelivery ∧ s.pool.free = n)
    ∧ ∀ st ∈ [PartState.bootstrap, .quiesced], let s : State :=
        { tight 0 { state := .awaitCommit, retryDue := true, exchange := some 1, kind := some .boot, successor := some 23 } with
          partState := st, pool := { free := n } }
      (s.ctx 0).isOpen = true ∧ s.partState = st ∧ (s.ctx 0).send = .compose ∧ (s.ctx 0).retryDue = true ∧ s.ctrl.length < 8
        ∧ (s.ctx 0).state = .awaitCommit ∧ s.pool.free = n := by decide

/-- Context 2 with exchange 41 for slot 5, at its third attempt. -/
def thirdAttempt (successor : Option Nat) : State :=
  (shop.setSlot 9 { key5 with state := .staged, generation := 18, predecessor := some 5 }).setCtx 2
    { state := if successor = none then .awaitDelivery else .awaitCommit, exchange := some 41, kind := some .renewal,
      subject := some 5, successor := successor, reason := some .soft, attempt := 3, send := .sent, reply := 0 }

theorem witness_ThirdExpiryFailsExchange : ∀ o ∈ [none, some 9],
    2 < 4 ∧ ((thirdAttempt o).ctx 2).isOpen = true ∧ ((thirdAttempt o).ctx 2).send = .sent ∧ ((thirdAttempt o).ctx 2).reply = 0
      ∧ (thirdAttempt o).partState ≠ .quiesced ∧ 3 ≤ ((thirdAttempt o).ctx 2).attempt
      ∧ ((thirdAttempt o).ctx 2).kind = some .renewal ∧ ((thirdAttempt o).ctx 2).subject = some 5
      ∧ ((thirdAttempt o).ctx 2).exchange = some 41 ∧ ((thirdAttempt o).ctx 2).successor = o
      ∧ ((thirdAttempt o).slot 9).state = .staged := by decide

/-- Context 2 with exchange 41, of each kind; exchange 9 is held by none. -/
def refused (k : CtxKind) : State := thirdAttempt (some 9) |>.updCtx 2 fun c => { c with kind := some k }

theorem witness_ThirdExpiryFailsExchange_refuse : (∀ q ∈
      [(CtxKind.renewal, Subject.slot 5), (.boot, .slot 0), (.install, .slot 0), (.root, .slot 0)],
    ((refused q.1).ctx 2).isOpen = true ∧ ((refused q.1).ctx 2).exchange = some 41
      ∧ (∀ d, d < 2 → ((refused q.1).ctx d).exchange ≠ some 41)
      ∧ ((((refused q.1).ctx 2).kind = some .renewal ∧ ((refused q.1).ctx 2).subject = some 5 ∧ q.2 = .slot 5)
        ∨ ((((refused q.1).ctx 2).kind = some .boot ∨ ((refused q.1).ctx 2).kind = some .install
            ∨ ((refused q.1).ctx 2).kind = some .root) ∧ q.2 = .slot 0))
      ∧ ((refused q.1).ctx 2).successor = some 9 ∧ ((refused q.1).slot 9).state = .staged)
    ∧ ∀ c, ((refused .renewal).ctx c).isOpen = true → ((refused .renewal).ctx c).exchange ≠ some 9 := by
  refine ⟨by decide, every_ctx (p := fun _ z => z.isOpen = true → z.exchange ≠ some 9) _ (by decide) fun _ => by decide⟩

theorem witness_BackoffEndFreesTriggers : ∃ (s : State) (x : Nat), 1 ≤ x ∧ x ≤ 23 ∧ (s.backoff x).endDue = true
    ∧ s.partState ≠ .quiesced := ⟨shop.setBackoff 23 { endDue := true }, 23, by decide⟩

theorem witness_BackoffEndFreesTriggers_boot : ∀ relist ∈ [false, true], ∃ s : State, s.partState = .bootstrap
    ∧ (s.chan 0).current = none ∧ (∀ c, (s.ctx c).isOpen = true → (s.ctx c).kind ≠ some .boot)
    ∧ (∀ e ∈ s.renewal.list, e.slot ≠ none) ∧ s.renewal.list.length < 8
    ∧ ((relist = false ∧ s.renewal.bootBackoff.endDue = true)
      ∨ (relist = true ∧ s.renewal.bootRelist = .due ∧ s.renewal.bootBackoff = {})) := by
  intro relist _
  refine ⟨{ shop with partState := .bootstrap, renewal := {
    list := seven, bootRelist := if relist then .due else .idle, bootBackoff := { endDue := !relist } } }, rfl, ?_,
    every_ctx (p := fun _ z => z.isOpen = true → z.kind ≠ some .boot) _ ?_ fun _ => by decide, ?_, ?_, ?_⟩ <;>
    cases relist <;> decide

/-- A part whose beacon cycle ends. -/
def cycling (mode : BeaconMode) (last : Bool) : State :=
  { tight 3 {} with
    beacon := { cycleMode := mode, remaining := 0, lastCycle := last, oneShot := 1 }
    faults := { records := [{ id := 30, kind := .poolLow, subject := .nothing, first := 0, last := 0 }], nextId := 31 } }

theorem witness_BeaconCycleEndReports : ∀ mode ∈ [BeaconMode.idle, .oneShot, .continuous], ∀ last ∈ [false, true],
    (cycling mode last).beacon.running = true ∧ (cycling mode last).beacon.remaining = 0
      ∧ (cycling mode last).partState ≠ .quiesced ∧ 0 < (cycling mode last).pool.free ∧ (cycling mode last).ctrl.length < 8
      ∧ (cycling mode last).partState = .run ∧ (cycling mode last).beacon.lastCycle = last
      ∧ (cycling mode last).beacon.cycleMode = mode ∧ 0 < (cycling mode last).beacon.oneShot
      ∧ (∃ r ∈ (cycling mode last).faults.records, r.acked < r.count) := by decide

/-- The marker names the second of three unacked records. -/
theorem witness_BeaconCycleEndReports_marker :
    let r (k : Nat) : FaultRecord := { id := k, kind := .tagFails, subject := .slot k, first := 0, last := 0 }
    let s : State := { tight 3 {} with
      beacon := { cycleMode := .continuous, remaining := 0, marker := some 2 }
      faults := { records := [r 1, r 2, r 3], overflow := true, overflowReports := [1, 2, 3, 4] } }
    s.faults.records = [r 1] ++ r 2 :: [r 3] ∧ s.beacon.marker = some (r 2).id ∧ (∀ q ∈ [r 1], q.id ≠ (r 2).id)
      ∧ s.partState = .run ∧ s.beacon.running = true ∧ s.beacon.remaining = 0 ∧ 0 < s.pool.free ∧ s.ctrl.length < 8
      ∧ s.beacon.cycleMode = .continuous ∧ (∃ q ∈ s.faults.records, q.acked < q.count) ∧ s.faults.overflow = true
      ∧ 4 ≤ s.faults.overflowReports.length := by decide

theorem witness_ExchangeStartOpensContext : ∃ (s : State) (pre post : List Entry) (e : Entry), s.renewal.list = pre ++ e :: post
    ∧ (∀ f ∈ pre, s.eligible f = false) ∧ e.slot = some 5 ∧ (s.slot 5).state = .active ∧ (s.slot 5).predecessor = none
    ∧ s.partState = .run ∧ (s.ctx 3).isOpen = false ∧ (∀ d, d < 3 → (s.ctx d).isOpen = true) ∧ 0 < s.pool.free
    ∧ s.ctrl.length < 8 ∧ s.messenger.nextExchange = 255 := by
  refine ⟨((((({ tight 3 {} with
      messenger := { nextExchange := 255 }
      renewal := { list := seven.take 1 ++ { slot := some 5, urgency := 1, reason := .age, arrival := 3 } :: [] } } : State).setCtx 0
      { state := .awaitDelivery, exchange := some 255 }).setCtx 1 { state := .awaitDelivery, exchange := some 1 }).setCtx 2
      { state := .awaitCommit, exchange := some 2 })), seven.take 1, [], _, rfl, ?_⟩
  decide

theorem witness_ExchangeStartOpensContext_boot : ∃ (s : State) (e : Entry), s.renewal.list = [] ++ e :: [] ∧ e.slot = none
    ∧ s.partState = .bootstrap ∧ (s.chan 0).current = none ∧ (s.ctx 0).isOpen = false ∧ 0 < s.pool.free ∧ s.ctrl.length < 8
    ∧ s.messenger.nextExchange = 1 :=
  ⟨{ tight 3 {} with partState := .bootstrap, renewal := { list := [{ slot := none, urgency := 2, reason := .boot, arrival := 1 }] } },
    _, rfl, by decide⟩

/-! #### The engine -/

theorem witness_SelfCheckDecidesPartState : ∃ s t u : State,
    (s.partState = .boot ∧ s.selfCheckPending = true ∧ s.engine.work = none)
    ∧ (t.engine.work = some .selfCheck ∧ ∀ p, (t.port p).cmd ≠ .inProgress .erase)
    ∧ u.engine.work = some .selfCheck ∧ (u.port .l).cmd = .inProgress .erase
      ∧ (u.port (Port.other .l)).cmd ≠ .inProgress .erase := by
  refine ⟨State.reset, State.reset.setWork (some .selfCheck),
    { State.reset.setWork (some .selfCheck) with lPort := { cmd := .inProgress .erase } }, by decide, ⟨rfl, ?_⟩, by decide⟩
  rintro (_ | _) <;> decide

/-- A part whose engine takes the oldest complete frame of S-in: an incomplete one stands before `f`. -/
def offering (s : State) (f : ShopFrame) : State :=
  { s with
    sIn := { frame 3 0 8 with words := [] } :: f :: [frame 20 0 8]
    lTx := List.replicate 31 [] }

/-- The charge reaches H exactly, as section 3.8 has it: 262,048 + 96. -/
def lastCharge : State := shop.updSlot 5 fun v => { v with used := 262048 }

set_option maxRecDepth 8000 in
theorem witness_OutboundDataStartCharges : ∃ (s : State) (pre post : List ShopFrame) (f : ShopFrame),
    s.engine.work = none ∧ s.partState = .run ∧ s.lTx.length < 32 ∧ s.ctrl = [] ∧ s.link.test = none
    ∧ s.inboundEligible = false ∧ s.sIn = pre ++ f :: post ∧ f.complete = true
    ∧ (∀ g ∈ s.sIn, g.complete = true → s.urgent g = false) ∧ (∀ g ∈ pre, g.complete = false) ∧ 1 ≤ f.channel ∧ f.channel ≤ 47
    ∧ (s.chan f.channel).kind = .aliased ∧ (s.chan f.channel).target = some 3 ∧ f.level ≤ (s.chan f.channel).level
    ∧ (s.chan f.channel).flags.hold = false ∧ (s.chan 3).flags.hold = false ∧ (s.chan 3).state = .opened
    ∧ (s.chan 3).current = some 5 ∧ (s.slot 5).spent = false
    ∧ (s.slot 5).used + ((f.length + 15) / 16 + 2) = (s.slot 5).hard :=
  ⟨offering lastCharge (frame 12 2 1500), [{ frame 3 0 8 with words := [] }], [frame 20 0 8], frame 12 2 1500, by decide⟩

/-- The charge passes S with no trigger standing against it, and stays below S. -/
theorem witness_OutboundDataStartCharges_soft : ∀ q ∈ [(lastCharge, true), (shop, false)],
    (q.1.slot 5).requested = false ∧ (q.1.slot 5).state = .active ∧ q.1.backoff 5 = {} ∧ q.1.renewal.list = []
      ∧ (∀ c ∈ List.range 4, (q.1.ctx c).isOpen = false)
      ∧ ((q.1.slot 5).soft ≤ (q.1.slot 5).used + ((1500 + 15) / 16 + 2) ↔ q.2 = true) := by decide

theorem witness_OutboundDataStartCharges_urgent : ∃ (s : State) (pre post : List ShopFrame) (f : ShopFrame),
    s.engine.work = none ∧ s.partState = .run ∧ s.lTx.length < 32 ∧ s.ctrl = [] ∧ s.link.test = none
    ∧ s.inboundEligible = false ∧ s.sIn = pre ++ f :: post ∧ f.complete = true ∧ s.urgent f = true
    ∧ (∀ g ∈ pre, g.complete = true → s.urgent g = false) ∧ 1 ≤ f.channel ∧ f.channel ≤ 47
    ∧ (s.chan f.channel).kind = .data ∧ f.level ≤ (s.chan f.channel).level ∧ (s.chan f.channel).flags.hold = false
    ∧ (s.chan f.channel).state = .opened ∧ (s.chan f.channel).current = some 11 ∧ (s.slot 11).spent = false
    ∧ (s.slot 11).used + ((f.length + 15) / 16 + 2) ≤ (s.slot 11).hard :=
  ⟨{ shop.updChan 20 (fun c => { c with flags := { urgent := true } }) with sIn := [frame 3 0 8, frame 20 2 1] },
    [frame 3 0 8], [], frame 20 2 1, by decide⟩

/-- One part and frame for each reason of the refusal, in the statement's order: NOT_READY, NO_CHANNEL (channel 0, channel
48, an EMPTY channel), LEVEL, HELD. -/
def refusing : List (State × Nat × RefuseReason) :=
  [({ shop with partState := .noRoot }, 20, .notReady), (shop, 0, .noChannel), (shop, 48, .noChannel), (shop, 47, .noChannel),
   (shop.updChan 20 (fun c => { c with level := 1 }), 20, .level),
   (shop.updChan 20 (fun c => { c with flags := { hold := true, notify := true } }), 20, .held)]

theorem witness_OutboundDataRefusalGivesNotice : ∀ q ∈ refusing,
    let s : State := { q.1 with sIn := [frame q.2.1 2 8], sOut := List.replicate 31 { channel := 1, level := 0, length := 0 } }
    let f := frame q.2.1 2 8
    s.engine.work = none ∧ s.lTx.length < 32 ∧ s.ctrl = [] ∧ s.link.test = none ∧ s.inboundEligible = false ∧ s.sIn = [f]
      ∧ f.complete = true
      ∧ ((s.partState = .noRoot ∨ s.partState = .bootstrap) ∧ q.2.2 = .notReady
        ∨ s.partState = .run ∧ (f.channel = 0 ∨ 47 < f.channel ∨ (s.chan f.channel).kind = .empty) ∧ q.2.2 = .noChannel
        ∨ s.partState = .run ∧ 1 ≤ f.channel ∧ f.channel ≤ 47 ∧ (s.chan f.channel).kind = .data
            ∧ (s.chan f.channel).level < f.level ∧ q.2.2 = .level
        ∨ s.partState = .run ∧ 1 ≤ f.channel ∧ f.channel ≤ 47 ∧ (s.chan f.channel).kind = .data
            ∧ f.level ≤ (s.chan f.channel).level ∧ (s.chan f.channel).flags.hold = true ∧ q.2.2 = .held)
      ∧ s.sOut.length + s.pool.setAside.toNat < 32 := by decide

/-- LEVEL through alias 12; HELD by the alias's target; KEY_SPENT of an EXHAUSTED target. -/
theorem witness_OutboundDataRefusalGivesNotice_alias : ∀ q ∈
      [(shop, frame 12 3 8, RefuseReason.level),
        (shop.updChan 3 (fun c => { c with flags := { hold := true } }), frame 12 2 8, .held),
        (shop.updChan 3 (fun c => { c with state := .exhausted }), frame 12 2 8, .keySpent)],
    let s : State := { q.1 with sIn := [q.2.1] }
    s.engine.work = none ∧ s.ctrl = [] ∧ s.link.test = none ∧ s.inboundEligible = false ∧ s.partState = .run
      ∧ q.2.1.complete = true ∧ q.2.1.channel = 12 ∧ (s.chan 12).kind = .aliased ∧ (s.chan 12).target = some 3
      ∧ ((s.chan 12).level < q.2.1.level ∧ q.2.2 = .level
        ∨ q.2.1.level ≤ (s.chan 12).level ∧ ((s.chan 12).flags.hold = true ∨ (s.chan 3).flags.hold = true) ∧ q.2.2 = .held
        ∨ q.2.1.level ≤ (s.chan 12).level ∧ ¬ ((s.chan 12).flags.hold = true ∨ (s.chan 3).flags.hold = true)
          ∧ (s.chan 3).state = .exhausted ∧ q.2.2 = .keySpent) := by decide

set_option maxRecDepth 8000 in
/-- Section 3.8: at U = 262,100 a frame of 1,500 bytes passes H, on channel 3 and on its alias 12. -/
theorem witness_OutboundDataRefusalGivesNotice_spends : ∀ i ∈ [3, 12],
    let s : State := { shop.updSlot 5 (fun v => { v with used := 262100 }) with sIn := [frame i 0 1500] }
    s.engine.work = none ∧ s.ctrl = [] ∧ s.link.test = none ∧ s.inboundEligible = false ∧ s.partState = .run
      ∧ (frame i 0 1500).complete = true ∧ ((s.chan i).kind = .data ∨ (s.chan i).target = some 3) ∧ 0 ≤ (s.chan i).level
      ∧ (s.chan i).flags.hold = false ∧ (s.chan 3).flags.hold = false ∧ (s.chan 3).kind = .data ∧ (s.chan 3).state = .opened
      ∧ (s.chan 3).current = some 5 ∧ (s.slot 5).spent = false
      ∧ (s.slot 5).hard < (s.slot 5).used + ((1500 + 15) / 16 + 2) := by decide

theorem witness_exhaustedWith : shop.exhaustedWith 5 3 ∧ shop.exhaustedWith 5 12 ∧ ¬ shop.exhaustedWith 5 20 := by
  refine ⟨.inl (by decide), .inr ⟨3, by decide⟩, ?_⟩
  rintro (h | ⟨r, h, _⟩)
  · exact absurd h (by decide)
  · exact absurd h (by decide)

/-- One control message waits. -/
def speaking (s : State) : State := { s with ctrl := [{ payload := List.replicate 16 0, serial := 0 }] }

theorem witness_OutboundControlStartChoosesKey : ∀ s ∈
      [speaking base, speaking { base with root := { base.root with txCounter := 2 ^ 48 - 1 } },
        speaking ((shop.updChan 0 fun c => { c with current := some 5 }).updSlot 5 fun v => { v with hard := 3 })],
    s.engine.work = none ∧ s.partState = .run ∧ s.lTx.length < 32
      ∧ s.ctrl = [{ payload := List.replicate 16 0, serial := 0 }] ∧ s.inboundEligible = false
      ∧ (((s.chan 0).current = none ∧ s.root.txCounter < 2 ^ 48 - 1) ∨ ((s.chan 0).current = none ∧ 2 ^ 48 - 1 ≤ s.root.txCounter)
        ∨ (s.chan 0).current = some 5 ∧ (s.chan 0).state = .opened ∧ (s.slot 5).spent = false
          ∧ (s.slot 5).used + ((16 + 15) / 16 + 2) ≤ (s.slot 5).hard) := by decide

/-- The control key is spent by the message that passes H; at ROOT_LIMIT the context waits with the message as its latest. -/
theorem witness_OutboundControlStartChoosesKey_spends :
    (let s := speaking ((shop.updChan 0 fun c => { c with current := some 5 }).updSlot 5 fun v => { v with hard := 2 })
     s.engine.work = none ∧ s.partState = .run ∧ s.ctrl = [{ payload := List.replicate 16 0, serial := 0 }]
      ∧ s.inboundEligible = false ∧ (s.chan 0).current = some 5 ∧ (s.chan 0).state = .opened ∧ (s.slot 5).spent = false
      ∧ (s.slot 5).hard < (s.slot 5).used + ((16 + 15) / 16 + 2) ∧ s.root.txCounter < 2 ^ 48 - 1 ∧ (s.chan 0).kind = .control)
    ∧ (let s := (speaking { base with root := { base.root with txCounter := 2 ^ 48 - 1 } }).setCtx 3
        { state := .awaitDelivery, send := .queued, latest := some 0 }
       s.engine.work = none ∧ (s.chan 0).current = none ∧ 2 ^ 48 - 1 ≤ s.root.txCounter ∧ (s.ctx 3).isOpen = true
        ∧ (s.ctx 3).send = .queued ∧ (s.ctx 3).latest = some 0 ∧ (∀ d, d < 3 → (s.ctx d).latest ≠ some 0)
        ∧ (s.ctx 2).isOpen = false) := by decide

/-- A line frame of one ciphertext byte: four header words and the three words of its ciphertext and tag. -/
def short (a b c d e f g : Word) : LineIn := { count := 25, words := [a, b, c, d, e, f, g] }

theorem short_header (a b c d e f g : Word) : (short a b c d e f g).parts.header = (short a b c d 0 0 0).parts.header := rfl

theorem short_headerBlock (a b c d e f g : Word) :
    (short a b c d e f g).parts.headerBlock = (short a b c d 0 0 0).parts.headerBlock := rfl

theorem short_complete (a b c d e f g : Word) : (short a b c d e f g).complete = true := by
  show decide (wordCount 25 ≤ 7) = true
  decide

theorem short_formed (a b c d e f g : Word) : (short a b c d e f g).formed = (short a b c d 0 0 0).formed := rfl

theorem short_tagBytes (a b c d e f g : Word) : ((short a b c d e f g).bytes.drop 17).take 8
    = [BitVec.ofNat 8 (e.toNat / 256 ^ 2), BitVec.ofNat 8 (e.toNat / 256 ^ 1), BitVec.ofNat 8 (e.toNat / 256 ^ 0),
       BitVec.ofNat 8 (f.toNat / 256 ^ 3), BitVec.ofNat 8 (f.toNat / 256 ^ 2), BitVec.ofNat 8 (f.toNat / 256 ^ 1),
       BitVec.ofNat 8 (f.toNat / 256 ^ 0), BitVec.ofNat 8 (g.toNat / 256 ^ 3)] := rfl

theorem three_bytes (p : Nat) (h : p < 16777216) :
    ((p / 65536 % 256) * 256 + p / 256 % 256) * 256 + p % 256 = p := by omega

theorem four_bytes (a q : Nat) (h : q < 4294967296) :
    (((a * 256 + q / 16777216 % 256) * 256 + q / 65536 % 256) * 256 + q / 256 % 256) * 256 + q % 256 = a * 4294967296 + q := by
  omega

theorem eight_bytes (e f g : Word) (n : Nat) (hn : n < 18446744073709551616) (he : e.toNat = n / 1099511627776)
    (hf : f.toNat = n / 256 % 4294967296) (hg : g.toNat / 16777216 % 256 = n % 256) :
    bytesNat [BitVec.ofNat 8 (e.toNat / 256 ^ 2), BitVec.ofNat 8 (e.toNat / 256 ^ 1), BitVec.ofNat 8 (e.toNat / 256 ^ 0),
       BitVec.ofNat 8 (f.toNat / 256 ^ 3), BitVec.ofNat 8 (f.toNat / 256 ^ 2), BitVec.ofNat 8 (f.toNat / 256 ^ 1),
       BitVec.ofNat 8 (f.toNat / 256 ^ 0), BitVec.ofNat 8 (g.toNat / 256 ^ 3)] = n := by
  have h1 := three_bytes e.toNat (by rw [he]; omega)
  have h2 := four_bytes e.toNat f.toNat f.isLt
  have h0 : ∀ z, (BitVec.ofNat 8 z).toNat = z % 256 := fun z => BitVec.toNat_ofNat z 8
  simp only [bytesNat, List.foldl, h0, Nat.reducePow, Nat.zero_mul, Nat.zero_add, Nat.div_one]
  rw [hg, h1, h2, he, hf]
  clear h0 h1 h2 he hf hg
  omega

/-- The same frame with a zero ciphertext byte and the tag given. -/
def tagged (a b c d : Word) (tag : BitVec 64) : LineIn :=
  short a b c d (BitVec.ofNat 32 (tag.toNat / 1099511627776)) (BitVec.ofNat 32 (tag.toNat / 256))
    (BitVec.ofNat 32 (tag.toNat * 16777216))

theorem parts_tag (f : LineIn) (h : f.parts.header.length.toNat = 1) :
    f.parts.tag = BitVec.ofNat 64 (bytesNat ((f.bytes.drop 17).take 8)) := by
  unfold LineIn.parts at *
  dsimp only at *
  rw [h]

theorem tagged_tag (a b c d : Word) (tag : BitVec 64) (h : (short a b c d 0 0 0).parts.header.length.toNat = 1) :
    (tagged a b c d tag).parts.tag = tag := by
  have ht := tag.isLt
  rw [tagged, parts_tag _ (by rw [short_header]; exact h), short_tagBytes, eight_bytes _ _ _ tag.toNat ht]
  · exact BitVec.ofNat_toNat ..
  · rw [BitVec.toNat_ofNat]; omega
  · rw [BitVec.toNat_ofNat]
  · rw [BitVec.toNat_ofNat]; omega

theorem tagged_cipher (a b c d : Word) (tag : BitVec 64) (h : (short a b c d 0 0 0).parts.header.length.toNat = 1) :
    (tagged a b c d tag).parts.cipher = [0] := by
  have ht := tag.isLt
  have h1 : ∀ f : LineIn, f.parts.header.length.toNat = 1 → f.parts.cipher = (f.bytes.drop 16).take 1 := by
    intro f hf
    unfold LineIn.parts at *
    dsimp only at *
    rw [hf]
  rw [tagged, h1 _ (by rw [short_header]; exact h)]
  have h2 : ∀ e f g : Word, ((short a b c d e f g).bytes.drop 16).take 1 = [BitVec.ofNat 8 (e.toNat / 256 ^ 3)] := fun _ _ _ => rfl
  rw [h2, BitVec.toNat_ofNat, show tag.toNat / 1099511627776 % 2 ^ 32 / 256 ^ 3 = 0 by omega]
  rfl

/-- The frame of one zero ciphertext byte whose tag is right under the key material k. -/
def genuine (a b c d : Word) (k : Block) : LineIn :=
  tagged a b c d (frameTag k ((short a b c d 0 0 0).parts.header.fields .inbound) (short a b c d 0 0 0).parts.headerBlock [0])

theorem genuine_passes (a b c d : Word) (k : Block) (h : (short a b c d 0 0 0).parts.header.length.toNat = 1) :
    (genuine a b c d k).tagPasses k = true := by
  have h1 := tagged_tag a b c d (frameTag k ((short a b c d 0 0 0).parts.header.fields .inbound) (short a b c d 0 0 0).parts.headerBlock [0]) h
  have h2 := tagged_cipher a b c d (frameTag k ((short a b c d 0 0 0).parts.header.fields .inbound) (short a b c d 0 0 0).parts.headerBlock [0]) h
  have h3 : (genuine a b c d k).parts.header = (short a b c d 0 0 0).parts.header := short_header ..
  have h4 : (genuine a b c d k).parts.headerBlock = (short a b c d 0 0 0).parts.headerBlock := short_headerBlock ..
  unfold LineIn.tagPasses
  dsimp only
  rw [h3, h4, show (genuine a b c d k).parts.tag = _ from h1, show (genuine a b c d k).parts.cipher = _ from h2]
  exact beq_self_eq_true _

/-- A part with slot 5 behind channels 0 and 3, its window at top 80 with 80 alone seen, and the frame at the head of L-rx. -/
def receiving (f : LineIn) : State :=
  { ((shop.updChan 0 fun c => { c with current := some 5 }).updSlot 5 fun v => { v with top := 80, seen := 1 }) with
    lRx := [f]
    sOut := List.replicate 31 { channel := 1, level := 0, length := 0 } }

/-- A frame of the kind and channel given (one word) under slot 5, generation 17, with counter n. -/
def under5 (kindChannel n : Word) : LineIn := genuine kindChannel 0x05110000 n 0x00010000 5

/-- The counters 81 (above the top), 17 (the lowest in the window), for a data frame of channel 3 and a control frame. -/
theorem witness_InboundStartAcceptsFrame : ∀ q ∈ [((0x2A610103 : Word), (81 : Word), 3), (0x2A610103, 17, 3), (0x2A610200, 144, 0)],
    let f := under5 q.1 q.2.1
    let s := receiving f
    s.engine.work = none ∧ s.partState = .run ∧ s.lRx = [f] ∧ f.complete = true ∧ s.sOut.length + s.pool.setAside.toNat < 32
      ∧ s.outboundPick = none ∧ f.formed = true ∧ s.root.storeTag = some f.parts.header.storeTag
      ∧ f.parts.header.channel.toNat = q.2.2 ∧ f.parts.header.counter.toNat = q.2.1.toNat
      ∧ (((s.chan q.2.2).kind = .data ∧ f.parts.header.kind = kindData)
        ∨ (q.2.2 = 0 ∧ (s.chan q.2.2).kind = .control ∧ f.parts.header.kind = kindControl))
      ∧ (s.chan q.2.2).flags.hold = false ∧ (s.chan q.2.2).current = some 5 ∧ f.parts.header.slot.toNat = 5
      ∧ (s.slot 5).generation = f.parts.header.generation ∧ (s.slot 5).suspect = false ∧ q.2.1.toNat ≠ 0
      ∧ ((s.slot 5).top < q.2.1.toNat
        ∨ ((s.slot 5).top < q.2.1.toNat + 64 ∧ (s.slot 5).seen.getLsbD ((s.slot 5).top - q.2.1.toNat) = false))
      ∧ f.tagPasses (s.slot 5).material = true := by
  have key : ∀ (w n : Word), (short w 0x05110000 n 0x00010000 0 0 0).parts.header.length.toNat = 1 →
      (under5 w n).tagPasses ((receiving (under5 w n)).slot 5).material = true := fun w n h => genuine_passes _ _ _ _ _ h
  have hd : ∀ w n : Word, (under5 w n).parts.header = (short w 0x05110000 n 0x00010000 0 0 0).parts.header :=
    fun _ _ => short_header ..
  have hf : ∀ w n : Word, (under5 w n).formed = (short w 0x05110000 n 0x00010000 0 0 0).formed := fun _ _ => short_formed ..
  have hr : ∀ f : LineIn, (receiving f).outboundPick = none ∧ (receiving f).sOut.length = 31 ∧ (receiving f).pool.setAside = false
      ∧ (receiving f).root.storeTag = some 0x2A61 ∧ (receiving f).slot 5 = { key5 with refs := 1, top := 80, seen := 1 }
      ∧ ((receiving f).chan 0).kind = .control ∧ ((receiving f).chan 3).kind = .data ∧ ((receiving f).chan 0).flags = {}
      ∧ ((receiving f).chan 3).flags = {} ∧ ((receiving f).chan 0).current = some 5 ∧ ((receiving f).chan 3).current = some 5 :=
    fun _ => ⟨rfl, rfl, rfl, rfl, rfl, rfl, rfl, rfl, rfl, rfl, rfl⟩
  intro q hq
  obtain ⟨r1, r2, r3, r4, r5, r6, r7, r8, r9, r10, r11⟩ := hr (under5 q.1 q.2.1)
  refine ⟨rfl, rfl, rfl, short_complete .., by rw [r2, r3]; decide, r1, ?_⟩
  have hk := key q.1 q.2.1
  simp only [hd, hf, r4, r5] at hk ⊢
  simp only [List.mem_cons, List.not_mem_nil, or_false] at hq
  rcases hq with rfl | rfl | rfl <;> simp only [r6, r7, r8, r9, r10, r11] <;>
    exact ⟨by decide, by decide, by decide, by decide, by decide, by decide, by decide, by decide, by decide, by decide, by decide,
      by decide, hk (by decide)⟩

/-- What a genuine frame of the header words given is, whatever its tag. -/
theorem genuine_facts (a b n : Word) (k : Block) (h : (short a b n 0x00010000 0 0 0).parts.header.length.toNat = 1) :
    let f := genuine a b n 0x00010000 k
    f.complete = true ∧ f.formed = (short a b n 0x00010000 0 0 0).formed
      ∧ f.parts.header = (short a b n 0x00010000 0 0 0).parts.header ∧ f.tagPasses k = true :=
  ⟨short_complete .., short_formed .., short_header .., genuine_passes _ _ _ _ _ h⟩

/-- The frame of one zero ciphertext byte whose tag is wrong under the key material k. -/
def forged (a b c d : Word) (k : Block) : LineIn :=
  tagged a b c d
    (frameTag k ((short a b c d 0 0 0).parts.header.fields .inbound) (short a b c d 0 0 0).parts.headerBlock [0] + 1)

theorem forged_fails (a b c d : Word) (k : Block) (h : (short a b c d 0 0 0).parts.header.length.toNat = 1) :
    (forged a b c d k).tagPasses k = false := by
  have h1 := tagged_tag a b c d
    (frameTag k ((short a b c d 0 0 0).parts.header.fields .inbound) (short a b c d 0 0 0).parts.headerBlock [0] + 1) h
  have h2 := tagged_cipher a b c d
    (frameTag k ((short a b c d 0 0 0).parts.header.fields .inbound) (short a b c d 0 0 0).parts.headerBlock [0] + 1) h
  have h3 : (forged a b c d k).parts.header = (short a b c d 0 0 0).parts.header := short_header ..
  have h4 : (forged a b c d k).parts.headerBlock = (short a b c d 0 0 0).parts.headerBlock := short_headerBlock ..
  unfold LineIn.tagPasses
  dsimp only
  rw [h3, h4, show (forged a b c d k).parts.tag = _ from h1, show (forged a b c d k).parts.cipher = _ from h2]
  generalize frameTag k _ _ _ = g
  rw [beq_eq_false_iff_ne]
  intro e
  have := congrArg BitVec.toNat e
  rw [BitVec.toNat_add] at this
  have := g.isLt
  simp at *

/-- Channel 3 with slot 5 as its alternate, and a frame under slot 5 at the head of L-rx. -/
def draining5 (f : LineIn) : State :=
  { drained.updSlot 5 (fun v => { v with drain := 3, top := 80, seen := 1 }) with lRx := [f] }

theorem witness_InboundStartAcceptsFrame_alternate :
    let f := under5 0x2A610103 81
    let s := draining5 f
    s.engine.work = none ∧ s.partState = .run ∧ s.lRx = [f] ∧ f.complete = true ∧ s.outboundPick = none ∧ f.formed = true
      ∧ s.root.storeTag = some f.parts.header.storeTag ∧ f.parts.header.channel.toNat = 3 ∧ f.parts.header.counter.toNat = 81
      ∧ (s.chan 3).kind = .data ∧ f.parts.header.kind = kindData ∧ (s.chan 3).flags.hold = false
      ∧ (s.chan 3).alternate = some 5 ∧ f.parts.header.slot.toNat = 5 ∧ (s.slot 5).generation = f.parts.header.generation
      ∧ (s.slot 5).suspect = false ∧ (s.slot 5).top < 81 ∧ f.tagPasses (s.slot 5).material = true := by
  obtain ⟨h1, h2, h3, h4⟩ := genuine_facts 0x2A610103 0x05110000 81 5 (by decide)
  refine ⟨rfl, rfl, rfl, h1, rfl, by rw [under5, h2]; decide, ?_⟩
  rw [under5, h3]
  exact ⟨rfl, by decide, by decide, rfl, by decide, rfl, rfl, by decide, by decide, rfl, by show 80 < 81; decide, h4⟩

/-- A control frame under slot 5 in BOOTSTRAP. -/
theorem witness_InboundStartAcceptsFrame_bootstrap :
    let f := under5 0x2A610200 144
    let s : State := { receiving f with partState := .bootstrap }
    s.engine.work = none ∧ s.partState = .bootstrap ∧ f.parts.header.kind = kindControl ∧ s.lRx = [f] ∧ s.outboundPick = none
      ∧ f.parts.header.channel.toNat = 0 ∧ (s.chan 0).current = some 5 := by
  obtain ⟨_, _, h3, _⟩ := genuine_facts 0x2A610200 0x05110000 144 5 (by decide)
  refine ⟨rfl, rfl, ?_, rfl, rfl, ?_, rfl⟩ <;> (rw [under5, h3]; decide)

/-- A control frame under the root: channel 0 without a current slot, and with a SUSPECT one. -/
theorem witness_InboundStartAcceptsFrame_root : ∀ b ∈ [false, true],
    let f := genuine 0x2A610200 0 81 0x00010000 7
    let s : State := { (if b then (shop.updChan 0 fun c => { c with current := some 5 }).updSlot 5 fun v => { v with suspect := true }
      else base) with lRx := [f] }
    s.engine.work = none ∧ s.partState = .run ∧ s.lRx = [f] ∧ f.complete = true ∧ s.sOut.length + s.pool.setAside.toNat < 32
      ∧ s.outboundPick = none ∧ f.formed = true ∧ s.root.storeTag = some f.parts.header.storeTag
      ∧ f.parts.header.channel.toNat = 0 ∧ f.parts.header.counter.toNat = 81 ∧ (s.chan 0).kind = .control
      ∧ f.parts.header.kind = kindControl ∧ (s.chan 0).flags.hold = false ∧ f.parts.header.slot = 0
      ∧ f.parts.header.generation = 0 ∧ (s.chan 0).current ≠ some 0 ∧ (s.chan 0).alternate ≠ some 0
      ∧ (∀ x ∈ (s.chan 0).current, (s.slot x).suspect = true) ∧ (s.chan 0).current = (if b then some 5 else none)
      ∧ f.tagPasses s.root.material = true := by
  obtain ⟨h1, h2, h3, h4⟩ := genuine_facts 0x2A610200 0 81 7 (by decide)
  intro b _
  cases b <;>
  · refine ⟨rfl, rfl, rfl, h1, by decide, rfl, by rw [h2]; decide, ?_⟩
    rw [h3]
    exact ⟨rfl, by decide, by decide, rfl, by decide, rfl, by decide, by decide, nofun, nofun, by decide, rfl, h4⟩

/-- A frame as the line may bring it: complete, with the header words given and zero ciphertext and tag. -/
def junk (a d : Word) : LineIn := short a 0x05110000 81 d 0 0 0

/-- NOT_READY; malformed (its length field says 2); foreign. -/
theorem witness_InboundStartDiscards : ∀ q ∈
      [({ receiving (junk 0x2A610103 0x00010000) with partState := .noRoot }, junk 0x2A610103 0x00010000),
        (receiving (junk 0x2A610103 0x00020000), junk 0x2A610103 0x00020000),
        (receiving (junk 0x2A620103 0x00010000), junk 0x2A620103 0x00010000)],
    q.1.engine.work = none ∧ q.1.lRx = [q.2] ∧ q.2.complete = true ∧ q.1.sOut.length + q.1.pool.setAside.toNat < 32
      ∧ q.1.outboundPick = none
      ∧ (q.1.partState = .noRoot ∨ (q.1.partState = .run ∧ q.2.formed = false)
        ∨ (q.1.partState = .run ∧ q.2.formed = true ∧ q.1.root.storeTag ≠ some q.2.parts.header.storeTag)) := by decide

/-- The 15th, 16th and 17th malformed frame of an interval, with MALFORMED_BURST's mark held and released. -/
theorem witness_InboundStartDiscards_burst : ∀ k ∈ [14, 15, 16], ∀ b ∈ [false, true],
    let f := junk 0x2A610103 0x00020000
    let s := (receiving f).updLink fun l => { l with malformed := k, malformedMark := b }
    s.engine.work = none ∧ s.lRx = [f] ∧ f.complete = true ∧ s.sOut.length + s.pool.setAside.toNat < 32 ∧ s.outboundPick = none
      ∧ s.partState = .run ∧ f.formed = false ∧ s.link.malformed = k ∧ s.link.malformedMark = b ∧ s.pool.low = false := by decide

/-- NO_CHANNEL: channel 4 is EMPTY, channel 12 an ALIAS. UNKNOWN_KEY: slot 6 is no key of channel 3, nor is generation 16.
SUSPECT. REPLAY: counter 0, one below the window, and one already seen. -/
theorem witness_InboundStartDiscards_early : ∀ q ∈
      [((0x2A610104 : Word), (0x05110000 : Word), (81 : Word), false), (0x2A61010C, 0x05110000, 81, false),
        (0x2A610103, 0x06110000, 81, false), (0x2A610103, 0x05100000, 81, false), (0x2A610103, 0x05110000, 81, true),
        (0x2A610103, 0x05110000, 0, false), (0x2A610103, 0x05110000, 16, false), (0x2A610103, 0x05110000, 80, false)],
    let f := short q.1 q.2.1 q.2.2.1 0x00010000 0 0 0
    let s := (receiving f).updSlot 5 fun v => { v with suspect := q.2.2.2 }
    let h := f.parts.header
    let n := h.counter.toNat
    let c := s.chan h.channel.toNat
    s.engine.work = none ∧ s.lRx = [f] ∧ f.complete = true ∧ s.sOut.length + s.pool.setAside.toNat < 32 ∧ s.outboundPick = none
      ∧ s.partState = .run ∧ f.formed = true ∧ s.root.storeTag = some h.storeTag
      ∧ (c.namesKey = false
        ∨ c.namesKey = true ∧ c.current = some 5 ∧ c.alternate = none ∧ (s.slot 5).successor = none
          ∧ ¬ (h.slot.toNat = 5 ∧ (s.slot 5).generation = h.generation) ∧ h.channel.toNat ≠ 0
        ∨ c.namesKey = true ∧ c.current = some 5 ∧ h.slot.toNat = 5 ∧ (s.slot 5).generation = h.generation
          ∧ ((s.slot 5).suspect = true
            ∨ (s.slot 5).suspect = false ∧ (n = 0 ∨ n + 64 ≤ (s.slot 5).top
              ∨ (n ≤ (s.slot 5).top ∧ (s.slot 5).seen.getLsbD ((s.slot 5).top - n) = true)))) := by
  intro q hq
  simp only [List.mem_cons, List.not_mem_nil, or_false] at hq
  rcases hq with rfl | rfl | rfl | rfl | rfl | rfl | rfl | rfl <;>
    exact ⟨rfl, rfl, rfl, by decide, rfl, rfl, by decide, by decide, by decide⟩

/-- TAG_FAIL, with 6 and 7 failures before it in the interval. -/
theorem witness_InboundStartDiscards_tag : ∀ k ∈ [6, 7],
    let f := forged 0x2A610103 0x05110000 81 0x00010000 5
    let s := (receiving f).updSlot 5 fun v => { v with tagFailures := k }
    s.engine.work = none ∧ s.lRx = [f] ∧ f.complete = true ∧ s.sOut.length + s.pool.setAside.toNat < 32 ∧ s.outboundPick = none
      ∧ s.partState = .run ∧ f.formed = true ∧ s.root.storeTag = some f.parts.header.storeTag
      ∧ f.parts.header.channel.toNat = 3 ∧ (s.chan 3).namesKey = true ∧ (s.chan 3).current = some 5
      ∧ f.parts.header.slot.toNat = 5 ∧ (s.slot 5).generation = f.parts.header.generation ∧ (s.slot 5).suspect = false
      ∧ f.parts.header.counter.toNat = 81 ∧ (s.slot 5).top = 80 ∧ (s.slot 5).tagFailures = k
      ∧ f.tagPasses (s.slot 5).material = false := by
  have h1 : (forged 0x2A610103 0x05110000 81 0x00010000 5).complete = true := short_complete ..
  have h2 : (forged 0x2A610103 0x05110000 81 0x00010000 5).formed = (short 0x2A610103 0x05110000 81 0x00010000 0 0 0).formed :=
    short_formed ..
  have h3 : (forged 0x2A610103 0x05110000 81 0x00010000 5).parts.header
      = (short 0x2A610103 0x05110000 81 0x00010000 0 0 0).parts.header := short_header ..
  intro k _
  refine ⟨rfl, rfl, h1, by show 31 + 0 < 32; decide, rfl, rfl, by rw [h2]; decide, ?_⟩
  rw [h3]
  exact ⟨rfl, by decide, rfl, rfl, by decide, rfl, rfl, by decide, rfl, rfl, forged_fails _ _ _ _ _ (by decide)⟩

/-- A genuine data frame on channel 0, and one on channel 3 with HOLD. -/
theorem witness_InboundStartDiscards_late : ∀ q ∈ [((0x2A610100 : Word), 0), (0x2A610103, 3)],
    let f := under5 q.1 81
    let s := (receiving f).updChan 3 fun c => { c with flags := { hold := true } }
    s.engine.work = none ∧ s.lRx = [f] ∧ f.complete = true ∧ s.sOut.length + s.pool.setAside.toNat < 32 ∧ s.outboundPick = none
      ∧ s.partState = .run ∧ f.formed = true ∧ s.root.storeTag = some f.parts.header.storeTag
      ∧ f.parts.header.channel.toNat = q.2 ∧ (s.chan q.2).namesKey = true ∧ (s.chan q.2).current = some 5
      ∧ f.parts.header.slot.toNat = 5 ∧ (s.slot 5).generation = f.parts.header.generation ∧ (s.slot 5).suspect = false
      ∧ f.parts.header.counter.toNat = 81 ∧ (s.slot 5).top = 80 ∧ f.parts.header.kind = kindData
      ∧ ((s.chan q.2).kind ≠ .data ∨ (s.chan q.2).flags.hold = true) ∧ f.tagPasses (s.slot 5).material = true := by
  intro q hq
  have h1 : (under5 q.1 81).complete = true := short_complete ..
  have h2 : (under5 q.1 81).formed = (short q.1 0x05110000 81 0x00010000 0 0 0).formed := short_formed ..
  have h3 : (under5 q.1 81).parts.header = (short q.1 0x05110000 81 0x00010000 0 0 0).parts.header := short_header ..
  have h4 : (short q.1 0x05110000 81 0x00010000 0 0 0).parts.header.length.toNat = 1 → (under5 q.1 81).tagPasses 5 = true :=
    genuine_passes _ _ _ _ _
  refine ⟨rfl, rfl, h1, by show 31 + 0 < 32; decide, rfl, rfl, ?_⟩
  rw [h2, h3]
  simp only [List.mem_cons, List.not_mem_nil, or_false] at hq
  rcases hq with rfl | rfl <;>
    exact ⟨by decide, by decide, rfl, by decide, rfl, rfl, by decide, rfl, rfl, by decide, by decide, by decide, h4 (by decide)⟩

/-- The key of slot 5 in flight. -/
def inFlight5 : WorkKey := { ref := .slot 5, material := 5, generation := 17 }
/-- The root in flight. -/
def inFlightRoot : WorkKey := { ref := .root, material := 7, generation := 0 }

/-- A frame of channel 3 in flight, the channel OPEN or CLOSING. -/
def flying (w : Work) (st : ChanState) : State :=
  ((shop.setWork (some w)).updChan 3 fun c => { c with state := st, inEngine := true }).markSlot 5

theorem witness_OutboundCompletionPlacesFrame : ∀ st ∈ [ChanState.opened, .closing],
    (flying (.outData (frame 12 2 8) inFlight5 48211 3) st).engine.work = some (.outData (frame 12 2 8) inFlight5 48211 3)
      ∧ 3 < 48 ∧ inFlight5.ref = .slot 5 ∧ ((flying (.outData (frame 12 2 8) inFlight5 48211 3) st).chan 3).state = st
      ∧ ¬ (((flying (.outData (frame 12 2 8) inFlight5 48211 3) st).slot 5).state = .draining
        ∧ ((flying (.outData (frame 12 2 8) inFlight5 48211 3) st).slot 5).drain = 0) := by decide

/-- A control message under the root and under slot 5, the latest of context 3 and of none. -/
theorem witness_OutboundCompletionPlacesFrame_control : ∀ k ∈ [inFlightRoot, inFlight5], ∀ serial ∈ [4, 5],
    let m : CtrlMsg := { payload := [0x11], serial := serial }
    let s : State := (flying (.outControl m k 1204) .opened).setCtx 3 { state := .awaitDelivery, send := .queued, latest := some 4 }
    s.engine.work = some (.outControl m k 1204) ∧ (s.chan 0).state ≠ .closing
      ∧ (k.ref = .root ∨ k.ref = .slot 5 ∧ ¬ ((s.slot 5).state = .draining ∧ (s.slot 5).drain = 0))
      ∧ (s.ctx 3).isOpen = true ∧ (s.ctx 3).send = .queued ∧ (s.ctx 3).latest = some 4
      ∧ (∀ d, d < 3 → (s.ctx d).latest ≠ some m.serial) := by decide

/-- Beside context 3, whose latest message is another, no context is open. -/
theorem witness_OutboundCompletionPlacesFrame_other :
    let s : State := shop.setCtx 3 { state := .awaitDelivery, send := .queued, latest := some 4 }
    ∀ c, (s.ctx c).isOpen = true → (s.ctx c).send = .queued → (s.ctx c).latest ≠ some 5 :=
  every_ctx (p := fun _ x => x.isOpen = true → x.send = .queued → x.latest ≠ some 5) _ (by decide) fun _ => by decide

theorem witness_InboundCompletionDelivers : ∀ st ∈ [ChanState.opened, .closing],
    (flying (.inbound (junk 0x2A610103 0x00010000) inFlight5 81 3) st).engine.work
        = some (.inbound (junk 0x2A610103 0x00010000) inFlight5 81 3)
      ∧ (junk 0x2A610103 0x00010000).parts.header.kind = kindData ∧ inFlight5.ref = .slot 5
      ∧ ((flying (.inbound (junk 0x2A610103 0x00010000) inFlight5 81 3) st).chan 3).state = st
      ∧ ¬ (((flying (.inbound (junk 0x2A610103 0x00010000) inFlight5 81 3) st).slot 5).state = .draining
        ∧ ((flying (.inbound (junk 0x2A610103 0x00010000) inFlight5 81 3) st).slot 5).drain = 0) := by decide

/-- An empty payload is unparseable. -/
theorem witness_InboundControlActs : ∃ (s : State) (f : LineIn), s.engine.work = some (.inbound f inFlightRoot 1 0)
    ∧ f.parts.header.kind = kindControl ∧ inFlightRoot.ref = .root ∧ (s.chan 0).state ≠ .closing
    ∧ parseMessage (f.payload inFlightRoot.material) = none := by
  refine ⟨shop.setWork (some (.inbound { count := 16, words := [0x2A610200, 0, 1, 0] } inFlightRoot 1 0)),
    { count := 16, words := [0x2A610200, 0, 1, 0] }, rfl, by decide, rfl, by decide, ?_⟩
  rfl

/-- A control frame under the root with five bytes of ciphertext. -/
def five (e g : Word) : LineIn := { count := 29, words := [0x2A610200, 0, 1, 0x00050000, e, g, 0, 0] }

theorem five_header (e g : Word) : (five e g).parts.header = (five 0 0).parts.header := rfl

theorem five_bytes (e g : Word) : ((five e g).bytes.drop 16).take 5 =
    [BitVec.ofNat 8 (e.toNat / 256 ^ 3), BitVec.ofNat 8 (e.toNat / 256 ^ 2), BitVec.ofNat 8 (e.toNat / 256 ^ 1),
     BitVec.ofNat 8 (e.toNat / 256 ^ 0), BitVec.ofNat 8 (g.toNat / 256 ^ 3)] := rfl

theorem five_cipher (e g : Word) : (five e g).parts.cipher = ((five e g).bytes.drop 16).take 5 := by
  have h : (five e g).parts.header.length.toNat = 5 := by
    rw [five_header]
    decide
  unfold LineIn.parts at *
  dsimp only at *
  rw [h]

theorem xor_five (a b c d e : Byte) (n : Nat) : xorBytes [a, b, c, d, e] (natBytes 16 n) =
    [a ^^^ BitVec.ofNat 8 (n / 256 ^ 15), b ^^^ BitVec.ofNat 8 (n / 256 ^ 14), c ^^^ BitVec.ofNat 8 (n / 256 ^ 13),
     d ^^^ BitVec.ofNat 8 (n / 256 ^ 12), e ^^^ BitVec.ofNat 8 (n / 256 ^ 11)] := rfl

theorem encipher_five (k : Block) (f : CounterFields) (a b c d e : Byte) :
    encipher k f [a, b, c, d, e] = xorBytes [a, b, c, d, e] (natBytes 16 (Config.E k (f.block 1)).toNat) := by
  simp [encipher, keystream, blockCount, blockBytes]

/-- The ciphertext byte that deciphers to p against the keystream byte q. -/
theorem decipher (p q : Byte) (n : Nat) (h : n % 256 = (p ^^^ q).toNat) : BitVec.ofNat 8 n ^^^ q = p := by
  have : BitVec.ofNat 8 n = p ^^^ q := BitVec.eq_of_toNat_eq (by rw [BitVec.toNat_ofNat]; exact h)
  rw [this, BitVec.xor_assoc, BitVec.xor_self, BitVec.xor_zero]

/-- Five bytes that decipher under the root to a LOOPBACK PROBE of number 258 with an empty payload. -/
theorem probe_payload : ∃ e g : Word, (five e g).payload 7 = [0x27, 1, 2, 0, 0] := by
  generalize hn : (Config.E 7 (((five 0 0).parts.header.fields .inbound).block 1)).toNat = n
  let q (p : Byte) (j : Nat) : Nat := (p ^^^ BitVec.ofNat 8 (n / 256 ^ j)).toNat
  have hq : ∀ p j, q p j < 256 := fun p j => (p ^^^ BitVec.ofNat 8 (n / 256 ^ j)).isLt
  have h1 := hq 0x27 15
  have h2 := hq 1 14
  have h3 := hq 2 13
  have h4 := hq 0 12
  have h5 := hq 0 11
  refine ⟨word4 (q 0x27 15) (q 1 14) (q 2 13) (q 0 12), word4 (q 0 11) 0 0 0, ?_⟩
  dsimp only [LineIn.payload]
  rw [five_header, five_cipher, five_bytes, encipher_five, hn, xor_five, word4_toNat, word4_toNat,
    decipher 0x27 _ _ (show _ = q 0x27 15 by omega), decipher 1 _ _ (show _ = q 1 14 by omega),
    decipher 2 _ _ (show _ = q 2 13 by omega), decipher 0 _ _ (show _ = q 0 12 by omega),
    decipher 0 _ _ (show _ = q 0 11 by omega)]

/-- A LOOPBACK PROBE of number 258 with an empty payload, no command waiting. -/
theorem witness_InboundControlActs_probe : ∃ (s : State) (f : LineIn), s.engine.work = some (.inbound f inFlightRoot 1 0)
    ∧ f.parts.header.kind = kindControl ∧ inFlightRoot.ref = .root ∧ (s.chan 0).state ≠ .closing
    ∧ parseMessage (f.payload inFlightRoot.material) = some (.probe 258 0 []) ∧ s.partState = .run ∧ s.pool.free = 1
    ∧ s.ctrl.length = 7 ∧ s.pending.head? = none := by
  obtain ⟨e, g, h⟩ := probe_payload
  refine ⟨(tight 0 {}).setWork (some (.inbound (five e g) inFlightRoot 1 0)), five e g, rfl, ?_, rfl, ?_, ?_, rfl, rfl, rfl, rfl⟩
  · rw [five_header]
    decide
  · show ((tight 0 {}).chan 0).state ≠ .closing
    decide
  · rw [show inFlightRoot.material = 7 from rfl, h]
    decide

/-- R109: the same probe while the retry of context 0 waits to be taken next: its echo takes the last buffer. -/
theorem witness_InboundControlActs_meets : ∃ (s u : State) (f : LineIn) (m : Message) (i : Instr),
    s.engine.work = some (.inbound f inFlightRoot 1 0) ∧ parseMessage (f.payload inFlightRoot.material) = some m
      ∧ u = ({ s with messenger := s.messenger.countHanded m } : State).takeMessage m ∧ m.isProbe = true ∧ s.pool.free = 1
      ∧ u.pool.free = 0 ∧ s.pending.head? = some i ∧ s.asksComposition i = true ∧ u.pending.head? = some i
      ∧ u.asksComposition i = true ∧ s.ctrl.length = 7 ∧ s.partState = .run ∧ u.partState = .run
      ∧ f.parts.header.kind = kindControl ∧ (u.chan 0).state ≠ .closing := by
  obtain ⟨e, g, h⟩ := probe_payload
  refine ⟨((tight 0 { state := .awaitDelivery, exchange := some 1, kind := some .boot, retryDue := true }).setWork
      (some (.inbound (five e g) inFlightRoot 1 0))).setPending [.contextComposeRetry 0], _, five e g,
    .probe 258 0 [], .contextComposeRetry 0, rfl, ?_, rfl, rfl, rfl, rfl, rfl, rfl, rfl, rfl, rfl, rfl, rfl, ?_, ?_⟩
  · rw [show inFlightRoot.material = 7 from rfl, h]
    decide
  · rw [five_header]
    decide
  · show ChanState.opened ≠ .closing
    decide

/-- Nothing falls together with a step when no command waits. -/
theorem witness_InboundControlActs_alone : ∀ i ∈ base.pending.head?, base.asksComposition i = false := by decide

/-- A message that acts, under the root and under slot 5. -/
theorem witness_InboundControlActs_any : ∀ k ∈ [inFlightRoot, { inFlight5 with material := 7 }],
    ∃ (s u : State) (f : LineIn) (m : Message), s.engine.work = some (.inbound f k 1 0) ∧ f.parts.header.kind = kindControl
      ∧ parseMessage (f.payload k.material) = some m ∧ u = ({ s with messenger := s.messenger.countHanded m } : State).takeMessage m
      ∧ (u.chan 0).state ≠ .closing
      ∧ (k.ref = .root ∨ k.ref = .slot 5 ∧ ¬ ((u.slot 5).state = .draining ∧ (u.slot 5).drain = 0)) := by
  obtain ⟨e, g, h⟩ := probe_payload
  intro k hk
  have hm : k.material = 7 := by revert k; decide
  refine ⟨(tight 0 {}).setWork (some (.inbound (five e g) k 1 0)), _, five e g, .probe 258 0 [], rfl, ?_, ?_, rfl, ?_, ?_⟩
  · rw [five_header]
    decide
  · rw [hm, h]
    decide
  · show ChanState.opened ≠ .closing
    decide
  · simp only [List.mem_cons, List.not_mem_nil, or_false] at hk
    rcases hk with rfl | rfl
    · exact .inl rfl
    · exact .inr ⟨rfl, fun h => absurd (show SlotState.active = .draining from h.1) (by decide)⟩

/-- Fields at the top of their ranges, and as many pairs as a REPORT ACK may hold. -/
theorem witness_InboundControlActs_parses : 65535 < 65536 ∧ 4294967295 < 2 ^ 32 ∧ 65535 < 2 ^ 16
    ∧ (List.replicate 16 (0xFF : Byte)).length = 16 ∧ (List.replicate 8 ((1, 255) : Byte × Byte)).length ≤ 8 := by decide

/-- Section 7.10: context 2 holds exchange 41 for slot 5 in AWAIT_DELIVERY; slot 9 is EMPTY. -/
def awaiting : State := shop.setCtx 2
  { state := .awaitDelivery, exchange := some 41, kind := some .renewal, subject := some 5, reason := some .projected, send := .sent,
    reply := 9 }

/-- Key material 9 for a target and a generation, as root 7 wraps it: its check block (R38). -/
def checkBlock (target generation : Byte) : Block :=
  Config.E 7 (firstHalf (Config.E 9 0) ++ target ++ generation ++ (0 : BitVec 48))

theorem checkBlock_unwraps (target generation : Byte) :
    unwrap 7 (Config.E 7 9) (checkBlock target generation) target generation = some 9 := by
  have ht := target.isLt
  have hg := generation.isLt
  have h0 : ∀ a : BitVec 64, (a ++ target ++ generation ++ (0 : BitVec 48)).toNat
      = ((a.toNat * 256 + target.toNat) * 256 + generation.toNat) * 281474976710656 := by
    intro a
    rw [toNat_append_eq (m := 80), toNat_append_eq (m := 72), toNat_append_eq (m := 64)]
    simp
  have h1 : ∀ a : BitVec 64, firstHalf (a ++ target ++ generation ++ (0 : BitVec 48)) = a := by
    intro a
    apply BitVec.eq_of_toNat_eq
    have := a.isLt
    simp only [firstHalf, BitVec.extractLsb'_toNat, Nat.shiftRight_eq_div_pow, h0]
    omega
  have h2 : ∀ a : BitVec 64, lastHalf (a ++ target ++ generation ++ (0 : BitVec 48)) = target ++ generation ++ (0 : BitVec 48) := by
    intro a
    apply BitVec.eq_of_toNat_eq
    have h3 : (target ++ generation ++ (0 : BitVec 48)).toNat = (target.toNat * 256 + generation.toNat) * 281474976710656 := by
      rw [toNat_append_eq (m := 16), toNat_append_eq (m := 8)]
      simp
    simp only [h3, lastHalf, BitVec.extractLsb'_toNat, Nat.shiftRight_eq_div_pow, h0]
    omega
  simp only [unwrap, checkBlock, Equiv.symm_apply_apply, h1, h2, and_self, if_true]

/-- Delivery h of section 7.10 with any limits: slot 9, predecessor 5, level 0, generation 18, and key material 9. -/
def deliveryH (hard soft lead maxAge : Nat) : Delivery :=
  { exchange := 41, target := .slot 9, targetCode := 9, predecessor := some 5, generation := 18, level := 0, hard := hard, soft := soft,
    lead := lead, maxAge := maxAge, c1 := Config.E 7 9, c2 := checkBlock 9 18 }

/-- An open context serves the slot that is spent. -/
theorem witness_keySpentIn : (awaiting.ctx 2).isOpen = true ∧ (awaiting.ctx 2).subject = some 5 := by decide

theorem shop_targets (s : State) (h : s.slots = shop.slots) : (∀ d : Delivery, d.target = .slot 9 → s.targetSlot d 9)
    ∧ ∀ d : Delivery, d.target = .anyFree → s.targetSlot { d with target := .anyFree } 1 := by
  have h1 : s.slot 1 = {} := by rw [State.slot, h]; rfl
  have h9 : s.slot 9 = {} := by rw [State.slot, h]; rfl
  exact ⟨fun d hd => ⟨by omega, by omega, by rw [h9], .inl hd⟩,
    fun d _ => ⟨by omega, by omega, by rw [h1], .inr ⟨rfl, fun z h2 h3 => absurd h3 (by omega)⟩⟩⟩

/-- Limits below, at and above every bound of R57, to the slot named and to any free one. -/
theorem witness_DeliveryStagesKey : ∀ (hard soft lead maxAge : Nat) (e : Nat), e ≠ 2 →
    (awaiting.ctx 2).state = .awaitDelivery ∧ (deliveryH hard soft lead maxAge).exchange ≠ 0
      ∧ (awaiting.ctx 2).exchange = some (deliveryH hard soft lead maxAge).exchange
      ∧ (awaiting.ctx e).exchange ≠ some (deliveryH hard soft lead maxAge).exchange
      ∧ (deliveryH hard soft lead maxAge).predecessor = some 5 ∧ (awaiting.ctx 2).subject = some 5
      ∧ (awaiting.slot 5).state = .active ∧ awaiting.targetSlot (deliveryH hard soft lead maxAge) 9
      ∧ awaiting.targetSlot { deliveryH hard soft lead maxAge with target := .anyFree } 1
      ∧ (deliveryH hard soft lead maxAge).level = (awaiting.slot 5).level
      ∧ (deliveryH hard soft lead maxAge).generation = (awaiting.slot 5).generation + 1
      ∧ unwrap awaiting.root.material (deliveryH hard soft lead maxAge).c1 (deliveryH hard soft lead maxAge).c2
          (deliveryH hard soft lead maxAge).targetCode (deliveryH hard soft lead maxAge).generation = some 9
      ∧ awaiting.partState = .run ∧ 0 < awaiting.pool.free ∧ awaiting.ctrl.length < 8 := by
  intro hard soft lead maxAge e he
  refine ⟨rfl, by show 41 ≠ 0; decide, rfl, ?_, rfl, rfl, rfl, (shop_targets _ rfl).1 _ rfl,
    (shop_targets _ rfl).2 { deliveryH hard soft lead maxAge with target := .anyFree } rfl, rfl, rfl, checkBlock_unwraps .., rfl,
    by decide, by decide⟩
  have h := every_ctx (p := fun c x => c ≠ 2 → x.exchange ≠ some 41) awaiting (by decide) (fun _ _ => by decide) e
  exact h he

/-- A BOOT context in AWAIT_DELIVERY, and its delivery of level 0 to any free slot. -/
theorem witness_DeliveryStagesKey_boot : ∀ e, e ≠ 2 →
    let s : State := { shop.setCtx 2 { state := .awaitDelivery, exchange := some 41, kind := some .boot, reason := some .boot,
                                       send := .sent, reply := 9 } with partState := .bootstrap }
    let d : Delivery := { deliveryH 0 0 0 0 with predecessor := none, target := .anyFree, targetCode := 255, c2 := checkBlock 255 18 }
    (s.ctx 2).state = .awaitDelivery ∧ d.exchange ≠ 0 ∧ (s.ctx 2).exchange = some d.exchange ∧ (s.ctx e).exchange ≠ some d.exchange
      ∧ (s.ctx 2).subject = d.predecessor ∧ d.predecessor = none ∧ (s.chan 0).current = none ∧ d.level = 0 ∧ s.targetSlot d 1
      ∧ unwrap s.root.material d.c1 d.c2 d.targetCode d.generation = some 9 ∧ s.partState = .bootstrap ∧ 0 < s.pool.free := by
  intro e he
  refine ⟨rfl, by show 41 ≠ 0; decide, rfl, ?_, rfl, rfl, by decide, rfl,
    (shop_targets _ rfl).2 { deliveryH 0 0 0 0 with predecessor := none, target := .anyFree, targetCode := 255, c2 := checkBlock 255 18 }
      rfl, checkBlock_unwraps .., rfl, by decide⟩
  have h := every_ctx (p := fun c x => c ≠ 2 → x.exchange ≠ some 41)
    (shop.setCtx 2 { state := .awaitDelivery, exchange := some 41, kind := some .boot, reason := some .boot, send := .sent, reply := 9 })
    (by decide) (fun _ _ => by decide) e
  exact h he

/-- Exchange 0: an INSTALL to slot 9, and a root renewal. -/
theorem witness_DeliveryStagesKey_opens :
    let d : Delivery := { deliveryH 0 0 0 0 with exchange := 0, predecessor := none }
    let q : Delivery := { d with target := .slot 0, targetCode := 0, generation := 0, c2 := checkBlock 0 0 }
    (shop.ctx 0).isOpen = false ∧ d.exchange = 0 ∧ d.predecessor = none ∧ shop.messenger.nextExchange = 1
      ∧ shop.targetSlot d 9 ∧ d.level = 0 ∧ unwrap shop.root.material d.c1 d.c2 d.targetCode d.generation = some 9
      ∧ q.exchange = 0 ∧ q.predecessor = none ∧ q.target = .slot 0 ∧ shop.root.active = true ∧ shop.root.pendingRoot = none
      ∧ q.generation = 0 ∧ unwrap shop.root.material q.c1 q.c2 q.targetCode q.generation = some 9 :=
  ⟨by decide, rfl, rfl, rfl, (shop_targets _ rfl).1 _ rfl, rfl, checkBlock_unwraps .., rfl, rfl, rfl, rfl, rfl, rfl,
    checkBlock_unwraps ..⟩

/-- Rejections 1 to 6 of R120, with exchange 41 and with exchange 0, each with a composition that can and one that cannot
succeed. -/
def rejecting : List (State × Delivery × Nat) :=
  let root : Delivery := { deliveryH 0 0 0 0 with exchange := 0, predecessor := none, target := .slot 0 }
  [(awaiting.setSlot 9 { key5 with level := 1 }, deliveryH 0 0 0 0, 1), (awaiting, { deliveryH 0 0 0 0 with target := .slot 0 }, 1),
    (awaiting.updRoot fun r => { r with pendingRoot := some 3 }, root, 1),
    (awaiting.mapSlots fun _ v => if v.state = .empty then { v with state := .staged } else v,
      { deliveryH 0 0 0 0 with target := .anyFree }, 2),
    (awaiting, { deliveryH 0 0 0 0 with level := 1 }, 3),
    (awaiting, { deliveryH 0 0 0 0 with level := 1, exchange := 0, predecessor := none }, 3),
    (awaiting, { deliveryH 0 0 0 0 with generation := 17 }, 4), (awaiting, root, 4),
    (awaiting, { deliveryH 0 0 0 0 with exchange := 40 }, 6), (awaiting, { deliveryH 0 0 0 0 with exchange := 0 }, 6)]

theorem witness_DeliveryStagesKey_rejected : ∀ q ∈ rejecting, ∀ free ∈ [0, 1],
    let s : State := { q.1 with pool := { free := free } }
    let d := q.2.1
    (∀ c ∈ List.range 4, (s.ctx c).isOpen = true → (s.ctx c).exchange = some d.exchange → (s.ctx c).state = .awaitDelivery)
      ∧ d.exchange ∉ s.messenger.finished ∧ s.partState = .run ∧ s.ctrl.length < 8
      ∧ ((∃ c ∈ List.range 4, (d.exchange ≠ 0 ∧ (s.ctx c).state = .awaitDelivery ∧ (s.ctx c).exchange = some d.exchange
            ∧ (s.ctx c).subject = d.predecessor) ∨ (d.exchange = 0 ∧ d.predecessor = none ∧ (s.ctx c).isOpen = false)) ↔ q.2.2 ≠ 6)
      ∧ (q.2.2 = 1 → ∃ y ∈ List.range 24, d.target = .slot y
          ∧ (y = 0 ∧ ¬ (d.exchange = 0 ∧ s.root.active = true ∧ s.root.pendingRoot = none) ∨ 1 ≤ y ∧ (s.slot y).state ≠ .empty))
      ∧ (q.2.2 = 2 → d.target = .anyFree ∧ ∀ y ∈ List.range 24, 1 ≤ y → (s.slot y).state ≠ .empty)
      ∧ (3 ≤ q.2.2 → q.2.2 ≤ 4 → (d.target = .slot 9 ∧ (s.slot 9).state = .empty)
          ∨ (d.target = .slot 0 ∧ d.exchange = 0 ∧ s.root.active = true ∧ s.root.pendingRoot = none))
      ∧ (q.2.2 = 3 → (d.predecessor = some 5 ∧ d.level ≠ (s.slot 5).level)
          ∨ (d.predecessor = none ∧ d.target ≠ .slot 0 ∧ (s.chan 0).current = none ∧ d.level ≠ 0))
      ∧ (q.2.2 = 4 → (d.predecessor = some 5 ∧ d.level = (s.slot 5).level ∧ d.generation ≠ (s.slot 5).generation + 1)
          ∨ (d.predecessor = none ∧ d.target = .slot 0 ∧ d.generation ≠ 0)) := by
  intro q hq free hf
  simp only [rejecting, List.mem_cons, List.not_mem_nil, or_false] at hq hf
  rcases hq with rfl | rfl | rfl | rfl | rfl | rfl | rfl | rfl | rfl | rfl <;> rcases hf with rfl | rfl <;>
    exact ⟨by decide, by decide, rfl, by decide, by decide, by decide, by decide, by decide, by decide, by decide⟩

/-- Rejection 5: the material's check block is 0. -/
theorem witness_DeliveryStagesKey_wrapCheck :
    (deliveryH 0 0 0 0).level = (awaiting.slot 5).level ∧ (deliveryH 0 0 0 0).generation = (awaiting.slot 5).generation + 1
      ∧ unwrap awaiting.root.material (Config.E 7 9) (Config.E 7 0) 9 18 = none := by
  refine ⟨rfl, rfl, ?_⟩
  show unwrap 7 _ _ 9 18 = none
  simp only [unwrap, Equiv.symm_apply_apply]
  exact if_neg fun h => absurd h.2 (by decide)

/-- Section 2.8: exchange 41 waits for its commit, channels 3 (EXHAUSTED, with alias 12) and 4 on slot 5. -/
def committing : State :=
  (((((shop.updSlot 5 fun v => { v with successor := some 9 }).setSlot 9
    { key5 with state := .staged, generation := 18, predecessor := some 5 }).updChan 3 fun c => { c with state := .exhausted }).updChan 12
    fun c => { c with state := .exhausted }).setChan 4 { kind := .data, state := .opened, current := some 5 }).setCtx 2
    { state := .awaitCommit, exchange := some 41, kind := some .renewal, subject := some 5, successor := some 9 }

theorem witness_KeyCommitSwitchesKeys : (committing.ctx 2).state = .awaitCommit ∧ (committing.ctx 2).exchange = some 41
    ∧ (∀ d, d < 2 → (committing.ctx d).exchange ≠ some 41) ∧ (committing.ctx 2).kind = some .renewal
    ∧ (committing.ctx 2).subject = some 5 ∧ (committing.ctx 2).successor = some 9 ∧ (committing.slot 5).state = .active
    ∧ (committing.slot 9).state = .staged ∧ (committing.chan 3).currentIs 5 = true ∧ (committing.chan 4).currentIs 5 = true
    ∧ (committing.chan 12).kind = .aliased ∧ (committing.chan 12).target = some 3
    ∧ (committing.chan 20).currentIs 5 = false ∧ (committing.chan 20).kind ≠ .aliased := by decide

/-- A data frame of channel 4 under slot 9, the staged successor of its slot 5. -/
theorem witness_InboundStartAcceptsFrame_successor :
    let f := genuine 0x2A610104 0x09120000 81 0x00010000 5
    let s : State := { committing.updSlot 9 (fun v => { v with top := 0 }) with lRx := [f] }
    s.engine.work = none ∧ s.partState = .run ∧ s.lRx = [f] ∧ f.complete = true ∧ s.outboundPick = none ∧ f.formed = true
      ∧ s.root.storeTag = some f.parts.header.storeTag ∧ f.parts.header.channel.toNat = 4 ∧ f.parts.header.counter.toNat = 81
      ∧ (s.chan 4).kind = .data ∧ f.parts.header.kind = kindData ∧ (s.chan 4).flags.hold = false ∧ (s.chan 4).current = some 5
      ∧ (s.chan 4).alternate ≠ some 9 ∧ (s.slot 5).state = .active ∧ (s.slot 5).successor = some 9 ∧ (s.slot 9).state = .staged
      ∧ (s.ctx 2).state = .awaitCommit ∧ (s.ctx 2).kind = some .renewal ∧ (s.ctx 2).subject = some 5
      ∧ (s.ctx 2).successor = some 9 ∧ (s.ctx 2).exchange = some 41 ∧ (∀ d, d < 2 → (s.ctx d).successor ≠ some 9)
      ∧ f.parts.header.slot.toNat = 9 ∧ (s.slot 9).generation = f.parts.header.generation ∧ (s.slot 9).suspect = false
      ∧ (s.slot 9).top < 81 ∧ f.tagPasses (s.slot 9).material = true := by
  obtain ⟨h1, h2, h3, h4⟩ := genuine_facts 0x2A610104 0x09120000 81 5 (by decide)
  refine ⟨rfl, rfl, rfl, h1, rfl, by rw [h2]; decide, ?_⟩
  rw [h3]
  exact ⟨rfl, by decide, by decide, rfl, by decide, rfl, rfl, nofun, rfl, rfl, rfl, rfl, rfl, rfl, rfl, rfl, by decide, by decide,
    by decide, rfl, by decide, h4⟩

/-- The staged key of slot 9 waits for its commit, beside another BOOT context; channel 0 is unbound in BOOTSTRAP or bound in RUN. -/
def installing (k : CtxKind) (bound : Bool) : State :=
  let s := (((base.setSlot 9 { key5 with state := .staged }).setCtx 1
    { state := .awaitCommit, exchange := some 7, kind := some k, successor := some 9 }).setCtx 3
    { state := .awaitDelivery, exchange := some 8, kind := some .boot }).updChan 0 fun c =>
      { c with current := if bound then some 5 else none }
  { s with partState := if bound then .run else .bootstrap }

theorem witness_KeyCommitSwitchesKeys_install : ∀ k ∈ [CtxKind.boot, .install], ∀ b ∈ [false, true],
    ((installing k b).ctx 1).state = .awaitCommit ∧ ((installing k b).ctx 1).exchange = some 7
      ∧ (∀ d, d < 1 → ((installing k b).ctx d).exchange ≠ some 7) ∧ ((installing k b).ctx 1).kind = some k
      ∧ ((installing k b).ctx 1).successor = some 9 ∧ ((installing k b).slot 9).state = .staged
      ∧ ((installing k b).chan 0).current = (if b then some 5 else none) ∧ ((installing k b).ctx 3).kind = some .boot
      ∧ ((installing k b).ctx 3).state = .awaitDelivery
      ∧ (∀ d, d < 3 → d = 1 ∨ ¬ (((installing k b).ctx d).kind = some .boot ∧ ((installing k b).ctx d).state = .awaitDelivery))
      ∧ (installing k b).partState = if b then .run else .bootstrap := by decide

theorem witness_KeyCommitSwitchesKeys_installLaw : (installing .boot false).FaultListLaw := by
  unfold State.FaultListLaw; decide

theorem witness_KeyCommitSwitchesKeys_root :
    let s : State := { base.setCtx 0 { state := .awaitCommit, exchange := some 7, kind := some .root, successor := some 0 } with
      root := { base.root with pendingRoot := some 8 } }
    (s.ctx 0).state = .awaitCommit ∧ (s.ctx 0).exchange = some 7 ∧ (s.ctx 0).kind = some .root ∧ s.root.pendingRoot = some 8 := by
  decide

/-- LOCAL LOOP with the counts 1 and 16, in each of the three states. -/
theorem witness_LocalLoopRunsItsTest : ∀ n ∈ [1, 16], ∀ st ∈ [PartState.noRoot, .bootstrap, .run],
    ({ base with partState := st } : State).lPort.cmd = .idle ∧ 1 ≤ fieldD (word4 0 0 0 n) ∧ fieldD (word4 0 0 0 n) ≤ 16 := by decide

/-- LOCAL LOOP refused for the part state, and for the counts 0 and 17. -/
theorem witness_LocalLoopRunsItsTest_refused : (∀ st ∈ [PartState.boot, .failed, .quiesced],
      ({ base with partState := st } : State).lPort.cmd = .idle)
    ∧ ∀ n ∈ [0, 17], base.lPort.cmd = .idle ∧ base.partState = .run ∧ (fieldD (word4 0 0 0 n) = 0 ∨ 16 < fieldD (word4 0 0 0 n)) := by
  decide

/-- A test of two frames: the first offered, in flight, and the second in flight. -/
def testing (work : Option Work) (q : TestRecord) : State :=
  { base.setWork work with link := { quiet := .running, test := some q }, lPort := { cmd := .inProgress .localLoop } }

theorem witness_LocalLoopRunsItsTest_frames :
    ((testing none { requested := 2 }).engine.work = none ∧ (testing none { requested := 2 }).lTx.length < 32
      ∧ (testing none { requested := 2 }).ctrl = [] ∧ (testing none { requested := 2 }).link.test = some { requested := 2 }
      ∧ (testing none { requested := 2 }).inboundEligible = false)
    ∧ ((testing (some (.test 1)) { requested := 2 }).engine.work = some (.test 1) ∧ 1 < 2)
    ∧ ((testing (some (.test 2)) { requested := 2, next := 2, run := 1, passed := 1 }).engine.work = some (.test 2) ∧ 2 ≤ 2
      ∧ 1 + 1 = 2) := by decide

/-- The last frame of a test whose first failed, and of one whose frames all pass, with the self-check mark held and released. -/
theorem witness_LocalLoopRunsItsTest_ends : ∀ q ∈ [(0, some 1), (1, none)], ∀ b ∈ [false, true],
    let s : State := (testing (some (.test 2)) { requested := 2, next := 2, run := 1, passed := q.1, firstFail := q.2 }).updLink
      fun l => { l with selfCheckMark := b }
    s.engine.work = some (.test 2) ∧ (∃ r, s.link.test = some r ∧ r.requested = 2 ∧ r.run = 1 ∧ r.passed = q.1 ∧ r.firstFail = q.2)
      ∧ s.link.selfCheckMark = b ∧ s.faults.records = [] := by
  intro q hq b hb
  refine ⟨rfl, ⟨_, rfl, rfl, rfl, rfl, rfl⟩, rfl, rfl⟩

/-! #### The access points -/

/-- A FRAME IN descriptor of the length given. -/
def descriptor (length : Nat) : Word := word2 0x0C00 length

/-- Lengths at both bounds of both ports; the last places of the queues and the last buffer above the reserve. -/
theorem witness_FrameInWriteStartsPush :
    (∀ n ∈ [1, 1500], 1 ≤ descLength (descriptor n) ∧ descLength (descriptor n) ≤ 1500)
    ∧ (∀ n ∈ [1, 1536], 1 ≤ descLength (descriptor n) ∧ descLength (descriptor n) ≤ 1536)
    ∧ (let s : State := { base with pool := { free := 9 }, sIn := List.replicate 31 (frame 3 0 1), lRx := List.replicate 31 { count := 0 } }
       s.sPort.push = .none ∧ s.lPort.push = .none ∧ s.partState ≠ .failed ∧ s.sIn.length < 32 ∧ s.lRx.length < 32 ∧ 8 < s.pool.free) := by
  decide

/-- Each reason of an overrun: FAILED, a full queue, the reserve. -/
theorem witness_FrameInWriteStartsPush_overrun : ∀ s ∈ [{ base with partState := .failed },
      { base with sIn := List.replicate 32 (frame 3 0 1) }, { base with pool := { free := 8 } }],
    s.sPort.push = .none ∧ (s.partState = .failed ∨ 32 ≤ s.sIn.length ∨ s.pool.free ≤ 8) := by decide

/-- The same at the L-port, and the lengths next to each bound. -/
theorem witness_FrameInWriteStartsPush_line : (∀ s ∈ [{ base with partState := .failed },
      { base with lRx := List.replicate 32 { count := 1 } }, { base with pool := { free := 8 } }],
    s.lPort.push = .none ∧ (s.partState = .failed ∨ 32 ≤ s.lRx.length ∨ s.pool.free ≤ 8))
    ∧ (∀ n ∈ [1, 2], let s : State := { base with lPort := { push := .frame n }, lRx := [{ count := 8, words := [] }] }
        s.lPort.push = .frame n ∧ s.lRx = [] ++ [{ count := 8, words := [] }])
    ∧ (∀ p, (base.port p).push = .none) ∧ descLength (descriptor 0) = 0 ∧ 1500 < descLength (descriptor 1501)
    ∧ 1536 < descLength (descriptor 1537) := by
  refine ⟨by decide, by decide, ?_, by decide⟩
  rintro (_ | _) <;> rfl

/-- The last word of a push, a word before it, and an ignored word. -/
theorem witness_FrameInWriteStartsPush_words : ∀ n ∈ [1, 2],
    ({ base with sPort := { push := .frame n }, sIn := [{ frame 3 0 8 with words := [] }] } : State).sPort.push = .frame n
      ∧ ({ base with sPort := { push := .frame n }, sIn := [{ frame 3 0 8 with words := [] }] } : State).sIn
          = [] ++ [{ frame 3 0 8 with words := [] }]
      ∧ ∀ p ∈ [Port.s, .l],
          (State.port { base with sPort := { push := .ignoring n }, lPort := { push := .ignoring n } } p).push = .ignoring n := by decide

/-- S-out with a delivered frame of 5 bytes, or a notice, at its head. -/
def pulling (refusal : Option RefuseReason) (pos : Nat) : State :=
  { base with
    sOut := [{ channel := 20, level := 2, length := 5, refusal := refusal, payload := [1, 2, 3, 4, 5] }]
    sPort := { pullPos := pos } }

theorem witness_FrameOutReadPulls : (∀ p, base.outCount p = 0)
    ∧ (∀ pos ∈ [0, 1], ∃ f, (pulling none pos).sOut = f :: [] ∧ f.refusal = none ∧ (pulling none pos).sPort.pullPos < (f.length + 3) / 4)
    ∧ (∃ f, (pulling (some .level) 0).sOut = f :: [] ∧ f.refusal ≠ none ∧ (pulling (some .level) 0).sPort.pullPos = 0)
    ∧ ∃ f, (pulling none 2).sOut = f :: [] ∧ f.refusal = none ∧ (pulling none 2).sPort.pullPos = (f.length + 3) / 4 := by
  refine ⟨?_, ?_, ⟨_, rfl, by decide, rfl⟩, ⟨_, rfl, rfl, rfl⟩⟩
  · rintro (_ | _) <;> rfl
  · intro pos h
    refine ⟨_, rfl, rfl, ?_⟩
    revert pos
    decide

/-- The head of L-tx, a frame of 25 bytes, read at its first, a middle and its last word. -/
theorem witness_FrameOutReadPulls_line : ∀ pos ∈ [0, 3, 7],
    let bs : List Byte := List.replicate 25 0xA5
    let ws := BitVec.ofNat 32 bs.length :: packWords ((bs.length + 3) / 4) bs
    let s : State := { base with lTx := [bs], lPort := { pullPos := pos }, pool := { free := 15, low := true } }
    s.lTx = [bs] ∧ (ws[(s.port .l).pullPos]?).isSome = true ∧ ((s.port .l).pullPos + 1 = ws.length ↔ pos = 7)
      ∧ 16 ≤ s.pool.free + 1 ∧ s.pool.low = true := by decide

/-- The words of the head of S-out: a delivered frame, and a notice for each reason. -/
theorem witness_FrameOutReadPulls_words : (∀ pos ∈ [0, 1, 2],
      let ws : List Word := word4 0x52 0 0 5 :: packWords ((5 + 3) / 4) [1, 2, 3, 4, 5]
      (word4 0x52 0 0 5).toNat = 20 % 64 * 2 ^ 26 + 2 % 4 * 2 ^ 24 + 0 * 2 ^ 20 + 5 % 2048
        ∧ (ws[((pulling none pos).port .s).pullPos]?).isSome = true ∧ (pulling none pos).pool.low = false)
    ∧ ∀ q ∈ [(RefuseReason.notReady, 1), (.noChannel, 2), (.level, 3), (.held, 4), (.keySpent, 5)],
      (word4 0x52 (q.2 * 16) 0 5).toNat = 20 % 64 * 2 ^ 26 + 2 % 4 * 2 ^ 24 + q.2 * 2 ^ 20 + 5 % 2048
        ∧ ((pulling (some q.1) 0).port .s).pullPos + 1 = 1 := by decide

/-- A response of two words, read at its first and at its last word, and an empty response slot. -/
theorem witness_ResponseReadGoesRound : ∀ pos ∈ [0, 1],
    (({ base with sPort := { response := [1, 7], responsePos := pos } } : State).port .s).response[pos]? = some (if pos = 0 then 1 else 7)
      ∧ (({ base with sPort := { response := [1, 7], responsePos := pos } } : State).port .s).responsePos = pos
      ∧ (base.port .s).response = [] := by decide

/-- Mailbox lengths 0, 1 and 32 into an empty mailbox; a full one; a length of 33; words before the last, and last ones; words
ignored; the reads of a mailbox of 12 bytes and of an empty one. -/
theorem witness_MailboxPassesMessages :
    (∀ n ∈ [1, 32], (base.port .s).mailWrite = .none ∧ (base.port .s).mailbox.full = false ∧ 1 ≤ fieldD (word4 0 0 0 n)
      ∧ fieldD (word4 0 0 0 n) ≤ 32 ∧ fieldD (word4 0 0 0 0) = 0)
    ∧ (({ base with sPort := { mailbox := { full := true } } } : State).port .s).mailbox.full = true ∧ 32 < fieldD (word4 0 0 0 33)
    ∧ (∀ q ∈ [(5, ([] : List Word)), (32, List.replicate 6 0)],
        (({ base with sPort := { mailWrite := .gathering q.1 q.2 } } : State).port .s).mailWrite = .gathering q.1 q.2
          ∧ q.2.length + 1 < (q.1 + 3) / 4)
    ∧ (∀ q ∈ [(1, ([] : List Word)), (4, []), (5, [0]), (32, List.replicate 7 0)],
        (({ base with sPort := { mailWrite := .gathering q.1 q.2 } } : State).port .s).mailWrite = .gathering q.1 q.2
          ∧ q.1 ≤ 32 ∧ q.2.length + 1 = (q.1 + 3) / 4)
    ∧ (∀ n ∈ [1, 8], (({ base with sPort := { mailWrite := .ignoring n } } : State).port .s).mailWrite = .ignoring n)
    ∧ (∀ q ∈ [(0, 0), (12, 0), (12, 2), (12, 3)],
        let s : State := { base with sPort := { mailbox := { length := q.1, full := true } }, lPort := { mailPos := q.2 } }
        let m := (s.port (Port.other .l)).mailbox
        ((BitVec.ofNat 32 m.length :: packWords ((m.length + 3) / 4) (m.content.take m.length))[(s.port .l).mailPos]?).isSome = true
          ∧ (s.port .l).mailPos ≤ (m.length + 3) / 4) := by decide

theorem witness_RegisterWritesReachTheirPoint : ∀ n ∈ [2, 8],
    (base.port .l).cmd = .idle ∧ 2 ≤ (word4 0 0 0 n).toNat % 16 ∧ (word4 0 0 0 n).toNat % 16 ≤ 8
      ∧ (({ base with lPort := { cmd := .inProgress .localLoop } } : State).port .l).cmd = .inProgress .localLoop := by decide

set_option maxRecDepth 8000 in
/-- LOAD ROOT, number 16 of 6 words: its fifth word is one more, its sixth takes it. ERASE is taken at its one word. -/
theorem witness_RegisterWritesReachTheirPoint_gather :
    let s (k : Nat) : State := { base with sPort := { cmd := .writing (0x10000006 :: List.replicate k 0) } }
    ((s 3).port .s).cmd = .writing (0x10000006 :: List.replicate 3 0) ∧ (List.replicate 3 (0 : Word)).length + 2 < (0x10000006 : Word).toNat % 16
      ∧ ((s 4).port .s).cmd = .writing (0x10000006 :: List.replicate 4 0)
      ∧ (List.replicate 4 (0 : Word) ++ [0]).length + 1 = (0x10000006 : Word).toNat % 16 ∧ (0x10000006 : Word).toNat / 2 ^ 24 = 16
      ∧ (base.port .s).cmd = .idle ∧ (0x15000001 : Word).toNat / 2 ^ 24 = 21 ∧ (0x15000001 : Word).toNat % 16 = 1 := by decide

set_option maxRecDepth 8000 in
/-- Refused: the counts 0 and 9, the numbers 0 and 22 with a count of 1, and a QUIESCE of 2 words. -/
theorem witness_RegisterWritesReachTheirPoint_refused :
    let sizes := [0, 3, 2, 3, 2, 2, 2, 2, 2, 2, 2, 2, 2, 2, 1, 1, 6, 1, 1, 1, 2, 1]
    (base.port .s).cmd = .idle
      ∧ (∀ w ∈ [(0x12000000 : Word), 0x12000009, 0x00000001, 0x16000001], w.toNat % 16 ≤ 1 ∨ 8 < w.toNat % 16)
      ∧ (0x12000000 : Word).toNat % 16 = 0 ∧ ¬ (0x12000009 : Word).toNat % 16 = sizes.getD ((0x12000009 : Word).toNat / 2 ^ 24) 0
      ∧ ¬ (0x00000001 : Word).toNat % 16 = sizes.getD ((0x00000001 : Word).toNat / 2 ^ 24) 0
      ∧ ¬ (0x16000001 : Word).toNat % 16 = sizes.getD ((0x16000001 : Word).toNat / 2 ^ 24) 0
      ∧ (({ base with sPort := { cmd := .writing [0x12000002] } } : State).port .s).cmd = .writing [0x12000002]
      ∧ ([0] : List Word).length + 1 = (0x12000002 : Word).toNat % 16
      ∧ ¬ (0x12000002 : Word).toNat % 16 = sizes.getD ((0x12000002 : Word).toNat / 2 ^ 24) 0 := by
  refine ⟨rfl, by simp, rfl, by decide, by decide, by decide, rfl, rfl, by decide⟩

/-! #### Commands -/

/-- Both ports of a part fresh in RUN are idle, all that `ReadsRevealNoMaterial` asks and what every command asks of its port. -/
theorem witness_idle : ∀ p, (base.port p).cmd = .idle := by rintro (_ | _) <;> rfl

theorem witness_WrongPortIsRefused : shop.lPort.cmd = .idle ∧ shop.sPort.cmd = .idle
    ∧ Instr.quiesce .l ∈ [Instr.partReset .l, .quiesce .l, .resume .l] := by decide

/-- DATA at levels 1 and 3 on channels 1 and 47, with slot 11 or 23; an ALIAS of channel 20. -/
theorem witness_ChannelOpenBinds :
    (∀ q ∈ [((1 : Nat), 1, (11 : Nat)), (47, 3, 23)],
      let s : State := shop.setSlot q.2.2 { key5 with level := q.2.1 }
      let w := word4 q.1 1 q.2.1 q.2.2
      s.sPort.cmd = .idle ∧ s.partState ≠ .failed ∧ 1 ≤ fieldA w ∧ fieldA w ≤ 47 ∧ 1 ≤ fieldC w ∧ fieldC w ≤ 3
        ∧ (s.chan (fieldA w)).kind = .empty ∧ fieldB w = 1 ∧ 1 ≤ fieldD w ∧ fieldD w ≤ 23 ∧ (s.slot (fieldD w)).state = .active
        ∧ (s.slot (fieldD w)).spent = false ∧ (s.slot (fieldD w)).level = fieldC w)
    ∧ (let w := word4 47 2 3 20
       shop.sPort.cmd = .idle ∧ shop.partState ≠ .failed ∧ fieldA w = 47 ∧ 1 ≤ fieldC w ∧ fieldC w ≤ 3
        ∧ (shop.chan (fieldA w)).kind = .empty ∧ fieldB w = 2 ∧ 1 ≤ fieldD w ∧ fieldD w ≤ 47
        ∧ (shop.chan (fieldD w)).kind = .data ∧ 1 ≤ (shop.chan (fieldD w)).level ∧ (shop.chan (fieldD w)).state ≠ .closing) := by
  decide

/-- A DATA and an ALIAS order that pass, one that fails, and one of level 0, which only head office may give. -/
theorem witness_ChannelOpenBinds_checks :
    (∀ c ∈ shop.openChecks 47 1 2 11, c.1 = false) ∧ (∀ c ∈ shop.openChecks 47 2 3 20, c.1 = false)
    ∧ (∀ q ∈ [(0, 1, 2, 11, Status.refusedRange), (48, 1, 2, 11, .refusedRange), (47, 3, 2, 11, .refusedRange),
          (47, 1, 4, 11, .refusedRange), (47, 1, 0, 11, .refusedPort), (20, 1, 2, 11, .refusedState), (47, 1, 2, 24, .refusedRange),
          (47, 1, 2, 23, .notFound), (47, 1, 1, 11, .refusedState), (47, 2, 1, 48, .refusedRange), (47, 2, 1, 46, .notFound),
          (47, 2, 1, 12, .refusedRange), (47, 2, 1, 3, .refusedPort)],
        ((shop.openChecks q.1 q.2.1 q.2.2.1 q.2.2.2.1).find? (·.1)).map (·.2) = some q.2.2.2.2)
    ∧ (∀ c ∈ (shop.openChecks 47 1 0 5).filter (fun c => c.2 != .refusedPort), c.1 = false)
    ∧ (∀ c ∈ (shop.openChecks 47 2 0 3).filter (fun c => c.2 != .refusedPort), c.1 = false)
    ∧ ∃ c ∈ (shop.openChecks 20 1 0 5).filter (fun c => c.2 != .refusedPort), c.1 = true := by decide

/-- Channel 20 with and without a frame in the engine; an alias of channel 20 at index 47. -/
theorem witness_ChannelCloseReleases :
    (∀ b ∈ [false, true],
      let s : State := shop.updChan 20 fun c => { c with inEngine := b }
      s.sPort.cmd = .idle ∧ s.partState ≠ .failed ∧ fieldD (word4 0 0 0 20) = 20 ∧ (s.chan 20).state ≠ .closing
        ∧ (s.chan 20).kind = .data ∧ 1 ≤ (s.chan 20).level ∧ (s.chan 20).inEngine = b)
    ∧ (let s : State := shop.setChan 47 { kind := .aliased, level := 3, state := .opened, target := some 20 }
       s.sPort.cmd = .idle ∧ s.partState ≠ .failed ∧ (s.chan 47).state ≠ .closing ∧ (s.chan 47).kind = .aliased
        ∧ (s.chan 47).target = some 20 ∧ 1 ≤ (s.chan 20).level) := by decide

/-- The S-port's refusals in their order; the orders that are not applied. -/
theorem witness_ChannelCloseReleases_refused : ∀ q ∈
      [({ shop with partState := .failed }, 20, Status.refusedState), (shop, 0, .refusedRange), (shop, 48, .refusedRange),
        (shop, 47, .notFound), (shop, 3, .refusedPort), (shop.updChan 20 (fun c => { c with state := .closing }), 20, .refusedState)],
    let s : State := q.1
    let i : Nat := q.2.1
    (([(s.partState == .failed, Status.refusedState), (i == 0 || decide (47 < i), .refusedRange),
          ((s.chan i).kind == .empty, .notFound), (s.keyLevel i == 0, .refusedPort),
          ((s.chan i).state == .closing, .refusedState)].find? (·.1)).map (·.2)) = some q.2.2 := by decide

/-- An order closes channel 3, of level 0, or its alias 12. -/
theorem witness_ChannelCloseReleases_order : (shop.chan 3).state ≠ .closing ∧ (shop.chan 3).kind = .data ∧ (shop.chan 3).level = 0
    ∧ (shop.chan 12).state ≠ .closing ∧ (shop.chan 12).kind = .aliased ∧ (shop.chan 12).target = some 3 := by decide

theorem witness_ChannelFlagsMasked : shop.sPort.cmd = .idle ∧ shop.partState ≠ .failed
    ∧ ({ shop with partState := .failed } : State).partState = .failed
    ∧ inChannelMask (1 <<< 20) 0 20 = true ∧ inChannelMask (1 <<< 20) 0 3 = false
    ∧ ((shop.chan 20).kind == .data) = true ∧ ((shop.chan 20).state == .opened) = true ∧ 1 ≤ shop.keyLevel 20
    ∧ shop.keyLevel 3 = 0 := by decide

/-- One state and index for each refusal in its order, then the two that reset. -/
theorem witness_ChannelResetClearsCounters :
    ({ shop with partState := .failed } : State).partState = .failed
    ∧ (shop.partState ≠ .failed ∧ fieldD (word4 0 0 0 0) = 0 ∧ 47 < fieldD (word4 0 0 0 48) ∧ (shop.chan 47).kind = .empty)
    ∧ ((shop.chan 3).kind ≠ .empty ∧ shop.keyLevel 3 = 0)
    ∧ (let s : State := shop.updChan 20 fun c => { c with state := .closing }
       (s.chan 20).kind ≠ .empty ∧ s.keyLevel 20 ≠ 0 ∧ (s.chan 20).state = .closing)
    ∧ ((shop.chan 20).state ≠ .closing ∧ (shop.chan 20).kind = .data ∧ 1 ≤ (shop.chan 20).level ∧ (shop.chan 20).current = some 11)
    ∧ (let s : State := shop.setChan 47 { kind := .aliased, level := 3, state := .opened, target := some 20 }
       (s.chan 47).state ≠ .closing ∧ (s.chan 47).kind = .aliased ∧ (s.chan 47).target = some 20 ∧ 1 ≤ (s.chan 20).level) := by
  decide

/-- For `ChannelReadShowsDescriptor`, `ReadingCommandsChangeNothing` and `FaultReadShowsRecords`: the last index, slot, position
and section read, and the first refused. -/
theorem witness_reads : (shop.port .l).cmd = .idle ∧ fieldD (word4 0 0 0 47) ≤ 47 ∧ 47 < fieldD (word4 0 0 0 48)
    ∧ fieldD (word4 0 0 0 23) ≤ 23 ∧ 23 < fieldD (word4 0 0 0 24) ∧ fieldD (word4 0 0 0 0) = 0
    ∧ fieldD (word4 0 0 0 15) ≤ 15 ∧ 15 < fieldD (word4 0 0 0 16) ∧ fieldD (word4 0 0 0 6) ≤ 6 ∧ ¬ fieldD (word4 0 0 0 7) ≤ 6
    ∧ (shop.chan 12).target = some 3 := by decide

/-- A list of sixteen records, the last of which stands at position 15. -/
def sixteen : List FaultRecord :=
  (List.range 16).map fun k => { id := k + 1, kind := .tagFails, subject := .slot (k + 1), first := 0, last := 0 }

theorem witness_FaultReadShowsRecords :
    (({ base with faults := { records := sixteen, nextId := 17 } } : State).port .s).cmd = .idle
      ∧ ∃ r, ({ base with faults := { records := sixteen, nextId := 17 } } : State).faults.records[15 + 0]? = some r :=
  ⟨rfl, _, rfl⟩

/-- RENEW NOW for slot 5 with each list that the outcomes ask for. -/
def renewing (l : List Entry) : State := { shop with renewal := { list := l } }

theorem witness_RenewNowReportsOutcome :
    (shop.sPort.cmd = .idle ∧ shop.partState ≠ .boot ∧ shop.partState ≠ .failed ∧ fieldD (word4 0 0 0 5) = 5
      ∧ (shop.slot 5).state = .active)
    ∧ ((awaiting.ctx 2).isOpen = true ∧ (awaiting.ctx 2).subject = some 5)
    ∧ ((∀ e ∈ (renewing seven).renewal.list, e.slot ≠ some 5) ∧ (renewing seven).renewal.list.length < 8)
    ∧ (∀ u ∈ [0, 1], ∃ e, (renewing [{ slot := some 5, urgency := u, reason := .soft, arrival := 1 }]).renewal.list = [] ++ e :: []
        ∧ e.slot = some 5 ∧ e.urgency = u)
    ∧ (∀ u ∈ [0, 1], ∃ e, (renewing (seven ++ [{ slot := some 20, urgency := u, reason := .soft, arrival := 9 }])).renewal.list = seven ++ [e]
        ∧ (∀ d ∈ (renewing (seven ++ [e])).renewal.list, d.slot ≠ some 5) ∧ 8 ≤ (renewing (seven ++ [e])).renewal.list.length
        ∧ e.urgency = u) := by
  refine ⟨by decide, by decide, by decide, fun u _ => ⟨_, rfl, rfl, rfl⟩, fun u hu => ⟨_, rfl, ?_, ?_, rfl⟩⟩ <;>
    (revert u; decide)

/-- Each refusal of RENEW NOW in its order. -/
theorem witness_RenewNowReportsOutcome_refused : (∀ st ∈ [PartState.boot, .failed], ({ shop with partState := st } : State).partState = st)
    ∧ shop.sPort.cmd = .idle ∧ shop.partState = .run ∧ fieldD (word4 0 0 0 0) = 0 ∧ 23 < fieldD (word4 0 0 0 24)
    ∧ (∀ x ∈ [1, 23], fieldD (word4 0 0 0 x) = x ∧ (shop.slot x).state ≠ .active) := by decide

theorem witness_RenewNowReportsOutcome_noContext : ∀ c, (shop.ctx c).isOpen = true → (shop.ctx c).subject ≠ some 5 :=
  every_ctx (p := fun _ z => z.isOpen = true → z.subject ≠ some 5) _ (by decide) fun _ => by decide

/-- An order for slot 5 and for a slot that is not ACTIVE. -/
theorem witness_RenewNowReportsOutcome_order : (shop.slot 5).state = .active ∧ (shop.slot 6).state ≠ .active
    ∧ ¬ (1 ≤ 24 ∧ 24 ≤ 23 ∧ (shop.slot 24).state = .active) := by decide

/-- The codes of QUEUE RESET and one that names no queue; a filling frame. -/
theorem witness_QueueResetEmptiesQueue : (base.port .s).cmd = .idle ∧ fieldD (word4 0 0 0 1) = 1 ∧ fieldD (word4 0 0 0 2) = 2
    ∧ fieldD (word4 0 0 0 3) ≠ 1 ∧ fieldD (word4 0 0 0 3) ≠ 2
    ∧ (({ base with sPort := { push := .frame 2 } } : State).port .s).push = .frame 2 := by decide

theorem witness_QueueLimitsClamped : ∀ n ∈ [0, 1, 24, 25], (base.port .l).cmd = .idle
    ∧ (if n = 0 then 1 else if 24 < n then 24 else n)
      = if fieldA (word4 n 0 0 0) = 0 then 1 else if 24 < fieldA (word4 n 0 0 0) then 24 else fieldA (word4 n 0 0 0) := by decide

/-- Record 2 among three, ACTIVE, CLEARED and not reported, or CLEARED and reported; no record 9. -/
theorem witness_FaultDismissRemovesRecord : ∀ q ∈ [(true, true), (false, false), (false, true)],
    let r : FaultRecord := { id := 2, kind := .poolLow, subject := .nothing, first := 0, last := 0, active := q.1, reported := q.2 }
    let s : State := { base with faults := { records := sixteen.take 1 ++ r :: [{ r with id := 3, kind := .restarted }], nextId := 4 } }
    s.sPort.cmd = .idle ∧ s.faults.records = sixteen.take 1 ++ r :: [{ r with id := 3, kind := .restarted }]
      ∧ r.id = fieldD (word4 0 0 0 2) ∧ (∀ p ∈ sixteen.take 1 ++ [{ r with id := 3, kind := .restarted }], p.id ≠ fieldD (word4 0 0 0 2))
      ∧ r.active = q.1 ∧ r.reported = q.2 ∧ (∀ p ∈ s.faults.records, p.id ≠ fieldD (word4 0 0 0 9)) := by decide

/-- Pairs for record 2 among three: not reported, reported and ACTIVE, CLEARED with all or part of its count acked. -/
theorem witness_FaultDismissRemovesRecord_ack : ∀ q ∈ [(false, false, 1), (true, true, 2), (false, true, 2), (false, true, 1)],
    let r : FaultRecord := { id := 2, kind := .poolLow, subject := .nothing, first := 0, last := 0, count := 2, active := q.1,
                             reported := q.2.1 }
    let s : State := { base with faults := { records := sixteen.take 1 ++ r :: [{ r with id := 3, kind := .restarted }], nextId := 4,
                                             overflow := true, overflowReports := [7] } }
    s.faults.records = sixteen.take 1 ++ r :: [{ r with id := 3, kind := .restarted }] ∧ r.id = 2
      ∧ (∀ p ∈ sixteen.take 1 ++ [{ r with id := 3, kind := .restarted }], p.id ≠ 2)
      ∧ ((∀ p ∈ s.faults.records, p.id = 2 → p.reported = false) ↔ q.2.1 = false)
      ∧ ((r.active = false ∧ (if r.acked < min q.2.2 r.count then min q.2.2 r.count else r.acked) = r.count)
        ↔ q.1 = false ∧ q.2.2 = 2)
      ∧ 7 ∈ s.faults.overflowReports ∧ 8 ∉ s.faults.overflowReports := by decide

theorem witness_BeaconCommandsSetCommitHalt : base.sPort.cmd = .idle ∧ beaconModeOf (fieldA (word4 1 15 0 5)) = some .oneShot
    ∧ 2 < fieldA (word4 3 0 0 0) ∧ base.beacon.shadow.mode ≠ .idle
    ∧ ({ base with beacon := { shadow := { mode := .idle } } } : State).beacon.shadow.mode = .idle := by decide

/-- LOAD ROOT as it is taken or refused, and its write completing without and with an ERASE that waits. -/
theorem witness_LoadRootEntersBootstrap :
    (({ State.reset with partState := .noRoot } : State).sPort.cmd = .idle ∧ ({ State.reset with partState := .noRoot } : State).partState = .noRoot)
    ∧ (base.sPort.cmd = .idle ∧ base.partState ≠ .noRoot)
    ∧ (let s : State := { State.reset with partState := .noRoot, sPort := { cmd := .inProgress (.loadRoot 7 0x2A61) } }
       s.sPort.cmd = .inProgress (.loadRoot 7 0x2A61) ∧ s.lPort.cmd ≠ .inProgress .erase)
    ∧ (let s : State := { State.reset with partState := .noRoot, sPort := { cmd := .inProgress (.loadRoot 7 0x2A61) }, lPort := { cmd := .inProgress .erase } }
       s.sPort.cmd = .inProgress (.loadRoot 7 0x2A61) ∧ s.lPort.cmd = .inProgress .erase) := by decide

/-- PART RESET in its four states, with a staged key, a drain, a test at the L-port and a channel CLOSING. -/
theorem witness_PartResetCutsOffWork : ∀ st ∈ [PartState.noRoot, .bootstrap, .run, .quiesced],
    let s : State := { ((thirdAttempt (some 9)).updSlot 5 fun v => { v with state := .draining, drain := 3, successor := some 9 }).updChan 20
      fun c => { c with state := .closing } with partState := st, lPort := { cmd := .inProgress .localLoop } }
    s.sPort.cmd = .idle ∧ (s.partState = .noRoot ∨ s.partState = .bootstrap ∨ s.partState = .run ∨ s.partState = .quiesced)
      ∧ (s.slot 9).state = .staged ∧ (s.slot 5).state = .draining ∧ (s.slot 5).successor = some 9 ∧ (s.chan 20).state = .closing
      ∧ (s.slot 11).predecessor = none
      ∧ (s.chan 3).state ≠ .closing ∧ s.lPort.cmd.busy = true ∧ (s.ctx 2).isOpen = true := by decide

set_option maxRecDepth 8000 in
/-- Refused in BOOT and FAILED; two open contexts; a SPENT and a SUSPECT slot whose triggers are sent anew, and BOOT's. -/
theorem witness_PartResetCutsOffWork_sent :
    (∀ st ∈ [PartState.boot, .failed], ({ base with partState := st } : State).sPort.cmd = .idle)
      ∧ let s : State := (((shop.updSlot 5 fun v => { v with spent := true }).updSlot 11 fun v => { v with suspect := true }).setCtx 0
          { state := .awaitDelivery, exchange := some 41 }).setCtx 3 { state := .awaitDelivery, exchange := some 7 }
        s.sPort.cmd = .idle ∧ s.partState = .run ∧ (s.ctx 0).isOpen = true ∧ (s.ctx 3).isOpen = true
          ∧ ((List.range 24).filter fun x => (s.slot x).state == .active && (s.slot x).spent) = [5]
          ∧ ((List.range 24).filter fun x => (s.slot x).state == .active && (s.slot x).suspect && !(s.slot x).spent) = [11]
          ∧ (after (.partReset .s) s).partState = .bootstrap ∧ s.renewal.received + 8 < 65535 := by decide

/-- Two faults raised anew, with the next identifier at 255; a push, a mailbox write and a command cut off or already ignored. -/
theorem witness_PartResetCutsOffWork_kept :
    let s : State := { (shop.updSlot 5 fun v => { v with spent := true }).updSlot 11 fun v => { v with suspect := true } with
      faults := { nextId := 255, overflow := true, overflowReports := [3] }
      sPort := { push := .frame 2, mailWrite := .gathering 9 [1] }
      lPort := { push := .ignoring 2, mailWrite := .ignoring 1, cmd := .writing [0x12000002] } }
    s.sPort.cmd = .idle ∧ s.partState = .run ∧ 1 ≤ s.faults.nextId ∧ s.faults.nextId ≤ 255
      ∧ ((List.range 24).filter fun x => (s.slot x).spent || (s.slot x).suspect) = [5, 11] ∧ (s.slot 5).state = .active
      ∧ (s.slot 11).state = .active ∧ s.lPort.cmd.busy = false ∧ (s.port .s).push = .frame 2 ∧ (s.port .l).push = .ignoring 2
      ∧ (s.port .s).mailWrite = .gathering 9 [1] ∧ (s.port .l).mailWrite = .ignoring 1
      ∧ (s.port .l).cmd = .writing [0x12000002] ∧ base.sPort.mailWrite = .none := by decide

theorem witness_PartResetCutsOffWork_sound : ∀ x, (shop.slot x).spent = false ∧ (shop.slot x).suspect = false :=
  every_slot (p := fun _ v => v.spent = false ∧ v.suspect = false) _ (by decide) fun _ => by decide

theorem witness_QuiesceAndResume : base.sPort.cmd = .idle ∧ base.partState = .run ∧ base.partState ≠ .quiesced
    ∧ ({ base with partState := .quiesced } : State).partState = .quiesced
    ∧ ({ base with partState := .quiesced } : State).partState ≠ .run := by decide

/-- The window closed, the asker's own, and the other port's in BOOT, during the write of a LOAD ROOT and in RUN. -/
theorem witness_EraseNeedsBothPorts : (base.port .l).cmd = .idle ∧ base.eraseWindow = none
    ∧ ({ base with eraseWindow := some (.l, 0) } : State).eraseWindow = some (.l, 0)
    ∧ (let s : State := { State.reset with eraseWindow := some (.s, 10) }
       (s.port .l).cmd = .idle ∧ s.eraseWindow = some (Port.other .l, 10) ∧ s.partState = .boot)
    ∧ (let s : State := { base with eraseWindow := some (.s, 10), sPort := { cmd := .inProgress (.loadRoot 7 1) } }
       (s.port .l).cmd = .idle ∧ s.eraseWindow = some (Port.other .l, 10) ∧ s.loadRootWriting = true)
    ∧ (let s : State := { base with eraseWindow := some (.l, 0), lPort := { cmd := .inProgress .localLoop } }
       (s.port .s).cmd = .idle ∧ s.eraseWindow = some (Port.other .s, 0) ∧ s.partState ≠ .boot ∧ s.loadRootWriting = false
        ∧ (s.port (Port.other .s)).cmd.busy = true ∧ (({ s with lPort := {} } : State).port (Port.other .s)).cmd.busy = false)
    ∧ base.eraseWindow = none := by decide

/-! #### Faults -/

/-- A record ACTIVE below 255 and one CLEARED at 255; no record, with the next identifier at 255; a full list of ACTIVE ones. -/
theorem witness_RaiseMergesOrCreates :
    (∀ q ∈ [(true, 254), (false, 255)],
      let r : FaultRecord := { id := 9, kind := .poolLow, subject := .nothing, first := 0, last := 0, active := q.1, count := q.2 }
      let s : State := { base with faults := { records := sixteen.take 1 ++ r :: [] } }
      s.faults.records = sixteen.take 1 ++ r :: [] ∧ (∀ p ∈ sixteen.take 1 ++ [], ¬ (p.kind = .poolLow ∧ p.subject = .nothing))
        ∧ r.kind = .poolLow ∧ r.subject = .nothing ∧ r.active = q.1 ∧ r.count = q.2)
    ∧ (let s : State := { base with faults := { records := sixteen.take 15, nextId := 255 } }
       (∀ p ∈ s.faults.records, ¬ (p.kind = .poolLow ∧ p.subject = .nothing)) ∧ s.faults.records.length < 16
        ∧ 1 ≤ s.faults.nextId ∧ s.faults.nextId ≤ 255)
    ∧ (let s : State := { base with faults := { records := sixteen, nextId := 17 } }
       (∀ p ∈ s.faults.records, p.active = true ∧ ¬ (p.kind = .poolLow ∧ p.subject = .nothing)) ∧ 16 ≤ s.faults.records.length) := by
  decide

/-- The clear of an ACTIVE record, of a CLEARED one and of none. -/
theorem witness_RaiseMergesOrCreates_clear : (∀ b ∈ [true, false],
      let r : FaultRecord := { id := 9, kind := .poolLow, subject := .nothing, first := 0, last := 0, active := b }
      let s : State := { base with faults := { records := sixteen.take 1 ++ r :: [] } }
      s.faults.records = sixteen.take 1 ++ r :: [] ∧ (∀ p ∈ sixteen.take 1 ++ [], ¬ (p.kind = .poolLow ∧ p.subject = .nothing))
        ∧ r.kind = .poolLow ∧ r.subject = .nothing ∧ r.active = b)
    ∧ ∀ p ∈ base.faults.records, ¬ (p.kind = .poolLow ∧ p.subject = .nothing) := by decide

/-- A record at count 255; a full list whose oldest CLEARED record is the marker's, and of ACTIVE ones with the mark set. -/
theorem witness_RaiseMergesOrCreates_full :
    (let r : FaultRecord := { id := 9, kind := .poolLow, subject := .nothing, first := 0, last := 0, count := 255 }
     let s : State := { base with faults := { records := sixteen.take 1 ++ r :: [] } }
     s.faults.records = sixteen.take 1 ++ r :: [] ∧ r.active = true ∧ 255 ≤ r.count
      ∧ (∀ p ∈ sixteen.take 1 ++ [], ¬ (p.kind = .poolLow ∧ p.subject = .nothing)))
    ∧ (∀ o ∈ [40, 1], let old : FaultRecord := { id := 40, kind := .tagFails, subject := .slot 23, first := 0, last := 0, active := false }
       let post := (sixteen.drop 2).take 13
       let s : State := { base with faults := { records := sixteen.take 2 ++ old :: post, nextId := 1 }, beacon := { marker := some o } }
       s.faults.records.length = 16 ∧ s.faults.records = sixteen.take 2 ++ old :: post
        ∧ (∀ q ∈ s.faults.records, ¬ (q.kind = .poolLow ∧ q.subject = .nothing)) ∧ 1 ≤ s.faults.nextId ∧ s.faults.nextId ≤ 255
        ∧ (∀ q ∈ sixteen.take 2, q.active = true) ∧ old.active = false ∧ (∀ q ∈ sixteen.take 2 ++ post, q.id ≠ old.id)
        ∧ (s.beacon.marker = some old.id ↔ o = 40)
        ∧ (∀ m ∈ List.range 15, (∃ q ∈ sixteen.take 2 ++ post, q.id = (s.faults.nextId - 1 + m) % 255 + 1))
        ∧ ∀ q ∈ sixteen.take 2 ++ post, q.id ≠ (s.faults.nextId - 1 + 15) % 255 + 1)
    ∧ ∀ b ∈ [false, true], let s : State := { base with faults := { records := sixteen, nextId := 17, overflow := b } }
      (∀ q ∈ s.faults.records, q.active = true ∧ ¬ (q.kind = .poolLow ∧ q.subject = .nothing)) ∧ 16 ≤ s.faults.records.length
        ∧ s.faults.overflow = b := by decide

end Sys2Proof.Tests
end

section
/-! The effects and refusals of CHANNEL FLAGS and CHANNEL RESET (R17, R18). -/

namespace Sys2Proof.Machine

/-! ### A command and its answer at the S-port -/

/-- A response at the S-port changes that port alone (R168). -/
theorem State.respond_s (st : Status) (ws : List Word) (s : State) :
    s.respond .s st ws = { s with sPort := s.sPort.withAnswer st ws } := rfl

/-- A command the S-port may issue acts when its words are written to the idle port (R168, R169). -/
theorem State.writeCommandWords_idle_s (c : Command) (s : State) (args : List Word) (h : s.sPort.cmd = .idle)
    (hl : args.length + 1 = c.words) (hp : c.permits .s = true) :
    s.writeCommandWords .s (c.firstWord :: args) = runCommand c .s (fun k => (c.firstWord :: args).getD (k - 1) 0) s := by
  rw [State.writeCommandWords_idle c s .s args h hl, if_pos hp]

theorem exec_channelFlags_idle {s : State} (w2 w3 : Word) (h : s.sPort.cmd = .idle) :
    exec (.channelFlags .s w2 w3) s = .next (channelFlags .s w2 w3 s) :=
  congrArg Host.Outcome.next (State.writeCommandWords_idle_s .channelFlags s [w2, w3] h rfl rfl)

theorem exec_channelReset_idle {s : State} (w2 : Word) (h : s.sPort.cmd = .idle) :
    exec (.channelReset .s w2) s = .next (channelReset .s w2 s) :=
  congrArg Host.Outcome.next (State.writeCommandWords_idle_s .channelReset s [w2] h rfl rfl)

/-! ### CHANNEL FLAGS -/

/-- The flags a qualifying descriptor takes: the flag mask stands in bits 24 to 26 of word 3, the values in bits 16 to 18. -/
theorem maskedFlags_word (w : Word) (old : ChanFlags) :
    maskedFlags (flagsOf (fieldA w)) (flagsOf (fieldB w)) old =
      { hold := if w.getLsbD 24 then w.getLsbD 16 else old.hold
        notify := if w.getLsbD 25 then w.getLsbD 17 else old.notify
        urgent := if w.getLsbD 26 then w.getLsbD 18 else old.urgent } := by
  simp (disch := omega) only [maskedFlags, flagsOf, testBit_fieldA, testBit_fieldB, Nat.reduceAdd]

/-- The part with the masked flags of words 2 and 3 set on the named qualifying descriptors (R17). -/
def State.withMaskedFlags (w2 w3 : Word) (s : State) : State :=
  s.mapChans fun i c =>
    if inChannelMask w2 w3 i && s.qualifies i then
      { c with flags := maskedFlags (flagsOf (fieldA w3)) (flagsOf (fieldB w3)) c.flags }
    else c

theorem State.chan_withMaskedFlags (w2 w3 : Word) (s : State) (i : Nat) :
    (s.withMaskedFlags w2 w3).chan i =
      if i < 48 ∧ inChannelMask w2 w3 i = true ∧ s.qualifies i = true then
        { s.chan i with flags := maskedFlags (flagsOf (fieldA w3)) (flagsOf (fieldB w3)) (s.chan i).flags }
      else s.chan i := by
  rw [State.withMaskedFlags, State.chan_mapChans]
  by_cases hi : i < 48
  · simp [hi]
  · simp [hi, State.chan_out s i hi]

/-- The flags of a descriptor differ exactly when it is named, qualifies and the masked values are new to it. -/
theorem State.flags_withMaskedFlags_ne (w2 w3 : Word) (s : State) {i : Nat} (hi : i < 48) :
    (((s.withMaskedFlags w2 w3).chan i).flags != (s.chan i).flags) =
      ((s.qualifies i && maskedFlags (flagsOf (fieldA w3)) (flagsOf (fieldB w3)) (s.chan i).flags != (s.chan i).flags)
        && inChannelMask w2 w3 i) := by
  rw [State.chan_withMaskedFlags]
  by_cases h : i < 48 ∧ inChannelMask w2 w3 i = true ∧ s.qualifies i = true
  · have ⟨_, hmask, hqual⟩ := h
    rw [if_pos h, hmask, hqual, Bool.true_and, Bool.and_true]
  · have hnot : (s.qualifies i && inChannelMask w2 w3 i) = false := by
      rw [Bool.eq_false_iff, ne_eq, Bool.and_eq_true]
      exact fun hboth => h ⟨hi, hboth.2, hboth.1⟩
    rw [if_neg h, bne_self_eq_false, Bool.and_right_comm, hnot, Bool.false_and]

/-- Refused in FAILED alone (R17). -/
theorem channelFlags_failed {s : State} (w2 w3 : Word) (h : s.partState = .failed) :
    channelFlags .s w2 w3 s = { s with sPort := s.sPort.withAnswer .refusedState [] } := by
  rw [channelFlags, if_pos h, State.refuse, State.respond_s]

/-- CHANNEL FLAGS sets the masked flags and answers how many descriptors differ and how many it skipped (R17). -/
theorem channelFlags_done {s : State} (w2 w3 : Word) (h : s.partState ≠ .failed) :
    channelFlags .s w2 w3 s = (s.withMaskedFlags w2 w3).respond .s .done
      [word2 ((List.range 48).countP fun i => ((s.withMaskedFlags w2 w3).chan i).flags != (s.chan i).flags)
        ((List.range 48).countP fun i => inChannelMask w2 w3 i && !s.qualifies i)] := by
  have hchanged : ((List.range 48).countP fun i => ((s.withMaskedFlags w2 w3).chan i).flags != (s.chan i).flags) =
      ((List.range 48).filter (inChannelMask w2 w3)).countP fun i =>
        s.qualifies i && maskedFlags (flagsOf (fieldA w3)) (flagsOf (fieldB w3)) (s.chan i).flags != (s.chan i).flags := by
    rw [List.countP_filter]
    refine List.countP_congr fun i hi => ?_
    rw [State.flags_withMaskedFlags_ne w2 w3 s (List.mem_range.mp hi)]
  have hskipped : ((List.range 48).countP fun i => inChannelMask w2 w3 i && !s.qualifies i) =
      ((List.range 48).filter (inChannelMask w2 w3)).countP fun i => !s.qualifies i := by
    simp only [List.countP_filter, Bool.and_comm]
  rw [hchanged, hskipped, channelFlags, if_neg h, State.withMaskedFlags]

/-- Settles O44: in FAILED the command is refused; else its effect is `withMaskedFlags`, read descriptor by descriptor. -/
theorem channelFlagsMasked : Obligations.ChannelFlagsMasked := by
  intro s w2 w3 hidle
  rw [exec_channelFlags_idle w2 w3 hidle]
  refine ⟨fun hfailed => by rw [channelFlags_failed w2 w3 hfailed], fun hrun => ?_⟩
  refine ⟨_, _, _, congrArg Host.Outcome.next (channelFlags_done w2 w3 hrun), rfl, ?named, ?others, rfl, rfl⟩
  case named =>
    intro i hi hmask hqual
    rw [← maskedFlags_word]
    exact (State.chan_withMaskedFlags w2 w3 s i).trans (if_pos ⟨hi, hmask, hqual⟩)
  case others =>
    intro i hnot
    exact (State.chan_withMaskedFlags w2 w3 s i).trans (if_neg hnot)

/-! ### CHANNEL RESET -/

/-- The checks of R18 in their order, each with its status. -/
theorem State.channelCheck_eq_some_iff (s : State) (i : Nat) (st : Status) :
    s.channelCheck i = some st ↔
      s.partState = .failed ∧ st = .refusedState
      ∨ s.partState ≠ .failed ∧ ((i = 0 ∨ 47 < i) ∧ st = .refusedRange
        ∨ 1 ≤ i ∧ i ≤ 47 ∧ ((s.chan i).kind = .empty ∧ st = .notFound
          ∨ (s.chan i).kind ≠ .empty ∧ (s.keyLevel i = 0 ∧ st = .refusedPort
            ∨ s.keyLevel i ≠ 0 ∧ (s.chan i).state = .closing ∧ st = .refusedState))) := by
  have hrange : 1 ≤ i ∧ i ≤ 47 ↔ ¬ (i = 0 ∨ i > 47) := by omega
  rw [← and_assoc (a := 1 ≤ i), hrange]
  unfold State.channelCheck
  split_ifs <;> simp_all [eq_comm]

/-- A descriptor passes the checks of R18 (R14) when it is bound, not CLOSING and of a key level above 0. -/
theorem State.channelCheck_eq_none {s : State} {i : Nat} (hpart : s.partState ≠ .failed) (hlo : 1 ≤ i) (hhi : i ≤ 47)
    (hkind : (s.chan i).kind ≠ .empty) (hlevel : s.keyLevel i ≠ 0) (hstate : (s.chan i).state ≠ .closing) :
    s.channelCheck i = none := by
  have hrange : ¬ (i = 0 ∨ i > 47) := by omega
  rw [State.channelCheck, if_neg hpart, if_neg hrange, if_neg hkind, if_neg hlevel, if_neg hstate]

theorem channelReset_refused {s : State} {w2 : Word} {st : Status} (h : s.channelCheck (fieldD w2) = some st) :
    channelReset .s w2 s = { s with sPort := s.sPort.withAnswer st [] } := by
  simp only [channelReset, h, State.refuse, State.respond_s]

/-- The descriptor as CHANNEL RESET leaves it, in state `st` (R18). -/
def Channel.afterReset (st : ChanState) (c : Channel) : Channel :=
  { c with sent := 0, received := 0, refused := 0, discarded := 0, state := st, flags := { c.flags with hold := false } }

theorem channelReset_done {s : State} {w2 : Word} (h : s.channelCheck (fieldD w2) = none) :
    channelReset .s w2 s =
      (s.updChan (fieldD w2) fun c => c.afterReset (s.stateFromKey c)).respond .s .done [] := by
  simp only [channelReset, h, Channel.afterReset]

/-- A DATA descriptor's key: its own level, and the state SPENT of its current slot gives (R3, R18). -/
theorem State.key_of_data {s : State} {i x : Nat} (hkind : (s.chan i).kind = .data) (hcur : (s.chan i).current = some x) :
    s.keyLevel i = (s.chan i).level
      ∧ s.stateFromKey (s.chan i) = if (s.slot x).spent then .exhausted else .opened := by
  simp [State.keyLevel, State.stateFromKey, hkind, hcur]

/-- An ALIAS's key: the level and the state of its target (R3, R18). -/
theorem State.key_of_aliased {s : State} {i g : Nat} (hkind : (s.chan i).kind = .aliased) (htarget : (s.chan i).target = some g) :
    s.keyLevel i = (s.chan g).level ∧ s.stateFromKey (s.chan i) = (s.chan g).state := by
  simp [State.keyLevel, State.stateFromKey, hkind, htarget]

/-- CHANNEL RESET of a descriptor that passes the checks: it alone is reset, to the state its key gives (R18). -/
theorem channelReset_effect {s : State} {w2 : Word} (hhi : fieldD w2 ≤ 47) (h : s.channelCheck (fieldD w2) = none) :
    ∃ t, channelReset .s w2 s = t
      ∧ t = { s with chans := t.chans, sPort := s.sPort.withAnswer .done [] }
      ∧ t.chan (fieldD w2) = (s.chan (fieldD w2)).afterReset (s.stateFromKey (s.chan (fieldD w2)))
      ∧ ∀ j, j ≠ fieldD w2 → t.chan j = s.chan j := by
  refine ⟨_, channelReset_done h, rfl, ?_, fun j hj => ?_⟩
  · exact (State.chan_updChan ..).trans (if_pos ⟨rfl, by omega⟩)
  · exact (State.chan_updChan ..).trans (if_neg fun hji => hj hji.1)

/-- Settles O45: a failing check is `channelCheck`'s answer; a DATA or ALIAS descriptor that passes them is reset. -/
theorem channelResetClearsCounters : Obligations.ChannelResetClearsCounters := by
  rintro s w2 _ rfl hidle
  rw [exec_channelReset_idle w2 hidle]
  refine ⟨fun st hst => ?refused, fun hpart hlo hhi hstate st hkey => ?done⟩
  case refused =>
    rw [channelReset_refused ((s.channelCheck_eq_some_iff (fieldD w2) st).mpr hst)]
  case done =>
    have hpass : s.channelCheck (fieldD w2) = none ∧ s.stateFromKey (s.chan (fieldD w2)) = st := by
      obtain ⟨x, hkind, hlevel, hcur, rfl⟩ | ⟨g, hkind, htarget, hlevel, rfl⟩ := hkey
      · obtain ⟨hkl, hst⟩ := State.key_of_data hkind hcur
        exact ⟨State.channelCheck_eq_none hpart hlo hhi (by simp [hkind]) (by omega) hstate, hst⟩
      · obtain ⟨hkl, hst⟩ := State.key_of_aliased hkind htarget
        exact ⟨State.channelCheck_eq_none hpart hlo hhi (by simp [hkind]) (by omega) hstate, hst⟩
    obtain ⟨hcheck, rfl⟩ := hpass
    obtain ⟨t, ht, hframe, hchan, hothers⟩ := channelReset_effect hhi hcheck
    exact ⟨t, congrArg Host.Outcome.next ht, hframe, hchan, hothers⟩

end Sys2Proof.Machine
end

section
/-! The effect of QUEUE LIMITS (R73) on the thresholds, the enable set and the causes of R72. -/

namespace Sys2Proof.Machine

/-! ### The words of the command -/

/-- The low half of a word built of four bytes is its last two bytes (R183). -/
@[simp] theorem fieldLow_word4 (a b c d : Nat) : fieldLow (word4 a b c d) = c % 256 * 256 + d % 256 := by
  rw [fieldLow_toNat, word4_toNat]; omega

/-- An enable set read from field D takes its six causes from bits 0 to 5 of the word (R185). -/
theorem causesOf_fieldD (w : Word) :
    causesOf (fieldD w) =
      { inRoom := w.getLsbD 0, outReady := w.getLsbD 1, mail := w.getLsbD 2, response := w.getLsbD 3,
        fault := w.getLsbD 4, lost := w.getLsbD 5 } := by
  simp (disch := omega) only [causesOf, getLsbD_fieldD]

/-- The clamp of R73 by cases: 0 is written as 1, a value above 24 as 24. -/
theorem clampOffset_eq (n : Nat) : clampOffset n = if n = 0 then 1 else if 24 < n then 24 else n := by
  rw [clampOffset]; split_ifs <;> omega

/-- A clamped offset fits the byte of the answer that carries it. -/
theorem clampOffset_mod (n : Nat) : clampOffset n % 256 = clampOffset n :=
  Nat.mod_eq_of_lt (by rw [clampOffset]; omega)

theorem exec_queueLimits_idle {s : State} {p : Port} (w2 : Word) (h : (s.port p).cmd = .idle) :
    exec (.queueLimits p w2) s = .next (queueLimits p w2 s) :=
  congrArg Host.Outcome.next
    ((State.writeCommandWords_idle .queueLimits s p [w2] h rfl).trans (if_pos rfl))

/-! ### What the two ports and the pool are left as -/

theorem port_other_ne (p : Port) : p.other ≠ p := by cases p <;> decide

/-- A port's part of the pool updated is its image; the other port's part is as it was. -/
@[simp] theorem State.poolPort_updPoolPort (p q : Port) (f : PoolPort → PoolPort) (s : State) :
    (s.updPoolPort p f).pool.port q = if q = p then f (s.pool.port p) else s.pool.port q := by
  cases p <;> cases q <;> rfl

@[simp] theorem State.port_updPoolPort (p q : Port) (f : PoolPort → PoolPort) (s : State) :
    (s.updPoolPort p f).port q = s.port q := by cases q <;> rfl

/-- A response leaves the port with the answer, and the other port as it was (R168). -/
theorem State.port_respond (p q : Port) (st : Status) (ws : List Word) (s : State) :
    (s.respond p st ws).port q = if q = p then (s.port p).withAnswer st ws else s.port q :=
  State.port_updPort p q _ s

/-- The word that QUEUE LIMITS answers: AF and AE as written (R73). -/
def limitsWord (w2 : Word) : Word := word4 (clampOffset (fieldA w2)) (clampOffset (fieldB w2)) 0 0

theorem queueLimits_port (p q : Port) (w2 : Word) (s : State) :
    (queueLimits p w2 s).port q =
      if q = p then { (s.port p).withAnswer .done [limitsWord w2] with enable := causesOf (fieldD w2) }
      else s.port q := by
  rw [queueLimits, State.port_respond]
  by_cases hq : q = p
  · simp [hq, PortState.withAnswer, limitsWord]
  · simp [hq]

theorem queueLimits_poolPort (p q : Port) (w2 : Word) (s : State) :
    (queueLimits p w2 s).pool.port q =
      if q = p then { s.pool.port p with af := clampOffset (fieldA w2), ae := clampOffset (fieldB w2) }
      else s.pool.port q := by
  simp [queueLimits]

/-- Outside the two ports and what the pool holds for them, QUEUE LIMITS changes nothing. -/
theorem queueLimits_frame (p : Port) (w2 : Word) (s : State) :
    queueLimits p w2 s =
      { s with
        pool := { s.pool with sPort := (queueLimits p w2 s).pool.sPort, lPort := (queueLimits p w2 s).pool.lPort }
        sPort := (queueLimits p w2 s).sPort
        lPort := (queueLimits p w2 s).lPort } := by
  cases p <;> rfl

/-! ### The causes of R72 against the new offsets -/

theorem queueLimits_inCount (p q : Port) (w2 : Word) (s : State) :
    (queueLimits p w2 s).inCount q = s.inCount q := by
  rw [queueLimits_frame]; cases q <;> rfl

theorem queueLimits_outCount (p q : Port) (w2 : Word) (s : State) :
    (queueLimits p w2 s).outCount q = s.outCount q := by
  rw [queueLimits_frame]; cases q <;> rfl

theorem queueLimits_inRoom (p : Port) (w2 : Word) (s : State) :
    (queueLimits p w2 s).inRoom p = true ↔ clampOffset (fieldA w2) ≤ 32 - s.inCount p := by
  rw [State.inRoom, queueLimits_poolPort, if_pos rfl, queueLimits_inCount, decide_eq_true_iff, queuePlaces]

theorem queueLimits_outReady (p : Port) (w2 : Word) (s : State) :
    (queueLimits p w2 s).outReady p = true ↔ clampOffset (fieldB w2) ≤ s.outCount p := by
  rw [State.outReady, queueLimits_poolPort, if_pos rfl, queueLimits_outCount, decide_eq_true_iff]

/-- Settles O51: the command acts at either port in every part state, and its effect is read port by port. -/
theorem queueLimitsClamped : Obligations.QueueLimitsClamped := by
  intro s p w2 af ae hidle haf hae
  rw [← clampOffset_eq] at haf hae
  subst haf hae
  refine ⟨queueLimits p w2 s, limitsWord w2, exec_queueLimits_idle w2 hidle, ?answerAF, ?answerAE, ?answerLow,
    ?asking, ?other, ?offsets, ?otherOffsets, queueLimits_frame p w2 s, queueLimits_inRoom p w2 s,
    queueLimits_outReady p w2 s⟩
  case answerAF => rw [limitsWord, fieldA_word4, clampOffset_mod]
  case answerAE => rw [limitsWord, fieldB_word4, clampOffset_mod]
  case answerLow => rw [limitsWord, fieldLow_word4]
  case asking => rw [queueLimits_port, if_pos rfl, causesOf_fieldD]
  case other => rw [queueLimits_port, if_neg (port_other_ne p)]
  case offsets => rw [queueLimits_poolPort, if_pos rfl]
  case otherOffsets => rw [queueLimits_poolPort, if_neg (port_other_ne p)]

end Sys2Proof.Machine
end

section
/-! The fault list as FAULT READ shows it (R162, R185), and ALARM computed from it (R160). -/

namespace Sys2Proof.Machine

/-! ### ALARM -/

/-- The kinds of severity MAJOR, named (R148). -/
theorem FaultKind.major_iff (k : FaultKind) :
    k.major = true ↔ k = .linkQuiet ∨ k = .tagFails ∨ k = .keySpent ∨ k = .keyAgeOver ∨ k = .renewalFailed
      ∨ k = .noKeySlot ∨ k = .selfCheckFail ∨ k = .erased := by
  cases k <;> decide

theorem State.alarm_iff (s : State) :
    s.alarm = true ↔ ∃ r ∈ s.faults.records, r.active = true ∧ r.kind.major = true := by
  simp only [State.alarm, List.any_eq_true, Bool.and_eq_true]

/-- Settles O59: ALARM looks for an ACTIVE record of a MAJOR kind, and the list is empty after power-on. -/
theorem alarmFollowsList : Obligations.AlarmFollowsList := by
  refine ⟨fun s => ?asserted, ?powerOn⟩
  case asserted => simp only [State.alarm_iff, FaultKind.major_iff]
  case powerOn => rfl

/-! ### The words of FAULT READ -/

/-- A mark shown in the lowest bit of a word built of four bytes (R185). -/
theorem getLsbD_zero_word4 (a b c : Nat) (mark : Bool) : (word4 a b c mark.toNat).getLsbD 0 = mark := by
  rw [getLsbD_fieldD _ _ (by omega), fieldD_word4]
  cases mark <;> rfl

theorem length_faultWords (r : FaultRecord) : (faultWords r).length = 4 := rfl

theorem length_flatMap_faultWords (rs : List FaultRecord) : (rs.flatMap faultWords).length = 4 * rs.length := by
  simp [List.length_flatMap, length_faultWords, Nat.mul_comm]

/-- The words of the record at place `k` stand from place `4 * k` on. -/
theorem getElem?_flatMap_faultWords {rs : List FaultRecord} {k j : Nat} {r : FaultRecord} (h : rs[k]? = some r) (hj : j < 4) :
    (rs.flatMap faultWords)[4 * k + j]? = (faultWords r)[j]? := by
  induction rs generalizing k with
  | nil => simp at h
  | cons r₀ rs ih =>
    rw [List.flatMap_cons]
    cases k with
    | zero =>
      obtain rfl : r₀ = r := by simpa using h
      rw [Nat.mul_zero, Nat.zero_add, List.getElem?_append_left hj]
    | succ k =>
      have hplace : 4 * (k + 1) + j - (faultWords r₀).length = 4 * k + j := by rw [length_faultWords]; omega
      rw [List.getElem?_append_right (by rw [length_faultWords]; omega), hplace]
      exact ih (by simpa using h)

/-- The records that FAULT READ returns from a position: 4, or those that remain (R162). -/
def Faults.shownFrom (f : Faults) (position : Nat) : List FaultRecord := (f.records.drop position).take 4

theorem faultReadWords_eq (f : Faults) (position : Nat) :
    faultReadWords f position =
      word4 f.records.length (f.shownFrom position).length 0 f.overflow.toNat :: (f.shownFrom position).flatMap faultWords :=
  rfl

theorem Faults.length_shownFrom (f : Faults) (position : Nat) :
    (f.shownFrom position).length = min 4 (f.records.length - position) := by
  rw [Faults.shownFrom, List.length_take, List.length_drop]

theorem Faults.getElem?_shownFrom (f : Faults) (position : Nat) {k : Nat} (hk : k < 4) :
    (f.shownFrom position)[k]? = f.records[position + k]? := by
  rw [Faults.shownFrom, List.getElem?_take_of_lt hk, List.getElem?_drop]

/-- The count of records shown fits the byte of the answer that carries it. -/
theorem Faults.length_shownFrom_mod (f : Faults) (position : Nat) :
    (f.shownFrom position).length % 256 = (f.shownFrom position).length :=
  Nat.mod_eq_of_lt (by rw [Faults.length_shownFrom]; omega)

theorem FaultKind.code_mod (k : FaultKind) : k.code % 256 = k.code := by cases k <;> rfl

theorem FaultKind.severityCode_mod (k : FaultKind) : k.severityCode % 256 = if k.major then 1 else 2 := by
  cases k <;> rfl

theorem recordStateCode_mod (active : Bool) : recordStateCode active % 256 = if active then 1 else 2 := by
  cases active <;> rfl

/-! ### The command -/

theorem exec_faultRead_idle {s : State} {p : Port} (w2 : Word) (h : (s.port p).cmd = .idle) :
    exec (.faultRead p w2) s = .next (faultRead p w2 s) :=
  congrArg Host.Outcome.next
    ((State.writeCommandWords_idle .faultRead s p [w2] h rfl).trans (if_pos rfl))

/-- Outside the two ports a response changes nothing (R168). -/
theorem State.respond_eq_with_ports (p : Port) (st : Status) (ws : List Word) (s : State) :
    s.respond p st ws = { s with sPort := (s.respond p st ws).sPort, lPort := (s.respond p st ws).lPort } := by
  cases p <;> rfl

/-- FAULT READ does nothing but respond, whatever the position (R162). -/
theorem faultRead_eq_respond (p : Port) (w2 : Word) (s : State) :
    ∃ st ws, faultRead p w2 s = s.respond p st ws := by
  rw [faultRead]
  split_ifs
  · exact ⟨.refusedRange, [], rfl⟩
  · exact ⟨.done, faultReadWords s.faults (fieldD w2), rfl⟩

theorem faultRead_frame (p : Port) (w2 : Word) (s : State) :
    faultRead p w2 s = { s with sPort := (faultRead p w2 s).sPort, lPort := (faultRead p w2 s).lPort } := by
  obtain ⟨st, ws, h⟩ := faultRead_eq_respond p w2 s
  rw [h]
  exact State.respond_eq_with_ports p st ws s

theorem faultRead_port_other (p : Port) (w2 : Word) (s : State) :
    (faultRead p w2 s).port p.other = s.port p.other := by
  obtain ⟨st, ws, h⟩ := faultRead_eq_respond p w2 s
  rw [h, State.port_respond, if_neg (port_other_ne p)]

theorem faultRead_port_refused {p : Port} {w2 : Word} {s : State} (h : 15 < fieldD w2) :
    (faultRead p w2 s).port p = (s.port p).withAnswer .refusedRange [] := by
  rw [faultRead, if_pos h, State.refuse, State.port_respond, if_pos rfl]

theorem faultRead_port_done {p : Port} {w2 : Word} {s : State} (h : fieldD w2 ≤ 15) :
    (faultRead p w2 s).port p = (s.port p).withAnswer .done
      (word4 s.faults.records.length (s.faults.shownFrom (fieldD w2)).length 0 s.faults.overflow.toNat
        :: (s.faults.shownFrom (fieldD w2)).flatMap faultWords) := by
  rw [faultRead, if_neg (Nat.not_lt.mpr h), State.port_respond, if_pos rfl, faultReadWords_eq]

/-- Settles O49: the answer is a word of counts and marks and then four words for each record of `shownFrom`. -/
theorem faultReadShowsRecords : Obligations.FaultReadShowsRecords := by
  intro s p w2 hidle
  refine ⟨faultRead p w2 s, exec_faultRead_idle w2 hidle, faultRead_frame p w2 s, faultRead_port_other p w2 s,
    faultRead_port_refused, fun hpos => ⟨_, _, faultRead_port_done hpos, ?length, ?overflow, ?shown, ?wordCount,
      fun k r hk hr => ?record⟩⟩
  case length => rw [fieldA_word4]
  case overflow => rw [getLsbD_zero_word4]
  case shown => rw [fieldB_word4, Faults.length_shownFrom_mod, Faults.length_shownFrom]
  case wordCount => rw [fieldB_word4, Faults.length_shownFrom_mod, length_flatMap_faultWords]
  case record =>
    have hshown : (s.faults.shownFrom (fieldD w2))[k]? = some r := by
      rw [Faults.getElem?_shownFrom _ _ hk, hr]
    have hword {j : Nat} (hj : j < 4) := getElem?_flatMap_faultWords hshown hj
    refine ⟨_, _, _, _, hword (j := 0) (by omega), hword (j := 1) (by omega), hword (j := 2) (by omega),
      hword (j := 3) (by omega), fieldA_word4 .., ?kind, fieldC_word4 .., fieldD_word4 .., rfl, rfl, ?state, ?severity,
      fieldC_word4 .., getLsbD_zero_word4 ..⟩
    case kind => rw [fieldB_word4, FaultKind.code_mod]
    case state => rw [fieldA_word4, recordStateCode_mod]
    case severity => rw [fieldB_word4, FaultKind.severityCode_mod]

end Sys2Proof.Machine
end

section
/-! The numbers 1 to 255 that roll over (00_scope), and the laws of the fault list (R150, R152) and of the request list
(R130) under the operations on the two lists. -/

namespace Sys2Proof.Machine

/-! ### Numbers that roll over -/

/-- The number `k` places after `n`, counting from 1 to 255 and on to 1 again. -/
def numberAfter (n k : Nat) : Nat := (n - 1 + k) % 255 + 1

theorem numberAfter_range (n k : Nat) : 1 ≤ numberAfter n k ∧ numberAfter n k ≤ 255 := by
  unfold numberAfter; omega

theorem numberAfter_zero {n : Nat} (h : 1 ≤ n ∧ n ≤ 255) : numberAfter n 0 = n := by
  unfold numberAfter; omega

theorem nextNumber_range {n : Nat} (h : 1 ≤ n) : 1 ≤ nextNumber n ∧ nextNumber n ≤ 255 := by
  unfold nextNumber; split <;> omega

theorem numberAfter_nextNumber {n : Nat} (k : Nat) (h : 1 ≤ n ∧ n ≤ 255) :
    numberAfter (nextNumber n) k = numberAfter n (k + 1) := by
  unfold numberAfter nextNumber; split <;> omega

theorem numberAfter_injOn (n : Nat) {i j : Nat} (hi : i < 255) (hj : j < 255)
    (h : numberAfter n i = numberAfter n j) : i = j := by
  unfold numberAfter at h; omega

/-- The search answers the first number not used, or has found every number it tried used. -/
theorem firstUnused_search (k : Nat) (used : List Nat) {n : Nat} (h : 1 ≤ n ∧ n ≤ 255) :
    (∃ m, m < k ∧ firstUnused k used n = numberAfter n m ∧ numberAfter n m ∉ used ∧ ∀ j < m, numberAfter n j ∈ used)
      ∨ ∀ j < k, numberAfter n j ∈ used := by
  induction k generalizing n with
  | zero => exact .inr fun j hj => absurd hj (by omega)
  | succ k ih =>
    by_cases hn : n ∈ used
    · rw [firstUnused, if_pos hn]
      have hstep : ∀ j, numberAfter n (j + 1) = numberAfter (nextNumber n) j := fun j =>
        (numberAfter_nextNumber j h).symm
      have hall : ∀ m, (∀ j < m, numberAfter (nextNumber n) j ∈ used) → ∀ j < m + 1, numberAfter n j ∈ used := by
        intro m hm j hj
        cases j with
        | zero => rwa [numberAfter_zero h]
        | succ j => rw [hstep]; exact hm j (by omega)
      obtain ⟨m, hm, heq, hnot, hbefore⟩ | hused := ih (nextNumber_range h.1)
      · exact .inl ⟨m + 1, by omega, by rw [hstep, heq], by rwa [hstep], hall m hbefore⟩
      · exact .inr (hall k hused)
    · exact .inl ⟨0, by omega, by rw [firstUnused, if_neg hn, numberAfter_zero h], by rwa [numberAfter_zero h],
        fun j hj => absurd hj (by omega)⟩

/-- Numbers that are all used are at most as many as the list of the used ones. -/
theorem used_count_le {k n : Nat} {used : List Nat} (hk : k ≤ 255) (h : ∀ j < k, numberAfter n j ∈ used) :
    k ≤ used.length := by
  have hnodup : ((List.range k).map (numberAfter n)).Nodup :=
    List.Nodup.map_on (fun i hi j hj => numberAfter_injOn n (by simp at hi; omega) (by simp at hj; omega))
      List.nodup_range
  have hsub : ((List.range k).map (numberAfter n)) ⊆ used := by
    intro a ha
    simp only [List.mem_map, List.mem_range] at ha
    obtain ⟨j, hj, rfl⟩ := ha
    exact h j hj
  simpa using (hnodup.subperm hsub).length_le

/-- The search over more numbers than are used answers the first number, counting upwards from `n`, that is not used. -/
theorem firstUnused_spec {k n : Nat} {used : List Nat} (h : 1 ≤ n ∧ n ≤ 255) (hlen : used.length < k) (hk : k ≤ 255) :
    ∃ m, m ≤ used.length ∧ firstUnused k used n = numberAfter n m ∧ numberAfter n m ∉ used
      ∧ ∀ j < m, numberAfter n j ∈ used := by
  obtain ⟨m, hm, heq, hnot, hbefore⟩ | hall := firstUnused_search k used h
  · exact ⟨m, used_count_le (by omega) hbefore, heq, hnot, hbefore⟩
  · exact absurd (used_count_le hk hall) (by omega)

/-! ### The law of the fault list -/

/-- The law holds of a list whose records have the kinds, subjects and identifiers of a lawful one, in order. -/
theorem State.FaultListLaw.of_map {s t : State} {g : FaultRecord → FaultRecord} (h : s.FaultListLaw)
    (hg : ∀ r, (g r).id = r.id ∧ (g r).kind = r.kind ∧ (g r).subject = r.subject)
    (hr : t.faults.records = s.faults.records.map g) (hn : t.faults.nextId = s.faults.nextId) : t.FaultListLaw := by
  obtain ⟨hlen, hkinds, hids, hrange, hnext⟩ := h
  refine ⟨?_, ?_, ?_, ?_, ?_⟩
  · simpa [hr] using hlen
  · simpa [hr, Function.comp_def, hg] using hkinds
  · simpa [hr, Function.comp_def, hg] using hids
  · simpa [hr, hg] using hrange
  · simpa [hn] using hnext

/-- The law holds of a part of a lawful list. -/
theorem State.FaultListLaw.of_sublist {s t : State} (h : s.FaultListLaw)
    (hr : t.faults.records.Sublist s.faults.records) (hn : t.faults.nextId = s.faults.nextId) : t.FaultListLaw := by
  obtain ⟨hlen, hkinds, hids, hrange, hnext⟩ := h
  exact ⟨hr.length_le.trans hlen, hkinds.sublist (hr.map _), hids.sublist (hr.map _),
    fun r h => hrange r (hr.subset h), by rwa [hn]⟩

theorem State.FaultListLaw.congr {s t : State} (h : s.FaultListLaw) (hr : t.faults.records = s.faults.records)
    (hn : t.faults.nextId = s.faults.nextId) : t.FaultListLaw :=
  h.of_sublist (by rw [hr]) hn

theorem State.createRecord_records (k : FaultKind) (x : Subject) (a : Bool) (s : State) :
    (s.createRecord k x a).faults.records = s.faults.records
      ++ [{ id := firstUnused 17 (s.faults.records.map (·.id)) s.faults.nextId, kind := k, subject := x
            first := s.tick, last := s.tick, active := a }] := rfl

theorem State.createRecord_nextId (k : FaultKind) (x : Subject) (a : Bool) (s : State) :
    (s.createRecord k x a).faults.nextId =
      nextNumber (firstUnused 17 (s.faults.records.map (·.id)) s.faults.nextId) := rfl

/-- A record hits exactly its kind and subject. -/
theorem FaultRecord.hits_iff (k : FaultKind) (x : Subject) (r : FaultRecord) :
    r.hits k x = true ↔ r.kind = k ∧ r.subject = x := by simp [FaultRecord.hits]

/-- A record created in a list with a place free, of a kind and subject it does not hold, keeps the law (R150). -/
theorem State.FaultListLaw.createRecord {s : State} (h : s.FaultListLaw) {k : FaultKind} {x : Subject} (a : Bool)
    (hplace : s.faults.records.length < 16) (hnew : ∀ r ∈ s.faults.records, r.hits k x = false) :
    (s.createRecord k x a).FaultListLaw := by
  obtain ⟨hlen, hkinds, hids, hrange, hnext⟩ := h
  obtain ⟨m, -, hid, hunused, -⟩ :=
    firstUnused_spec (k := 17) (used := s.faults.records.map (·.id)) hnext (by simp; omega) (by omega)
  have hidRange := numberAfter_range s.faults.nextId m
  refine ⟨?_, ?_, ?_, ?_, ?_⟩
  · simp [State.createRecord_records]; omega
  · rw [State.createRecord_records, List.map_append, List.nodup_append]
    refine ⟨hkinds, by simp, ?_⟩
    simp only [List.mem_map, List.map_cons, List.map_nil, List.mem_singleton]
    rintro _ ⟨r, hr, rfl⟩ _ rfl heq
    have := (r.hits_iff k x).mpr (by simpa using heq)
    simp [hnew r hr] at this
  · rw [State.createRecord_records, List.map_append, List.nodup_append]
    refine ⟨hids, by simp, ?_⟩
    simp only [List.map_cons, List.map_nil, List.mem_singleton]
    rintro i hi _ rfl heq
    exact hunused (by rwa [heq, hid] at hi)
  · intro r hr
    rw [State.createRecord_records, List.mem_append, List.mem_singleton] at hr
    obtain hr | rfl := hr
    · exact hrange r hr
    · simpa [hid] using hidRange
  · rw [State.createRecord_nextId, hid]
    exact nextNumber_range hidRange.1

theorem State.removeRecord_records (id : Nat) (s : State) :
    (s.removeRecord id).faults.records = s.faults.records.filter fun r => r.id != id := by
  simp [State.removeRecord]

theorem State.removeRecord_nextId (id : Nat) (s : State) : (s.removeRecord id).faults.nextId = s.faults.nextId := by
  simp [State.removeRecord]

theorem State.FaultListLaw.removeRecord {s : State} (h : s.FaultListLaw) (id : Nat) : (s.removeRecord id).FaultListLaw :=
  h.of_sublist (by rw [State.removeRecord_records]; exact List.filter_sublist) (s.removeRecord_nextId id)

theorem State.FaultListLaw.updRecord {s : State} (h : s.FaultListLaw) (k : FaultKind) (x : Subject)
    {g : FaultRecord → FaultRecord} (hg : ∀ r, (g r).id = r.id ∧ (g r).kind = r.kind ∧ (g r).subject = r.subject) :
    (s.updRecord k x g).FaultListLaw :=
  h.of_map (g := fun r => if r.hits k x then g r else r) (fun r => by split <;> simp [hg]) rfl rfl

theorem State.FaultListLaw.setOverflow {s : State} (h : s.FaultListLaw) : s.setOverflow.FaultListLaw := by
  unfold State.setOverflow
  split
  · exact h
  · exact h.congr (by simp) (by simp)

theorem FaultRecord.raiseAgain_names (now : Nat) (r : FaultRecord) :
    (r.raiseAgain now).id = r.id ∧ (r.raiseAgain now).kind = r.kind ∧ (r.raiseAgain now).subject = r.subject := by
  unfold FaultRecord.raiseAgain; split <;> simp

/-- A raise keeps the law of the fault list (R150, R152). -/
theorem State.FaultListLaw.raiseFault {s : State} (h : s.FaultListLaw) (k : FaultKind) (x : Subject) :
    (s.raiseFault k x).FaultListLaw := by
  unfold State.raiseFault
  split
  next r hr =>
    have hagain := h.updRecord k x (FaultRecord.raiseAgain_names s.tick)
    have hback := h.updRecord k x (g := (·.reactivate s.tick)) fun r => ⟨rfl, rfl, rfl⟩
    dsimp only
    split_ifs
    · exact hagain.congr (by simp) (by simp)
    · exact hagain
    · exact hback.congr (by simp) (by simp)
  next hnone =>
    have hnew : ∀ r ∈ s.faults.records, r.hits k x = false := by simpa using hnone
    split_ifs with hplace
    · exact h.createRecord true hplace hnew
    · split
      next old hold =>
        refine (h.removeRecord old.id).createRecord true ?_ fun r hr => hnew r ?_
        · have hmem := List.mem_of_find?_eq_some hold
          rw [State.removeRecord_records]
          exact Nat.lt_of_lt_of_le (List.length_filter_lt_length_iff_exists.mpr ⟨old, hmem, by simp⟩) h.1
        · rw [State.removeRecord_records] at hr
          exact (List.mem_filter.mp hr).1
      next => exact h.setOverflow

/-- A clear keeps the law of the fault list (R151). -/
theorem State.FaultListLaw.clearFault {s : State} (h : s.FaultListLaw) (k : FaultKind) (x : Subject) :
    (s.clearFault k x).FaultListLaw := by
  have hclear := h.updRecord k x (g := (·.clear)) fun r => ⟨rfl, rfl, rfl⟩
  unfold State.clearFault
  split
  · split_ifs
    · exact hclear.congr (by simp) (by simp)
    · exact h
  · exact h

/-- The list after a reset holds the record of the reset alone (R163). -/
theorem State.FaultListLaw.resetFaults {s : State} (h : s.FaultListLaw) (k : FaultKind) :
    (s.resetFaults k).FaultListLaw := by
  unfold State.resetFaults
  refine State.FaultListLaw.createRecord ⟨by simp, by simp, by simp, by simp, ?_⟩ false (by simp) (by simp)
  simpa using h.2.2.2.2

/-- A pair of a REPORT ACK keeps the law of the fault list (R154). -/
theorem State.FaultListLaw.takePair {s : State} (h : s.FaultListLaw) (p : Nat × Nat) : (s.takePair p).FaultListLaw := by
  unfold State.takePair
  split
  · exact h
  next r hr =>
    dsimp only
    split_ifs
    · exact h.removeRecord p.1
    · refine h.of_map (g := fun q => if q.id = p.1 then { q with acked := max r.acked (min p.2 r.count) } else q)
        (fun q => ?_) rfl rfl
      split <;> simp

/-! ### The law of the request list -/

theorem State.RequestListLaw.of_sublist {s t : State} (h : s.RequestListLaw)
    (hl : t.renewal.list.Sublist s.renewal.list) : t.RequestListLaw := by
  obtain ⟨hlen, hslots, horder⟩ := h
  exact ⟨hl.length_le.trans hlen, hslots.sublist (hl.map _), horder.sublist hl⟩

theorem State.RequestListLaw.congr {s t : State} (h : s.RequestListLaw) (hl : t.renewal.list = s.renewal.list) :
    t.RequestListLaw := h.of_sublist (by rw [hl])

/-- An entry inserted stands among those of the list. -/
theorem insertEntry_perm (f : Entry) (l : List Entry) : (insertEntry f l).Perm (f :: l) := by
  induction l with
  | nil => exact .refl _
  | cons e l ih =>
    rw [insertEntry]
    split
    · exact (ih.cons e).trans (.swap f e l)
    · exact .refl _

theorem Entry.notAfter_of_before {e f : Entry} (h : f.before e = true) : e.notAfter f := by
  simp only [Entry.before, Bool.or_eq_true, decide_eq_true_iff, Bool.and_eq_true, beq_iff_eq] at h
  unfold Entry.notAfter
  omega

theorem Entry.notAfter_of_not_before {e f : Entry} (h : f.before e = false) : f.notAfter e := by
  simp only [Entry.before, Bool.or_eq_false_iff, decide_eq_false_iff_not, Bool.and_eq_false_iff, beq_eq_false_iff_ne] at h
  unfold Entry.notAfter
  omega

theorem Entry.notAfter_trans {e f g : Entry} (h : e.notAfter f) (k : f.notAfter g) : e.notAfter g := by
  unfold Entry.notAfter at *
  omega

/-- An entry inserted into an ordered list stands in its order (R130). -/
theorem insertEntry_pairwise (f : Entry) {l : List Entry} (h : l.Pairwise Entry.notAfter) :
    (insertEntry f l).Pairwise Entry.notAfter := by
  induction l with
  | nil => simp [insertEntry]
  | cons e l ih =>
    obtain ⟨hhead, htail⟩ := List.pairwise_cons.mp h
    rw [insertEntry]
    split
    next hb =>
      refine List.pairwise_cons.mpr ⟨fun g hg => ?_, ih htail⟩
      rw [(insertEntry_perm f l).mem_iff, List.mem_cons] at hg
      obtain rfl | hg := hg
      · exact Entry.notAfter_of_before hb
      · exact hhead g hg
    next hb =>
      have hfe := Entry.notAfter_of_not_before (Bool.eq_false_iff.mpr hb)
      refine List.pairwise_cons.mpr ⟨fun g hg => ?_, h⟩
      obtain rfl | hg := List.mem_cons.mp hg
      · exact hfe
      · exact Entry.notAfter_trans hfe (hhead g hg)

/-- An entry of a new slot inserted into a lawful list with a place free keeps the law. -/
theorem State.RequestListLaw.insert {s t : State} {l : List Entry} {e : Entry} (h : s.RequestListLaw)
    (hl : l.Sublist s.renewal.list) (hplace : l.length < 8) (hnew : ∀ d ∈ l, d.slot ≠ e.slot)
    (ht : t.renewal.list = insertEntry e l) : t.RequestListLaw := by
  obtain ⟨-, hslots, horder⟩ := h
  have hperm := insertEntry_perm e l
  rw [State.RequestListLaw, ht]
  refine ⟨by rw [hperm.length_eq]; simp; omega, ?_, insertEntry_pairwise e (horder.sublist hl)⟩
  rw [(hperm.map _).nodup_iff, List.map_cons, List.nodup_cons]
  refine ⟨?_, hslots.sublist (hl.map _)⟩
  simpa using hnew

end Sys2Proof.Machine
end

section
/-! What every operation of the part but a staging, a start and a reset of the engine leaves in place: the keys of the
slots and their hard limits (R32, R34, R37, R45, R47), the laws of the two lists (R130, R152) and the marks of the work in
flight (R6, R36). One reflexive and transitive relation, and one lemma per operation. -/

namespace Sys2Proof.Machine

/-! ### The relation -/

/-- The key in a slot stands or goes: the slot is EMPTY after, or it held the same key before; and used stays within hard. -/
structure Slot.Keeps (v w : Slot) : Prop where
  key : w.state = .empty ∨ v.state ≠ .empty ∧ v.sameKey w
  limit : v.used ≤ v.hard → w.used ≤ w.hard

theorem Slot.sameKey.refl (v : Slot) : v.sameKey v := by simp [Slot.sameKey]

theorem Slot.sameKey.trans {u v w : Slot} (h : u.sameKey v) (k : v.sameKey w) : u.sameKey w := by
  unfold Slot.sameKey at *
  grind

theorem Slot.Keeps.refl (v : Slot) : v.Keeps v where
  key := by
    by_cases h : v.state = .empty
    · exact .inl h
    · exact .inr ⟨h, .refl v⟩
  limit := id

theorem Slot.Keeps.trans {u v w : Slot} (h : u.Keeps v) (k : v.Keeps w) : u.Keeps w where
  key := by
    obtain hw | ⟨hv, hvw⟩ := k.key
    · exact .inl hw
    · obtain hv' | ⟨hu, huv⟩ := h.key
      · exact absurd hv' hv
      · exact .inr ⟨hu, huv.trans hvw⟩
  limit := k.limit ∘ h.limit

/-- An EMPTY slot keeps nothing and is within its limit. -/
theorem Slot.Keeps.emptied (v : Slot) : v.Keeps {} := ⟨.inl rfl, fun _ => Nat.le_refl _⟩

/-- A slot keeps its key, and its engine-use mark is not set anew. -/
structure Slot.Calm (v w : Slot) : Prop extends v.Keeps w where
  mark : w.engineUse = true → v.engineUse = true

theorem Slot.Calm.refl (v : Slot) : v.Calm v := ⟨.refl v, id⟩

theorem Slot.Calm.emptied (v : Slot) : v.Calm {} := ⟨.emptied v, by simp⟩

/-- A slot that is EMPTY only as it was, with the same key, has it kept. -/
theorem Slot.Calm.of_sameKey {v w : Slot} (hstate : v.state = .empty → w.state = .empty)
    (h : v.sameKey w ∧ (v.used ≤ v.hard → w.used ≤ w.hard) ∧ (w.engineUse = true → v.engineUse = true)) : v.Calm w := by
  obtain ⟨hkey, hlimit, hmark⟩ := h
  exact ⟨⟨or_iff_not_imp_left.2 fun hw => ⟨fun hv => hw (hstate hv), hkey⟩, hlimit⟩, hmark⟩

/-- Between s and t the slots kept their keys and limits, and the lists their laws. -/
structure State.Kept (s t : State) : Prop where
  slots : ∀ x, (s.slot x).Keeps (t.slot x)
  faults : s.FaultListLaw → t.FaultListLaw
  requests : s.RequestListLaw → t.RequestListLaw

theorem State.Kept.refl (s : State) : s.Kept s := ⟨fun _ => .refl _, id, id⟩

theorem State.Kept.trans {s t u : State} (h : s.Kept t) (k : t.Kept u) : s.Kept u :=
  ⟨fun x => (h.slots x).trans (k.slots x), k.faults ∘ h.faults, k.requests ∘ h.requests⟩

/-- Between s and t no mark was set anew and the work in flight stayed. -/
structure State.Steady (s t : State) : Prop extends s.Kept t where
  inEngine : ∀ i, (t.chan i).inEngine = true → (s.chan i).inEngine = true
  engineUse : ∀ x, (t.slot x).engineUse = true → (s.slot x).engineUse = true
  work : t.engine.work = s.engine.work

theorem State.Steady.refl (s : State) : s.Steady s := ⟨.refl s, fun _ => id, fun _ => id, rfl⟩

theorem State.Steady.trans {s t u : State} (h : s.Steady t) (k : t.Steady u) : s.Steady u :=
  ⟨h.toKept.trans k.toKept, fun i => h.inEngine i ∘ k.inEngine i, fun x => h.engineUse x ∘ k.engineUse x,
    k.work.trans h.work⟩

/-- The marks stay on the work in flight. -/
theorem State.Steady.marks {s t : State} (h : s.Steady t) (hs : s.MarksOfWork) : t.MarksOfWork := by
  obtain ⟨hchan, hslot⟩ := hs
  unfold State.MarksOfWork
  rw [h.work]
  exact ⟨fun i hi => hchan i (h.inEngine i hi), fun x hx => hslot x (h.engineUse x hx)⟩

/-! ### How it is shown -/

theorem State.Steady.of_calm {s t : State} (hslots : ∀ x, (s.slot x).Calm (t.slot x))
    (hchans : ∀ i, (t.chan i).inEngine = true → (s.chan i).inEngine = true)
    (hwork : t.engine.work = s.engine.work) (hfaults : s.FaultListLaw → t.FaultListLaw)
    (hrequests : s.RequestListLaw → t.RequestListLaw) : s.Steady t :=
  ⟨⟨fun x => (hslots x).toKeeps, hfaults, hrequests⟩, hchans, fun x => (hslots x).mark, hwork⟩

/-- The lists have kept their laws, and nothing else that counts has changed. -/
theorem State.Steady.of_lists {s t : State} (hfaults : s.FaultListLaw → t.FaultListLaw)
    (hrequests : s.RequestListLaw → t.RequestListLaw)
    (h : t.slots = s.slots ∧ t.chans = s.chans ∧ t.engine.work = s.engine.work) : s.Steady t := by
  obtain ⟨hslots, hchans, hwork⟩ := h
  exact .of_calm (fun x => by rw [State.slot_congr hslots]; exact .refl _)
    (fun i => by rw [State.chan_congr hchans]; exact id) hwork hfaults hrequests

/-- Nothing that counts has changed. -/
theorem State.Steady.same {s t : State} (h : t.slots = s.slots ∧ t.chans = s.chans ∧ t.engine.work = s.engine.work
    ∧ t.faults.records = s.faults.records ∧ t.faults.nextId = s.faults.nextId ∧ t.renewal.list = s.renewal.list) :
    s.Steady t := by
  obtain ⟨hslots, hchans, hwork, hrecords, hnext, hlist⟩ := h
  exact .of_lists (·.congr hrecords hnext) (·.congr hlist) ⟨hslots, hchans, hwork⟩

/-- The fault list alone has changed, within its law. -/
theorem State.Steady.of_faults {s t : State} (hfaults : s.FaultListLaw → t.FaultListLaw)
    (h : t.slots = s.slots ∧ t.chans = s.chans ∧ t.engine.work = s.engine.work ∧ t.renewal.list = s.renewal.list) :
    s.Steady t := by
  obtain ⟨hslots, hchans, hwork, hlist⟩ := h
  exact .of_lists hfaults (·.congr hlist) ⟨hslots, hchans, hwork⟩

/-- The request list alone has changed, within its law. -/
theorem State.Steady.of_requests {s t : State} (hrequests : s.RequestListLaw → t.RequestListLaw)
    (h : t.slots = s.slots ∧ t.chans = s.chans ∧ t.engine.work = s.engine.work ∧ t.faults = s.faults) : s.Steady t := by
  obtain ⟨hslots, hchans, hwork, hfaults⟩ := h
  exact .of_lists (·.congr (by rw [hfaults]) (by rw [hfaults])) hrequests ⟨hslots, hchans, hwork⟩

theorem State.Steady.ite {c : Prop} [Decidable c] {s t u : State} (ht : c → s.Steady t) (hu : ¬ c → s.Steady u) :
    s.Steady (if c then t else u) := by
  split
  next h => exact ht h
  next h => exact hu h

/-- Many steady operations one after another are steady. -/
theorem State.Steady.foldl {α : Type} {f : State → α → State} (h : ∀ (s : State) a, s.Steady (f s a)) (l : List α)
    (s : State) :
    s.Steady (l.foldl f s) := by
  induction l generalizing s with
  | nil => exact .refl s
  | cons a l ih => exact (h s a).trans (ih _)

/-! ### Updates of the tables -/

theorem State.updSlot_steady {x : Nat} {f : Slot → Slot} {s : State} (h : (s.slot x).Calm (f (s.slot x))) :
    s.Steady (s.updSlot x f) := by
  refine .of_calm (fun y => ?_) (fun i => by simp) (by simp) (·.congr (by simp) (by simp)) (·.congr (by simp))
  rw [State.slot_updSlot]
  split
  next hy => rw [hy.1]; exact h
  next => exact .refl _

theorem State.mapSlots_steady {f : Nat → Slot → Slot} {s : State} (h : ∀ x, (s.slot x).Calm (f x (s.slot x))) :
    s.Steady (s.mapSlots f) := by
  refine .of_calm (fun y => ?_) (fun i => by simp) (by simp) (·.congr (by simp) (by simp)) (·.congr (by simp))
  rw [State.slot_mapSlots]
  split
  · exact h y
  · exact .emptied _

theorem State.setChan_steady {i : Nat} {c : Channel} {s : State} (h : c.inEngine = true → (s.chan i).inEngine = true) :
    s.Steady (s.setChan i c) := by
  refine .of_calm (fun y => by simpa using .refl _) (fun j => ?_) (by simp) (·.congr (by simp) (by simp)) (·.congr (by simp))
  rw [State.chan_setChan]
  split
  next hj => rw [hj.1]; exact h
  next => exact id

theorem State.updChan_steady {i : Nat} {f : Channel → Channel} {s : State}
    (h : (f (s.chan i)).inEngine = true → (s.chan i).inEngine = true) : s.Steady (s.updChan i f) :=
  State.setChan_steady h

theorem State.mapChans_steady {f : Nat → Channel → Channel} {s : State}
    (h : ∀ i, (f i (s.chan i)).inEngine = true → (s.chan i).inEngine = true) : s.Steady (s.mapChans f) := by
  refine .of_calm (fun y => by simpa using .refl _) (fun j => ?_) (by simp) (·.congr (by simp) (by simp)) (·.congr (by simp))
  rw [State.chan_mapChans]
  split
  · exact h j
  · simp

/-! ### Updates of the other blocks -/

theorem State.updRoot_steady (f : Root → Root) (s : State) : s.Steady (s.updRoot f) := .same (by simp)

theorem State.updLink_steady (f : LinkWatch → LinkWatch) (s : State) : s.Steady (s.updLink f) := .same (by simp)

theorem State.updMessenger_steady (f : Messenger → Messenger) (s : State) : s.Steady (s.updMessenger f) := .same (by simp)

theorem State.updRenewal_steady {f : Renewal → Renewal} {s : State}
    (h : (f s.renewal).list = s.renewal.list) : s.Steady (s.updRenewal f) :=
  .same ⟨rfl, rfl, rfl, rfl, rfl, h⟩

theorem State.updBeacon_steady (f : Beacon → Beacon) (s : State) : s.Steady (s.updBeacon f) := .same (by simp)

theorem State.setBackoff_steady (x : Nat) (b : Backoff) (s : State) : s.Steady (s.setBackoff x b) := .same (by simp)

theorem State.updCtx_steady (c : Nat) (f : Context → Context) (s : State) : s.Steady (s.updCtx c f) := .same (by simp)

theorem State.updPort_steady (p : Port) (f : PortState → PortState) (s : State) : s.Steady (s.updPort p f) := .same (by simp)

/-! ### The Fault Monitor, the pool and the queues -/

theorem State.raiseFault_steady (k : FaultKind) (x : Subject) (s : State) : s.Steady (s.raiseFault k x) :=
  .of_faults (·.raiseFault k x) (by simp)

theorem State.clearFault_steady (k : FaultKind) (x : Subject) (s : State) : s.Steady (s.clearFault k x) :=
  .of_faults (·.clearFault k x) (by simp)

theorem State.resetFaults_steady (k : FaultKind) (s : State) : s.Steady (s.resetFaults k) :=
  .of_faults (·.resetFaults k) (by simp)

theorem State.returnBuffer_steady (s : State) : s.Steady s.returnBuffer := by
  unfold State.returnBuffer
  dsimp only
  split_ifs
  · exact .trans (.same (by simp)) (State.clearFault_steady ..)
  · exact .same (by simp)

theorem State.returnBuffers_steady (n : Nat) (s : State) : s.Steady (State.returnBuffers n s) := by
  induction n generalizing s with
  | zero => exact .refl s
  | succ n ih => exact s.returnBuffer_steady.trans (ih _)

theorem State.noticeOrFree_steady (f : ShopFrame) (r : RefuseReason) (s : State) : s.Steady (s.noticeOrFree f r) := by
  obtain ⟨-, h⟩ | ⟨-, h⟩ := s.noticeOrFree_cases f r <;> rw [h]
  · exact .same (by simp)
  · exact s.returnBuffer_steady

theorem State.endPush_steady (p : Port) (s : State) : s.Steady (s.endPush p) := .same (by simp)

theorem State.removeShopFrames_steady (q : ShopFrame → Bool) (s : State) : s.Steady (s.removeShopFrames q) := by
  unfold State.removeShopFrames
  dsimp only
  refine .trans ?_ (.foldl (fun t f => t.noticeOrFree_steady f .noChannel) _ _)
  split_ifs
  · exact .trans (.same (by simp)) (State.endPush_steady ..)
  · exact .same (by simp)

/-! ### The Channel Table -/

theorem State.addRefs_steady (x n : Nat) (s : State) : s.Steady (s.addRefs x n) :=
  State.updSlot_steady (.of_sameKey id (by simp [Slot.sameKey]))

theorem State.dropRefs_steady (x n : Nat) (s : State) : s.Steady (s.dropRefs x n) :=
  State.updSlot_steady (.of_sameKey id (by simp [Slot.sameKey]))

theorem State.dropName_steady (o : Option Nat) (s : State) : s.Steady (s.dropName o) := by
  cases o with
  | none => exact .refl s
  | some x => exact s.dropRefs_steady x 1

theorem State.markExhausted_steady (x : Nat) (s : State) : s.Steady (s.markExhausted x) :=
  State.mapChans_steady fun i => by split <;> exact id

theorem State.rebind_steady (x y : Nat) (s : State) : s.Steady (s.rebind x y) :=
  .trans (State.mapChans_steady fun i => by split_ifs <;> exact id) (State.addRefs_steady ..)

theorem State.dropAlternate_steady (x : Nat) (s : State) : s.Steady (s.dropAlternate x) :=
  .trans (State.mapChans_steady fun i => by split_ifs <;> exact id) (State.dropRefs_steady ..)

theorem State.openChannel_steady (q : OpenRequest) (s : State) : s.Steady (s.openChannel q) := by
  unfold State.openChannel
  split_ifs
  · exact .trans (State.setChan_steady (by simp)) (State.addRefs_steady ..)
  · exact .trans (State.setChan_steady (by simp)) (State.updChan_steady (by simp))

theorem State.closeData_steady (i : Nat) (s : State) : s.Steady (s.closeData i) := by
  unfold State.closeData
  refine .trans (.trans (.trans (.trans (State.removeShopFrames_steady ..) (State.mapChans_steady fun j => ?_))
    (State.dropName_steady ..)) (State.dropName_steady ..)) (State.updChan_steady ?_)
  · split_ifs <;> simp
  · split_ifs <;> simp_all

theorem State.closeAlias_steady (i : Nat) (s : State) : s.Steady (s.closeAlias i) := by
  unfold State.closeAlias
  exact .trans (.trans (State.removeShopFrames_steady ..) (State.setChan_steady (by simp))) (State.updChan_steady (by simp))

theorem State.closeChannel_steady (i : Nat) (s : State) : s.Steady (s.closeChannel i) := by
  unfold State.closeChannel
  split_ifs
  · exact s.closeAlias_steady i
  · exact s.closeData_steady i

/-! ### The Key Store -/

theorem State.emptySlot_steady (x : Nat) (s : State) : s.Steady (s.emptySlot x) := by
  unfold State.emptySlot
  dsimp only
  have hmap : s.Steady (s.mapSlots fun y v =>
      if y = x then {}
      else
        { v with predecessor := if v.predecessor = some x then none else v.predecessor
                 successor := if v.successor = some x then none else v.successor }) :=
    State.mapSlots_steady fun y => by
      split_ifs <;> first | exact .emptied _ | exact .of_sameKey id (by simp [Slot.sameKey])
  have hsuspect := hmap.trans (State.clearFault_steady .tagFails (.slot x) _)
  split_ifs
  · exact hsuspect.trans (.trans (.same (by simp)) (State.clearFault_steady ..))
  · exact hmap.trans (.trans (.same (by simp)) (State.clearFault_steady ..))
  · exact hsuspect
  · exact hmap

theorem State.discardSlot_steady (y : Nat) (s : State) : s.Steady (s.discardSlot y) := by
  unfold State.discardSlot
  split_ifs
  · exact s.emptySlot_steady y
  · exact .refl s

theorem State.endDrain_steady (x : Nat) (s : State) : s.Steady (s.endDrain x) := by
  unfold State.endDrain
  dsimp only
  split_ifs
  · exact (s.dropAlternate_steady x).trans (State.emptySlot_steady ..)
  · exact .refl s

theorem State.switchSlots_steady (x y : Nat) (s : State) : s.Steady (s.switchSlots x y) := by
  unfold State.switchSlots
  split_ifs with h
  · obtain ⟨hy, hx⟩ := h
    have hactive : s.Steady (s.updSlot y fun v => { v with state := .active }) :=
      State.updSlot_steady (.of_sameKey (by simp [hy]) (by simp [Slot.sameKey]))
    refine .trans (.trans (.trans hactive (State.updSlot_steady (.of_sameKey ?_ (by simp [Slot.sameKey])))) (State.rebind_steady ..))
      (State.updSlot_steady (.of_sameKey id (by simp [Slot.sameKey])))
    rw [State.slot_updSlot]
    split_ifs <;> simp [hx]
  · exact .refl s

/-! ### Triggers and the Account Unit -/

theorem State.setRequested_steady (o : Option Nat) (b : Bool) (s : State) : s.Steady (s.setRequested o b) := by
  cases o with
  | none => exact .refl s
  | some x => exact State.updSlot_steady (f := fun v => { v with requested := b }) (.of_sameKey id (by simp [Slot.sameKey]))

/-- A new entry, of a slot that has none, keeps the list's law (R130, R131). -/
theorem State.listNew_steady (o : Option Nat) (r : Reason) (s : State) (hnew : ∀ e ∈ s.renewal.list, e.slot ≠ o) :
    s.Steady (s.listNew o r).1 := by
  unfold State.listNew
  dsimp only
  split
  next hplace => exact .of_requests (fun h => h.insert (.refl _) hplace hnew rfl) (by simp)
  next =>
    split
    next last hlast =>
      split
      · refine .trans (.of_requests (fun h => h.insert (List.dropLast_sublist _) ?_ ?_ rfl) (by simp)) (State.setRequested_steady ..)
        · have : s.renewal.list ≠ [] := by rintro hnil; simp [hnil] at hlast
          have := List.length_pos_iff.mpr this
          have := h.1
          rw [List.length_dropLast]
          omega
        · exact fun e he => hnew e (List.dropLast_subset _ he)
      · exact .trans (.same (by simp)) (State.setRequested_steady o false _)
    next => exact .refl s

theorem State.listTrigger_steady (o : Option Nat) (r : Reason) (s : State) : s.Steady (s.listTrigger o r).1 := by
  unfold State.listTrigger
  split
  next e he =>
    have hslot : e.slot = o := by simpa using List.find?_some he
    split_ifs
    · refine .of_requests (fun h => h.insert List.filter_sublist ?_ ?_ rfl) (by simp)
      · refine Nat.lt_of_lt_of_le (List.length_filter_lt_length_iff_exists.mpr ⟨e, List.mem_of_find?_eq_some he, ?_⟩) h.1
        simp [hslot]
      · simp [hslot]
    · exact .refl s
  next hnone => exact s.listNew_steady o r (by simpa using hnone)

theorem State.receiveTrigger_steady (o : Option Nat) (r : Reason) (s : State) : s.Steady (s.receiveTrigger o r).1 := by
  unfold State.receiveTrigger
  have hcount : s.Steady (s.updRenewal fun n => { n with received := satInc 65535 n.received }) := .same (by simp)
  dsimp only
  split
  · exact hcount
  · cases o with
    | none =>
      dsimp only
      split_ifs
      · exact hcount
      · exact hcount.trans (State.listTrigger_steady ..)
    | some x =>
      dsimp only
      split_ifs
      · exact hcount.trans (State.setRequested_steady (some x) false _)
      · exact hcount.trans (.trans (.same (by simp)) (State.listTrigger_steady ..))
      · exact hcount
      · exact hcount.trans (State.listTrigger_steady ..)

theorem State.sendTrigger_steady (x : Nat) (r : Reason) (s : State) : s.Steady (s.sendTrigger x r) :=
  .trans (State.setRequested_steady (some x) true s) (State.receiveTrigger_steady ..)

theorem State.sendBoot_steady (s : State) : s.Steady s.sendBoot := State.receiveTrigger_steady none .boot s

theorem State.spendSlot_steady (x : Nat) (k : FaultKind) (s : State) : s.Steady (s.spendSlot x k) :=
  .trans (.trans (.trans (State.updSlot_steady (.of_sameKey id (by simp [Slot.sameKey]))) (State.markExhausted_steady ..))
    (State.raiseFault_steady ..)) (State.sendTrigger_steady ..)

theorem State.softTest_steady (x : Nat) (s : State) : s.Steady (s.softTest x) := by
  unfold State.softTest
  dsimp only
  split_ifs
  · exact s.sendTrigger_steady x .soft
  · exact .refl s

/-- A charge is taken only within the hard limit (R47). -/
theorem State.charge_steady (x c : Nat) (s : State) : s.Steady (s.charge x c).1 := by
  unfold State.charge
  dsimp only
  split_ifs with hspent hover
  · exact .refl s
  · exact s.spendSlot_steady x .keySpent
  · exact .trans (State.updSlot_steady (.of_sameKey id (by simpa [Slot.sameKey] using fun _ => Nat.le_of_not_lt hover)))
      (State.softTest_steady ..)

theorem State.rateUpdate_steady (x : Nat) (s : State) : s.Steady (s.rateUpdate x) :=
  State.updSlot_steady (.of_sameKey id (by simp [Slot.sameKey]))

theorem State.reevaluateSlot_steady (x : Nat) (s : State) : s.Steady (s.reevaluateSlot x) := by
  unfold State.reevaluateSlot
  dsimp only
  split_ifs <;> first | exact State.sendTrigger_steady .. | exact .refl s

theorem State.visitSlot_steady (s : State) (x : Nat) : s.Steady (s.visitSlot x) := by
  unfold State.visitSlot
  dsimp only
  split_ifs
  · exact (s.rateUpdate_steady x).trans (State.sendTrigger_steady ..)
  · exact (s.rateUpdate_steady x).trans (State.reevaluateSlot_steady ..)
  · exact .refl s

theorem State.drawCounter_steady (x : Nat) (s : State) : s.Steady (s.drawCounter x).1 :=
  State.updSlot_steady (f := fun v => { v with txCounter := v.txCounter + 1 }) (.of_sameKey id (by simp [Slot.sameKey]))

end Sys2Proof.Machine
end

section
/-! The control messages, the exchanges, the events of the ticks, the ports and the commands leave the keys, the laws of the
two lists and the marks of the work in flight in place (R32, R34, R37, R45, R47, R130, R152, R6, R36). -/

namespace Sys2Proof.Machine

/-! ### Composition and exchanges -/

theorem State.compose_steady (bs : List Byte) (s : State) : s.Steady (s.compose bs).1 := by
  unfold State.compose
  split_ifs
  · exact .refl s
  · exact .trans (.same (by simp)) (State.raiseFault_steady ..)
  · exact .refl s
  · exact .same (by simp)

theorem State.freeContext_steady (c : Nat) (s : State) : s.Steady (s.freeContext c) := by
  refine .same ⟨by simp, by simp, by simp, by simp, by simp, ?_⟩
  unfold State.freeContext
  split <;> simp

/-- A context after it has asked for its message (R135). -/
def Context.composed (done : Bool) (serial : Nat) (x : Context) : Context :=
  if done then { x with send := .queued, latest := some serial, retryDue := false }
  else { x with send := .compose, retryDue := false }

/-- A context asks for its message: one composition, and its own send state (R135). -/
theorem State.composeContext_eq (c : Nat) (s : State) :
    s.composeContext c = (s.compose (s.contextMessage (s.ctx c))).1.updCtx c
      (Context.composed (s.compose (s.contextMessage (s.ctx c))).2 s.renewal.nextSerial) := by
  unfold State.composeContext
  dsimp only
  rw [← State.contextMessage]
  cases (s.compose (s.contextMessage (s.ctx c))).2 <;> rfl

theorem State.composeContext_steady (c : Nat) (s : State) : s.Steady (s.composeContext c) := by
  rw [State.composeContext_eq]
  exact (State.compose_steady ..).trans (State.updCtx_steady ..)

theorem State.reportPlaced_steady (n : Nat) (s : State) : s.Steady (s.reportPlaced n) := by
  unfold State.reportPlaced
  split
  · exact State.updCtx_steady ..
  · exact .refl s

theorem State.openContext_steady (c : Nat) (x : Context) (s : State) : s.Steady (s.openContext c x) := by
  refine .same ⟨by simp, by simp, by simp, by simp, by simp, ?_⟩
  simp [State.openContext, State.assignExchange]

/-- The entry taken and the rest are the list in its order. -/
theorem takeEligible_sublist {q : Entry → Bool} {l rest : List Entry} {e : Entry}
    (h : takeEligible q l = some (e, rest)) : rest.Sublist l := by
  induction l generalizing rest with
  | nil => simp [takeEligible] at h
  | cons d l ih =>
    rw [takeEligible] at h
    split at h
    next =>
      simp only [Option.some.injEq, Prod.mk.injEq] at h
      rw [← h.2]
      exact List.sublist_cons_self ..
    next =>
      simp only [Option.map_eq_some_iff, Prod.mk.injEq, Prod.exists] at h
      obtain ⟨d', r, hr, rfl, rfl⟩ := h
      exact (ih hr).cons_cons d

theorem State.startExchange_steady (s : State) : s.Steady s.startExchange := by
  unfold State.startExchange
  split
  next hctx htake =>
    exact .trans (.trans (.of_requests (·.of_sublist (takeEligible_sublist htake)) (by simp)) (State.openContext_steady ..))
      (State.composeContext_steady ..)
  next => exact .refl s

theorem State.discardSuccessor_steady (c : Nat) (s : State) : s.Steady (s.discardSuccessor c) := by
  unfold State.discardSuccessor
  split
  · split_ifs
    · exact .same (by simp)
    · exact State.discardSlot_steady ..
  · exact .refl s

theorem State.startBackoff_steady (x : Context) (s : State) : s.Steady (s.startBackoff x) := by
  unfold State.startBackoff
  split <;> first | exact .refl s | exact .same (by simp)

theorem State.failContext_steady (c : Nat) (s : State) : s.Steady (s.failContext c) := by
  unfold State.failContext
  exact .trans (.trans (.trans (.trans (s.discardSuccessor_steady c) (State.raiseFault_steady ..))
    (State.startBackoff_steady ..)) (State.freeContext_steady ..)) (State.updRenewal_steady rfl)

theorem State.refuseContext_steady (c : Nat) (s : State) : s.Steady (s.refuseContext c) := by
  unfold State.refuseContext
  exact .trans (.trans (.trans (.trans (s.discardSuccessor_steady c) (State.raiseFault_steady ..))
    (State.startBackoff_steady ..)) (State.freeContext_steady ..)) (State.updRenewal_steady rfl)

theorem State.clearRenewalFaults_steady (x : Subject) (s : State) : s.Steady (s.clearRenewalFaults x) :=
  .trans (State.clearFault_steady ..) (State.clearFault_steady ..)

theorem State.finishContext_steady (c : Nat) (s : State) : s.Steady (s.finishContext c) := by
  unfold State.finishContext
  exact .trans (State.freeContext_steady ..) (State.updRenewal_steady rfl)

theorem State.completeRenewal_steady (c : Nat) (s : State) : s.Steady (s.completeRenewal c) :=
  .trans (.trans (.trans (.trans (.trans (State.switchSlots_steady ..) (State.clearRenewalFaults_steady ..))
    (State.clearFault_steady ..)) (State.clearFault_steady ..)) (State.setBackoff_steady ..)) (State.finishContext_steady ..)

theorem State.enterRun_steady (s : State) : s.Steady s.enterRun := .same (by simp)

theorem State.endBootRequest_steady (c : Nat) (s : State) : s.Steady (s.endBootRequest c) := by
  unfold State.endBootRequest
  dsimp only
  have hlist : s.Steady (s.updRenewal fun n =>
      { n with list := n.list.filter (fun e => e.slot != none), bootBackoff := {}, bootRelist := .idle }) :=
    .of_requests (·.of_sublist List.filter_sublist) (by simp)
  split
  · exact hlist.trans (State.freeContext_steady ..)
  · exact hlist

theorem State.bindControl_steady (c y : Nat) (s : State) : s.Steady (s.bindControl c y) := by
  unfold State.bindControl
  split_ifs
  · exact .trans (.trans (.trans (State.updChan_steady (by simp)) (State.addRefs_steady ..)) (State.endBootRequest_steady ..))
      (State.enterRun_steady _)
  · exact .refl s

theorem State.completeInstall_steady (c : Nat) (s : State) : s.Steady (s.completeInstall c) := by
  unfold State.completeInstall
  refine .trans (.trans ?_ (State.clearRenewalFaults_steady ..)) (State.finishContext_steady ..)
  split_ifs with hstaged
  · exact .trans (State.updSlot_steady (.of_sameKey (by simp [hstaged]) (by simp [Slot.sameKey]))) (State.bindControl_steady ..)
  · exact .refl s

theorem State.completeRoot_steady (c : Nat) (s : State) : s.Steady (s.completeRoot c) := by
  unfold State.completeRoot
  refine .trans (.trans ?_ (State.clearRenewalFaults_steady ..)) (State.finishContext_steady ..)
  split
  · exact .same (by simp)
  · exact .refl s

theorem State.commitContext_steady (c : Nat) (s : State) : s.Steady (s.commitContext c) := by
  unfold State.commitContext
  split
  · exact s.completeRenewal_steady c
  · exact s.completeInstall_steady c
  · exact s.completeInstall_steady c
  · exact s.completeRoot_steady c
  · exact .refl s

/-! ### A staged delivery -/

/-- Between s and t a key may have been staged in an EMPTY slot; every other slot kept its key. -/
structure State.Staged (s t : State) : Prop where
  slots : ∀ x, (s.slot x).state = .empty ∨ (t.slot x).state ≠ .empty ∧ (s.slot x).sameKey (t.slot x)
  limits : ∀ x, (s.slot x).used ≤ (s.slot x).hard → (t.slot x).used ≤ (t.slot x).hard
  engineUse : ∀ x, (t.slot x).engineUse = true → (s.slot x).engineUse = true
  inEngine : ∀ i, (t.chan i).inEngine = true → (s.chan i).inEngine = true
  work : t.engine.work = s.engine.work
  faults : s.FaultListLaw → t.FaultListLaw
  requests : s.RequestListLaw → t.RequestListLaw

/-- What leaves the slots alone may follow a staging. -/
theorem State.Staged.trans_steady {s t u : State} (h : s.Staged t) (k : t.Steady u) (hslots : u.slots = t.slots) :
    s.Staged u where
  slots x := by rw [State.slot_congr hslots]; exact h.slots x
  limits x := by rw [State.slot_congr hslots]; exact h.limits x
  engineUse x := by rw [State.slot_congr hslots]; exact h.engineUse x
  inEngine i := h.inEngine i ∘ k.inEngine i
  work := k.work.trans h.work
  faults := k.faults ∘ h.faults
  requests := k.requests ∘ h.requests

theorem State.Staged.ite {c : Prop} [Decidable c] {s t u : State} (ht : s.Staged t) (hu : s.Staged u) :
    s.Staged (if c then t else u) := by
  split
  · exact ht
  · exact hu

/-- A predecessor names its successor (R28). -/
def State.linkSuccessor (o : Option Nat) (y : Nat) (s : State) : State :=
  match o with
  | some x => s.updSlot x fun v => { v with successor := some y }
  | none => s

/-- Staging writes the slot, then the link; a held no-slot mark is then cleared (R28, R121). -/
theorem State.stageSlot_eq (d : Delivery) (key : Block) (y : Nat) (s : State) :
    s.stageSlot d key y =
      if ((s.setSlot y (d.slot key)).linkSuccessor d.predecessor y).messenger.noSlotMark then
        (((s.setSlot y (d.slot key)).linkSuccessor d.predecessor y).clearFault .noKeySlot .nothing).updMessenger
          fun m => { m with noSlotMark := false }
      else (s.setSlot y (d.slot key)).linkSuccessor d.predecessor y := rfl

/-- A link written into a slot changes its successor field alone. -/
theorem State.linkSuccessor_slot (o : Option Nat) (y x : Nat) (s : State) :
    ∃ z, (s.linkSuccessor o y).slot x = { s.slot x with successor := z } := by
  cases o with
  | none => exact ⟨_, rfl⟩
  | some w =>
    rw [State.linkSuccessor, State.slot_updSlot]
    split
    next hx => exact ⟨some y, by rw [hx.1]⟩
    next => exact ⟨_, rfl⟩

theorem State.linkSuccessor_steady (o : Option Nat) (y : Nat) (s : State) : s.Steady (s.linkSuccessor o y) := by
  cases o with
  | none => exact .refl s
  | some w => exact State.updSlot_steady (f := fun v => { v with successor := some y }) (.of_sameKey id (by simp [Slot.sameKey]))

/-- A key staged in an EMPTY slot, under its predecessor (R28). -/
theorem State.stageSlot_staged (d : Delivery) (key : Block) (y : Nat) (s : State) (hy : (s.slot y).state = .empty) :
    s.Staged (s.stageSlot d key y) := by
  have hset : ∀ x, ((s.setSlot y (d.slot key)).slot x = s.slot x)
      ∨ (s.slot x).state = .empty ∧ (s.setSlot y (d.slot key)).slot x = d.slot key := by
    intro x
    rw [State.slot_setSlot]
    split
    next hx => exact .inr ⟨by rw [hx.1]; exact hy, rfl⟩
    next => exact .inl rfl
  have hlink := State.linkSuccessor_steady d.predecessor y (s.setSlot y (d.slot key))
  have hlinked : s.Staged ((s.setSlot y (d.slot key)).linkSuccessor d.predecessor y) := by
    refine ⟨fun x => ?_, fun x h => (hlink.slots x).limit ?_, fun x h => ?_, fun i h => by simpa using hlink.inEngine i h,
      by simpa using hlink.work, fun h => hlink.faults (h.congr (by simp) (by simp)),
      fun h => hlink.requests (h.congr (by simp))⟩
    · obtain ⟨z, hz⟩ := State.linkSuccessor_slot d.predecessor y x (s.setSlot y (d.slot key))
      obtain heq | ⟨hempty, -⟩ := hset x
      · by_cases hx : (s.slot x).state = .empty
        · exact .inl hx
        · rw [hz, heq]
          exact .inr ⟨hx, by simp [Slot.sameKey]⟩
      · exact .inl hempty
    · obtain heq | ⟨-, heq⟩ := hset x
      · rwa [heq]
      · rw [heq]; simp [Delivery.slot]
    · have hmark := hlink.engineUse x h
      obtain heq | ⟨-, heq⟩ := hset x
      · rwa [heq] at hmark
      · rw [heq] at hmark; simp [Delivery.slot] at hmark
  rw [State.stageSlot_eq]
  exact .ite (hlinked.trans_steady ((State.clearFault_steady ..).trans (State.updMessenger_steady ..)) (by simp)) hlinked

theorem State.rejectDelivery_steady (d : Delivery) (r : Reject) (s : State) : s.Steady (s.rejectDelivery d r) := by
  have hcount : s.Steady (s.updMessenger fun m => m.countReject r) := .same (by simp)
  have hraise : s.Steady (if r = .noSlot then
      ((s.updMessenger fun m => m.countReject r).raiseFault .noKeySlot .nothing).updMessenger
        fun m => { m with noSlotMark := true }
      else s.updMessenger fun m => m.countReject r) :=
    .ite (fun _ => hcount.trans ((State.raiseFault_steady ..).trans (State.updMessenger_steady ..))) fun _ => hcount
  have hcompose := hraise.trans (State.compose_steady (keyRejectBytes (BitVec.ofNat 8 d.exchange) d.targetCode r) _)
  exact .ite (fun _ => hcompose) fun _ => hcompose.trans (State.updMessenger_steady ..)

theorem State.acceptDelivery_steady (d : Delivery) (c y : Nat) (s : State) : s.Steady (s.acceptDelivery d c y) := by
  unfold State.acceptDelivery
  exact .trans (.ite (fun _ => State.openContext_steady ..) fun _ => State.updCtx_steady ..)
    (State.composeContext_steady ..)

/-- The lowest EMPTY slot is EMPTY. -/
theorem State.lowestEmpty_state {s : State} {y : Nat} (h : s.lowestEmpty = some y) : (s.slot y).state = .empty := by
  simpa using List.find?_some h

/-- A delivery that passes its checks has an EMPTY target (R120). -/
theorem State.deliveryCheck_target {s : State} {d : Delivery} (h : s.deliveryCheck d = none) (hroot : d.target ≠ .slot 0) :
    (s.slot (match d.target with | .slot x => x | .anyFree => s.lowestEmpty.getD 0)).state = .empty := by
  unfold State.deliveryCheck at h
  cases htarget : d.target with
  | slot x =>
    have hx : x ≠ 0 := fun h0 => hroot (by rw [htarget, h0])
    simp only [htarget, hx, if_false] at h
    by_contra hstate
    simp [hstate] at h
  | anyFree =>
    cases hlow : s.lowestEmpty with
    | none => simp [htarget, hlow] at h
    | some y => simpa using State.lowestEmpty_state hlow

theorem State.takeDelivery_steady_or_staged (d : Delivery) (s : State) :
    s.Steady (s.takeDelivery d) ∨ s.Staged (s.takeDelivery d) := by
  unfold State.takeDelivery
  split
  · exact .inl (State.rejectDelivery_steady ..)
  split
  · exact .inl (State.rejectDelivery_steady ..)
  next hcheck =>
    split
    · exact .inl (State.rejectDelivery_steady ..)
    · split_ifs with hroot
      · exact .inl (.trans (.same (by simp)) (State.acceptDelivery_steady ..))
      · refine .inr ((State.stageSlot_staged d _ _ s ?_).trans_steady (State.acceptDelivery_steady ..) (by simp))
        exact State.deliveryCheck_target hcheck hroot

/-! ### The other messages -/

theorem State.takeCommit_steady (e : Nat) (s : State) : s.Steady (s.takeCommit e) := by
  unfold State.takeCommit
  split
  · exact State.commitContext_steady ..
  · exact .same (by simp)

theorem State.takeRefuse_steady (e r : Nat) (s : State) : s.Steady (s.takeRefuse e r) := by
  unfold State.takeRefuse
  split
  · exact .trans (State.updMessenger_steady ..) (State.refuseContext_steady ..)
  · exact .same (by simp)

theorem State.takeRenew_steady (x : Nat) (s : State) : s.Steady (s.takeRenew x) := by
  unfold State.takeRenew
  split_ifs
  · exact (s.sendTrigger_steady x .order).trans (State.updMessenger_steady ..)
  · exact .same (by simp)

theorem State.takeOrder_steady (b : Bool) (q : OpenRequest) (s : State) : s.Steady (s.takeOrder b q) := by
  unfold State.takeOrder
  split
  · split
    · exact .same (by simp)
    · exact (s.openChannel_steady q).trans (State.updMessenger_steady ..)
  · split
    · exact (s.closeChannel_steady q.index).trans (State.updMessenger_steady ..)
    · exact .same (by simp)

theorem State.takeAck_steady (n : Nat) (ps : List (Nat × Nat)) (s : State) : s.Steady (s.takeAck n ps) := by
  unfold State.takeAck
  have hpairs : s.Steady (ps.foldl State.takePair s) := .foldl (fun s p => .of_faults (·.takePair p) (by simp)) _ _
  dsimp only
  split_ifs
  · exact hpairs.trans (.same (by simp))
  · exact hpairs

theorem State.takeProbe_steady (n f : Nat) (bs : List Byte) (s : State) : s.Steady (s.takeProbe n f bs) := by
  unfold State.takeProbe
  dsimp only
  split
  · exact .same (by simp)
  · split <;> exact (State.compose_steady ..).trans (State.updLink_steady ..)

theorem State.takeMessage_steady_or_staged (m : Message) (s : State) :
    s.Steady (s.takeMessage m) ∨ s.Staged (s.takeMessage m) := by
  cases m with
  | delivery d =>
    unfold State.takeMessage
    dsimp only
    split
    · exact .inl (.same (by simp))
    · exact s.takeDelivery_steady_or_staged d
  | commit e => exact .inl (s.takeCommit_steady e)
  | refuse e r => exact .inl (s.takeRefuse_steady e r)
  | renew x => exact .inl (s.takeRenew_steady x)
  | order o q => exact .inl (s.takeOrder_steady o q)
  | ack r ps => exact .inl (s.takeAck_steady r ps)
  | probe n f p => exact .inl (s.takeProbe_steady n f p)

theorem State.handleControl_steady_or_staged (bs : List Byte) (s : State) :
    s.Steady (s.handleControl bs) ∨ s.Staged (s.handleControl bs) := by
  unfold State.handleControl
  split
  next m _ =>
    have hcount : ∀ t : State, (s.updMessenger fun x => x.countHanded m).Staged t → s.Staged t := fun t h =>
      ⟨h.slots, h.limits, h.engineUse, h.inEngine, h.work, h.faults, h.requests⟩
    obtain h | h := State.takeMessage_steady_or_staged m (s.updMessenger fun x => x.countHanded m)
    · exact .inl (.trans (.same (by simp)) h)
    · exact .inr (hcount _ h)
  next => exact .inl (.same (by simp))

/-! ### Ticks and timers -/

theorem State.tickAll_steady (s : State) : s.Steady s.tickAll := by
  have hclock : s.Steady { s with
      tick := (s.tick + 1) % 4294967296
      intervalTicks := s.intervalTicks + 1
      eraseWindow := s.eraseWindow.map fun (w : Port × Nat) => (w.1, w.2 - 1) } := .same (by simp)
  unfold State.tickAll
  refine .trans (.trans (.trans (.trans hclock (State.mapSlots_steady fun x => ?_)) (State.updRenewal_steady rfl))
    (State.updLink_steady ..)) (State.updBeacon_steady ..)
  unfold Slot.tick
  split <;> first | exact .refl _ | exact .of_sameKey id (by simp [Slot.sameKey])

theorem State.ageTest_steady (x : Nat) (s : State) : s.Steady (s.ageTest x) := by
  unfold State.ageTest
  dsimp only
  have hmade : s.Steady (s.updSlot x fun w => { w with ageTestDue := false }) := State.updSlot_steady (.of_sameKey id (by simp [Slot.sameKey]))
  split_ifs
  · exact hmade.trans (State.sendTrigger_steady ..)
  · exact hmade
  · exact .refl s

theorem State.graceTest_steady (x : Nat) (s : State) : s.Steady (s.graceTest x) := by
  unfold State.graceTest
  dsimp only
  have hmade : s.Steady (s.updSlot x fun w => { w with graceTestDue := false }) := State.updSlot_steady (.of_sameKey id (by simp [Slot.sameKey]))
  split_ifs
  · exact hmade.trans (State.spendSlot_steady ..)
  · exact hmade
  · exact .refl s

theorem State.endBurst_steady (s : State) (x : Nat) : s.Steady (s.endBurst x) := by
  unfold State.endBurst
  split_ifs
  · exact .trans (.same (by simp)) (State.clearFault_steady ..)
  · exact .refl s

theorem State.endOverrun_steady (p : Port) (s : State) : s.Steady (s.endOverrun p) := by
  unfold State.endOverrun
  dsimp only
  split_ifs
  · exact .trans (.same (by simp)) (State.raiseFault_steady ..)
  · exact .trans (.same (by simp)) (State.clearFault_steady ..)
  · exact .refl s

theorem State.endLink_steady (s : State) : s.Steady s.endLink := by
  unfold State.endLink
  dsimp only
  split_ifs
  · exact .trans (.trans (State.updLink_steady ..) (State.clearFault_steady ..)) (State.updLink_steady ..)
  · exact .same (by simp)

theorem State.endInterval_steady (s : State) : s.Steady s.endInterval := by
  unfold State.endInterval
  split_ifs
  · refine .trans (.trans (.trans (.trans (.trans ?_ (.foldl State.endBurst_steady ..)) (State.mapSlots_steady fun _ => ?_))
      (State.endOverrun_steady ..)) (State.endOverrun_steady ..)) (State.endLink_steady _)
    · exact .trans (.same (by simp)) (.foldl State.visitSlot_steady ..)
    · exact .of_sameKey id (by simp [Slot.sameKey])
  · exact .refl s

theorem State.expireQuiet_steady (s : State) : s.Steady s.expireQuiet := by
  unfold State.expireQuiet
  split_ifs
  · exact .trans (.same (by simp)) (State.raiseFault_steady ..)
  · exact .refl s

theorem State.expireReply_steady (c : Nat) (s : State) : s.Steady (s.expireReply c) := by
  unfold State.expireReply
  split_ifs
  · exact .trans (State.updCtx_steady ..) (State.composeContext_steady ..)
  · exact s.failContext_steady c
  · exact .refl s

theorem State.endBackoff_steady (x : Nat) (s : State) : s.Steady (s.endBackoff x) := by
  unfold State.endBackoff
  split_ifs
  · exact .trans (State.setBackoff_steady ..) (State.setRequested_steady ..)
  · exact .refl s

theorem State.endBootBackoff_steady (s : State) : s.Steady s.endBootBackoff := by
  unfold State.endBootBackoff
  dsimp only
  split_ifs
  · exact .trans (State.updRenewal_steady rfl) (State.sendBoot_steady _)
  · exact .same (by simp)
  · exact .refl s

theorem State.retryCompose_steady (c : Nat) (s : State) : s.Steady (s.retryCompose c) := by
  unfold State.retryCompose
  split_ifs
  · exact s.composeContext_steady c
  · exact .refl s

theorem State.relistBoot_steady (s : State) : s.Steady s.relistBoot := by
  unfold State.relistBoot
  dsimp only
  split_ifs
  · exact .trans (State.updRenewal_steady rfl) (State.sendBoot_steady _)
  · exact .same (by simp)
  · exact .refl s

/-- Marking the records of a report as reported leaves them their names. -/
theorem State.FaultListLaw.markReported {s t : State} (h : s.FaultListLaw) (q : FaultRecord → Bool)
    (hr : t.faults.records = s.faults.records.map fun r => if q r then { r with reported := true } else r)
    (hn : t.faults.nextId = s.faults.nextId) : t.FaultListLaw :=
  h.of_map (fun r => by split <;> simp) hr hn

theorem State.askReport_steady (s : State) : s.Steady s.askReport.1 := by
  unfold State.askReport
  dsimp only
  have hcompose := State.compose_steady
    (faultReportBytes s.beacon.nextReport s.faults.overflow s.reportRecords) s
  split
  · exact hcompose.trans (.of_faults (fun h => h.markReported (fun q => s.reportRecords.any fun x => x.id == q.id) rfl rfl) (by simp))
  · exact hcompose

theorem State.cycleReport_steady (s : State) : s.Steady s.cycleReport := by
  unfold State.cycleReport
  split_ifs
  · exact s.askReport_steady.trans (State.updBeacon_steady ..)
  · exact s.askReport_steady
  · exact .refl s

theorem State.endCycle_steady (s : State) : s.Steady s.endCycle := by
  unfold State.endCycle
  split_ifs
  · exact s.cycleReport_steady.trans (State.updBeacon_steady ..)
  · exact .refl s

theorem State.takeComposition_steady (s : State) : s.Steady s.takeComposition := by
  obtain ⟨i, -, -, h⟩ | ⟨-, h⟩ := s.takeComposition_cases <;> rw [h]
  · unfold State.compositionEvent
    split
    · exact s.startExchange_steady
    · exact s.retryCompose_steady _
    · exact s.expireReply_steady _
    · exact s.endCycle_steady
    · exact .refl s
  · exact .refl s

end Sys2Proof.Machine
end

section
/-! The access points, the commands, the resets and the engine: what one command of the queue leaves of the keys, of the
laws of the two lists and of the marks of the work in flight (R32, R34, R37, R45, R47, R130, R152, R6, R36). -/

namespace Sys2Proof.Machine

/-! ### The access points -/

theorem State.takeDescriptor_steady (p : Port) (w : Word) (s : State) : s.Steady (s.takeDescriptor p w) := by
  unfold State.takeDescriptor
  have hignore : ∀ (t : State) n, t.Steady (t.ignorePush p n) := fun t n =>
    .trans (State.updPort_steady ..) (State.updPort_steady ..)
  have hoverrun : s.Steady (s.countOverrun p) := by cases p <;> exact .same ⟨rfl, rfl, rfl, rfl, rfl, rfl⟩
  have hjoin : s.takeBuffer.Steady (s.takeBuffer.joinIn p w) := by cases p <;> exact .same ⟨rfl, rfl, rfl, rfl, rfl, rfl⟩
  have htake : s.Steady s.takeBuffer := .same (by simp)
  exact .ite (fun _ => hignore ..) fun _ => .ite (fun _ => (htake.trans hjoin).trans (State.updPort_steady ..))
    fun _ => hoverrun.trans (hignore ..)

theorem State.writeFrameIn_steady (p : Port) (w : Word) (s : State) : s.Steady (s.writeFrameIn p w) := by
  unfold State.writeFrameIn
  split
  · exact s.takeDescriptor_steady p w
  · refine .trans ?_ (State.updPort_steady ..)
    cases p <;> exact .same ⟨rfl, rfl, rfl, rfl, rfl, rfl⟩
  · exact State.updPort_steady ..

theorem State.readFrameOut_steady (p : Port) (s : State) : s.Steady (s.readFrameOut p) := by
  unfold State.readFrameOut
  have hread : ∀ w, s.Steady (s.returnWord p w) := fun w => State.updPort_steady ..
  split
  · exact hread 0
  · have hpop : ∀ t : State, t.Steady (t.popOut p) := fun t => by
      cases p with
      | s => exact .trans (t := t.updSOut List.tail) (.same (by simp)) (State.returnBuffer_steady _)
      | l => exact .trans (t := t.updLTx List.tail) (.same (by simp)) (State.returnBuffer_steady _)
    exact .trans (hread _) (.ite (fun _ => (hpop _).trans (State.updPort_steady ..)) fun _ => State.updPort_steady ..)

theorem State.readResponse_steady (p : Port) (s : State) : s.Steady (s.readResponse p) :=
  .ite (fun _ => State.updPort_steady ..) fun _ => .trans (State.updPort_steady ..) (State.updPort_steady ..)

theorem State.completeMail_steady (p : Port) (n : Nat) (ws : List Word) (s : State) : s.Steady (s.completeMail p n ws) :=
  .trans (State.updPort_steady ..) (State.updPort_steady ..)

theorem State.writeMailbox_steady (p : Port) (w : Word) (s : State) : s.Steady (s.writeMailbox p w) := by
  unfold State.writeMailbox
  dsimp only
  split
  · exact .ite (fun _ => .trans (State.updPort_steady ..) (State.updPort_steady ..)) fun _ =>
      .ite (fun _ => State.completeMail_steady ..) fun _ => State.updPort_steady ..
  · exact .ite (fun _ => State.completeMail_steady ..) fun _ => State.updPort_steady ..
  · exact State.updPort_steady ..

theorem State.readMailbox_steady (p : Port) (s : State) : s.Steady (s.readMailbox p) :=
  .ite (fun _ => .trans (.trans (State.updPort_steady ..) (State.updPort_steady ..)) (State.updPort_steady ..))
    fun _ => .trans (State.updPort_steady ..) (State.updPort_steady ..)

theorem State.readStatus_steady (p : Port) (s : State) : s.Steady (s.readStatus p) :=
  .trans (State.updPort_steady ..) (State.updPort_steady ..)

/-! ### The laws over a command -/

/-- No mark stands. -/
def State.NoMarks (s : State) : Prop := (∀ i, (s.chan i).inEngine = false) ∧ ∀ x, (s.slot x).engineUse = false

theorem State.NoMarks.law {s : State} (h : s.NoMarks) : s.MarksOfWork :=
  ⟨fun i hi => by simp [h.1 i] at hi, fun x hx => by simp [h.2 x] at hx⟩

theorem State.MarksOfWork.noMarks {s : State} (h : s.MarksOfWork) (hw : s.engine.work = none) : s.NoMarks := by
  refine ⟨fun i => ?_, fun x => ?_⟩ <;> by_contra hmark <;> simp only [Bool.not_eq_false] at hmark
  · simpa [hw] using h.1 i hmark
  · simpa [hw] using h.2 x hmark

/-- What one command keeps between s and t. -/
structure State.Carries (s t : State) : Prop where
  keys : ∀ x, (s.slot x).state ≠ .empty → (t.slot x).state ≠ .empty → (s.slot x).sameKey (t.slot x)
  limits : ∀ x, (s.slot x).used ≤ (s.slot x).hard → (t.slot x).used ≤ (t.slot x).hard
  faults : s.FaultListLaw → t.FaultListLaw
  requests : s.RequestListLaw → t.RequestListLaw
  marks : s.MarksOfWork → t.MarksOfWork

theorem State.Kept.carries {s t : State} (h : s.Kept t) (hmarks : s.MarksOfWork → t.MarksOfWork) : s.Carries t where
  keys x _ ht := by
    obtain hempty | ⟨-, hkey⟩ := (h.slots x).key
    · exact absurd hempty ht
    · exact hkey
  limits x := (h.slots x).limit
  faults := h.faults
  requests := h.requests
  marks := hmarks

/-- Between s and t the keys stood or went, the lists kept their laws, and the marks stayed on the work in flight. -/
structure State.Follows (s t : State) : Prop extends s.Kept t where
  marks : s.MarksOfWork → t.MarksOfWork

theorem State.Follows.refl (s : State) : s.Follows s := ⟨.refl s, id⟩

theorem State.Follows.trans {s t u : State} (h : s.Follows t) (k : t.Follows u) : s.Follows u :=
  ⟨h.toKept.trans k.toKept, k.marks ∘ h.marks⟩

theorem State.Steady.follows {s t : State} (h : s.Steady t) : s.Follows t := ⟨h.toKept, h.marks⟩

theorem State.Kept.follows {s t : State} (h : s.Kept t) (ht : t.NoMarks) : s.Follows t := ⟨h, fun _ => ht.law⟩

theorem State.Follows.carries {s t : State} (h : s.Follows t) : s.Carries t := h.toKept.carries h.marks

theorem State.Staged.marks {s t : State} (h : s.Staged t) (hs : s.MarksOfWork) : t.MarksOfWork := by
  unfold State.MarksOfWork
  rw [h.work]
  exact ⟨fun i hi => hs.1 i (h.inEngine i hi), fun x hx => hs.2 x (h.engineUse x hx)⟩

theorem State.Staged.carries {s t u : State} (h : s.Staged t) (k : t.Kept u) (hmarks : t.MarksOfWork → u.MarksOfWork) :
    s.Carries u where
  keys x hs hu := by
    obtain hempty | ⟨ht, hkey⟩ := h.slots x
    · exact absurd hempty hs
    · exact hkey.trans ((k.carries hmarks).keys x ht hu)
  limits x := (k.slots x).limit ∘ h.limits x
  faults := k.faults ∘ h.faults
  requests := k.requests ∘ h.requests
  marks := hmarks ∘ h.marks

/-! ### Resets -/

theorem State.endContexts_steady (s : State) : s.Steady s.endContexts :=
  .foldl (fun t c => .ite (fun _ => (t.discardSuccessor_steady c).trans (State.freeContext_steady ..)) fun _ => .refl t) _ _

theorem State.resetRenewal_steady (s : State) : s.Steady s.resetRenewal := by
  unfold State.resetRenewal
  exact s.endContexts_steady.trans (.of_requests (·.of_sublist (List.nil_sublist _)) (by simp))

theorem State.discardStaged_steady (s : State) : s.Steady s.discardStaged :=
  .trans (.foldl (fun t x => t.discardSlot_steady x) ..) (State.updRoot_steady ..)

theorem State.restartDrains_steady (s : State) : s.Steady s.restartDrains :=
  State.mapSlots_steady fun _ => .of_sameKey id (by simp [Slot.sameKey])

theorem State.resendTriggers_steady (s : State) : s.Steady s.resendTriggers :=
  .trans (.foldl (fun t x => .ite (fun _ => t.sendTrigger_steady x .spent) fun _ => .refl t) ..)
    (.foldl (fun t x => .ite (fun _ => t.sendTrigger_steady x .suspect) fun _ => .refl t) ..)

theorem State.reraiseSlot_steady (s : State) (x : Nat) : s.Steady (s.reraiseSlot x) := by
  have hspent : s.Steady (if (s.slot x).state = .active ∧ (s.slot x).spent then
      if (s.slot x).maxAge + 256 ≤ (s.slot x).age then s.raiseFault .keyAgeOver (.slot x)
      else s.raiseFault .keySpent (.slot x) else s) :=
    .ite (fun _ => .ite (fun _ => State.raiseFault_steady ..) fun _ => State.raiseFault_steady ..) fun _ => .refl s
  exact .ite (fun _ => hspent.trans (State.raiseFault_steady ..)) fun _ => hspent

theorem State.respond_steady (p : Port) (st : Status) (ws : List Word) (s : State) : s.Steady (s.respond p st ws) :=
  State.updPort_steady ..

theorem State.resetPorts_steady (s : State) : s.Steady s.resetPorts := .same (by simp)

theorem State.enterBootstrap_steady (s : State) : s.Steady s.enterBootstrap := .trans (.same (by simp)) (State.sendBoot_steady _)

/-- The engine lets its work go with every mark (R99). -/
theorem State.abandonWork_noMarks (s : State) : s.abandonWork.NoMarks := by
  have hchan : ∀ i, s.abandonWork.chan i =
      (s.mapChans fun _ c => if c.state = .closing then {} else { c with inEngine := false }).chan i := fun i => by
    simp [State.abandonWork]
  have hslot : ∀ x, s.abandonWork.slot x = (s.mapSlots fun _ v => { v with engineUse := false }).slot x := fun x => by
    rw [State.slot_mapSlots]; simp [State.abandonWork, State.slot_mapSlots]
  refine ⟨fun i => ?_, fun x => ?_⟩
  · rw [hchan, State.chan_mapChans]
    split_ifs <;> rfl
  · rw [hslot, State.slot_mapSlots]
    split_ifs <;> rfl

theorem State.abandonWork_kept (s : State) : s.Kept s.abandonWork := by
  refine ⟨fun x => ?_, (·.congr (by simp [State.abandonWork]) (by simp [State.abandonWork])),
    (·.congr (by simp [State.abandonWork]))⟩
  have hslot : s.abandonWork.slot x = (s.mapSlots fun _ v => { v with engineUse := false }).slot x := by
    rw [State.slot_mapSlots]; simp [State.abandonWork, State.slot_mapSlots]
  rw [hslot]
  exact (State.mapSlots_steady (f := fun _ v => { v with engineUse := false }) fun y => .of_sameKey id (by simp [Slot.sameKey])).slots x

/-- After the engine has let its work go, PART RESET sets no mark. -/
theorem State.partResetBlocks_steady (s : State) : s.abandonWork.Steady s.partResetBlocks := by
  have hpool : ∀ t : State, t.Steady t.resetPool := fun t => .same ⟨rfl, rfl, rfl, rfl, rfl, rfl⟩
  have hwindow : ∀ t : State, t.Steady (t.setWindow none) := fun t => .same (by simp)
  have hpart : ∀ (t : State) p, t.Steady (t.setPartState p) := fun t p => .same (by simp)
  have hblocks := (((((((((s.abandonWork.resetRenewal_steady.trans (State.discardStaged_steady _)).trans (hpool _)).trans
    (State.restartDrains_steady _)).trans (State.updMessenger_steady (fun m => { m with noSlotMark := false }) _)).trans
    (hwindow _)).trans (State.resetPorts_steady _)).trans (State.resetFaults_steady .restarted _)).trans
    (.foldl State.reraiseSlot_steady workingSlots _)).trans (State.resendTriggers_steady _))
  unfold State.partResetBlocks
  extract_lets t1 t2 t3 t4 t5 t6 after t7
  have ht7 : s.abandonWork.Steady t7 := (hblocks.trans (State.updLink_steady ..)).trans (hpart ..)
  exact .ite (fun _ => ht7.trans (State.sendBoot_steady _)) fun _ => ht7

theorem State.partReset_follows (p : Port) (s : State) : s.Follows (partReset p s) := by
  unfold partReset
  split_ifs
  · exact (State.respond_steady ..).follows
  · have hreset := s.partResetBlocks_steady.trans (State.respond_steady p .done [] _)
    exact ⟨s.abandonWork_kept.trans hreset.toKept, fun _ => hreset.marks s.abandonWork_noMarks.law⟩

/-- A part with every slot EMPTY, every channel unmarked and an empty request list. -/
structure State.Erased (t : State) : Prop where
  slots : ∀ x, t.slot x = {}
  inEngine : ∀ i, (t.chan i).inEngine = false
  list : t.renewal.list = []

/-- Of all states: power-on, and what ERASE leaves, keep no key. -/
theorem State.Erased.kept {s t : State} (h : t.Erased) (hf : s.FaultListLaw → t.FaultListLaw) : s.Kept t :=
  ⟨fun x => by rw [h.slots]; exact .emptied _, hf, (·.of_sublist (by rw [h.list]; exact List.nil_sublist _))⟩

theorem State.Erased.noMarks {t : State} (h : t.Erased) : t.NoMarks := ⟨h.inEngine, fun x => by rw [h.slots]⟩

theorem State.erased_of_reset {t : State} (hslots : t.slots = State.reset.slots) (hchans : t.chans = State.reset.chans)
    (hlist : t.renewal.list = []) : t.Erased := by
  refine ⟨fun x => ?_, fun i => ?_, hlist⟩
  · rw [State.slot_congr hslots]
    by_cases hx : 1 ≤ x ∧ x ≤ 23
    · have : x - 1 < 23 := by omega
      simp [State.slot, slotEntry, State.reset, show x ≠ 0 by omega, this]
    · exact State.slot_out _ _ hx
  · rw [State.chan_congr hchans]
    by_cases hi : i < 48
    · by_cases h0 : i = 0
      · subst h0; rfl
      · have h0' : 0 ≠ i := fun h => h0 h.symm
        simp [State.chan, State.reset, h0', hi]
    · rw [State.chan_out _ _ hi]

/-- The part that an executed ERASE leaves before its ports and its record (R43). -/
def State.erasedPart (s : State) : State :=
  { State.reset with
    pending := s.pending
    partState := if s.partState = .failed then .failed else .noRoot
    tick := s.tick
    intervalTicks := s.intervalTicks
    selfCheckPending := s.selfCheckPending
    faults := s.faults
    beacon := s.beacon
    sPort := s.sPort
    lPort := s.lPort }

theorem State.eraseBlocks_eq (s : State) : s.eraseBlocks = s.erasedPart.resetPorts.resetFaults .erased := rfl

theorem State.erasedPart_erased (s : State) : s.erasedPart.Erased := State.erased_of_reset rfl rfl rfl

theorem State.executeErase_kept (p : Port) (s : State) : s.Kept (s.executeErase p) ∧ (s.executeErase p).NoMarks := by
  let idle := s.updPort p fun q => { q with cmd := .idle }
  have hidle : s.Steady idle := State.updPort_steady ..
  have hreset : idle.erasedPart.Steady (s.executeErase p) :=
    ((State.resetPorts_steady _).trans (State.resetFaults_steady .erased _)).trans (State.respond_steady ..)
  have herased := idle.erasedPart_erased
  refine ⟨(hidle.toKept.trans (herased.kept (·.congr rfl rfl))).trans hreset.toKept, fun i => ?_, fun x => ?_⟩
  · by_contra hmark
    simpa [herased.inEngine] using hreset.inEngine i (by simpa using hmark)
  · by_contra hmark
    simpa [herased.slots] using hreset.engineUse x (by simpa using hmark)

theorem State.executeErase_follows (p : Port) (s : State) : s.Follows (s.executeErase p) :=
  (s.executeErase_kept p).1.follows (s.executeErase_kept p).2

theorem State.executeWaitingErase_follows (s : State) : s.Follows s.executeWaitingErase := by
  unfold State.executeWaitingErase
  split
  · exact State.executeErase_follows ..
  · exact .refl s

/-! ### The commands -/

theorem runCommand_follows (c : Command) (p : Port) (a : Nat → Word) (s : State) : s.Follows (runCommand c p a s) := by
  have hrefuse : ∀ st, s.Steady (s.refuse p st) := fun st => State.respond_steady ..
  have hanswer : ∀ st ws, s.Steady (s.respond p st ws) := fun st ws => State.respond_steady ..
  cases c with
  | channelOpen =>
    refine State.Steady.follows (t := channelOpen p (a 2) (a 3) s) ?_
    unfold channelOpen
    split
    · exact hrefuse _
    · exact (s.openChannel_steady _).trans (State.respond_steady ..)
  | channelClose =>
    refine State.Steady.follows (t := channelClose p (a 2) s) ?_
    unfold channelClose
    split
    · exact hrefuse _
    · exact (s.closeChannel_steady _).trans (State.respond_steady ..)
  | channelFlags =>
    refine State.Steady.follows (.ite (fun _ => hrefuse _) fun _ => .trans (State.mapChans_steady fun i => ?_)
      (State.respond_steady ..))
    split_ifs <;> exact id
  | channelReset =>
    refine State.Steady.follows (t := channelReset p (a 2) s) ?_
    unfold channelReset
    split
    · exact hrefuse _
    · exact .trans (State.updChan_steady (by simp)) (State.respond_steady ..)
  | channelRead => exact State.Steady.follows (.ite (fun _ => hrefuse _) fun _ => hanswer ..)
  | keyStatus => exact State.Steady.follows (.ite (fun _ => hrefuse _) fun _ => hanswer ..)
  | faultRead => exact State.Steady.follows (.ite (fun _ => hrefuse _) fun _ => hanswer ..)
  | partRead =>
    refine State.Steady.follows (t := partRead p (a 2) s) ?_
    unfold partRead
    split
    · exact hanswer ..
    · exact hrefuse _
  | renewNow =>
    exact State.Steady.follows (.ite (fun _ => hrefuse _) fun _ => .ite (fun _ => hrefuse _) fun _ =>
      .ite (fun _ => hrefuse _) fun _ => .trans (.trans (State.setRequested_steady ..) (State.receiveTrigger_steady ..))
        (State.respond_steady ..))
  | queueLimits => exact State.Steady.follows (.trans (.trans (.same (by simp)) (State.updPort_steady ..)) (State.respond_steady ..))
  | queueReset =>
    refine State.Steady.follows (t := queueReset p (a 2) s) ?_
    unfold queueReset
    split
    · refine .trans (.trans (.trans ?_ (State.endPush_steady p _)) (State.returnBuffers_steady ..)) (State.respond_steady ..)
      cases p <;> exact .same ⟨rfl, rfl, rfl, rfl, rfl, rfl⟩
    · refine .trans (.trans (.trans ?_ (State.updPort_steady ..)) (State.returnBuffers_steady ..)) (State.respond_steady ..)
      cases p <;> exact .same ⟨rfl, rfl, rfl, rfl, rfl, rfl⟩
    · exact hrefuse _
  | faultDismiss =>
    refine State.Steady.follows (t := faultDismiss p (a 2) s) ?_
    unfold faultDismiss
    split
    · exact hrefuse _
    · exact .ite (fun _ => hrefuse _) fun _ => .trans (.of_faults (·.removeRecord _) (by simp)) (State.respond_steady ..)
  | beaconSet =>
    refine State.Steady.follows (t := beaconSet p (a 2) s) ?_
    unfold beaconSet
    split
    · exact hrefuse _
    · exact .trans (State.updBeacon_steady ..) (State.respond_steady ..)
  | beaconCommit => exact State.Steady.follows (.trans (State.updBeacon_steady ..) (State.respond_steady ..))
  | beaconHalt => exact State.Steady.follows (.trans (State.updBeacon_steady ..) (State.respond_steady ..))
  | loadRoot => exact State.Steady.follows (.ite (fun _ => hrefuse _) fun _ => State.updPort_steady ..)
  | partReset => exact s.partReset_follows p
  | quiesce =>
    exact State.Steady.follows (.ite (fun _ => hrefuse _) fun _ => .trans
      (.trans (t := s.setPartState .quiesced) (.same (by simp)) (State.updLink_steady ..)) (State.respond_steady ..))
  | resume =>
    exact State.Steady.follows (.ite (fun _ => hrefuse _) fun _ => .trans
      (.trans (t := s.setPartState .run) (.same (by simp)) (State.updLink_steady ..)) (State.respond_steady ..))
  | localLoop =>
    exact State.Steady.follows (.ite (fun _ => hrefuse _) fun _ => .ite (fun _ => hrefuse _) fun _ =>
      .trans (State.updLink_steady ..) (State.updPort_steady ..))
  | erase =>
    have hwindow : ∀ w, s.Steady (s.setWindow w) := fun w => .same (by simp)
    have hwait : s.Steady ((s.setWindow none).updPort p fun q => { q with cmd := .inProgress .erase }) :=
      (hwindow _).trans (State.updPort_steady ..)
    show s.Follows (erase p s)
    unfold erase
    split
    · exact ((hwindow _).trans (State.respond_steady ..)).follows
    · split_ifs
      · exact ((hwindow _).trans (State.respond_steady ..)).follows
      · exact hwait.follows
      · exact s.executeErase_follows p

end Sys2Proof.Machine
end

section
/-! The starts and completions of the engine and the gathering of commands, and with them what one command of the queue
keeps; the invariants of R47, R152, R130 and the law of a slot's key (R32, R34, R37, R45) follow. -/

namespace Sys2Proof.Machine

/-! ### Marks set at a start -/

/-- The working slot a key stands in. -/
def KeyRef.slot? : KeyRef → Option Nat
  | .slot x => some x
  | .root => none

/-- Between s and t marks were set on channel i and on the slot o at most, the rest being kept. -/
structure State.Marked (i : Nat) (o : Option Nat) (s t : State) : Prop extends s.Kept t where
  inEngine : ∀ j, (t.chan j).inEngine = true → (s.chan j).inEngine = true ∨ i = j
  engineUse : ∀ x, (t.slot x).engineUse = true → (s.slot x).engineUse = true ∨ o = some x

theorem State.Steady.marked {s t : State} (h : s.Steady t) (i : Nat) (o : Option Nat) : State.Marked i o s t :=
  ⟨h.toKept, fun j hj => .inl (h.inEngine j hj), fun x hx => .inl (h.engineUse x hx)⟩

theorem State.Marked.trans {i : Nat} {o : Option Nat} {s t u : State} (h : State.Marked i o s t) (k : State.Marked i o t u) :
    State.Marked i o s u where
  toKept := h.toKept.trans k.toKept
  inEngine j hj := (k.inEngine j hj).elim (h.inEngine j) .inr
  engineUse x hx := (k.engineUse x hx).elim (h.engineUse x) .inr

theorem State.markChannel_marked (i : Nat) (o : Option Nat) (s : State) : State.Marked i o s (s.markChannel i) := by
  refine ⟨⟨fun x => by simpa [State.markChannel] using .refl _, (·.congr (by simp [State.markChannel])
    (by simp [State.markChannel])), (·.congr (by simp [State.markChannel]))⟩, fun j hj => ?_,
    fun x hx => .inl (by simpa [State.markChannel] using hx)⟩
  rw [State.markChannel, State.chan_updChan] at hj
  split at hj
  next h => exact .inr h.1.symm
  next => exact .inl hj

theorem State.markSlot_marked (x i : Nat) (s : State) : State.Marked i (some x) s (s.markSlot x) := by
  have hslot : ∀ y, (s.markSlot x).slot y = s.slot y ∨ x = y ∧ (s.markSlot x).slot y = { s.slot y with engineUse := true } := by
    intro y
    rw [State.markSlot, State.slot_updSlot]
    split
    next h => exact .inr ⟨h.1.symm, by rw [h.1]⟩
    next => exact .inl rfl
  refine ⟨⟨fun y => ?_, (·.congr (by simp [State.markSlot]) (by simp [State.markSlot])),
    (·.congr (by simp [State.markSlot]))⟩, fun j hj => .inl (by simpa [State.markSlot] using hj), fun y hy => ?_⟩
  · obtain h | ⟨-, h⟩ := hslot y <;> rw [h]
    · exact .refl _
    · exact ⟨or_iff_not_imp_left.2 fun hstate => ⟨hstate, by simp [Slot.sameKey]⟩, id⟩
  · obtain h | ⟨h, -⟩ := hslot y
    · exact .inl (by rwa [h] at hy)
    · exact .inr (congrArg some h)

/-- Work goes into flight from an idle engine with its marks set (R6, R36). -/
theorem State.Marked.follows {i : Nat} {o : Option Nat} {s t : State} (h : State.Marked i o s t) {w : Work}
    (hidle : s.engine.work = none) (hchannel : w.channel = some i) (hslot : w.slot = o) :
    s.Follows (t.setWork (some w)) where
  slots := h.slots
  faults := h.faults
  requests := h.requests
  marks hs := by
    obtain ⟨hchans, hslots⟩ := hs.noMarks hidle
    refine ⟨fun j hj => ?_, fun x hx => ?_⟩
    · obtain hmark | heq := h.inEngine j hj
      · simp [hchans j] at hmark
      · exact hchannel.trans (congrArg some heq)
    · obtain hmark | heq := h.engineUse x hx
      · simp [hslots x] at hmark
      · exact hslot.trans heq

theorem Work.slot_eq (w : Work) :
    w.slot = match w with
      | .inbound _ k _ _ | .outData _ k _ _ | .outControl _ k _ => k.ref.slot?
      | .test _ | .selfCheck => none := by
  cases w with
  | inbound _ k _ _ => obtain ⟨ref, -, -⟩ := k; cases ref <;> rfl
  | outData _ k _ _ => obtain ⟨ref, -, -⟩ := k; cases ref <;> rfl
  | outControl _ k _ => obtain ⟨ref, -, -⟩ := k; cases ref <;> rfl
  | test _ => rfl
  | selfCheck => rfl

/-- Nothing is taken while work is in flight (R77). -/
theorem State.pick_idle {s : State} {p : Pick} (h : s.pick = some p) : s.engine.work = none := by
  unfold State.pick at h
  split at h
  · exact absurd h nofun
  next hwork => simpa using hwork

/-! ### Outbound starts -/

theorem State.setDirection_steady (d : Direction) (s : State) : s.Steady (s.setDirection d) := .same ⟨rfl, rfl, rfl, rfl, rfl, rfl⟩

theorem State.refuseFrame_steady (f : ShopFrame) (r : RefuseReason) (s : State) : s.Steady (s.refuseFrame f r) :=
  .trans (.ite (fun _ => State.updChan_steady (by simp)) fun _ => .refl s) (State.noticeOrFree_steady ..)

theorem State.startFrame_follows (f : ShopFrame) (s : State) (hidle : s.engine.work = none) : s.Follows (s.startFrame f) := by
  unfold State.startFrame
  split
  · exact (State.refuseFrame_steady ..).follows
  next i _ =>
    have hcharge := s.charge_steady ((s.chan i).current.getD 0) (frameCost f.length)
    dsimp only
    split
    · exact (((((hcharge.trans (State.drawCounter_steady ..)).marked i (some _)).trans (State.markSlot_marked ..)).trans
        (State.markChannel_marked ..)).trans (State.Steady.marked (State.updChan_steady (by simp)) ..)).follows hidle rfl (Work.slot_eq _)
    · exact (hcharge.trans (State.refuseFrame_steady ..)).follows

theorem State.startData_follows (s : State) : s.Follows s.startData := by
  unfold State.startData
  split
  next hpick =>
    split
    · exact .refl s
    next f rest _ =>
      have htake : s.Steady ((s.updSIn fun _ => rest).setDirection .outbound) :=
        .trans (t := s.updSIn fun _ => rest) (.same (by simp)) (State.setDirection_steady ..)
      dsimp only
      split
      · exact htake.follows.trans (State.startFrame_follows _ _ (htake.work.trans (State.pick_idle hpick)))
      · exact (htake.trans (State.refuseFrame_steady ..)).follows
  next => exact .refl s

theorem State.launchControl_follows {s t : State} (m : CtrlMsg) (k : WorkKey) (n : Nat) (hidle : s.engine.work = none)
    (h : State.Marked 0 k.ref.slot? s t) : s.Follows (t.launchControl m k n) :=
  ((h.trans (State.markChannel_marked ..)).trans (State.Steady.marked (State.updChan_steady (by simp)) ..)).follows hidle rfl
    (Work.slot_eq _)

theorem State.startUnderRoot_follows {s t : State} (m : CtrlMsg) (hidle : s.engine.work = none) (h : s.Steady t) :
    s.Follows (t.startUnderRoot m) := by
  unfold State.startUnderRoot
  split
  · refine ((h.trans (State.returnBuffer_steady t)).trans (.trans ?_ (State.reportPlaced_steady ..))).follows
    exact .same ⟨rfl, rfl, rfl, rfl, rfl, rfl⟩
  · have hdraw : t.Steady t.drawRootCounter.1 := .same ⟨rfl, rfl, rfl, rfl, rfl, rfl⟩
    exact State.launchControl_follows m t.rootKey _ hidle ((h.trans hdraw).marked 0 none)

theorem State.startMessage_follows (m : CtrlMsg) (s : State) (hidle : s.engine.work = none) : s.Follows (s.startMessage m) := by
  have hroot := State.startUnderRoot_follows m hidle (.refl s)
  unfold State.startMessage
  split
  next x _ =>
    have hcharge := s.charge_steady x (frameCost m.payload.length)
    split
    · dsimp only
      split
      · exact State.launchControl_follows m (s.slotKey x) _ hidle
          (((hcharge.trans (State.drawCounter_steady ..)).marked 0 (some x)).trans (State.markSlot_marked ..))
      · exact State.startUnderRoot_follows m hidle hcharge
    · exact hroot
  · exact hroot

theorem State.startControl_follows (s : State) : s.Follows s.startControl := by
  unfold State.startControl
  split
  next hpick =>
    split
    · exact .refl s
    next m rest _ =>
      have htake : s.Steady ((s.updCtrl fun _ => rest).setDirection .outbound) :=
        .trans (t := s.updCtrl fun _ => rest) (.same (by simp)) (State.setDirection_steady ..)
      exact htake.follows.trans (State.startMessage_follows _ _ (htake.work.trans (State.pick_idle hpick)))
  next => exact .refl s

/-! ### Inbound start -/

theorem State.countMalformed_steady (s : State) : s.Steady s.countMalformed :=
  .ite (fun _ => .trans (.trans (State.updLink_steady ..) (State.updLink_steady ..)) (State.raiseFault_steady ..))
    fun _ => State.updLink_steady ..

theorem State.countReplay_steady (x : Nat) (s : State) : s.Steady (s.countReplay x) := by
  have hcount : s.Steady (s.updSlot x fun v => { v with replays := satInc 255 (s.slot x).replays }) :=
    State.updSlot_steady (.of_sameKey id (by simp [Slot.sameKey]))
  have hburst : ∀ t : State, t.Steady (t.setBurst x true) := fun t => .same (by simp)
  exact .ite (fun _ => (hcount.trans (hburst _)).trans (State.raiseFault_steady ..)) fun _ => hcount

theorem State.countTagFailure_steady (x : Nat) (s : State) : s.Steady (s.countTagFailure x) := by
  have hcount : s.Steady (s.updSlot x fun v => { v with tagFailures := satInc 255 (s.slot x).tagFailures }) :=
    State.updSlot_steady (.of_sameKey id (by simp [Slot.sameKey]))
  have hsuspect : ∀ t : State, t.Steady ((t.updSlot x fun v => { v with suspect := true }).raiseFault .tagFails (.slot x)) :=
    fun t => .trans (State.updSlot_steady (.of_sameKey id (by simp [Slot.sameKey]))) (State.raiseFault_steady ..)
  exact .ite (fun _ => (hcount.trans (hsuspect _)).trans (.ite (fun _ => State.sendTrigger_steady ..) fun _ => .refl _))
    fun _ => hcount

theorem State.discardExtra_steady (r : Discard) (k : Option FoundKey) (s : State) : s.Steady (s.discardExtra r k) := by
  unfold State.discardExtra
  split
  · exact s.countMalformed_steady
  · exact State.updLink_steady ..
  · exact State.countReplay_steady ..
  · exact State.countTagFailure_steady ..
  · exact .refl s

theorem State.discardFrame_steady (r : Discard) (i : Nat) (k : Option FoundKey) (s : State) :
    s.Steady (s.discardFrame r i k) := by
  have hcounted : s.Steady ((s.returnBuffer.setAsidePlace false).updEngine
      fun e => { e with discards := e.discards.add r }) :=
    s.returnBuffer_steady.trans (.trans (t := s.returnBuffer.setAsidePlace false) (.same ⟨rfl, rfl, rfl, rfl, rfl, rfl⟩)
      (.same ⟨rfl, rfl, rfl, rfl, rfl, rfl⟩))
  exact (hcounted.trans (.ite (fun _ => State.updChan_steady (by simp)) fun _ => .refl _)).trans (State.discardExtra_steady ..)

/-- The receive top never falls (R91). -/
theorem nextWindow_top_ge (n top : Nat) (seen : BitVec 64) : top ≤ (nextWindow n top seen).1 := by
  unfold nextWindow
  split
  next h => exact Nat.le_of_lt h
  next => split <;> exact Nat.le_refl top

theorem State.updateWindow_steady (k : FoundKey) (n : Nat) (s : State) : s.Steady (s.updateWindow k n) := by
  unfold State.updateWindow
  split
  · exact State.updSlot_steady (.of_sameKey id (by simp [Slot.sameKey, nextWindow_top_ge]))
  · exact .refl s

theorem State.reportValid_steady (s : State) : s.Steady s.reportValid :=
  .ite (fun _ => .trans (.trans (State.updLink_steady ..) (State.updLink_steady ..)) (State.clearFault_steady ..))
    fun _ => State.updLink_steady ..

theorem State.foundWorkKey_slot? (k : FoundKey) (s : State) : (s.foundWorkKey k).ref.slot? = k.slot? := by
  cases k <;> rfl

theorem State.launchInbound_follows (f : LineIn) (k : FoundKey) (i : Nat) (s : State) (hidle : s.engine.work = none) :
    s.Follows (s.launchInbound f k i) := by
  have hswitch : ∀ c, State.Marked i k.slot? s (s.completeRenewal c) := fun c => (State.completeRenewal_steady c s).marked ..
  have hsame : State.Marked i k.slot? s s := (State.Steady.refl s).marked ..
  have hslot : (Work.inbound f (s.foundWorkKey k) f.parts.header.counter.toNat i).slot = k.slot? :=
    (Work.slot_eq _).trans (s.foundWorkKey_slot? k)
  cases k with
  | slot x => exact ((hsame.trans (State.markSlot_marked ..)).trans (State.markChannel_marked ..)).follows hidle rfl hslot
  | successor x y c =>
    exact (((hswitch c).trans (State.markSlot_marked ..)).trans (State.markChannel_marked ..)).follows hidle rfl hslot
  | root => exact (hsame.trans (State.markChannel_marked ..)).follows hidle rfl hslot

theorem State.checkKey_follows (f : LineIn) (i : Nat) (s : State) (hidle : s.engine.work = none) : s.Follows (s.checkKey f i) := by
  unfold State.checkKey
  dsimp only
  split
  · exact (State.discardFrame_steady ..).follows
  next k _ =>
    have hvalid : s.Steady (s.updateWindow k f.parts.header.counter.toNat).reportValid :=
      (State.updateWindow_steady ..).trans (State.reportValid_steady _)
    split
    · exact (State.discardFrame_steady ..).follows
    split
    · exact (State.discardFrame_steady ..).follows
    split
    · exact (State.discardFrame_steady ..).follows
    split
    · exact (hvalid.trans (State.discardFrame_steady ..)).follows
    · exact hvalid.follows.trans (State.launchInbound_follows _ _ _ _ (hvalid.work.trans hidle))

theorem State.checkInbound_follows (f : LineIn) (s : State) (hidle : s.engine.work = none) : s.Follows (s.checkInbound f) := by
  unfold State.checkInbound
  dsimp only
  split_ifs
  all_goals first
    | exact (State.discardFrame_steady ..).follows
    | exact State.checkKey_follows _ _ _ hidle

theorem State.startInbound_follows (s : State) : s.Follows s.startInbound := by
  unfold State.startInbound
  split
  next hpick =>
    split
    · exact .refl s
    next f rest _ =>
      have htake : s.Steady (((s.updLRx fun _ => rest).setDirection .inbound).setAsidePlace true) :=
        .trans (t := s.updLRx fun _ => rest) (.same (by simp)) ((State.setDirection_steady ..).trans (.same ⟨rfl, rfl, rfl, rfl, rfl, rfl⟩))
      exact htake.follows.trans (State.checkInbound_follows _ _ (htake.work.trans (State.pick_idle hpick)))
  next => exact .refl s

/-! ### TEST and SELF CHECK -/

/-- Work without marks starts or ends: no mark is left by a lawful part whose work held none. -/
theorem State.setWork_follows {s t : State} (h : s.Steady t) (hnone : s.MarksOfWork → s.NoMarks) (w : Option Work) :
    s.Follows (t.setWork w) where
  slots := h.slots
  faults := h.faults
  requests := h.requests
  marks hs := by
    obtain ⟨hchans, hslots⟩ := hnone hs
    refine State.NoMarks.law ⟨fun i => ?_, fun x => ?_⟩ <;> by_contra hmark
    · simpa [hchans i] using h.inEngine i (by simpa using hmark)
    · simpa [hslots x] using h.engineUse x (by simpa using hmark)

/-- Work that holds no mark: the marks' law leaves none. -/
theorem State.MarksOfWork.noMarks_of {s : State} {w : Work} (h : s.MarksOfWork) (hw : s.engine.work = some w)
    (hchannel : w.channel = none) (hslot : w.slot = none) : s.NoMarks := by
  refine ⟨fun i => ?_, fun x => ?_⟩ <;> by_contra hmark <;> simp only [Bool.not_eq_false] at hmark
  · simpa [hw, hchannel] using h.1 i hmark
  · simpa [hw, hslot] using h.2 x hmark

theorem State.startTest_follows (s : State) : s.Follows s.startTest := by
  unfold State.startTest
  split
  next hpick =>
    split
    · exact State.setWork_follows (State.setDirection_steady ..) (·.noMarks (State.pick_idle hpick)) _
    · exact .refl s
  next => exact .refl s

theorem State.startSelfCheck_follows (s : State) : s.Follows s.startSelfCheck := by
  unfold State.startSelfCheck
  split
  next hpick =>
    have hwork := State.setWork_follows (.refl s) (·.noMarks (State.pick_idle hpick)) (some .selfCheck)
    exact ⟨⟨hwork.slots, hwork.faults, hwork.requests⟩, hwork.marks⟩
  next => exact .refl s

/-! ### Completions -/

theorem State.endFlight_kept (i : Nat) (k : KeyRef) (s : State) : s.Kept (s.endFlight i k) := by
  have hchan : s.Steady (s.updChan i fun c => if c.state = .closing then {} else { c with inEngine := false }) :=
    State.updChan_steady (by split_ifs <;> simp)
  cases k with
  | slot x =>
    have hend := (hchan.trans (State.updSlot_steady (x := x) (f := fun v => { v with engineUse := false }) (.of_sameKey id (by simp [Slot.sameKey])))).trans
      (State.endDrain_steady x _)
    exact ⟨hend.slots, hend.faults, hend.requests⟩
  | root =>
    have hend := hchan.trans (State.updRoot_steady (fun r => { r with unsavedCounter := none }) _)
    exact ⟨hend.slots, hend.faults, hend.requests⟩

/-- The marks of the work that ends clear (R96 steps 1 and 2). -/
theorem State.endFlight_noMarks {s : State} {w : Work} {i : Nat} {k : KeyRef} (h : s.MarksOfWork)
    (hw : s.engine.work = some w) (hchannel : w.channel = some i) (hslot : w.slot = k.slot?) : (s.endFlight i k).NoMarks := by
  let t := s.updChan i fun c => if c.state = .closing then {} else { c with inEngine := false }
  have hchans : ∀ j, (t.chan j).inEngine = false := by
    intro j
    rw [State.chan_updChan]
    split
    · split_ifs <;> rfl
    next hj =>
      by_contra hmark
      have hi : i = j := by simpa [hw, hchannel] using h.1 j (by simpa using hmark)
      subst hi
      exact hmark (by rw [State.chan_out _ _ (by simpa using hj)])
  have hslots : ∀ x, (s.slot x).engineUse = true → k.slot? = some x := fun x hx => by
    simpa [hw, hslot] using h.2 x hx
  cases k with
  | slot x =>
    let u := t.updSlot x fun v => { v with engineUse := false }
    have hend : u.Steady (u.endDrain x) := State.endDrain_steady x u
    refine ⟨fun j => ?_, fun y => ?_⟩ <;> by_contra hmark
    · have := hend.inEngine j (by simpa [State.endFlight] using hmark)
      simp [u, hchans j] at this
    · simp only [Bool.not_eq_false] at hmark
      have hy := hend.engineUse y hmark
      simp only [u, State.slot_updSlot] at hy
      split at hy
      · simp at hy
      next hne =>
        have hs : (s.slot y).engineUse = true := by simpa [t] using hy
        obtain rfl : x = y := by simpa [KeyRef.slot?] using hslots y hs
        rw [State.slot_out _ _ (by simpa using hne)] at hs
        simp at hs
  | root =>
    refine ⟨hchans, fun x => ?_⟩
    by_contra hmark
    simpa [KeyRef.slot?] using hslots x (by simpa [State.endFlight] using hmark)

/-- A completion: what its delivery leaves steady, the end of the flight takes with its marks. -/
theorem State.endFlight_follows {s t : State} {w : Work} {i : Nat} {k : KeyRef} (h : s.Steady t)
    (hw : s.engine.work = some w) (hchannel : w.channel = some i) (hslot : w.slot = k.slot?) : s.Follows (t.endFlight i k) :=
  ⟨h.toKept.trans (State.endFlight_kept ..), fun hs =>
    (State.endFlight_noMarks (h.marks hs) (h.work.trans hw) hchannel hslot).law⟩

theorem State.completeOutbound_follows (s : State) : s.Follows s.completeOutbound := by
  have hplace : ∀ b, s.Steady (s.updLTx fun l => l ++ [b]) := fun b => .same (by simp)
  unfold State.completeOutbound
  split
  next hw => exact State.endFlight_follows (hplace _) hw rfl (Work.slot_eq _)
  next hw => exact State.endFlight_follows ((hplace _).trans (State.reportPlaced_steady ..)) hw rfl (Work.slot_eq _)
  all_goals exact .refl s

theorem State.deliverData_steady (f : LineIn) (k : WorkKey) (i : Nat) (s : State) : s.Steady (s.deliverData f k i) := by
  unfold State.deliverData
  have hplace : ∀ g, s.Steady ((s.setAsidePlace false).updSOut g) := fun g =>
    .trans (t := s.setAsidePlace false) (.same ⟨rfl, rfl, rfl, rfl, rfl, rfl⟩) (.same (by simp))
  exact .ite (fun _ => hplace _) fun _ => (hplace _).trans (State.updChan_steady (by simp))

/-- What the delivery of a control frame does after its message has acted. -/
theorem State.deliverControl_afterMessage (f : LineIn) (k : WorkKey) (s : State) :
    (s.handleControl (f.payload k.material)).Steady (s.deliverControl f k) := by
  have hcomposed : ∀ t : State, t.Steady
      (if s.echoTookLast (parseMessage (f.payload k.material)) t then t.takeComposition else t) := fun t =>
    .ite (fun _ => t.takeComposition_steady) fun _ => .refl t
  have hplace : ∀ t : State, t.Steady (t.setAsidePlace false) := fun t => .same ⟨rfl, rfl, rfl, rfl, rfl, rfl⟩
  unfold State.deliverControl
  exact (((hcomposed _).trans (State.returnBuffer_steady _)).trans (hplace _)).trans (State.updChan_steady (by simp))

theorem State.deliverControl_steady_or_staged (f : LineIn) (k : WorkKey) (s : State) :
    s.Steady (s.deliverControl f k) ∨ ∃ u, s.Staged u ∧ u.Steady (s.deliverControl f k) := by
  have hafter := s.deliverControl_afterMessage f k
  obtain h | h := State.handleControl_steady_or_staged (f.payload k.material) s
  · exact .inl (h.trans hafter)
  · exact .inr ⟨_, h, hafter⟩

theorem State.completeInbound_carries (s : State) : s.Carries s.completeInbound := by
  unfold State.completeInbound
  split
  next f k n i hw =>
    have hdone : ∀ {t : State}, s.Steady t → s.Carries (t.endFlight i k.ref) := fun h =>
      (State.endFlight_follows h hw rfl (Work.slot_eq _)).carries
    dsimp only
    split
    · obtain h | ⟨u, hstaged, h⟩ := s.deliverControl_steady_or_staged f k
      · exact hdone h
      · exact hstaged.carries (h.toKept.trans (State.endFlight_kept ..)) fun hu =>
          (State.endFlight_noMarks (h.marks hu) ((h.work.trans hstaged.work).trans hw) rfl (Work.slot_eq _)).law
    · exact hdone (s.deliverData_steady f k i)
  all_goals exact (State.Follows.refl s).carries

theorem State.endTest_steady (t : TestRecord) (s : State) : s.Steady (s.endTest t) := by
  unfold State.endTest
  have hanswer : s.Steady (s.respond .l .done [word4 t.requested t.run t.passed (numberCode t.firstFail)]) :=
    State.respond_steady ..
  exact (hanswer.trans (.ite (fun _ => (State.raiseFault_steady ..).trans (State.updLink_steady ..)) fun _ =>
    .ite (fun _ => (State.clearFault_steady ..).trans (State.updLink_steady ..)) fun _ => .refl _)).trans
    (State.updLink_steady ..)

theorem State.completeTest_follows (a : BitVec 64) (b : BitVec 512) (s : State) : s.Follows (s.completeTest a b) := by
  unfold State.completeTest
  split
  next hw _ =>
    have hidle := State.setWork_follows (.refl s) (·.noMarks_of hw rfl rfl) none
    exact hidle.trans (State.Steady.ite (fun _ => State.updLink_steady ..) fun _ => State.endTest_steady ..).follows
  next => exact .refl s

theorem State.completeSelfCheck_follows (upset : Block) (s : State) : s.Follows (s.completeSelfCheck upset) := by
  have hpart : ∀ (t : State) p, t.Steady (t.setPartState p) := fun t p => .same (by simp)
  unfold State.completeSelfCheck
  split
  next hw =>
    have hidle := State.setWork_follows (.refl s) (·.noMarks_of hw rfl rfl) none
    exact (hidle.trans (State.Steady.ite (fun _ => hpart ..) fun _ => .ite (fun _ => State.enterBootstrap_steady _)
      fun _ => hpart ..).follows).trans (State.executeWaitingErase_follows _)
  all_goals exact .refl s

/-! ### Power, and the write of LOAD ROOT -/

theorem State.powerOn_follows (written : Bool) (s : State) : s.Follows (s.powerOn written) := by
  have herased : (s.powerOn written).Erased := State.erased_of_reset rfl rfl rfl
  exact (herased.kept fun _ => by
    unfold State.FaultListLaw State.powerOn State.reset
    simp).follows herased.noMarks

theorem State.completeLoadRoot_follows (s : State) : s.Follows s.completeLoadRoot := by
  unfold State.completeLoadRoot
  split
  · exact (((State.updRoot_steady ..).trans (State.respond_steady ..)).trans (State.enterBootstrap_steady _)).follows.trans
      (State.executeWaitingErase_follows _)
  all_goals exact .refl s

/-! ### Gathering -/

theorem State.takeCommand_follows (p : Port) (ws : List Word) (s : State) : s.Follows (s.takeCommand p ws) := by
  have hidle : s.Steady (s.updPort p fun q => { q with cmd := .idle }) := State.updPort_steady ..
  have hrefuse : ∀ st, s.Follows ((s.updPort p fun q => { q with cmd := .idle }).refuse p st) := fun st =>
    (hidle.trans (State.respond_steady ..)).follows
  unfold State.takeCommand
  dsimp only
  split
  · exact hrefuse _
  · split_ifs
    · exact hrefuse _
    · exact hidle.follows.trans (runCommand_follows ..)
    · exact hrefuse _

theorem State.writeCommand_follows (p : Port) (w : Word) (s : State) : s.Follows (s.writeCommand p w) := by
  unfold State.writeCommand
  split
  · exact State.Steady.follows (State.updPort_steady ..)
  · split_ifs
    · exact s.takeCommand_follows p _
    · exact State.Steady.follows (State.updPort_steady ..)
  · dsimp only
    split_ifs
    · exact s.takeCommand_follows p _
    · exact State.Steady.follows (State.updPort_steady ..)

theorem State.writeCommandWords_follows (p : Port) (ws : List Word) (s : State) : s.Follows (s.writeCommandWords p ws) := by
  induction ws generalizing s with
  | nil => exact .refl s
  | cons w ws ih => exact (s.writeCommand_follows p w).trans (ih _)

theorem State.writeAccess_follows (p : Port) (sel : BitVec 3) (w : Word) (s : State) : s.Follows (s.writeAccess p sel w) := by
  unfold State.writeAccess
  split
  · exact (s.writeFrameIn_steady p w).follows
  · exact s.writeCommand_follows p w
  · exact (s.writeMailbox_steady p w).follows
  · exact .refl s

theorem State.readAccess_steady (p : Port) (sel : BitVec 3) (s : State) : s.Steady (s.readAccess p sel) := by
  unfold State.readAccess
  split
  · exact s.readFrameOut_steady p
  · exact s.readResponse_steady p
  · exact s.readMailbox_steady p
  · exact s.readStatus_steady p
  · exact State.updPort_steady ..

/-! ### Every command -/

theorem onSlot_next {x : Nat} {s t : State} (h : onSlot x s = .next t) : t = s := by
  unfold onSlot at h
  split at h
  · exact (Host.Outcome.next.inj h).symm
  · exact absurd h nofun

theorem onContext_next {c : Nat} {s t : State} (h : onContext c s = .next t) : t = s := by
  unfold onContext at h
  split at h
  · exact (Host.Outcome.next.inj h).symm
  · exact absurd h nofun

theorem State.Carries.of_next {s t u : State} (h : s.Carries u) 
    (ht : (Host.Outcome.next u : Host.Outcome State Fault Refusal) = .next t) : s.Carries t := by
  rwa [← Host.Outcome.next.inj ht]

/-- Every command carries the keys, the limits, the laws of the lists and the marks. -/
theorem exec_carries (i : Instr) {s t : State} (h : exec i s = .next t) : s.Carries t := by
  have hcommand : ∀ p ws, s.Carries (s.writeCommandWords p ws) := fun p ws => (s.writeCommandWords_follows p ws).carries
  cases i with
  | powerOn written => exact (s.powerOn_follows written).carries.of_next h
  | tick => exact s.tickAll_steady.follows.carries.of_next h
  | keyAgeLimit slot => exact onSlot_next h ▸ (State.ageTest_steady ..).follows.carries
  | keyGraceExpiry slot => exact onSlot_next h ▸ (State.graceTest_steady ..).follows.carries
  | accountIntervalEnd => exact s.endInterval_steady.follows.carries.of_next h
  | drainEnd slot => exact onSlot_next h ▸ (State.endDrain_steady ..).follows.carries
  | eraseWindowExpiry =>
    refine State.Carries.of_next (State.Steady.follows ?_).carries h
    unfold State.expireWindow
    split
    · exact .same (by simp)
    all_goals exact .refl s
  | quietWatchExpiry => exact s.expireQuiet_steady.follows.carries.of_next h
  | replyTimerExpiry context => exact onContext_next h ▸ (State.expireReply_steady ..).follows.carries
  | backoffEnd slot => exact onSlot_next h ▸ (State.endBackoff_steady ..).follows.carries
  | bootBackoffEnd => exact s.endBootBackoff_steady.follows.carries.of_next h
  | contextComposeRetry context => exact onContext_next h ▸ (State.retryCompose_steady ..).follows.carries
  | bootTriggerRelisted => exact s.relistBoot_steady.follows.carries.of_next h
  | beaconCycleEnd => exact s.endCycle_steady.follows.carries.of_next h
  | exchangeStart => exact s.startExchange_steady.follows.carries.of_next h
  | selfCheckStart => exact s.startSelfCheck_follows.carries.of_next h
  | selfCheckCompletion upset => exact (s.completeSelfCheck_follows upset).carries.of_next h
  | outboundDataStart => exact s.startData_follows.carries.of_next h
  | outboundControlStart => exact s.startControl_follows.carries.of_next h
  | inboundStart => exact s.startInbound_follows.carries.of_next h
  | testStart => exact s.startTest_follows.carries.of_next h
  | outboundCompletion => exact s.completeOutbound_follows.carries.of_next h
  | inboundCompletion => exact s.completeInbound_carries.of_next h
  | testCompletion tagUpset textUpset => exact (s.completeTest_follows ..).carries.of_next h
  | frameInWrite port w => exact (s.writeFrameIn_steady port w).follows.carries.of_next h
  | frameOutRead port => exact (s.readFrameOut_steady port).follows.carries.of_next h
  | responseRead port => exact (s.readResponse_steady port).follows.carries.of_next h
  | mailboxWrite port w => exact (s.writeMailbox_steady port w).follows.carries.of_next h
  | mailboxRead port => exact (s.readMailbox_steady port).follows.carries.of_next h
  | statusRead port => exact (s.readStatus_steady port).follows.carries.of_next h
  | registerWriteOther port select access =>
    cases access with
    | write w => exact (s.writeAccess_follows port select w).carries.of_next h
    | read => exact (s.readAccess_steady port select).follows.carries.of_next h
  | loadRootWriteComplete => exact s.completeLoadRoot_follows.carries.of_next h
  | _ => exact (hcommand ..).of_next h

/-- What the queue holds is nothing that is carried. -/
theorem step_carries {s t : State} (h : step s = .next t) : s.Carries t := by
  unfold step at h
  split at h
  · exact Host.Outcome.next.inj h ▸ (State.Follows.refl s).carries
  next c rest _ =>
    have hexec := exec_carries c h
    exact ⟨hexec.keys, hexec.limits, hexec.faults, hexec.requests, hexec.marks⟩

/-! ### The invariants -/

/-- Settles O5. -/
theorem stepKeepsHardLimits : Obligations.StepKeepsHardLimits := by
  intro s t h hs x
  exact (step_carries h).limits x (hs x)

/-- Settles O6. -/
theorem stepKeepsListLaws : Obligations.StepKeepsListLaws := fun _ _ h =>
  ⟨(step_carries h).faults, (step_carries h).requests⟩

/-- Settles O8. -/
theorem stepKeepsKeyOfSlot : Obligations.StepKeepsKeyOfSlot := fun _ _ x h => (step_carries h).keys x

end Sys2Proof.Machine
end

section
/-! The 96 buffers and the places of the queues (R60, R62, R67): how each operation moves buffers, and that every step keeps
both laws. -/

namespace Sys2Proof.Machine

/-! ### Movements of buffers -/

/-- The buffers outside the engine: the free set, the queues and the control pending list. -/
def State.stock (s : State) : Nat :=
  s.pool.free + s.sIn.length + s.sOut.length + s.lRx.length + s.lTx.length + s.ctrl.length

theorem State.buffers_eq (s : State) : s.buffers = s.stock + s.engineBuffers := rfl

/-- From s to t, a buffers left the stock and b joined it; no queue outgrew its places; the engine kept its work and its
assured places. -/
structure State.Moves (a b : Nat) (s t : State) : Prop where
  stock : t.stock + a = s.stock + b
  work : t.engine.work = s.engine.work
  aside : t.pool.setAside = s.pool.setAside
  sIn : s.sIn.length ≤ 32 → t.sIn.length ≤ 32
  lRx : s.lRx.length ≤ 32 → t.lRx.length ≤ 32
  ctrl : s.ctrl.length ≤ 8 → t.ctrl.length ≤ 8
  sOut : s.sOut.length + s.pool.setAside.toNat ≤ 32 → t.sOut.length + s.pool.setAside.toNat ≤ 32
  lTx : t.lTx.length ≤ s.lTx.length

theorem State.Moves.trans {a b c d : Nat} {s t u : State} (h : State.Moves a b s t) (k : State.Moves c d t u) :
    State.Moves (a + c) (b + d) s u where
  stock := by have := h.stock; have := k.stock; omega
  work := k.work.trans h.work
  aside := k.aside.trans h.aside
  sIn := k.sIn ∘ h.sIn
  lRx := k.lRx ∘ h.lRx
  ctrl := k.ctrl ∘ h.ctrl
  sOut hs := by have := k.sOut; rw [h.aside] at this; exact this (h.sOut hs)
  lTx := k.lTx.trans h.lTx

/-- The same movement counted otherwise. -/
theorem State.Moves.recount {a b c d : Nat} {s t : State} (h : State.Moves a b s t) (heq : a + d = b + c) :
    State.Moves c d s t :=
  { h with stock := by have := h.stock; omega }

/-- Neither a buffer more nor less. -/
def State.Level (s t : State) : Prop := State.Moves 0 0 s t

theorem State.Level.moves {s t : State} (h : s.Level t) : State.Moves 0 0 s t := h

theorem State.Moves.level {a b : Nat} {s t : State} (h : State.Moves a b s t) (heq : a = b) : s.Level t :=
  h.recount (by omega)

theorem State.Level.trans {s t u : State} (h : s.Level t) (k : t.Level u) : s.Level u := State.Moves.trans h k

/-- The queues, the free count and the work stand. -/
theorem State.Level.same {s t : State} (h : t.pool.free = s.pool.free ∧ t.pool.setAside = s.pool.setAside ∧ t.sIn = s.sIn
    ∧ t.sOut = s.sOut ∧ t.lRx = s.lRx ∧ t.lTx = s.lTx ∧ t.ctrl = s.ctrl ∧ t.engine.work = s.engine.work) : s.Level t := by
  obtain ⟨hfree, haside, hsIn, hsOut, hlRx, hlTx, hctrl, hwork⟩ := h
  refine ⟨?_, hwork, haside, ?_, ?_, ?_, ?_, ?_⟩ <;> simp [State.stock, hfree, hsIn, hsOut, hlRx, hlTx, hctrl]

/-- The queues and the free count stand, and what is steady keeps the work. -/
theorem State.Level.of_steady {s t : State} (hs : s.Steady t) (h : t.pool.free = s.pool.free
    ∧ t.pool.setAside = s.pool.setAside ∧ t.sIn = s.sIn ∧ t.sOut = s.sOut ∧ t.lRx = s.lRx ∧ t.lTx = s.lTx
    ∧ t.ctrl = s.ctrl) : s.Level t := by
  obtain ⟨hfree, haside, hsIn, hsOut, hlRx, hlTx, hctrl⟩ := h
  exact .same ⟨hfree, haside, hsIn, hsOut, hlRx, hlTx, hctrl, hs.work⟩

theorem State.Level.refl (s : State) : s.Level s := .same (by simp)

theorem State.Level.ite {c : Prop} [Decidable c] {s t u : State} (ht : c → s.Level t) (hu : ¬ c → s.Level u) :
    s.Level (if c then t else u) := by
  split
  next h => exact ht h
  next h => exact hu h

theorem State.Level.foldl {α : Type} {f : State → α → State} (h : ∀ (s : State) a, s.Level (f s a)) (l : List α) (s : State) :
    s.Level (l.foldl f s) := by
  induction l generalizing s with
  | nil => exact .refl s
  | cons a l ih => exact (h s a).trans (ih _)

theorem State.updCtx_level (c : Nat) (f : Context → Context) (s : State) : s.Level (s.updCtx c f) := .same (by simp)

theorem State.updLink_level (f : LinkWatch → LinkWatch) (s : State) : s.Level (s.updLink f) := .same (by simp)

theorem State.updMessenger_level (f : Messenger → Messenger) (s : State) : s.Level (s.updMessenger f) := .same (by simp)

theorem State.updBeacon_level (f : Beacon → Beacon) (s : State) : s.Level (s.updBeacon f) := .same (by simp)

theorem State.updChan_level (i : Nat) (f : Channel → Channel) (s : State) : s.Level (s.updChan i f) := .same (by simp)

theorem State.updPort_level (p : Port) (f : PortState → PortState) (s : State) : s.Level (s.updPort p f) := .same (by simp)

theorem State.updSlot_level (x : Nat) (f : Slot → Slot) (s : State) : s.Level (s.updSlot x f) := .same (by simp)

theorem State.raiseFault_level (k : FaultKind) (x : Subject) (s : State) : s.Level (s.raiseFault k x) := .same (by simp)

/-! ### The pool -/

theorem State.returnBuffer_moves (s : State) : State.Moves 0 1 s s.returnBuffer := by
  have hfree : s.returnBuffer.pool.free = s.pool.free + 1 ∧ s.returnBuffer.pool.setAside = s.pool.setAside := by
    rw [State.returnBuffer_pool]; exact ⟨rfl, rfl⟩
  refine ⟨?_, by simp, hfree.2, by simp, by simp, by simp, by simp, by simp⟩
  simp [State.stock, hfree.1]
  omega

theorem State.returnBuffers_moves (n : Nat) (s : State) : State.Moves 0 n s (State.returnBuffers n s) := by
  induction n generalizing s with
  | zero => exact (State.Level.refl s).moves
  | succ n ih => exact (s.returnBuffer_moves.trans (ih _)).recount (by omega)

theorem State.takeBuffer_moves (s : State) (h : 0 < s.pool.free) : State.Moves 1 0 s s.takeBuffer := by
  refine ⟨?_, by simp, by simp [State.takeBuffer], by simp, by simp, by simp, by simp, by simp⟩
  simp [State.stock, State.takeBuffer]
  omega

/-- A frame handed back is a notice in a free place of S-out, or its buffer is free (R8, R68). -/
theorem State.noticeOrFree_moves (f : ShopFrame) (r : RefuseReason) (s : State) :
    State.Moves 0 1 s (s.noticeOrFree f r) := by
  unfold State.noticeOrFree
  split
  next hplace =>
    have hroom := of_decide_eq_true ((Bool.and_eq_true _ _).mp hplace).2
    change s.sOut.length + s.pool.setAside.toNat < 32 at hroom
    refine ⟨?_, by simp, by simp, by simp, by simp, by simp, ?_, by simp⟩
    · simp [State.stock]; omega
    · simp; omega
  next => exact s.returnBuffer_moves

theorem State.noticesOrFree_moves (r : RefuseReason) (l : List ShopFrame) (s : State) :
    State.Moves 0 l.length s (l.foldl (fun u f => u.noticeOrFree f r) s) := by
  induction l generalizing s with
  | nil => exact (State.Level.refl s).moves
  | cons f l ih => exact ((s.noticeOrFree_moves f r).trans (ih _)).recount (by simp; omega)

/-- The frames taken from S-in are handed back, one by one (R14). -/
theorem State.removeShopFrames_level (q : ShopFrame → Bool) (s : State) : s.Level (s.removeShopFrames q) := by
  have hlength : (s.sIn.filter q).length + (s.sIn.filter fun f => !q f).length = s.sIn.length := by
    rw [← List.countP_eq_length_filter, ← List.countP_eq_length_filter]
    have := List.length_eq_countP_add_countP q (l := s.sIn)
    simpa using this.symm
  have htake : State.Moves (s.sIn.filter q).length 0 s (s.updSIn fun l => l.filter fun f => !q f) := by
    refine ⟨?_, by simp, by simp, ?_, by simp, by simp, by simp, by simp⟩
    · simp [State.stock]; omega
    · simp; omega
  have hpush : ∀ (b : Prop) [Decidable b] (t : State), t.Level (if b then t.endPush .s else t) := fun b _ t =>
    .ite (fun _ => .same (by simp)) fun _ => .refl t
  exact ((htake.trans (hpush _ _).moves).trans (State.noticesOrFree_moves ..)).level (by simp)

theorem State.closeChannel_level (i : Nat) (s : State) : s.Level (s.closeChannel i) := by
  have hdata : s.Level (s.closeData i) := by
    unfold State.closeData
    extract_lets names t0 t1 t2
    exact (s.removeShopFrames_level names).trans (.same (by simp [t0, t1, t2]))
  have halias : s.Level (s.closeAlias i) := by
    unfold State.closeAlias
    extract_lets t0 target
    exact (s.removeShopFrames_level fun f => f.channel == i).trans (.same (by simp [t0]))
  exact .ite (fun _ => halias) fun _ => hdata

/-! ### Composition and messages -/

theorem State.compose_level (bs : List Byte) (s : State) : s.Level (s.compose bs).1 := by
  unfold State.compose
  split_ifs with hstate hfree hctrl
  · exact .refl s
  · exact .same (by simp)
  · exact .refl s
  · have htake := s.takeBuffer_moves (by omega)
    have hjoin : State.Moves 0 1 s.takeBuffer (((s.takeBuffer).updCtrl fun l =>
        l ++ [{ payload := bs, serial := s.renewal.nextSerial }]).updRenewal
          fun r => { r with nextSerial := r.nextSerial + 1 }) := by
      refine ⟨?_, by simp, by simp, by simp, by simp, ?_, by simp, by simp⟩
      · simp [State.stock]; omega
      · simp; omega
    exact (htake.trans hjoin).level rfl

theorem State.composeContext_level (c : Nat) (s : State) : s.Level (s.composeContext c) := by
  rw [State.composeContext_eq]
  exact (s.compose_level _).trans (State.updCtx_level ..)

theorem State.startExchange_level (s : State) : s.Level s.startExchange := by
  unfold State.startExchange
  split
  next c e rest _ _ =>
    have hopen : s.Level ((s.updRenewal fun n => { n with list := rest }).openContext c
        { state := .awaitDelivery, kind := some (if e.slot = none then .boot else .renewal), subject := e.slot
          reason := some e.reason }) := .same (by simp)
    exact hopen.trans (State.composeContext_level ..)
  next => exact .refl s

theorem State.askReport_level (s : State) : s.Level s.askReport.1 := by
  unfold State.askReport
  dsimp only
  have hcompose := s.compose_level (faultReportBytes s.beacon.nextReport s.faults.overflow s.reportRecords)
  split
  · exact hcompose.trans (.same (by simp))
  · exact hcompose

theorem State.endCycle_level (s : State) : s.Level s.endCycle := by
  have hreport : s.Level s.cycleReport := by
    unfold State.cycleReport
    split_ifs
    · exact s.askReport_level.trans (.same (by simp))
    · exact s.askReport_level
    · exact .refl s
  unfold State.endCycle
  split_ifs
  · exact hreport.trans (.same (by simp))
  · exact .refl s

theorem State.expireReply_level (c : Nat) (s : State) : s.Level (s.expireReply c) := by
  unfold State.expireReply
  split_ifs
  · exact (State.updCtx_level ..).trans (State.composeContext_level ..)
  · exact .of_steady (s.failContext_steady c) (by simp)
  · exact .refl s

theorem State.retryCompose_level (c : Nat) (s : State) : s.Level (s.retryCompose c) := by
  unfold State.retryCompose
  split_ifs
  · exact s.composeContext_level c
  · exact .refl s

theorem State.takeComposition_level (s : State) : s.Level s.takeComposition := by
  obtain ⟨i, -, -, h⟩ | ⟨-, h⟩ := s.takeComposition_cases <;> rw [h]
  · unfold State.compositionEvent
    split
    · exact s.startExchange_level
    · exact s.retryCompose_level _
    · exact s.expireReply_level _
    · exact s.endCycle_level
    · exact .refl s
  · exact .refl s

theorem State.rejectDelivery_level (d : Delivery) (r : Reject) (s : State) : s.Level (s.rejectDelivery d r) := by
  have hraise : s.Level (if r = .noSlot then
      ((s.updMessenger fun m => m.countReject r).raiseFault .noKeySlot .nothing).updMessenger
        fun m => { m with noSlotMark := true }
      else s.updMessenger fun m => m.countReject r) :=
    .ite (fun _ => .same (by simp)) fun _ => .same (by simp)
  have hcompose := hraise.trans (State.compose_level (keyRejectBytes (BitVec.ofNat 8 d.exchange) d.targetCode r) _)
  exact .ite (fun _ => hcompose) fun _ => hcompose.trans (State.updMessenger_level ..)

theorem State.takeDelivery_level (d : Delivery) (s : State) : s.Level (s.takeDelivery d) := by
  have haccept : ∀ (t : State) c y, s.Level t → s.Level (t.acceptDelivery d c y) := by
    intro t c y h
    have hopen : t.Level (if d.exchange = 0 then
        t.openContext c { state := .awaitCommit, kind := some (if y = 0 then .root else .install), successor := some y }
        else t.updCtx c fun x => { x with state := .awaitCommit, successor := some y, attempt := 1, send := .compose, reply := 0
                                          latest := none, retryDue := false }) :=
      .ite (fun _ => .same (by simp)) fun _ => .same (by simp)
    exact h.trans (hopen.trans (State.composeContext_level ..))
  unfold State.takeDelivery
  split
  · exact State.rejectDelivery_level ..
  split
  · exact State.rejectDelivery_level ..
  split
  · exact State.rejectDelivery_level ..
  split_ifs
  · exact haccept _ _ _ (.same (by simp))
  · exact haccept _ _ _ (.same (by simp))

theorem State.takeOrder_level (b : Bool) (q : OpenRequest) (s : State) : s.Level (s.takeOrder b q) := by
  unfold State.takeOrder
  split
  · split <;> exact .same (by simp)
  · split
    · exact (s.closeChannel_level _).trans (State.updMessenger_level ..)
    · exact .same (by simp)

theorem State.takeProbe_level (n f : Nat) (bs : List Byte) (s : State) : s.Level (s.takeProbe n f bs) := by
  unfold State.takeProbe
  dsimp only
  split
  · exact .same (by simp)
  · split <;> exact (State.compose_level ..).trans (State.updLink_level ..)

theorem State.takeMessage_level (m : Message) (s : State) : s.Level (s.takeMessage m) := by
  cases m with
  | delivery d => exact .ite (fun _ => .same (by simp)) fun _ => s.takeDelivery_level d
  | commit e =>
    show s.Level (s.takeCommit e)
    unfold State.takeCommit
    split <;> exact .same (by simp)
  | refuse e r =>
    show s.Level (s.takeRefuse e r)
    unfold State.takeRefuse
    split
    · exact (State.updMessenger_level ..).trans (.of_steady (State.refuseContext_steady ..) (by simp))
    · exact .same (by simp)
  | renew x => exact .ite (fun _ => .same (by simp)) fun _ => .same (by simp)
  | order o q => exact s.takeOrder_level o q
  | ack r ps => exact .same (by simp [State.takeMessage])
  | probe n f p => exact s.takeProbe_level n f p

theorem State.handleControl_level (bs : List Byte) (s : State) : s.Level (s.handleControl bs) := by
  unfold State.handleControl
  split
  next m _ =>
    exact .trans (t := s.updMessenger fun x => x.countHanded m) (.same (by simp)) (State.takeMessage_level ..)
  next => exact .same (by simp)

end Sys2Proof.Machine
end

section
/-! The commands, the resets and the engine under the laws of buffers and places (R60, R62, R67), and O4. -/

namespace Sys2Proof.Machine

/-- Both laws stand at t when they stood at s. -/
structure State.Stows (s t : State) : Prop where
  conserved : s.Conserved → t.Conserved
  capacity : s.WithinCapacity → t.WithinCapacity

theorem State.Stows.refl (s : State) : s.Stows s := ⟨id, id⟩

theorem State.Stows.trans {s t u : State} (h : s.Stows t) (k : t.Stows u) : s.Stows u :=
  ⟨k.conserved ∘ h.conserved, k.capacity ∘ h.capacity⟩

/-- Two states with the same work in flight. -/
theorem State.engine_congr {s t : State} (h : t.engine.work = s.engine.work) :
    t.engineBuffers = s.engineBuffers ∧ t.outboundFrames = s.outboundFrames ∧ t.holdsInbound = s.holdsInbound := by
  simp [State.engineBuffers, State.outboundFrames, State.holdsInbound, h]

theorem State.Level.stows {s t : State} (h : s.Level t) : s.Stows t := by
  obtain ⟨hbuffers, hout, hin⟩ := State.engine_congr h.work
  refine ⟨fun hs => ?_, fun hs => ?_⟩
  · have hstock := h.stock
    unfold State.Conserved at *
    rw [State.buffers_eq] at *
    omega
  · obtain ⟨hsIn, hlRx, hctrl, hsOut, hlTx, haside⟩ := hs
    have hplaces := h.lTx
    exact ⟨h.sIn hsIn, h.lRx hlRx, h.ctrl hctrl, h.aside ▸ h.sOut hsOut, by omega, fun hi => h.aside ▸ haside (hin ▸ hi)⟩

theorem State.Stows.of_lawful {s t : State} (hconserved : t.Conserved) (hcapacity : t.WithinCapacity) : s.Stows t :=
  ⟨fun _ => hconserved, fun _ => hcapacity⟩

/-! ### Commands -/

theorem State.respond_level (p : Port) (st : Status) (ws : List Word) (s : State) : s.Level (s.respond p st ws) :=
  .same (by simp)

theorem State.endPush_level (p : Port) (s : State) : s.Level (s.endPush p) := .same (by simp)

/-- The IN queue of a port emptied: its buffers return (R74). -/
theorem State.emptyIn_level (p : Port) (s : State) : s.Level (s.emptyIn p) := by
  have hempty : State.Moves (s.inCount p) 0 s (match p with
      | .s => s.updSIn fun _ => []
      | .l => s.updLRx fun _ => []) := by
    cases p <;> refine ⟨?_, rfl, rfl, ?_, ?_, ?_, ?_, ?_⟩ <;> simp [State.stock, State.inCount] <;> omega
  cases p <;> exact ((hempty.trans (State.endPush_level ..).moves).trans (State.returnBuffers_moves ..)).level (by simp)

/-- The OUT queue of a port emptied: its buffers return (R74). -/
theorem State.emptyOut_level (p : Port) (s : State) : s.Level (s.emptyOut p) := by
  have hempty : State.Moves (s.outCount p) 0 s (match p with
      | .s => s.updSOut fun _ => []
      | .l => s.updLTx fun _ => []) := by
    cases p <;> refine ⟨?_, rfl, rfl, ?_, ?_, ?_, ?_, ?_⟩ <;> simp [State.stock, State.outCount] <;> omega
  cases p <;> exact ((hempty.trans (State.updPort_level ..).moves).trans (State.returnBuffers_moves ..)).level (by simp)

/-- The part after PART RESET or ERASE: an idle engine and the pool at its default. -/
def State.Emptied (s : State) : Prop :=
  s.engine.work = none ∧ s.pool = {} ∧ s.sIn = [] ∧ s.sOut = [] ∧ s.lRx = [] ∧ s.lTx = [] ∧ s.ctrl = []

theorem State.Emptied.stows {s t u : State} (ht : t.Emptied) (h : t.Level u) : s.Stows u := by
  obtain ⟨hwork, hpool, hsIn, hsOut, hlRx, hlTx, hctrl⟩ := ht
  have hlawful : t.Conserved ∧ t.WithinCapacity := by
    simp [State.Conserved, State.WithinCapacity, State.buffers, State.engineBuffers, State.outboundFrames, State.holdsInbound,
      hwork, hpool, hsIn, hsOut, hlRx, hlTx, hctrl]
  exact .of_lawful (h.stows.conserved hlawful.1) (h.stows.capacity hlawful.2)

theorem State.sendTrigger_level (x : Nat) (r : Reason) (s : State) : s.Level (s.sendTrigger x r) := .same (by simp)

theorem State.reraiseSlot_level (s : State) (x : Nat) : s.Level (s.reraiseSlot x) := by
  have hspent : s.Level (if (s.slot x).state = .active ∧ (s.slot x).spent then
      if (s.slot x).maxAge + 256 ≤ (s.slot x).age then s.raiseFault .keyAgeOver (.slot x)
      else s.raiseFault .keySpent (.slot x) else s) :=
    .ite (fun _ => .ite (fun _ => State.raiseFault_level ..) fun _ => State.raiseFault_level ..) fun _ => .refl s
  exact .ite (fun _ => hspent.trans (State.raiseFault_level ..)) fun _ => hspent

theorem State.resendTriggers_level (s : State) : s.Level s.resendTriggers :=
  .trans (.foldl (fun t x => .ite (fun _ => t.sendTrigger_level x .spent) fun _ => .refl t) ..)
    (.foldl (fun t x => .ite (fun _ => t.sendTrigger_level x .suspect) fun _ => .refl t) ..)

theorem State.resetPool_emptied {s : State} (h : s.engine.work = none) : s.resetPool.Emptied :=
  ⟨h, rfl, rfl, rfl, rfl, rfl, rfl⟩

theorem State.partReset_stows (p : Port) (s : State) : s.Stows (partReset p s) := by
  unfold partReset
  split
  · exact (State.respond_level ..).stows
  · let cleared := ((s.abandonWork).resetRenewal).discardStaged.resetPool
    have hempty : cleared.Emptied := State.resetPool_emptied <| by
      rw [(s.abandonWork.resetRenewal_steady.trans (State.discardStaged_steady _)).work]
      simp [State.abandonWork]
    let recorded := (((cleared.restartDrains.updMessenger fun m => { m with noSlotMark := false }).setWindow
      none).resetPorts).resetFaults .restarted
    let raised := workingSlots.foldl State.reraiseSlot recorded
    have hrecorded : cleared.Level recorded := .same (by simp [recorded, State.restartDrains])
    have hraised : cleared.Level raised := hrecorded.trans (.foldl State.reraiseSlot_level _ _)
    have hsent : raised.Level raised.resendTriggers := raised.resendTriggers_level
    have hstate : ∀ (t : State) x, t.Level (t.setPartState x) := fun t x => .same (by simp)
    have hblocks : cleared.Level s.partResetBlocks := by
      unfold State.partResetBlocks
      extract_lets t1 t2 t3 t4 t5 t6 after t7
      have ht7 : cleared.Level t7 := ((hraised.trans hsent).trans (State.updLink_level ..)).trans (hstate ..)
      exact .ite (fun _ => ht7.trans (.same (by simp))) fun _ => ht7
    exact hempty.stows (hblocks.trans (State.respond_level ..))

theorem State.executeErase_stows (p : Port) (s : State) : s.Stows (s.executeErase p) := by
  let idle := s.updPort p fun q => { q with cmd := .idle }
  have hempty : idle.erasedPart.Emptied := ⟨rfl, rfl, rfl, rfl, rfl, rfl, rfl⟩
  have hports : ∀ t : State, t.Level (t.resetPorts.resetFaults .erased) := fun t => .same (by simp)
  exact hempty.stows ((hports _).trans (State.respond_level ..))

theorem State.executeWaitingErase_stows (s : State) : s.Stows s.executeWaitingErase := by
  unfold State.executeWaitingErase
  split
  · exact State.executeErase_stows ..
  · exact .refl s

theorem runCommand_stows (c : Command) (p : Port) (a : Nat → Word) (s : State) : s.Stows (runCommand c p a s) := by
  have hanswer : ∀ st ws, s.Level (s.respond p st ws) := fun st ws => State.respond_level ..
  have hrefuse : ∀ st, s.Level (s.refuse p st) := fun st => State.respond_level ..
  cases c with
  | channelOpen =>
    refine State.Level.stows (t := channelOpen p (a 2) (a 3) s) ?_
    unfold channelOpen
    split
    · exact hrefuse _
    · exact .same (by simp)
  | channelClose =>
    refine State.Level.stows (t := channelClose p (a 2) s) ?_
    unfold channelClose
    split
    · exact hrefuse _
    · exact (s.closeChannel_level _).trans (State.respond_level ..)
  | channelFlags => exact State.Level.stows (.ite (fun _ => hrefuse _) fun _ => .same (by simp))
  | channelReset =>
    refine State.Level.stows (t := channelReset p (a 2) s) ?_
    unfold channelReset
    split
    · exact hrefuse _
    · exact .same (by simp)
  | channelRead => exact State.Level.stows (.ite (fun _ => hrefuse _) fun _ => hanswer ..)
  | keyStatus => exact State.Level.stows (.ite (fun _ => hrefuse _) fun _ => hanswer ..)
  | faultRead => exact State.Level.stows (.ite (fun _ => hrefuse _) fun _ => hanswer ..)
  | partRead =>
    refine State.Level.stows (t := partRead p (a 2) s) ?_
    unfold partRead
    split
    · exact hanswer ..
    · exact hrefuse _
  | renewNow =>
    exact State.Level.stows (.ite (fun _ => hrefuse _) fun _ => .ite (fun _ => hrefuse _) fun _ =>
      .ite (fun _ => hrefuse _) fun _ => .same (by simp))
  | queueLimits =>
    refine State.Level.stows (t := queueLimits p (a 2) s) (.trans (t := s.updPoolPort p _) ?_
      ((State.updPort_level ..).trans (State.respond_level ..)))
    cases p <;> exact .same ⟨rfl, rfl, rfl, rfl, rfl, rfl, rfl, rfl⟩
  | queueReset =>
    refine State.Level.stows (t := queueReset p (a 2) s) ?_
    unfold queueReset
    split
    · exact (s.emptyIn_level p).trans (State.respond_level ..)
    · exact (s.emptyOut_level p).trans (State.respond_level ..)
    · exact hrefuse _
  | faultDismiss =>
    refine State.Level.stows (t := faultDismiss p (a 2) s) ?_
    unfold faultDismiss
    split
    · exact hrefuse _
    · exact .ite (fun _ => hrefuse _) fun _ => .same (by simp)
  | beaconSet =>
    refine State.Level.stows (t := beaconSet p (a 2) s) ?_
    unfold beaconSet
    split
    · exact hrefuse _
    · exact .same (by simp)
  | beaconCommit => exact State.Level.stows ((State.updBeacon_level ..).trans (State.respond_level ..))
  | beaconHalt => exact State.Level.stows ((State.updBeacon_level ..).trans (State.respond_level ..))
  | loadRoot => exact State.Level.stows (.ite (fun _ => hrefuse _) fun _ => State.updPort_level ..)
  | partReset => exact s.partReset_stows p
  | quiesce => exact State.Level.stows (.ite (fun _ => hrefuse _) fun _ => .same (by simp))
  | resume => exact State.Level.stows (.ite (fun _ => hrefuse _) fun _ => .same (by simp))
  | localLoop =>
    exact State.Level.stows (.ite (fun _ => hrefuse _) fun _ => .ite (fun _ => hrefuse _) fun _ =>
      (State.updLink_level ..).trans (State.updPort_level ..))
  | erase =>
    show s.Stows (erase p s)
    unfold erase
    split
    · exact State.Level.stows (.same (by simp))
    · split_ifs
      · exact State.Level.stows (.same (by simp))
      · exact State.Level.stows (.same (by simp))
      · exact s.executeErase_stows p

theorem State.takeCommand_stows (p : Port) (ws : List Word) (s : State) : s.Stows (s.takeCommand p ws) := by
  have hidle : s.Level (s.updPort p fun q => { q with cmd := .idle }) := State.updPort_level ..
  have hrefuse : ∀ st, s.Stows ((s.updPort p fun q => { q with cmd := .idle }).refuse p st) := fun st =>
    (hidle.trans (State.respond_level ..)).stows
  unfold State.takeCommand
  dsimp only
  split
  · exact hrefuse _
  · split_ifs
    · exact hrefuse _
    · exact hidle.stows.trans (runCommand_stows ..)
    · exact hrefuse _

theorem State.writeCommand_stows (p : Port) (w : Word) (s : State) : s.Stows (s.writeCommand p w) := by
  unfold State.writeCommand
  split
  · exact State.Level.stows (State.updPort_level ..)
  · split_ifs
    · exact s.takeCommand_stows p _
    · exact State.Level.stows (State.updPort_level ..)
  · dsimp only
    split_ifs
    · exact s.takeCommand_stows p _
    · exact State.Level.stows (State.updPort_level ..)

theorem State.writeCommandWords_stows (p : Port) (ws : List Word) (s : State) : s.Stows (s.writeCommandWords p ws) := by
  induction ws generalizing s with
  | nil => exact .refl s
  | cons w ws ih => exact (s.writeCommand_stows p w).trans (ih _)

/-! ### The access points -/

theorem State.ignorePush_level (p : Port) (n : Nat) (s : State) : s.Level (s.ignorePush p n) :=
  (State.updPort_level ..).trans (State.updPort_level ..)

/-- A descriptor takes a buffer only where the pool and the queue have one and a place (R64). -/
theorem State.takeDescriptor_level (p : Port) (w : Word) (s : State) : s.Level (s.takeDescriptor p w) := by
  have hoverrun : s.Level (s.countOverrun p) := by cases p <;> exact .same ⟨rfl, rfl, rfl, rfl, rfl, rfl, rfl, rfl⟩
  unfold State.takeDescriptor
  dsimp only
  split_ifs with hlength haccept
  · exact State.ignorePush_level ..
  · simp only [State.pushAccepted, Bool.and_eq_true] at haccept
    obtain ⟨⟨-, hplace⟩, hfree⟩ := haccept
    have hroom : s.inCount p < 32 := of_decide_eq_true hplace
    have hfree : 8 < s.pool.free := of_decide_eq_true hfree
    have hjoin : State.Moves 0 1 s.takeBuffer (s.takeBuffer.joinIn p w) := by
      cases p <;> refine ⟨?_, rfl, rfl, ?_, ?_, ?_, ?_, ?_⟩ <;>
        simp_all [State.stock, State.joinIn, State.inCount, State.takeBuffer] <;> omega
    exact (((s.takeBuffer_moves (by omega)).trans hjoin).level rfl).trans (State.updPort_level ..)
  · exact hoverrun.trans (State.ignorePush_level ..)

theorem updLast_length {α : Type} (f : α → α) (l : List α) : (updLast f l).length = l.length := by
  induction l with
  | nil => rfl
  | cons a l ih =>
    cases l with
    | nil => rfl
    | cons b l => simpa [updLast] using ih

theorem State.fillIn_level (p : Port) (w : Word) (s : State) : s.Level (s.fillIn p w) := by
  cases p <;> refine ⟨?_, rfl, rfl, ?_, ?_, ?_, ?_, ?_⟩ <;> simp [State.stock, State.fillIn, updLast_length]

theorem State.writeFrameIn_level (p : Port) (w : Word) (s : State) : s.Level (s.writeFrameIn p w) := by
  unfold State.writeFrameIn
  split
  · exact s.takeDescriptor_level p w
  · exact (s.fillIn_level p w).trans (State.updPort_level ..)
  · exact State.updPort_level ..

/-- The head leaves an OUT queue that holds one, and its buffer returns (R66). -/
theorem State.popOut_level (p : Port) (s : State) (h : 0 < s.outCount p) : s.Level (s.popOut p) := by
  cases p with
  | s =>
    have hpop : State.Moves 1 0 s (s.updSOut List.tail) := by
      refine ⟨?_, rfl, rfl, ?_, ?_, ?_, ?_, ?_⟩ <;> simp_all [State.stock, State.outCount] <;> omega
    exact (hpop.trans (State.returnBuffer_moves _)).level rfl
  | l =>
    have hpop : State.Moves 1 0 s (s.updLTx List.tail) := by
      refine ⟨?_, rfl, rfl, ?_, ?_, ?_, ?_, ?_⟩ <;> simp_all [State.stock, State.outCount]; omega
    exact (hpop.trans (State.returnBuffer_moves _)).level rfl

theorem State.headWords_some {s : State} {p : Port} {ws : List Word} (h : s.headWords p = some ws) : 0 < s.outCount p := by
  cases p with
  | s => cases hq : s.sOut <;> simp [State.headWords, State.outCount, hq] at h ⊢
  | l => cases hq : s.lTx <;> simp [State.headWords, State.outCount, hq] at h ⊢

theorem State.readFrameOut_level (p : Port) (s : State) : s.Level (s.readFrameOut p) := by
  have hread : ∀ w, s.Level (s.returnWord p w) := fun w => State.updPort_level ..
  unfold State.readFrameOut
  split
  · exact hread 0
  next ws hhead =>
    dsimp only
    refine (hread (wordAt ws (s.port p).pullPos)).trans (.ite (fun _ => ?_) fun _ => State.updPort_level ..)
    have hcount : 0 < (s.returnWord p (wordAt ws (s.port p).pullPos)).outCount p := by
      cases p <;> simpa [State.outCount] using State.headWords_some hhead
    exact (State.popOut_level _ _ hcount).trans (State.updPort_level ..)

theorem State.readResponse_level (p : Port) (s : State) : s.Level (s.readResponse p) :=
  .ite (fun _ => State.updPort_level ..) fun _ => (State.updPort_level ..).trans (State.updPort_level ..)

theorem State.writeMailbox_level (p : Port) (w : Word) (s : State) : s.Level (s.writeMailbox p w) := by
  have hwhole : ∀ n ws, s.Level (s.completeMail p n ws) := fun n ws =>
    (State.updPort_level ..).trans (State.updPort_level ..)
  unfold State.writeMailbox
  dsimp only
  split
  · exact .ite (fun _ => (State.updPort_level ..).trans (State.updPort_level ..)) fun _ =>
      .ite (fun _ => hwhole ..) fun _ => State.updPort_level ..
  · exact .ite (fun _ => hwhole ..) fun _ => State.updPort_level ..
  · exact State.updPort_level ..

theorem State.readMailbox_level (p : Port) (s : State) : s.Level (s.readMailbox p) :=
  .ite (fun _ => ((State.updPort_level ..).trans (State.updPort_level ..)).trans (State.updPort_level ..)) fun _ =>
    (State.updPort_level ..).trans (State.updPort_level ..)

theorem State.readStatus_level (p : Port) (s : State) : s.Level (s.readStatus p) :=
  (State.updPort_level ..).trans (State.updPort_level ..)

theorem State.writeAccess_stows (p : Port) (sel : BitVec 3) (w : Word) (s : State) : s.Stows (s.writeAccess p sel w) := by
  unfold State.writeAccess
  split
  · exact (s.writeFrameIn_level p w).stows
  · exact s.writeCommand_stows p w
  · exact (s.writeMailbox_level p w).stows
  · exact .refl s

theorem State.readAccess_level (p : Port) (sel : BitVec 3) (s : State) : s.Level (s.readAccess p sel) := by
  unfold State.readAccess
  split
  · exact s.readFrameOut_level p
  · exact s.readResponse_level p
  · exact s.readMailbox_level p
  · exact s.readStatus_level p
  · exact State.updPort_level ..

end Sys2Proof.Machine
end

section
/-! The starts and completions of the engine move one buffer into or out of the work in flight (R60, R67); with them O4. -/

namespace Sys2Proof.Machine

/-! ### Work starts and ends -/

/-- A frame whose buffer has left the stock goes into flight from an idle engine; an outbound one needs its place in L-tx
assured. -/
theorem State.Moves.launch {s t : State} (h : State.Moves 1 0 s t) (hidle : s.engine.work = none)
    (hroom : s.lTx.length < 32) {w : Work} (hw : w.buffers = 1) (hin : ∀ f k n i, w ≠ .inbound f k n i) :
    s.Stows (t.setWork (some w)) := by
  have hbuffers : (t.setWork (some w)).engineBuffers = 1 := hw
  have hout : (t.setWork (some w)).outboundFrames ≤ 1 := by
    cases w <;> simp [State.outboundFrames, State.setWork]
  have hholds : (t.setWork (some w)).holdsInbound = false := by
    cases w with
    | inbound f k n i => exact absurd rfl (hin f k n i)
    | _ => rfl
  have hstock : (t.setWork (some w)).stock = t.stock := rfl
  refine ⟨fun hs => ?_, fun hs => ?_⟩
  · have := h.stock
    unfold State.Conserved at *
    rw [State.buffers_eq] at *
    simp [State.engineBuffers, hidle] at hs
    omega
  · obtain ⟨hsIn, hlRx, hctrl, hsOut, hlTx, haside⟩ := hs
    have hplaces : (t.setWork (some w)).lTx.length ≤ s.lTx.length := h.lTx
    exact ⟨h.sIn hsIn, h.lRx hlRx, h.ctrl hctrl, h.aside ▸ h.sOut hsOut, by omega, fun hi => by simp [hholds] at hi⟩

/-- The engine takes work that holds no buffer, or lets it go. -/
theorem State.Level.setWork {s t : State} (h : s.Level t) {w : Option Work} (hs : s.engineBuffers = 0)
    (ht : (t.setWork w).engineBuffers = 0) (hout : (t.setWork w).outboundFrames = 0) (hin : (t.setWork w).holdsInbound = false) :
    s.Stows (t.setWork w) := by
  have hstock : (t.setWork w).stock = t.stock := rfl
  refine ⟨fun hc => ?_, fun hc => ?_⟩
  · have := h.stock
    unfold State.Conserved at *
    rw [State.buffers_eq] at *
    omega
  · obtain ⟨hsIn, hlRx, hctrl, hsOut, hlTx, haside⟩ := hc
    have hplaces : (t.setWork w).lTx.length ≤ s.lTx.length := h.lTx
    exact ⟨h.sIn hsIn, h.lRx hlRx, h.ctrl hctrl, h.aside ▸ h.sOut hsOut, by omega, fun hi => by simp [hin] at hi⟩

/-- A start is the self check, an eligible inbound frame, or what the outbound order picks (R78). -/
theorem State.pick_cases {s : State} {p : Pick} (h : s.pick = some p) :
    p = .selfCheck ∨ p = .inbound ∧ s.inboundEligible = true ∨ s.outboundPick = some p := by
  unfold State.pick at h
  cases hin : s.inboundEligible <;> cases hout : s.outboundPick <;> cases hstate : s.partState <;> grind

/-- What the outbound order picks is outbound work, with a place of L-tx free (R67, R80). -/
theorem State.outboundPick_some {s : State} {p : Pick} (h : s.outboundPick = some p) :
    s.lTx.length < 32 ∧ (p = .control ∨ p = .test ∨ p = .data) := by
  unfold State.outboundPick at h
  split at h
  · exact absurd h nofun
  next hroom =>
    have hfree : s.lTxRoom = true := by simpa using hroom
    exact ⟨of_decide_eq_true hfree, by grind⟩

theorem State.pick_room {s : State} {p : Pick} (h : s.pick = some p) (hp : p = .control ∨ p = .data) :
    s.lTx.length < 32 := by
  obtain rfl | ⟨rfl, -⟩ | hout := State.pick_cases h
  · simp at hp
  · simp at hp
  · exact (State.outboundPick_some hout).1

/-- Inbound work is taken only with a place of S-out free (R78). -/
theorem State.pick_inbound {s : State} (h : s.pick = some .inbound) : s.sOut.length + s.pool.setAside.toNat < 32 := by
  obtain hp | ⟨-, heligible⟩ | hout := State.pick_cases h
  · exact absurd hp nofun
  · exact of_decide_eq_true ((Bool.and_eq_true _ _).mp heligible).2
  · simpa using (State.outboundPick_some hout).2

/-! ### Outbound starts -/

/-- The taken element and the rest are as long as the list. -/
theorem takeFirst_length {α : Type} {q : α → Bool} {l rest : List α} {a : α} (h : takeFirst q l = some (a, rest)) :
    rest.length + 1 = l.length := by
  induction l generalizing rest with
  | nil => simp [takeFirst] at h
  | cons b l ih =>
    rw [takeFirst] at h
    split at h
    next =>
      simp only [Option.some.injEq, Prod.mk.injEq] at h
      simp [h.2]
    next =>
      simp only [Option.map_eq_some_iff, Prod.mk.injEq, Prod.exists] at h
      obtain ⟨a', r, hr, rfl, rfl⟩ := h
      simpa using ih hr

theorem State.takeShop_length {s : State} {f : ShopFrame} {rest : List ShopFrame} (h : s.takeShop = some (f, rest)) :
    rest.length + 1 = s.sIn.length := by
  unfold State.takeShop at h
  split at h
  next hr => exact takeFirst_length (hr.trans h)
  next => exact takeFirst_length h

theorem State.setDirection_level (d : Direction) (s : State) : s.Level (s.setDirection d) :=
  .same ⟨rfl, rfl, rfl, rfl, rfl, rfl, rfl, rfl⟩

theorem State.refuseFrame_moves (f : ShopFrame) (r : RefuseReason) (s : State) : State.Moves 0 1 s (s.refuseFrame f r) := by
  have hcount : s.Level (if s.isOpenIndex f.channel ∧ r ≠ .noChannel then
      s.updChan f.channel fun c => { c with refused := satInc 4294967295 c.refused } else s) :=
    .ite (fun _ => State.updChan_level ..) fun _ => .refl s
  exact hcount.moves.trans (State.noticeOrFree_moves ..)

theorem State.charge_level (x c : Nat) (s : State) : s.Level (s.charge x c).1 := .of_steady (s.charge_steady x c) (by simp)

/-- From an idle engine with a place of L-tx free: the frame that has left its queue goes into flight or back. -/
theorem State.startFrame_stows {s u : State} (f : ShopFrame) (h : State.Moves 1 0 s u) (hidle : s.engine.work = none)
    (hroom : s.lTx.length < 32) : s.Stows (u.startFrame f) := by
  unfold State.startFrame
  split
  · exact ((h.trans (State.refuseFrame_moves ..)).level rfl).stows
  next i _ =>
    have hcharge := u.charge_level ((u.chan i).current.getD 0) (frameCost f.length)
    dsimp only
    split
    · have hmarks : ∀ (t : State) x g, t.Level ((((t.drawCounter x).1.markSlot x).markChannel i).updChan f.channel g) :=
        fun t x g => .same (by simp [State.drawCounter, State.markSlot, State.markChannel])
      exact State.Moves.launch (h.trans (hcharge.trans (hmarks ..)).moves) hidle hroom rfl nofun
    · exact (((h.trans hcharge.moves).trans (State.refuseFrame_moves ..)).level rfl).stows

theorem State.startData_stows (s : State) : s.Stows s.startData := by
  unfold State.startData
  split
  next hpick =>
    split
    · exact .refl s
    next f rest htaken =>
      have hlength := State.takeShop_length htaken
      have htake : State.Moves 1 0 s ((s.updSIn fun _ => rest).setDirection .outbound) := by
        refine State.Moves.trans (t := s.updSIn fun _ => rest) (c := 0) (d := 0) ?_ (State.setDirection_level ..)
        refine ⟨?_, rfl, rfl, ?_, ?_, ?_, ?_, ?_⟩ <;> simp [State.stock] <;> omega
      dsimp only
      split
      · exact State.startFrame_stows f htake (State.pick_idle hpick) (State.pick_room hpick (.inr rfl))
      · exact ((htake.trans (State.refuseFrame_moves ..)).level rfl).stows
  next => exact .refl s

theorem State.reportPlaced_level (n : Nat) (s : State) : s.Level (s.reportPlaced n) := .of_steady (s.reportPlaced_steady n) (by simp)

theorem State.launchControl_stows {s u : State} (m : CtrlMsg) (k : WorkKey) (n : Nat) (h : State.Moves 1 0 s u)
    (hidle : s.engine.work = none) (hroom : s.lTx.length < 32) : s.Stows (u.launchControl m k n) := by
  have hmarks : u.Level ((u.markChannel 0).updChan 0 fun c => { c with sent := satInc 4294967295 c.sent }) :=
    .same (by simp [State.markChannel])
  exact State.Moves.launch (h.trans hmarks.moves) hidle hroom rfl nofun

theorem State.startUnderRoot_stows {s u : State} (m : CtrlMsg) (h : State.Moves 1 0 s u)
    (hidle : s.engine.work = none) (hroom : s.lTx.length < 32) : s.Stows (u.startUnderRoot m) := by
  unfold State.startUnderRoot
  split
  · have hcount : ∀ (t : State) (g : Engine → DiscardCounts), t.Level (t.updEngine fun e => { e with discards := g e }) := fun t g =>
      .same ⟨rfl, rfl, rfl, rfl, rfl, rfl, rfl, rfl⟩
    exact (((h.trans u.returnBuffer_moves).trans ((hcount ..).trans (State.reportPlaced_level ..)).moves).level rfl).stows
  · have hdraw : u.Level u.drawRootCounter.1 := .same ⟨rfl, rfl, rfl, rfl, rfl, rfl, rfl, rfl⟩
    exact State.launchControl_stows m _ _ (h.trans hdraw.moves) hidle hroom

theorem State.startMessage_stows {s u : State} (m : CtrlMsg) (h : State.Moves 1 0 s u)
    (hidle : s.engine.work = none) (hroom : s.lTx.length < 32) : s.Stows (u.startMessage m) := by
  have hroot := State.startUnderRoot_stows m h hidle hroom
  unfold State.startMessage
  split
  next x _ =>
    have hcharge := u.charge_level x (frameCost m.payload.length)
    have hdraw : ∀ t : State, t.Level ((t.drawCounter x).1.markSlot x) := fun t =>
      .same (by simp [State.drawCounter, State.markSlot])
    split
    · dsimp only
      split
      · exact State.launchControl_stows m _ _ (h.trans (hcharge.trans (hdraw _)).moves) hidle hroom
      · exact State.startUnderRoot_stows m (h.trans hcharge.moves) hidle hroom
    · exact hroot
  · exact hroot

theorem State.startControl_stows (s : State) : s.Stows s.startControl := by
  unfold State.startControl
  split
  next hpick =>
    split
    · exact .refl s
    next m rest htaken =>
      have htake : State.Moves 1 0 s ((s.updCtrl fun _ => rest).setDirection .outbound) := by
        refine State.Moves.trans (t := s.updCtrl fun _ => rest) (c := 0) (d := 0) ?_ (State.setDirection_level ..)
        refine ⟨?_, rfl, rfl, ?_, ?_, ?_, ?_, ?_⟩ <;> simp [State.stock, htaken] <;> omega
      exact State.startMessage_stows m htake (State.pick_idle hpick) (State.pick_room hpick (.inl rfl))
  next => exact .refl s

/-! ### Inbound start -/

/-- What becomes of a frame whose place of S-out is set aside: into flight, or its buffer back and its place released. -/
inductive State.Received (s t : State) : Prop
  | flight (u : State) (f : LineIn) (k : WorkKey) (n i : Nat) (h : s.Level u) (ht : t = u.setWork (some (.inbound f k n i)))
  | discarded (u : State) (h : State.Moves 0 1 s u) (ht : (u.setAsidePlace false).Level t)

theorem State.Received.of_level {s t u : State} (h : s.Level t) (k : t.Received u) : s.Received u := by
  cases k with
  | flight v f k n i hv hu => exact .flight v f k n i (h.trans hv) hu
  | discarded v hv hu => exact .discarded v (h.moves.trans hv) hu

theorem State.discardExtra_level (r : Discard) (k : Option FoundKey) (s : State) : s.Level (s.discardExtra r k) := by
  unfold State.discardExtra
  split
  · exact .of_steady s.countMalformed_steady (by simp)
  · exact State.updLink_level ..
  · exact .of_steady (State.countReplay_steady ..) (by simp)
  · exact .of_steady (State.countTagFailure_steady ..) (by simp)
  · exact .refl s

theorem State.discardFrame_received (r : Discard) (i : Nat) (k : Option FoundKey) (s : State) :
    s.Received (s.discardFrame r i k) := by
  refine .discarded s.returnBuffer s.returnBuffer_moves (.trans ?_ (State.discardExtra_level ..))
  have hcount : ∀ (t : State) (g : Engine → DiscardCounts), t.Level (t.updEngine fun e => { e with discards := g e }) := fun t g =>
    .same ⟨rfl, rfl, rfl, rfl, rfl, rfl, rfl, rfl⟩
  exact (hcount _ fun e => e.discards.add r).trans (.ite (fun _ => State.updChan_level ..) fun _ => .refl _)

theorem State.launchInbound_received (f : LineIn) (k : FoundKey) (i : Nat) (s : State) :
    s.Received (s.launchInbound f k i) := by
  have hswitch : ∀ c, s.Level (s.completeRenewal c) := fun c => .of_steady (State.completeRenewal_steady c s) (by simp)
  have hslot : ∀ (t : State) x, t.Level ((t.markSlot x).markChannel i) := fun t x =>
    .same (by simp [State.markSlot, State.markChannel])
  have hchan : ∀ t : State, t.Level (t.markChannel i) := fun t => .same (by simp [State.markChannel])
  cases k with
  | slot x => exact .flight _ _ _ _ _ (hslot s x) rfl
  | successor x y c => exact .flight _ _ _ _ _ ((hswitch c).trans (hslot _ y)) rfl
  | root => exact .flight _ _ _ _ _ (hchan s) rfl

theorem State.checkKey_received (f : LineIn) (i : Nat) (s : State) : s.Received (s.checkKey f i) := by
  have hwindow : ∀ k n, s.Level (s.updateWindow k n) := fun k n => by
    unfold State.updateWindow
    split
    · exact State.updSlot_level ..
    · exact .refl s
  have hvalid : ∀ t : State, t.Level t.reportValid := fun t => .of_steady t.reportValid_steady (by simp)
  unfold State.checkKey
  dsimp only
  split
  · exact State.discardFrame_received ..
  next k _ =>
    have hchecked := (hwindow k f.parts.header.counter.toNat).trans (hvalid _)
    split
    · exact State.discardFrame_received ..
    split
    · exact State.discardFrame_received ..
    split
    · exact State.discardFrame_received ..
    split
    · exact .of_level hchecked (State.discardFrame_received ..)
    · exact .of_level hchecked (State.launchInbound_received ..)

theorem State.checkInbound_received (f : LineIn) (s : State) : s.Received (s.checkInbound f) := by
  unfold State.checkInbound
  dsimp only
  split_ifs
  all_goals first
    | exact State.discardFrame_received ..
    | exact State.checkKey_received ..

/-- A received frame in flight: its buffer is the engine's and its place stays set aside. -/
theorem State.Received.stows_flight {s u v : State} (htake : State.Moves 1 0 s u) (hidle : s.engine.work = none)
    (hroom : u.sOut.length + 1 ≤ 32) (h : (u.setAsidePlace true).Level v) (f : LineIn) (k : WorkKey) (n i : Nat) :
    s.Stows (v.setWork (some (.inbound f k n i))) := by
  have hmoved := htake.stock
  have hflight : v.stock + 0 = u.stock + 0 := h.stock
  refine ⟨fun hs => ?_, fun hs => ?_⟩
  · have heq : (v.setWork (some (.inbound f k n i))).buffers = v.stock + 1 := rfl
    have hbuffers : s.buffers = s.stock := by simp [State.buffers_eq, State.engineBuffers, hidle]
    unfold State.Conserved at *
    omega
  · obtain ⟨hsIn, hlRx, hctrl, -, hlTx, -⟩ := hs
    have hplaces : v.lTx.length ≤ s.lTx.length := h.lTx.trans htake.lTx
    exact ⟨h.sIn (htake.sIn hsIn), h.lRx (htake.lRx hlRx), h.ctrl (htake.ctrl hctrl), h.aside ▸ h.sOut hroom,
      show v.lTx.length + 0 ≤ 32 by omega, fun _ => h.aside⟩

/-- A discarded frame: its buffer is free again and its place released. -/
theorem State.Received.stows_discarded {s u v t : State} (htake : State.Moves 1 0 s u) (hidle : s.engine.work = none)
    (hroom : u.sOut.length + 1 ≤ 32) (h : State.Moves 0 1 (u.setAsidePlace true) v) (ht : (v.setAsidePlace false).Level t) :
    s.Stows t := by
  have hwork : t.engine.work = none := (ht.work.trans h.work).trans (htake.work.trans hidle)
  have hmoved := htake.stock
  have hback : v.stock + 0 = u.stock + 1 := h.stock
  have hdone : t.stock + 0 = v.stock + 0 := ht.stock
  refine ⟨fun hs => ?_, fun hs => ?_⟩
  · have hs' : s.buffers = s.stock := by simp [State.buffers_eq, State.engineBuffers, hidle]
    have ht' : t.buffers = t.stock := by simp [State.buffers_eq, State.engineBuffers, hwork]
    unfold State.Conserved at *
    omega
  · obtain ⟨hsIn, hlRx, hctrl, -, hlTx, -⟩ := hs
    have hplaces : t.lTx.length ≤ s.lTx.length := ht.lTx.trans (h.lTx.trans htake.lTx)
    have hfreed : v.sOut.length + 0 ≤ 32 := by
      have hset : v.sOut.length + 1 ≤ 32 := h.sOut hroom
      omega
    refine ⟨ht.sIn (h.sIn (htake.sIn hsIn)), ht.lRx (h.lRx (htake.lRx hlRx)), ht.ctrl (h.ctrl (htake.ctrl hctrl)),
      ht.aside ▸ ht.sOut hfreed, ?_, ?_⟩
    · simp only [State.outboundFrames, hwork]
      omega
    · simp [State.holdsInbound, hwork]

theorem State.Received.stows {s u t : State} (htake : State.Moves 1 0 s u) (hidle : s.engine.work = none)
    (hroom : u.sOut.length + 1 ≤ 32) (h : (u.setAsidePlace true).Received t) : s.Stows t := by
  cases h with
  | flight v f k n i h ht => exact ht ▸ State.Received.stows_flight htake hidle hroom h f k n i
  | discarded v h ht => exact State.Received.stows_discarded htake hidle hroom h ht

theorem State.startInbound_stows (s : State) : s.Stows s.startInbound := by
  unfold State.startInbound
  split
  next hpick =>
    split
    · exact .refl s
    next f rest htaken =>
      have htake : State.Moves 1 0 s ((s.updLRx fun _ => rest).setDirection .inbound) := by
        refine State.Moves.trans (t := s.updLRx fun _ => rest) (c := 0) (d := 0) ?_ (State.setDirection_level ..)
        refine ⟨?_, rfl, rfl, ?_, ?_, ?_, ?_, ?_⟩ <;> simp [State.stock, htaken] <;> omega
      have hroom := State.pick_inbound hpick
      exact State.Received.stows htake (State.pick_idle hpick) (show s.sOut.length + 1 ≤ 32 by omega) (State.checkInbound_received ..)
  next => exact .refl s

/-! ### TEST, SELF CHECK and the completions -/

theorem State.startTest_stows (s : State) : s.Stows s.startTest := by
  unfold State.startTest
  split
  next hpick =>
    have hidle : s.engineBuffers = 0 := by simp [State.engineBuffers, State.pick_idle hpick]
    split
    · exact (State.setDirection_level ..).setWork hidle rfl rfl rfl
    · exact .refl s
  next => exact .refl s

theorem State.startSelfCheck_stows (s : State) : s.Stows s.startSelfCheck := by
  unfold State.startSelfCheck
  split
  next hpick =>
    have hidle : s.engineBuffers = 0 := by simp [State.engineBuffers, State.pick_idle hpick]
    have hwork := (State.Level.refl s).setWork (w := some .selfCheck) hidle rfl rfl rfl
    exact ⟨hwork.conserved, hwork.capacity⟩
  next => exact .refl s

/-- The end of a flight frees the engine and moves no buffer (R96). -/
theorem State.endFlight_level (i : Nat) (k : KeyRef) (s : State) : ∃ u, s.Level u ∧ s.endFlight i k = u.setWork none := by
  cases k with
  | slot x =>
    refine ⟨_, ?_, rfl⟩
    exact ((State.updChan_level ..).trans (State.updSlot_level x (fun v => { v with engineUse := false }) _)).trans
      (.of_steady (State.endDrain_steady ..) (by simp))
  | root => exact ⟨_, .same (by simp), rfl⟩

/-- A frame that leaves flight: its buffer has joined a queue or the free set, its places are given up. -/
theorem State.endFlight_stows {s t : State} {w : Work} (i : Nat) (k : KeyRef) (hw : s.engine.work = some w) (hbuffers : w.buffers = 1)
    (hstock : t.stock = s.stock + 1)
    (hcapacity : s.WithinCapacity → t.sIn.length ≤ 32 ∧ t.lRx.length ≤ 32 ∧ t.ctrl.length ≤ 8
      ∧ t.sOut.length + t.pool.setAside.toNat ≤ 32 ∧ t.lTx.length ≤ 32) : s.Stows (t.endFlight i k) := by
  obtain ⟨u, h, heq⟩ := t.endFlight_level i k
  rw [heq]
  refine ⟨fun hs => ?_, fun hs => ?_⟩
  · have hmoved := h.stock
    have hend : (u.setWork none).buffers = u.stock := rfl
    unfold State.Conserved at *
    rw [State.buffers_eq s] at hs
    simp only [State.engineBuffers, hw, hbuffers] at hs
    omega
  · obtain ⟨hsIn, hlRx, hctrl, hsOut, hlTx⟩ := hcapacity hs
    have hplaces := h.lTx
    exact ⟨h.sIn hsIn, h.lRx hlRx, h.ctrl hctrl, h.aside ▸ h.sOut hsOut, show u.lTx.length + 0 ≤ 32 by omega,
      fun hi => absurd hi (by simp [State.holdsInbound, State.setWork])⟩

theorem State.completeOutbound_stows (s : State) : s.Stows s.completeOutbound := by
  have hplace : ∀ b, (s.updLTx fun l => l ++ [b]).stock = s.stock + 1 := fun b => by simp [State.stock]; omega
  have hcapacity : s.outboundFrames = 1 → ∀ b, s.WithinCapacity → (s.updLTx fun l => l ++ [b]).sIn.length ≤ 32
      ∧ (s.updLTx fun l => l ++ [b]).lRx.length ≤ 32 ∧ (s.updLTx fun l => l ++ [b]).ctrl.length ≤ 8
      ∧ (s.updLTx fun l => l ++ [b]).sOut.length + (s.updLTx fun l => l ++ [b]).pool.setAside.toNat ≤ 32
      ∧ (s.updLTx fun l => l ++ [b]).lTx.length ≤ 32 := by
    intro hout b ⟨hsIn, hlRx, hctrl, hsOut, hlTx, _⟩
    exact ⟨hsIn, hlRx, hctrl, hsOut, by simp; omega⟩
  unfold State.completeOutbound
  split
  next hw => exact State.endFlight_stows _ _ hw rfl (hplace _) (hcapacity (by simp [State.outboundFrames, hw]) _)
  next m k n hw =>
    have h := State.reportPlaced_level m.serial (s.updLTx fun l => l ++
      [buildFrame k.material (s.outHeader kindControl 0 k n m.payload.length) m.payload])
    refine State.endFlight_stows _ _ hw rfl (by have := h.stock; rw [hplace] at this; omega) fun hs => ?_
    obtain ⟨hsIn, hlRx, hctrl, hsOut, hlTx⟩ := hcapacity (by simp [State.outboundFrames, hw])
      (buildFrame k.material (s.outHeader kindControl 0 k n m.payload.length) m.payload) hs
    exact ⟨h.sIn hsIn, h.lRx hlRx, h.ctrl hctrl, h.aside ▸ h.sOut hsOut, h.lTx.trans hlTx⟩
  all_goals exact .refl s

/-- A data frame joins S-out at its place (R97). -/
theorem State.deliverData_stows {s : State} {f : LineIn} {k : WorkKey} {n i : Nat}
    (hw : s.engine.work = some (.inbound f k n i)) : s.Stows ((s.deliverData f k i).endFlight i k.ref) := by
  have hstock : (s.deliverData f k i).stock = s.stock + 1 := by
    unfold State.deliverData
    dsimp only
    split_ifs <;> simp [State.stock, State.setAsidePlace] <;> omega
  refine State.endFlight_stows _ _ hw rfl hstock ?_
  rintro ⟨hsIn, hlRx, hctrl, hsOut, hlTx, haside⟩
  have hset := haside (by simp [State.holdsInbound, hw])
  simp only [hset, Bool.toNat_true] at hsOut
  unfold State.deliverData
  dsimp only
  split_ifs <;> simp [State.setAsidePlace] <;> omega

/-- A frame whose buffer has returned gives up its place of S-out and leaves flight (R97). -/
theorem State.Moves.release {s v : State} {f : LineIn} {k : WorkKey} {n i : Nat} (h : State.Moves 0 1 s v)
    (hw : s.engine.work = some (.inbound f k n i)) (g : Channel → Channel) :
    s.Stows (((v.setAsidePlace false).updChan 0 g).endFlight i k.ref) := by
  have hstock := h.stock
  refine State.endFlight_stows _ _ hw rfl (show v.stock = s.stock + 1 by omega) ?_
  rintro ⟨hsIn, hlRx, hctrl, hsOut, hlTx, -⟩
  have hplaces := h.lTx
  have hout := h.sOut hsOut
  exact ⟨h.sIn hsIn, h.lRx hlRx, h.ctrl hctrl, show v.sOut.length + 0 ≤ 32 by omega, show v.lTx.length ≤ 32 by omega⟩

/-- A control frame acts, and its buffer returns (R97). -/
theorem State.deliverControl_stows {s : State} {f : LineIn} {k : WorkKey} {n i : Nat}
    (hw : s.engine.work = some (.inbound f k n i)) : s.Stows ((s.deliverControl f k).endFlight i k.ref) := by
  have hcomposed : ∀ t : State, t.Level (if s.echoTookLast (parseMessage (f.payload k.material)) t then t.takeComposition else t) :=
    fun t => .ite (fun _ => t.takeComposition_level) fun _ => .refl t
  have hacted := (s.handleControl_level (f.payload k.material)).trans (hcomposed _)
  unfold State.deliverControl
  exact State.Moves.release (hacted.moves.trans (State.returnBuffer_moves _)) hw _

theorem State.completeInbound_stows (s : State) : s.Stows s.completeInbound := by
  unfold State.completeInbound
  split
  next hw =>
    dsimp only
    split
    · exact State.deliverControl_stows hw
    · exact State.deliverData_stows hw
  all_goals exact .refl s

theorem State.completeTest_stows (a : BitVec 64) (b : BitVec 512) (s : State) : s.Stows (s.completeTest a b) := by
  unfold State.completeTest
  split
  next hw _ =>
    have hidle := (State.Level.refl s).setWork (w := none) (by simp [State.engineBuffers, hw, Work.buffers]) rfl rfl rfl
    refine hidle.trans (State.Level.ite (fun _ => State.updLink_level ..) fun _ => ?_).stows
    exact .of_steady (State.endTest_steady ..) (by simp)
  next => exact .refl s

theorem State.completeSelfCheck_stows (upset : Block) (s : State) : s.Stows (s.completeSelfCheck upset) := by
  have hpart : ∀ (t : State) p, t.Level (t.setPartState p) := fun t p => .same (by simp)
  have hboot : ∀ t : State, t.Level t.enterBootstrap := fun t => .of_steady t.enterBootstrap_steady (by simp)
  unfold State.completeSelfCheck
  split
  next hw =>
    have hidle := (State.Level.refl s).setWork (w := none) (by simp [State.engineBuffers, hw, Work.buffers]) rfl rfl rfl
    exact (hidle.trans (State.Level.ite (fun _ => hpart ..) fun _ => .ite (fun _ => hboot _) fun _ => hpart ..).stows).trans
      (State.executeWaitingErase_stows _)
  all_goals exact .refl s

theorem State.completeLoadRoot_stows (s : State) : s.Stows s.completeLoadRoot := by
  have hboot : ∀ t : State, t.Level t.enterBootstrap := fun t => .of_steady t.enterBootstrap_steady (by simp)
  have hroot : ∀ g, s.Level (s.updRoot g) := fun g => .same (by simp)
  unfold State.completeLoadRoot
  split
  · exact (((hroot _).trans (State.respond_level ..)).trans (hboot _)).stows.trans (State.executeWaitingErase_stows _)
  all_goals exact .refl s

/-! ### Every command -/

theorem State.tickAll_level (s : State) : s.Level s.tickAll := .of_steady s.tickAll_steady (by simp [State.tickAll])

theorem State.endOverrun_level (s : State) (p : Port) : s.Level (s.endOverrun p) := by
  have hcount : ∀ g, s.Level (s.updPoolPort p g) := fun g => by cases p <;> exact .same ⟨rfl, rfl, rfl, rfl, rfl, rfl, rfl, rfl⟩
  exact .ite (fun _ => (hcount _).trans (State.raiseFault_level ..)) fun _ =>
    .ite (fun _ => (hcount _).trans (.of_steady (State.clearFault_steady ..) (by simp))) fun _ => .refl s

theorem State.endBurst_level (s : State) (x : Nat) : s.Level (s.endBurst x) := .of_steady (s.endBurst_steady x) (by simp)

theorem State.clearIntervalCounts_level (s : State) : s.Level s.clearIntervalCounts := .same (by simp)

theorem State.endInterval_level (s : State) : s.Level s.endInterval := by
  unfold State.endInterval
  extract_lets t0 t1 t2
  refine .ite (fun _ => ?_) fun _ => .refl s
  have h0 : s.Level t0 := .same ⟨rfl, rfl, rfl, rfl, rfl, rfl, rfl, rfl⟩
  have h1 : t0.Level t1 := .foldl (fun t x => .of_steady (t.visitSlot_steady x) (by simp)) ..
  have h2 : t1.Level t2 := .trans (.foldl State.endBurst_level ..) (State.clearIntervalCounts_level _)
  exact (((h0.trans h1).trans h2).trans ((t2.endOverrun_level .s).trans (State.endOverrun_level _ .l))).trans
    (.same (by simp))

theorem State.Stows.of_next {s t u : State} (h : s.Stows u)
    (ht : (Host.Outcome.next u : Host.Outcome State Fault Refusal) = .next t) : s.Stows t := by
  rwa [← Host.Outcome.next.inj ht]

/-- Every command keeps the buffers and the places. -/
theorem exec_stows (i : Instr) {s t : State} (h : exec i s = .next t) : s.Stows t := by
  have hcommand : ∀ p ws, s.Stows (s.writeCommandWords p ws) := s.writeCommandWords_stows
  cases i with
  | powerOn written =>
    exact (State.Emptied.stows (t := s.powerOn written) ⟨rfl, rfl, rfl, rfl, rfl, rfl, rfl⟩ (.refl _)).of_next h
  | tick => exact s.tickAll_level.stows.of_next h
  | keyAgeLimit slot => exact onSlot_next h ▸ (State.Level.of_steady (State.ageTest_steady ..) (by simp)).stows
  | keyGraceExpiry slot => exact onSlot_next h ▸ (State.Level.of_steady (State.graceTest_steady ..) (by simp)).stows
  | accountIntervalEnd => exact s.endInterval_level.stows.of_next h
  | drainEnd slot => exact onSlot_next h ▸ (State.Level.of_steady (State.endDrain_steady ..) (by simp)).stows
  | eraseWindowExpiry => exact (State.Level.same (t := s.expireWindow) (by simp)).stows.of_next h
  | quietWatchExpiry => exact (State.Level.of_steady s.expireQuiet_steady (by simp)).stows.of_next h
  | replyTimerExpiry context => exact onContext_next h ▸ (State.expireReply_level ..).stows
  | backoffEnd slot => exact onSlot_next h ▸ (State.Level.of_steady (State.endBackoff_steady ..) (by simp)).stows
  | bootBackoffEnd => exact (State.Level.of_steady s.endBootBackoff_steady (by simp)).stows.of_next h
  | contextComposeRetry context => exact onContext_next h ▸ (State.retryCompose_level ..).stows
  | bootTriggerRelisted => exact (State.Level.of_steady s.relistBoot_steady (by simp)).stows.of_next h
  | beaconCycleEnd => exact s.endCycle_level.stows.of_next h
  | exchangeStart => exact s.startExchange_level.stows.of_next h
  | selfCheckStart => exact s.startSelfCheck_stows.of_next h
  | selfCheckCompletion upset => exact (s.completeSelfCheck_stows upset).of_next h
  | outboundDataStart => exact s.startData_stows.of_next h
  | outboundControlStart => exact s.startControl_stows.of_next h
  | inboundStart => exact s.startInbound_stows.of_next h
  | testStart => exact s.startTest_stows.of_next h
  | outboundCompletion => exact s.completeOutbound_stows.of_next h
  | inboundCompletion => exact s.completeInbound_stows.of_next h
  | testCompletion tagUpset textUpset => exact (s.completeTest_stows ..).of_next h
  | frameInWrite port w => exact (s.writeFrameIn_level port w).stows.of_next h
  | frameOutRead port => exact (s.readFrameOut_level port).stows.of_next h
  | responseRead port => exact (s.readResponse_level port).stows.of_next h
  | mailboxWrite port w => exact (s.writeMailbox_level port w).stows.of_next h
  | mailboxRead port => exact (s.readMailbox_level port).stows.of_next h
  | statusRead port => exact (s.readStatus_level port).stows.of_next h
  | registerWriteOther port select access =>
    cases access with
    | write w => exact (s.writeAccess_stows port select w).of_next h
    | read => exact (s.readAccess_level port select).stows.of_next h
  | loadRootWriteComplete => exact s.completeLoadRoot_stows.of_next h
  | _ => exact (hcommand ..).of_next h

/-- Settles O4. -/
theorem stepKeepsBuffersAndQueues : Obligations.StepKeepsBuffersAndQueues := by
  intro s t h
  unfold step at h
  split at h
  · exact Host.Outcome.next.inj h ▸ ⟨id, id⟩
  next c rest _ =>
    obtain ⟨hconserved, hcapacity⟩ := exec_stows c h
    exact ⟨hconserved, hcapacity⟩

end Sys2Proof.Machine
end

section
/-! The step, the start, and the commands of the S-port that set the part state and the beacon (R1, R2, R26, R169, R176, R155,
R156, R180). -/

namespace Sys2Proof.Machine

/-! ### The step and power-on -/

/-- Settles O1. -/
theorem stepRunsFrontCommand : Obligations.StepRunsFrontCommand := by
  refine ⟨fun c q s h => ?_, fun s h => ?_⟩
  · rw [step, h]; rfl
  · rw [step, h]

/-- Settles O11. -/
theorem powerOnReadsRoot : Obligations.PowerOnReadsRoot := by
  intro written s
  refine ⟨s.powerOn written, rfl, rfl, rfl, ?_, ?_⟩
  · rintro rfl; rfl
  · rintro rfl; rfl

theorem State.reset_erased : State.reset.Erased := State.erased_of_reset rfl rfl rfl

theorem State.chan_reset (i : Nat) :
    State.reset.chan i = if i = 0 then { kind := .control, state := .opened } else {} := by
  by_cases h0 : i = 0
  · subst h0; rfl
  · rw [if_neg h0]
    by_cases hi : i < 48
    · have h0' : 0 ≠ i := Ne.symm h0
      simp [State.chan, State.reset, h0', hi]
    · exact State.chan_out _ _ hi

theorem State.ctx_reset (c : Nat) : State.reset.ctx c = {} := by
  by_cases hc : c < 4
  · simp [State.ctx, State.reset, hc]
  · exact State.ctx_out _ _ hc

theorem State.countChans_eq_zero {s : State} {q : Channel → Bool} (h : ∀ i, i < 48 → q (s.chan i) = false) :
    s.countChans q = 0 := by
  rw [State.countChans, List.countP_eq_zero]
  intro c hc
  obtain ⟨i, hi, rfl⟩ := List.mem_iff_getElem.mp hc
  have hi' : i < 48 := by simpa using hi
  simpa [State.chan, hi'] using h i hi'

theorem State.referenceLaw_reset : State.reset.ReferenceLaw := by
  have hslot : ∀ x, State.reset.slot x = {} := State.reset_erased.slots
  have hnone : ∀ i, (State.reset.chan i).current = none ∧ (State.reset.chan i).alternate = none := fun i => by
    rw [State.chan_reset]; split_ifs <;> exact ⟨rfl, rfl⟩
  refine ⟨fun x _ _ => ?_, fun i x h => ?_, fun i x h => ?_, fun i h => ?_, fun i h => ?_, rfl, rfl, fun _ => rfl⟩
  · rw [hslot, State.countChans_eq_zero fun i _ => by simp [hnone], State.countChans_eq_zero fun i _ => by simp [hnone]]
  · simp [hnone] at h
  · simp [hnone] at h
  · rw [State.chan_reset] at h; split_ifs at h
  · rw [State.chan_reset, if_neg h]; simp

theorem State.aliasLaw_reset : State.reset.AliasLaw := by
  have halias : ∀ i, (State.reset.chan i).kind ≠ .aliased := fun i => by
    rw [State.chan_reset]; split_ifs <;> simp
  refine ⟨fun i h => absurd h (halias i), fun g _ => ?_⟩
  rw [State.countChans_eq_zero fun i _ => by simp [Channel.aliasTo, halias], State.chan_reset]
  split_ifs <;> rfl

theorem State.linkLaw_reset : State.reset.LinkLaw := by
  have hslot : ∀ x, State.reset.slot x = {} := State.reset_erased.slots
  simp [State.LinkLaw, hslot]

theorem State.exchangeLaw_reset : State.reset.ExchangeLaw := by
  have hslot : ∀ x, State.reset.slot x = {} := State.reset_erased.slots
  have hnext : State.reset.messenger.nextExchange = 1 := rfl
  have hlist : State.reset.renewal.list = [] := rfl
  simp [State.ExchangeLaw, State.ctx_reset, hslot, hnext, hlist, Context.isOpen]

/-- Settles O3: the tables are read entry by entry, the laws from the empty tables. -/
theorem resetIsPowerOnState : Obligations.ResetIsPowerOnState := by
  refine ⟨rfl, rfl, rfl, rfl, fun i hi => ?_, State.reset_erased.slots, rfl, rfl, rfl, rfl, rfl, rfl, rfl, rfl, rfl, rfl, rfl,
    rfl, rfl, rfl, fun c => ?_, rfl, rfl, rfl, rfl, rfl, rfl, fun p => ?_, rfl, ?_, fun x => ?_,
    State.NoMarks.law State.reset_erased.noMarks, ?_, ?_, State.referenceLaw_reset, State.aliasLaw_reset, State.linkLaw_reset,
    State.exchangeLaw_reset⟩
  · rw [State.chan_reset, if_neg (by omega)]
  · rw [State.ctx_reset]; rfl
  · cases p <;> exact ⟨rfl, rfl, rfl, rfl⟩
  · simp [State.WithinCapacity, State.outboundFrames, State.holdsInbound, State.reset]
  · rw [State.reset_erased.slots]
  · simp [State.RequestListLaw, State.reset]
  · simp [State.FaultListLaw, State.reset]

/-! ### The commands of the S-port -/

/-- Settles O57. -/
theorem quiesceAndResume : Obligations.QuiesceAndResume := by
  intro s hidle
  have hquiesce : exec (.quiesce .s) s = .next (quiesce .s s) :=
    congrArg Host.Outcome.next (State.writeCommandWords_idle_s .quiesce s [] hidle rfl rfl)
  have hresume : exec (.resume .s) s = .next (resume .s s) :=
    congrArg Host.Outcome.next (State.writeCommandWords_idle_s .resume s [] hidle rfl rfl)
  rw [hquiesce, hresume, quiesce, resume]
  refine ⟨fun h => ?_, fun h => ?_, fun h => ?_, fun h => ?_⟩
  · rw [if_neg (not_not_intro h)]; rfl
  · rw [if_pos h]; rfl
  · rw [if_neg (not_not_intro h)]; rfl
  · rw [if_pos h]; rfl

/-- The clamps of R155 by cases. -/
theorem clampedSettings_eq (m : BeaconMode) (w : Word) :
    clampedSettings m w =
      { mode := m
        period := if fieldLow w < 5 then 5 else if 3600 < fieldLow w then 3600 else fieldLow w
        repeats := if 15 < fieldB w then 15 else fieldB w } := by
  have hperiod : max 5 (min (fieldLow w) 3600) = if fieldLow w < 5 then 5 else if 3600 < fieldLow w then 3600 else fieldLow w := by
    split_ifs <;> omega
  have hrepeats : min (fieldB w) 15 = if 15 < fieldB w then 15 else fieldB w := by
    split_ifs <;> omega
  rw [clampedSettings, hperiod, hrepeats]

theorem beaconModeOf_none {n : Nat} (h : 2 < n) : beaconModeOf n = none := by
  unfold beaconModeOf
  split <;> first | omega | rfl

/-- The word of clamped settings gives them back (R185). -/
theorem beaconWord_fields {m : BeaconMode} {b : BeaconSettings} (hmode : b.mode = m) (hperiod : b.period < 65536)
    (hrepeats : b.repeats < 256) :
    fieldA (beaconWord b) = m.code ∧ fieldB (beaconWord b) = b.repeats ∧ fieldLow (beaconWord b) = b.period := by
  subst hmode
  have hcode : b.mode.code < 256 := by cases b.mode <;> decide
  have hword : (beaconWord b).toNat = b.mode.code * 16777216 + b.repeats * 65536 + b.period := by
    unfold beaconWord
    rw [show (BitVec.ofNat 8 b.mode.code ++ BitVec.ofNat 8 b.repeats ++ BitVec.ofNat 16 b.period : Word).toNat = _ from
        toNat_append_eq (m := 16) (n := 16) (BitVec.ofNat 8 b.mode.code ++ BitVec.ofNat 8 b.repeats) _,
      show (BitVec.ofNat 8 b.mode.code ++ BitVec.ofNat 8 b.repeats : BitVec 16).toNat = _ from
        toNat_append_eq (m := 8) (n := 8) _ _]
    simp only [BitVec.toNat_ofNat]
    omega
  rw [fieldA_toNat, fieldB_toNat, fieldLow_toNat, hword]
  omega

/-- Settles O54. -/
theorem beaconCommandsSetCommitHalt : Obligations.BeaconCommandsSetCommitHalt := by
  intro s hidle
  have hset : ∀ w2, exec (.beaconSet .s w2) s = .next (beaconSet .s w2 s) := fun w2 =>
    congrArg Host.Outcome.next (State.writeCommandWords_idle_s .beaconSet s [w2] hidle rfl rfl)
  have hcommit : exec (.beaconCommit .s) s = .next (beaconCommit .s s) :=
    congrArg Host.Outcome.next (State.writeCommandWords_idle_s .beaconCommit s [] hidle rfl rfl)
  have hhalt : exec (.beaconHalt .s) s = .next (beaconHalt .s s) :=
    congrArg Host.Outcome.next (State.writeCommandWords_idle_s .beaconHalt s [] hidle rfl rfl)
  refine ⟨fun w2 m hm => ?set, fun w2 hw => ?bad, ⟨_, hcommit, ?frame, fun hmode => ?idle, fun hmode => ?cycle⟩,
    ⟨_, hhalt, rfl, rfl⟩⟩
  case set =>
    have heffect : beaconSet .s w2 s = (s.updBeacon fun b => { b with shadow := clampedSettings m w2 }).respond .s .done
        [beaconWord (clampedSettings m w2)] := by simp only [beaconSet, hm]
    refine ⟨_, beaconWord (clampedSettings m w2), (hset w2).trans (congrArg Host.Outcome.next heffect), ?_, ?_⟩
    · rw [← clampedSettings_eq]; rfl
    · refine beaconWord_fields rfl ?_ ?_ <;> simp only [clampedSettings] <;> omega
  case bad =>
    rw [hset, beaconSet, beaconModeOf_none hw]
    rfl
  case frame =>
    have hworking : s.beacon.commit.working = s.beacon.shadow := by
      unfold Beacon.commit
      dsimp only
      split
      · split <;> rfl
      · rfl
      · rfl
    rw [beaconCommit, hworking]
    rfl
  case idle =>
    have h : s.beacon.commit = { s.beacon with working := s.beacon.shadow, lastCycle := s.beacon.lastCycle || s.beacon.running } := by
      cases hrun : s.beacon.running <;> simp [Beacon.commit, hmode, hrun]
    exact h
  case cycle =>
    have h : s.beacon.commit = { s.beacon with
        working := s.beacon.shadow, running := true, remaining := s.beacon.shadow.period
        cycleMode := s.beacon.shadow.mode, lastCycle := false
        oneShot := if s.beacon.shadow.mode = .oneShot then s.beacon.shadow.repeats + 1 else s.beacon.oneShot } := by
      cases hm : s.beacon.shadow.mode with
      | idle => exact absurd hm hmode
      | oneShot => simp [Beacon.commit, hm]
      | continuous => simp [Beacon.commit, hm]
    exact h

/-- A command of the other port's alone, written to an idle port (R169 step 2). -/
theorem State.writeCommandWords_refused (c : Command) (s : State) (p : Port) (args : List Word) (h : (s.port p).cmd = .idle)
    (hl : args.length + 1 = c.words) (hp : c.permits p = false) :
    s.writeCommandWords p (c.firstWord :: args) = s.refuse p .refusedPort := by
  rw [State.writeCommandWords_idle c s p args h hl, if_neg (by simp [hp])]

/-- Settles O41. -/
theorem wrongPortIsRefused : Obligations.WrongPortIsRefused := by
  refine ⟨fun s w2 w3 w4 w5 w6 i hidle hi => ?_, fun s w2 hidle => ?_⟩
  · have hrefused : ∀ (c : Command) (args : List Word), args.length + 1 = c.words → c.permits .l = false →
        (Host.Outcome.next (s.writeCommandWords .l (c.firstWord :: args)) : Host.Outcome State Fault Refusal)
          = .next { s with lPort := s.lPort.withAnswer .refusedPort [] } := fun c args hl hp =>
      congrArg Host.Outcome.next (State.writeCommandWords_refused c s .l args hidle hl hp)
    simp only [List.mem_cons, List.not_mem_nil, or_false] at hi
    obtain rfl | rfl | rfl | rfl | rfl | rfl | rfl | rfl | rfl | rfl | rfl | rfl | rfl := hi
    · exact hrefused .channelOpen [w2, w3] rfl rfl
    · exact hrefused .channelClose [w2] rfl rfl
    · exact hrefused .channelFlags [w2, w3] rfl rfl
    · exact hrefused .channelReset [w2] rfl rfl
    · exact hrefused .renewNow [w2] rfl rfl
    · exact hrefused .faultDismiss [w2] rfl rfl
    · exact hrefused .beaconSet [w2] rfl rfl
    · exact hrefused .beaconCommit [] rfl rfl
    · exact hrefused .beaconHalt [] rfl rfl
    · exact hrefused .loadRoot [w2, w3, w4, w5, w6] rfl rfl
    · exact hrefused .partReset [] rfl rfl
    · exact hrefused .quiesce [] rfl rfl
    · exact hrefused .resume [] rfl rfl
  · exact congrArg Host.Outcome.next (State.writeCommandWords_refused .localLoop s .s [w2] hidle rfl rfl)

/-! ### The quiet watch -/

/-- Settles O17. -/
theorem quietWatchRaisesOnce : Obligations.QuietWatchRaisesOnce := by
  intro s hrun hzero
  refine ⟨fun hmark => ?held, fun hmark => ⟨_, rfl, ?effect⟩⟩
  case held =>
    have h : s.expireQuiet = s := if_neg fun hraise => by simp [hmark] at hraise
    exact congrArg Host.Outcome.next h
  case effect =>
    have h : s.expireQuiet = (s.updLink fun l => { l with quietMark := true }).raiseFault .linkQuiet .link :=
      if_pos ⟨hrun, hzero, hmark⟩
    rw [h]
    exact ⟨State.raiseFault_same .linkQuiet .link (s.updLink fun l => { l with quietMark := true }),
      State.raiseFault_stands ..⟩

end Sys2Proof.Machine
end

section
/-! Every well-formed command goes on and leaves the queue alone; an ill-formed one faults (log entry 3). -/

namespace Sys2Proof.Machine

/-! ### The queue under what has no frame of its own -/

theorem State.pending_ite {c : Prop} [Decidable c] {s t u : State} (ht : t.pending = s.pending) (hu : u.pending = s.pending) :
    (if c then t else u).pending = s.pending := by
  split
  · exact ht
  · exact hu

theorem State.pending_foldl {α : Type} {f : State → α → State} (h : ∀ (s : State) a, (f s a).pending = s.pending) (l : List α)
    (s : State) : (l.foldl f s).pending = s.pending := by
  induction l generalizing s with
  | nil => rfl
  | cons a l ih => exact (ih _).trans (h s a)

theorem State.respond_pending (p : Port) (st : Status) (ws : List Word) (s : State) : (s.respond p st ws).pending = s.pending := by
  simp

theorem State.executeErase_pending (p : Port) (s : State) : (s.executeErase p).pending = s.pending := by
  simp [State.executeErase, State.eraseBlocks]

theorem State.executeWaitingErase_pending (s : State) : s.executeWaitingErase.pending = s.pending := by
  unfold State.executeWaitingErase
  split
  · exact State.executeErase_pending ..
  · rfl

theorem State.endContexts_pending (s : State) : s.endContexts.pending = s.pending :=
  State.pending_foldl (fun t c => State.pending_ite (by simp) rfl) ..

theorem State.reraiseSlot_pending (s : State) (x : Nat) : (s.reraiseSlot x).pending = s.pending := by
  unfold State.reraiseSlot
  dsimp only
  split_ifs <;> simp

theorem State.resendTriggers_pending (s : State) : s.resendTriggers.pending = s.pending :=
  (State.pending_foldl (fun t x => State.pending_ite (by simp) rfl) ..).trans
    (State.pending_foldl (fun t x => State.pending_ite (by simp) rfl) ..)

theorem State.discardStaged_pending (s : State) : s.discardStaged.pending = s.pending := by
  have h := State.pending_foldl (f := fun t x => State.discardSlot x t) (fun t x => by simp) workingSlots s
  simpa [State.discardStaged] using h

theorem State.partResetBlocks_pending (s : State) : s.partResetBlocks.pending = s.pending := by
  unfold State.partResetBlocks
  extract_lets t1 t2 t3 t4 t5 t6 after t7
  have h1 : t1.pending = s.pending := by
    rw [State.discardStaged_pending, State.resetRenewal, State.updRenewal_pending, State.endContexts_pending]
    simp [State.abandonWork]
  have h4 : t4.pending = t1.pending := by simp [t4, t3, t2, State.restartDrains, State.resetPool]
  have h6 : t6.pending = t4.pending :=
    (State.resendTriggers_pending _).trans (State.pending_foldl State.reraiseSlot_pending ..)
  have h7 : t7.pending = s.pending := by simp [t7, h6, h4, h1]
  exact State.pending_ite (by simp [h7]) h7

theorem State.emptyIn_pending (p : Port) (s : State) : (s.emptyIn p).pending = s.pending := by
  cases p <;> simp [State.emptyIn]

theorem State.emptyOut_pending (p : Port) (s : State) : (s.emptyOut p).pending = s.pending := by
  cases p <;> simp [State.emptyOut]

theorem runCommand_pending (c : Command) (p : Port) (a : Nat → Word) (s : State) : (runCommand c p a s).pending = s.pending := by
  have hrefuse : ∀ st, (s.refuse p st).pending = s.pending := fun st => State.respond_pending ..
  cases c with
  | channelOpen => unfold runCommand channelOpen; dsimp only; split <;> simp [hrefuse]
  | channelClose => unfold runCommand channelClose; dsimp only; split <;> simp [hrefuse]
  | channelFlags => exact State.pending_ite (hrefuse _) (by simp)
  | channelReset => unfold runCommand channelReset; dsimp only; split <;> simp [hrefuse]
  | channelRead => exact State.pending_ite (hrefuse _) (by simp)
  | keyStatus => exact State.pending_ite (hrefuse _) (by simp)
  | faultRead => exact State.pending_ite (hrefuse _) (by simp)
  | partRead => unfold runCommand partRead; dsimp only; split <;> simp [hrefuse]
  | renewNow =>
    exact State.pending_ite (hrefuse _) (State.pending_ite (hrefuse _) (State.pending_ite (hrefuse _) (by simp)))
  | queueLimits => cases p <;> simp [runCommand, queueLimits, State.updPoolPort]
  | queueReset =>
    unfold runCommand queueReset
    dsimp only
    split <;> simp [hrefuse, State.emptyIn_pending, State.emptyOut_pending]
  | faultDismiss =>
    unfold runCommand faultDismiss
    dsimp only
    split
    · exact hrefuse _
    · exact State.pending_ite (hrefuse _) (by simp)
  | beaconSet => unfold runCommand beaconSet; dsimp only; split <;> simp [hrefuse]
  | beaconCommit => simp [runCommand, beaconCommit]
  | beaconHalt => simp [runCommand, beaconHalt]
  | loadRoot => exact State.pending_ite (hrefuse _) (by simp)
  | partReset => exact State.pending_ite (hrefuse _) (by simp [State.partResetBlocks_pending])
  | quiesce => exact State.pending_ite (hrefuse _) (by simp)
  | resume => exact State.pending_ite (hrefuse _) (by simp)
  | localLoop => exact State.pending_ite (hrefuse _) (State.pending_ite (hrefuse _) (by simp))
  | erase =>
    unfold runCommand erase
    dsimp only
    split
    · simp
    · split_ifs
      · simp
      · simp
      · exact State.executeErase_pending ..

theorem State.takeCommand_pending (p : Port) (ws : List Word) (s : State) : (s.takeCommand p ws).pending = s.pending := by
  unfold State.takeCommand
  dsimp only
  split
  · simp [State.refuse]
  · split_ifs
    · simp [State.refuse]
    · simp [runCommand_pending]
    · simp [State.refuse]

theorem State.writeCommand_pending (p : Port) (w : Word) (s : State) : (s.writeCommand p w).pending = s.pending := by
  unfold State.writeCommand
  split
  · simp
  · split_ifs <;> simp [State.takeCommand_pending]
  · dsimp only
    split_ifs <;> simp [State.takeCommand_pending]

theorem State.writeCommandWords_pending (p : Port) (ws : List Word) (s : State) :
    (s.writeCommandWords p ws).pending = s.pending :=
  State.pending_foldl (fun t w => t.writeCommand_pending p w) ws s

theorem State.writeFrameIn_pending (p : Port) (w : Word) (s : State) : (s.writeFrameIn p w).pending = s.pending := by
  have htake : (s.takeDescriptor p w).pending = s.pending := by
    unfold State.takeDescriptor
    dsimp only
    split_ifs <;> cases p <;>
      simp [State.ignorePush, State.takeBuffer, State.joinIn, State.countOverrun, State.updPoolPort]
  unfold State.writeFrameIn
  split
  · exact htake
  · cases p <;> simp [State.fillIn]
  · simp

theorem State.readFrameOut_pending (p : Port) (s : State) : (s.readFrameOut p).pending = s.pending := by
  unfold State.readFrameOut
  split
  · simp
  · dsimp only
    split_ifs
    · cases p <;> simp [State.popOut]
    · simp

theorem State.readResponse_pending (p : Port) (s : State) : (s.readResponse p).pending = s.pending :=
  State.pending_ite (by simp) (by simp)

theorem State.writeMailbox_pending (p : Port) (w : Word) (s : State) : (s.writeMailbox p w).pending = s.pending := by
  have hwhole : ∀ n ws, (s.completeMail p n ws).pending = s.pending := fun n ws => by simp [State.completeMail]
  unfold State.writeMailbox
  dsimp only
  split
  · split_ifs <;> simp [hwhole, State.ignoreMail]
  · exact State.pending_ite (hwhole ..) (by simp)
  · simp

theorem State.readMailbox_pending (p : Port) (s : State) : (s.readMailbox p).pending = s.pending :=
  State.pending_ite (by simp) (by simp)

theorem State.readStatus_pending (p : Port) (s : State) : (s.readStatus p).pending = s.pending := by
  simp [State.readStatus]

theorem State.writeAccess_pending (p : Port) (sel : BitVec 3) (w : Word) (s : State) :
    (s.writeAccess p sel w).pending = s.pending := by
  unfold State.writeAccess
  split
  · exact s.writeFrameIn_pending p w
  · exact s.writeCommand_pending p w
  · exact s.writeMailbox_pending p w
  · rfl

theorem State.readAccess_pending (p : Port) (sel : BitVec 3) (s : State) : (s.readAccess p sel).pending = s.pending := by
  unfold State.readAccess
  split
  · exact s.readFrameOut_pending p
  · exact s.readResponse_pending p
  · exact s.readMailbox_pending p
  · exact s.readStatus_pending p
  · simp

theorem State.completeSelfCheck_pending (upset : Block) (s : State) : (s.completeSelfCheck upset).pending = s.pending := by
  unfold State.completeSelfCheck
  split
  · exact (State.executeWaitingErase_pending _).trans (State.pending_ite (by simp [State.setWork])
      (State.pending_ite (by simp [State.setWork]) (by simp [State.setWork])))
  all_goals rfl

theorem State.completeLoadRoot_pending (s : State) : s.completeLoadRoot.pending = s.pending := by
  unfold State.completeLoadRoot
  split
  · exact (State.executeWaitingErase_pending _).trans (by simp)
  all_goals rfl

/-! ### Every command -/

theorem onSlot_of_wf {x : Nat} (h : isWorkingSlot x = true) (s : State) : onSlot x s = .next s := if_pos h

theorem onContext_of_wf {c : Nat} (h : isContext c = true) (s : State) : onContext c s = .next s := if_pos h

/-- A well-formed command goes on, and the queue stands. -/
theorem exec_of_wf (i : Instr) (s : State) (h : i.wf = true) : ∃ t, exec i s = .next t ∧ t.pending = s.pending := by
  have hcommand : ∀ p ws, (s.writeCommandWords p ws).pending = s.pending := fun p ws => s.writeCommandWords_pending p ws
  cases i with
  | powerOn written => exact ⟨_, rfl, rfl⟩
  | tick => exact ⟨_, rfl, by simp [State.tickAll]⟩
  | keyAgeLimit slot => exact ⟨_, onSlot_of_wf h _, by simp⟩
  | keyGraceExpiry slot => exact ⟨_, onSlot_of_wf h _, by simp⟩
  | drainEnd slot => exact ⟨_, onSlot_of_wf h _, by simp⟩
  | backoffEnd slot => exact ⟨_, onSlot_of_wf h _, by simp⟩
  | replyTimerExpiry context => exact ⟨_, onContext_of_wf h _, by simp⟩
  | contextComposeRetry context => exact ⟨_, onContext_of_wf h _, by simp⟩
  | accountIntervalEnd => exact ⟨_, rfl, by simp⟩
  | eraseWindowExpiry => exact ⟨_, rfl, by simp⟩
  | quietWatchExpiry => exact ⟨_, rfl, by simp⟩
  | bootBackoffEnd => exact ⟨_, rfl, by simp⟩
  | bootTriggerRelisted => exact ⟨_, rfl, by simp⟩
  | beaconCycleEnd => exact ⟨_, rfl, by simp⟩
  | exchangeStart => exact ⟨_, rfl, by simp⟩
  | selfCheckStart => exact ⟨_, rfl, by simp⟩
  | selfCheckCompletion upset => exact ⟨_, rfl, s.completeSelfCheck_pending upset⟩
  | outboundDataStart => exact ⟨_, rfl, by simp⟩
  | outboundControlStart => exact ⟨_, rfl, by simp⟩
  | inboundStart => exact ⟨_, rfl, by simp⟩
  | testStart => exact ⟨_, rfl, by simp⟩
  | outboundCompletion => exact ⟨_, rfl, by simp⟩
  | inboundCompletion => exact ⟨_, rfl, by simp⟩
  | testCompletion tagUpset textUpset => exact ⟨_, rfl, by simp⟩
  | frameInWrite port w => exact ⟨_, rfl, s.writeFrameIn_pending port w⟩
  | frameOutRead port => exact ⟨_, rfl, s.readFrameOut_pending port⟩
  | responseRead port => exact ⟨_, rfl, s.readResponse_pending port⟩
  | mailboxWrite port w => exact ⟨_, rfl, s.writeMailbox_pending port w⟩
  | mailboxRead port => exact ⟨_, rfl, s.readMailbox_pending port⟩
  | statusRead port => exact ⟨_, rfl, s.readStatus_pending port⟩
  | registerWriteOther port select access =>
    cases access with
    | write w => exact ⟨_, rfl, s.writeAccess_pending port select w⟩
    | read => exact ⟨_, rfl, s.readAccess_pending port select⟩
  | loadRootWriteComplete => exact ⟨_, rfl, s.completeLoadRoot_pending⟩
  | _ => exact ⟨_, rfl, hcommand ..⟩

/-- A slot or context that the part does not have stops the step (log entry 3). -/
theorem exec_of_not_wf (i : Instr) (s : State) (h : i.wf = false) : ∃ r, exec i s = .fault r := by
  have hslot : ∀ x t, isWorkingSlot x = false → onSlot x t = .fault (.noSuchSlot x) := fun x t hx =>
    if_neg (by simp [hx])
  have hcontext : ∀ c t, isContext c = false → onContext c t = .fault (.noSuchContext c) := fun c t hc =>
    if_neg (by simp [hc])
  cases i with
  | keyAgeLimit slot => exact ⟨_, hslot _ _ h⟩
  | keyGraceExpiry slot => exact ⟨_, hslot _ _ h⟩
  | drainEnd slot => exact ⟨_, hslot _ _ h⟩
  | backoffEnd slot => exact ⟨_, hslot _ _ h⟩
  | replyTimerExpiry context => exact ⟨_, hcontext _ _ h⟩
  | contextComposeRetry context => exact ⟨_, hcontext _ _ h⟩
  | _ => exact absurd h nofun

/-- Settles O2. -/
theorem commandsGoOnExactlyWhenWellFormed : Obligations.CommandsGoOnExactlyWhenWellFormed := fun c s =>
  ⟨exec_of_wf c s, exec_of_not_wf c s⟩

end Sys2Proof.Machine
end

section
/-! Byte strings, words, blocks and the cipher read back what they were built from (R183, R186, R86), and the wrap check
(R38). -/

namespace Sys2Proof.Machine

/-! ### Numbers and byte strings (R183) -/

@[simp] theorem natBytes_length (n v : Nat) : (natBytes n v).length = n := by
  induction n with
  | zero => rfl
  | succ n ih => simp [natBytes, ih]

theorem bytesNat_append (as bs : List Byte) : bytesNat (as ++ bs) = bytesNat as * 256 ^ bs.length + bytesNat bs := by
  have hacc : ∀ (bs : List Byte) (k : Nat), bs.foldl (fun acc b => acc * 256 + b.toNat) k = k * 256 ^ bs.length + bytesNat bs := by
    intro bs
    induction bs with
    | nil => intro k; simp [bytesNat]
    | cons b bs ih =>
      intro k
      rw [bytesNat, List.foldl_cons, List.foldl_cons, ih, ih, List.length_cons]
      ring
  rw [bytesNat, List.foldl_append, hacc]
  rfl

theorem bytesNat_cons (b : Byte) (bs : List Byte) : bytesNat (b :: bs) = b.toNat * 256 ^ bs.length + bytesNat bs := by
  simpa [bytesNat] using bytesNat_append [b] bs

theorem bytesNat_lt (bs : List Byte) : bytesNat bs < 256 ^ bs.length := by
  induction bs with
  | nil => simp [bytesNat]
  | cons b bs ih =>
    have hb : b.toNat < 256 := b.isLt
    calc bytesNat (b :: bs) = b.toNat * 256 ^ bs.length + bytesNat bs := bytesNat_cons b bs
      _ < b.toNat * 256 ^ bs.length + 256 ^ bs.length := Nat.add_lt_add_left ih _
      _ = (b.toNat + 1) * 256 ^ bs.length := by ring
      _ ≤ 256 * 256 ^ bs.length := Nat.mul_le_mul_right _ hb
      _ = 256 ^ (b :: bs).length := by rw [List.length_cons, Nat.pow_succ, Nat.mul_comm]

/-- The bytes of a number spell it, as far as they reach. -/
theorem bytesNat_natBytes (n v : Nat) : bytesNat (natBytes n v) = v % 256 ^ n := by
  induction n with
  | zero => simp [natBytes, bytesNat, Nat.mod_one]
  | succ n ih =>
    rw [natBytes, bytesNat_cons, ih, natBytes_length, Nat.pow_succ, Nat.mod_mul]
    simp only [BitVec.toNat_ofNat, Nat.reducePow]
    ring

/-- Higher digits do not show in the low bytes. -/
theorem natBytes_add_mul (n v k : Nat) : natBytes n (k * 256 ^ n + v) = natBytes n v := by
  induction n generalizing k with
  | zero => rfl
  | succ n ih =>
    have hpow : 0 < 256 ^ n := Nat.pow_pos (by omega)
    have hdiv : (k * 256 ^ (n + 1) + v) / 256 ^ n = k * 256 + v / 256 ^ n := by
      rw [show k * 256 ^ (n + 1) + v = v + 256 ^ n * (k * 256) by ring, Nat.add_mul_div_left _ _ hpow, Nat.add_comm]
    have hbyte : BitVec.ofNat 8 (k * 256 + v / 256 ^ n) = BitVec.ofNat 8 (v / 256 ^ n) :=
      BitVec.eq_of_toNat_eq (by simp only [BitVec.toNat_ofNat]; omega)
    rw [natBytes, natBytes, hdiv, hbyte, show k * 256 ^ (n + 1) + v = (k * 256) * 256 ^ n + v by ring, ih]

/-- A byte string is the bytes of the number it spells. -/
theorem natBytes_bytesNat (bs : List Byte) : natBytes bs.length (bytesNat bs) = bs := by
  induction bs with
  | nil => rfl
  | cons b bs ih =>
    have hpow : 0 < 256 ^ bs.length := Nat.pow_pos (by omega)
    have hhead : (b.toNat * 256 ^ bs.length + bytesNat bs) / 256 ^ bs.length = b.toNat := by
      rw [Nat.add_comm, Nat.add_mul_div_right _ _ hpow, Nat.div_eq_of_lt (bytesNat_lt bs), Nat.zero_add]
    rw [List.length_cons, natBytes, bytesNat_cons, hhead, natBytes_add_mul, ih, BitVec.ofNat_toNat, BitVec.setWidth_eq]

theorem padTo_length (n : Nat) (bs : List Byte) : (padTo n bs).length = n := by
  simp only [padTo, List.length_append, List.length_replicate, List.length_take]
  omega

theorem padTo_self {n : Nat} {bs : List Byte} (h : bs.length = n) : padTo n bs = bs := by
  simp [padTo, ← h]

/-- A padded string begins with what it was padded from. -/
theorem take_padTo {n : Nat} {bs : List Byte} (h : bs.length ≤ n) : (padTo n bs).take bs.length = bs := by
  rw [padTo, List.take_of_length_le h, List.take_append_of_le_length (Nat.le_refl _), List.take_length]

theorem padTo_split (m n : Nat) (bs : List Byte) : padTo (m + n) bs = padTo m bs ++ padTo n (bs.drop m) := by
  obtain h | h := Nat.lt_or_ge bs.length m
  · have hdrop : bs.drop m = [] := List.drop_eq_nil_of_le (by omega)
    rw [hdrop, padTo, padTo, padTo, List.take_of_length_le (by omega), List.take_of_length_le (by omega), List.take_nil,
      List.append_assoc, List.length_nil, List.nil_append, List.replicate_append_replicate]
    congr 2
    omega
  · have hfirst : (bs.take m).length = m := by simpa using h
    rw [padTo, padTo, padTo, List.take_add, List.length_append, hfirst, Nat.sub_self, List.replicate_zero, List.append_nil,
      List.append_assoc]
    congr 3
    omega

/-! ### Words and blocks (R183) -/

theorem wordBytes_ofNat_bytesNat {bs : List Byte} (h : bs.length = 4) : wordBytes (BitVec.ofNat 32 (bytesNat bs)) = bs := by
  have hlt := bytesNat_lt bs
  rw [h] at hlt
  rw [wordBytes, BitVec.toNat_ofNat, Nat.mod_eq_of_lt (by simpa using hlt)]
  simpa [h] using natBytes_bytesNat bs

theorem flatMap_wordBytes_packWords (n : Nat) (bs : List Byte) : (packWords n bs).flatMap wordBytes = padTo (4 * n) bs := by
  induction n generalizing bs with
  | zero => simp [packWords, padTo]
  | succ n ih =>
    rw [packWords, List.flatMap_cons, ih, wordBytes_ofNat_bytesNat (padTo_length 4 bs), Nat.mul_succ, Nat.add_comm,
      padTo_split]

/-- Words carry a byte string and give it back (R183). -/
theorem unpackWords_packWords {n : Nat} {bs : List Byte} (h : bs.length ≤ 4 * n) :
    unpackWords bs.length (packWords n bs) = bs := by
  rw [unpackWords, flatMap_wordBytes_packWords, take_padTo h]

theorem le_four_mul_wordCount (n : Nat) : n ≤ 4 * wordCount n := by
  rw [wordCount]; omega

theorem blockOfBytes_blockBytes (b : Block) : blockOfBytes (blockBytes b) = b := by
  rw [blockOfBytes, padTo_self (by rw [blockBytes, natBytes_length]), blockBytes, bytesNat_natBytes]
  exact BitVec.eq_of_toNat_eq (by have := b.isLt; simp only [BitVec.toNat_ofNat]; omega)

/-! ### The header block (R186) -/

theorem headerOf_block (h : LineHeader) : headerOf h.block = h := by
  obtain ⟨storeTag, kind, channel, slot, generation, counter, length, zero⟩ := h
  simp only [headerOf, LineHeader.block, LineHeader.mk.injEq]
  refine ⟨?_, ?_, ?_, ?_, ?_, ?_, ?_, ?_⟩ <;> ext i hi <;>
    simp only [BitVec.getElem_extractLsb', BitVec.getLsbD_append] <;> grind

/-! ### The cipher (R86) -/

theorem keystream_length (k : Block) (f : CounterFields) (m : Nat) : (keystream k f m).length = 16 * m := by
  simp [keystream, List.length_flatMap, blockBytes, Nat.mul_comm]

theorem le_keystream_length (k : Block) (f : CounterFields) (n : Nat) : n ≤ (keystream k f (blockCount n)).length := by
  rw [keystream_length, blockCount]; omega

theorem xorBytes_xorBytes : ∀ {text stream : List Byte}, text.length ≤ stream.length →
    xorBytes (xorBytes text stream) stream = text
  | [], _, _ => by simp [xorBytes]
  | a :: text, b :: stream, h => by
    have ih := xorBytes_xorBytes (text := text) (stream := stream) (by simpa using h)
    simp only [xorBytes, List.zipWith_cons_cons, BitVec.xor_assoc, BitVec.xor_self, BitVec.xor_zero] at ih ⊢
    rw [ih]

theorem encipher_length (k : Block) (f : CounterFields) (bs : List Byte) : (encipher k f bs).length = bs.length := by
  rw [encipher, xorBytes, List.length_zipWith]
  exact Nat.min_eq_left (le_keystream_length ..)

theorem encipher_encipher (k : Block) (f : CounterFields) (bs : List Byte) : encipher k f (encipher k f bs) = bs := by
  rw [encipher, encipher_length, encipher, xorBytes_xorBytes (le_keystream_length ..)]

/-- Settles O9. -/
theorem frameBytesRoundTrip : Obligations.FrameBytesRoundTrip :=
  ⟨headerOf_block, blockOfBytes_blockBytes, fun bs => unpackWords_packWords (le_four_mul_wordCount bs.length),
    fun k f bs => ⟨encipher_length k f bs, encipher_encipher k f bs⟩⟩

/-! ### The wrap check (R38) -/

/-- A block is its two halves. -/
theorem block_eq_iff (b : Block) (x y : BitVec 64) : b = x ++ y ↔ firstHalf b = x ∧ lastHalf b = y := by
  constructor
  · rintro rfl
    constructor <;> ext i hi <;> simp only [firstHalf, lastHalf, BitVec.getElem_extractLsb', BitVec.getLsbD_append] <;> grind
  · rintro ⟨rfl, rfl⟩
    ext i hi
    simp only [firstHalf, lastHalf]
    grind

/-- Settles O10: a key is accepted exactly when wrapping it and its check block gives the two blocks. -/
theorem unwrapAcceptsExactlyWrappedKeys : Obligations.UnwrapAcceptsExactlyWrappedKeys := by
  intro root c1 c2 p target generation
  have hcheck : ∀ q : Block, (Config.E root).symm c2 = q ↔ Config.E root q = c2 := fun q => by
    rw [Equiv.symm_apply_eq]; exact eq_comm
  have hkey : (Config.E root).symm c1 = p ↔ Config.E root p = c1 := by
    rw [Equiv.symm_apply_eq]; exact eq_comm
  have hassoc : firstHalf (Config.E p 0) ++ target ++ generation ++ (0 : BitVec 48)
      = firstHalf (Config.E p 0) ++ (target ++ generation ++ (0 : BitVec 48)) := by
    ext i hi
    simp only [BitVec.getElem_append]
    grind
  rw [hassoc, ← hcheck, block_eq_iff, ← hkey]
  unfold unwrap
  constructor
  · intro h
    dsimp only at h
    split at h
    next hhalves => obtain rfl := Option.some.inj h; exact ⟨rfl, hhalves⟩
    next => exact absurd h nofun
  · rintro ⟨rfl, hhalves⟩
    exact if_pos hhalves

end Sys2Proof.Machine
end

section
/-! PROOFS. The access points: what a word written to a port, or read from it, leaves (O35 to O40). -/

namespace Sys2Proof.Machine

/-! ### One port changed -/

@[simp] theorem State.updPort_port_self (p : Port) (f : PortState → PortState) (s : State) :
    (s.updPort p f).port p = f (s.port p) := by cases p <;> rfl

@[simp] theorem State.updPort_port_other (p : Port) (f : PortState → PortState) (s : State) :
    (s.updPort p f).port p.other = s.port p.other := by cases p <;> rfl

/-- A change of one port is a change of the ports. -/
theorem State.updPort_ports (p : Port) (f : PortState → PortState) (s : State) :
    s.updPort p f = { s with sPort := (s.updPort p f).sPort, lPort := (s.updPort p f).lPort } := by cases p <;> rfl

/-- An answer that changes port p by `f`: what it says of the state, of the port and of the other port. -/
theorem next_updPort {o : Host.Outcome State Fault Refusal} {p : Port} {f : PortState → PortState} {s : State}
    (h : o = .next (s.updPort p f)) :
    ∃ t, o = .next t ∧ t = { s with sPort := t.sPort, lPort := t.lPort } ∧ t.port p = f (s.port p)
      ∧ t.port p.other = s.port p.other :=
  ⟨_, h, s.updPort_ports p f, s.updPort_port_self p f, s.updPort_port_other p f⟩

/-! ### RESPONSE -/

/-- A word of a list at a position it has. -/
theorem wordAt_of_getElem? {ws : List Word} {k : Nat} {w : Word} (h : ws[k]? = some w) : wordAt ws k = w := by
  simp [wordAt, List.getD_eq_getElem?_getD, h]

theorem lt_length_of_getElem? {α : Type} {l : List α} {k : Nat} {a : α} (h : l[k]? = some a) : k < l.length :=
  (List.getElem?_eq_some_iff.mp h).1

theorem State.readResponse_of_empty {s : State} {p : Port} (h : (s.port p).response = []) :
    s.readResponse p = s.updPort p fun q => { q with dataOut := 0 } := by simp [State.readResponse, h, State.returnWord]

theorem State.readResponse_of_word {s : State} {p : Port} {w : Word}
    (h : (s.port p).response[(s.port p).responsePos]? = some w) :
    s.readResponse p = s.updPort p fun q =>
      { q with dataOut := w,
               responsePos := if (s.port p).responsePos + 1 = (s.port p).response.length then 0
                              else (s.port p).responsePos + 1 } := by
  have hlt := lt_length_of_getElem? h
  have hne : (s.port p).response ≠ [] := by intro h0; simp [h0] at h
  have hend : (s.port p).response.length ≤ (s.port p).responsePos + 1
      ↔ (s.port p).responsePos + 1 = (s.port p).response.length := by omega
  simp only [State.readResponse, if_neg hne, State.returnWord, State.updPort_updPort, wordAt_of_getElem? h, hend]
  rfl

/-- Settles O37. -/
theorem responseReadGoesRound : Obligations.ResponseReadGoesRound := by
  intro s p
  refine ⟨fun h => next_updPort (congrArg Host.Outcome.next (State.readResponse_of_empty h)), fun w h => ?_⟩
  obtain ⟨t, ht, hports, hp, hother⟩ := next_updPort (congrArg Host.Outcome.next (State.readResponse_of_word h))
  exact ⟨t, ht, hports, hother, hp⟩

/-! ### FRAME OUT -/

/-- The descriptor word of a frame of S-out (R187), as a number. -/
theorem outDescriptor_toNat (a b c d : Nat) (hc : c < 16) :
    (BitVec.ofNat 6 a ++ BitVec.ofNat 2 b ++ BitVec.ofNat 4 c ++ (0 : BitVec 9) ++ BitVec.ofNat 11 d : Word).toNat
      = a % 64 * 2 ^ 26 + b % 4 * 2 ^ 24 + c * 2 ^ 20 + d % 2048 := by
  rw [show (BitVec.ofNat 6 a ++ BitVec.ofNat 2 b ++ BitVec.ofNat 4 c ++ (0 : BitVec 9) ++ BitVec.ofNat 11 d
        : Word).toNat = _ from toNat_append_eq (m := 21) (n := 11) _ _,
    show (BitVec.ofNat 6 a ++ BitVec.ofNat 2 b ++ BitVec.ofNat 4 c ++ (0 : BitVec 9) : BitVec 21).toNat = _ from
      toNat_append_eq (m := 12) (n := 9) _ _,
    show (BitVec.ofNat 6 a ++ BitVec.ofNat 2 b ++ BitVec.ofNat 4 c : BitVec 12).toNat = _ from
      toNat_append_eq (m := 8) (n := 4) _ _,
    show (BitVec.ofNat 6 a ++ BitVec.ofNat 2 b : BitVec 8).toNat = _ from toNat_append_eq (m := 6) (n := 2) _ _]
  simp only [BitVec.toNat_ofNat, BitVec.ofNat_eq_ofNat]
  omega

theorem outStatusCode_lt (r : Option RefuseReason) : outStatusCode r < 16 := by
  rcases r with _ | r
  · simp [outStatusCode]
  · cases r <;> simp [outStatusCode]

/-- The words of a frame of S-out are its descriptor and, when it is delivered, its payload. -/
theorem OutFrame.outWords_of_descriptor (f : OutFrame) (d : Word)
    (hd : d.toNat = f.channel % 64 * 2 ^ 26 + f.level % 4 * 2 ^ 24 + outStatusCode f.refusal * 2 ^ 20
      + f.length % 2048) :
    f.outWords = d :: if f.refusal = none then packWords ((f.length + 3) / 4) f.payload else [] := by
  have hword := BitVec.eq_of_toNat_eq
    ((outDescriptor_toNat f.channel f.level (outStatusCode f.refusal) f.length (outStatusCode_lt _)).trans hd.symm)
  unfold OutFrame.outWords
  rw [hword]
  rfl

theorem State.readFrameOut_of_empty {s : State} {p : Port} (h : s.outCount p = 0) :
    s.readFrameOut p = s.updPort p fun q => { q with dataOut := 0 } := by
  have hhead : s.headWords p = none := by
    cases p <;> simpa [State.headWords, State.outCount] using h
  simp [State.readFrameOut, hhead, State.returnWord]

theorem State.readFrameOut_of_middle {s : State} {p : Port} {ws : List Word} {w : Word} (hhead : s.headWords p = some ws)
    (hw : ws[(s.port p).pullPos]? = some w) (hlt : (s.port p).pullPos + 1 < ws.length) :
    s.readFrameOut p = s.updPort p fun q => { q with dataOut := w, pullPos := (s.port p).pullPos + 1 } := by
  have hend : ¬ ws.length ≤ (s.port p).pullPos + 1 := by omega
  simp only [State.readFrameOut, hhead, if_neg hend, State.returnWord, State.updPort_updPort, wordAt_of_getElem? hw]
  rfl

theorem State.readFrameOut_of_last {s : State} {p : Port} {ws : List Word} {w : Word} (hhead : s.headWords p = some ws)
    (hw : ws[(s.port p).pullPos]? = some w) (hlast : (s.port p).pullPos + 1 = ws.length) :
    s.readFrameOut p = ((s.returnWord p w).popOut p).updPort p fun q => { q with pullPos := 0 } := by
  have hend : ws.length ≤ (s.port p).pullPos + 1 := by omega
  simp only [State.readFrameOut, hhead, if_pos hend, wordAt_of_getElem? hw]

/-- What a clear does to the fault list depends on the fault list alone. -/
theorem State.clearFault_faults_congr {s t : State} (k : FaultKind) (x : Subject) (h : t.faults = s.faults) :
    (t.clearFault k x).faults = (s.clearFault k x).faults := by
  unfold State.clearFault
  rw [h]
  split
  · split <;> simp [State.updRecord, h]
  · exact h

/-- The return of a buffer that releases no mark touches the free count alone. -/
theorem State.returnBuffer_of_high {s : State} (h : s.pool.low = false ∨ s.pool.free + 1 < 16) :
    s.returnBuffer = s.updPool fun q => { q with free := q.free + 1 } := by
  unfold State.returnBuffer
  refine if_neg ?_
  rcases h with h | h
  · simp [State.updPool, h]
  · have hfree : s.pool.free < 15 := by omega
    simp [State.updPool, hfree]

/-- The return of a buffer that brings the free count to 16 or more while the mark is held clears POOL_LOW. -/
theorem State.returnBuffer_of_low {s : State} (hlow : s.pool.low = true) (h : 16 ≤ s.pool.free + 1) :
    s.returnBuffer.faults = (s.clearFault .poolLow .nothing).faults := by
  unfold State.returnBuffer
  dsimp only
  rw [if_pos (by simp [State.updPool, hlow, h])]
  exact State.clearFault_faults_congr _ _ (by simp)

/-- The head frame of `s` leaves its queue, so that `out` stands, and its buffer returns (R66). -/
theorem State.readFrameOut_of_pop {s out : State} {p : Port} {ws : List Word} {w : Word}
    (hhead : s.headWords p = some ws)
    (hout : p = .s ∧ out = { s with sOut := s.sOut.tail } ∨ p = .l ∧ out = { s with lTx := s.lTx.tail })
    (hw : ws[(s.port p).pullPos]? = some w) (hlast : (s.port p).pullPos + 1 = ws.length) :
    s.readFrameOut p = ((out.returnWord p w).returnBuffer).updPort p fun q => { q with pullPos := 0 } := by
  rw [State.readFrameOut_of_last hhead hw hlast]
  rcases hout with ⟨rfl, rfl⟩ | ⟨rfl, rfl⟩ <;> rfl

/-- What is left when a pulled frame's buffer has returned. -/
theorem State.pulled (out : State) (p : Port) (w : Word) :
    ∃ t, ((out.returnWord p w).returnBuffer).updPort p (fun q => { q with pullPos := 0 }) = t
      ∧ t = { out with pool := { out.pool with free := out.pool.free + 1,
                                               low := out.pool.low && decide (out.pool.free + 1 < 16) },
                       faults := t.faults, beacon := t.beacon, sPort := t.sPort, lPort := t.lPort }
      ∧ t.port p = { out.port p with dataOut := w, pullPos := 0, faultCause := (t.port p).faultCause }
      ∧ t.port p.other = { out.port p.other with faultCause := (t.port p.other).faultCause }
      ∧ ((out.pool.low = false ∨ out.pool.free + 1 < 16) → t.faults = out.faults ∧ t.beacon = out.beacon
          ∧ t.sPort.faultCause = out.sPort.faultCause ∧ t.lPort.faultCause = out.lPort.faultCause)
      ∧ (out.pool.low = true → 16 ≤ out.pool.free + 1 → t.faults = (out.clearFault .poolLow .nothing).faults) := by
  have hport := State.returnBuffer_port (out.returnWord p w) p
  have hother := State.returnBuffer_port (out.returnWord p w) p.other
  refine ⟨_, rfl, ?_, ?_, ?_, fun h => ?_, fun hlow h => ?_⟩
  · apply State.ext_fields <;> simp [State.returnBuffer_pool]
  · simp only [State.updPort_port_self]
    rw [hport]
    simp [State.returnWord]
  · simp only [State.updPort_port_other]
    rw [hother]
    simp [State.returnWord, port_other_ne]
  · rw [State.returnBuffer_of_high (by simpa using h)]
    cases p <;> exact ⟨rfl, rfl, rfl, rfl⟩
  · rw [State.updPort_faults, State.returnBuffer_of_low (by simpa using hlow) (by simpa using h)]
    exact State.clearFault_faults_congr _ _ (by simp)

/-- Settles O36. -/
theorem frameOutReadPulls : Obligations.FrameOutReadPulls := by
  refine ⟨fun s p h => ?_, fun s out p ws w hqueue hw => ?_⟩
  · obtain ⟨t, ht, hports, hp, hother⟩ := next_updPort (congrArg Host.Outcome.next (State.readFrameOut_of_empty h))
    exact ⟨t, ht, hp, hother, hports⟩
  have hhead : s.headWords p = some ws
      ∧ (p = .s ∧ out = { s with sOut := s.sOut.tail } ∨ p = .l ∧ out = { s with lTx := s.lTx.tail }) := by
    rcases hqueue with ⟨rfl, f, rest, d, hs, rfl, hd, rfl⟩ | ⟨rfl, bs, rest, hl, rfl, rfl⟩
    · refine ⟨?_, .inl ⟨rfl, by rw [hs]; rfl⟩⟩
      have hcode : d.toNat = f.channel % 64 * 2 ^ 26 + f.level % 4 * 2 ^ 24 + outStatusCode f.refusal * 2 ^ 20
          + f.length % 2048 := hd.trans (by rcases f.refusal with _ | r; · rfl
                                            · cases r <;> rfl)
      simp only [State.headWords, hs, List.head?_cons, Option.map_some, f.outWords_of_descriptor d hcode]
    · exact ⟨by simp only [State.headWords, hl]; rfl, .inr ⟨rfl, by rw [hl]; rfl⟩⟩
  obtain ⟨hhead, hout⟩ := hhead
  refine ⟨fun hlt => ?_, fun hlast => ?_⟩
  · obtain ⟨t, ht, hports, hp, hother⟩ :=
      next_updPort (congrArg Host.Outcome.next (State.readFrameOut_of_middle hhead hw hlt))
    exact ⟨t, ht, hports, hother, hp⟩
  · obtain ⟨t, ht, hstate, hp, hother, hstill, hclear⟩ := State.pulled out p w
    have hsame : out.pool = s.pool ∧ out.faults = s.faults ∧ out.beacon = s.beacon ∧ out.sPort = s.sPort
        ∧ out.lPort = s.lPort ∧ out.port p = s.port p ∧ out.port p.other = s.port p.other := by
      rcases hout with ⟨rfl, rfl⟩ | ⟨rfl, rfl⟩ <;> exact ⟨rfl, rfl, rfl, rfl, rfl, rfl, rfl⟩
    obtain ⟨hpool, hfaults, hbeacon, hsport, hlport, hpp, hpo⟩ := hsame
    rw [hpool, hfaults, hbeacon, hsport, hlport] at hstill
    rw [hpool, State.clearFault_faults_congr _ _ hfaults] at hclear
    rw [hpp] at hp
    rw [hpo] at hother
    rw [hpool] at hstate
    exact ⟨t, congrArg Host.Outcome.next ((State.readFrameOut_of_pop hhead hout hw hlast).trans ht), hstate, hp, hother,
      hstill, hclear⟩

/-! ### FRAME IN -/

theorem State.writeFrameIn_of_none {s : State} {p : Port} (w : Word) (h : (s.port p).push = .none) :
    s.writeFrameIn p w = s.takeDescriptor p w := by simp only [State.writeFrameIn, h]

theorem State.writeFrameIn_of_frame {s : State} {p : Port} {n : Nat} (w : Word) (h : (s.port p).push = .frame n) :
    s.writeFrameIn p w = (s.fillIn p w).updPort p fun q => { q with push := if n ≤ 1 then .none else .frame (n - 1) } := by
  simp only [State.writeFrameIn, h]

theorem State.writeFrameIn_of_ignoring {s : State} {p : Port} {n : Nat} (w : Word)
    (h : (s.port p).push = .ignoring n) :
    s.writeFrameIn p w = s.updPort p fun q => { q with push := if n ≤ 1 then .none else .ignoring (n - 1) } := by
  simp only [State.writeFrameIn, h]

/-- The greatest length a descriptor of the port may state (R166). -/
def maxLength : Port → Nat
  | .s => 1500
  | .l => 1536

theorem descriptorAccepted_iff (p : Port) (w : Word) :
    descriptorAccepted p w = true ↔ 1 ≤ descLength w ∧ descLength w ≤ maxLength p := by
  cases p <;> simp [descriptorAccepted, maxLength]

theorem State.pushAccepted_iff (s : State) (p : Port) :
    s.pushAccepted p = true ↔ s.partState ≠ .failed ∧ s.inCount p < 32 ∧ 8 < s.pool.free := by
  simp only [State.pushAccepted, Bool.and_eq_true, bne_iff_ne, decide_eq_true_eq, and_assoc]
  exact Iff.rfl

/-- A descriptor that the port and the pool accept takes a buffer and starts a push (R64). -/
theorem State.takeDescriptor_of_accepted {s : State} {p : Port} {w : Word}
    (hlen : 1 ≤ descLength w ∧ descLength w ≤ maxLength p)
    (hpool : s.partState ≠ .failed ∧ s.inCount p < 32 ∧ 8 < s.pool.free) :
    s.takeDescriptor p w =
      ((s.takeBuffer).joinIn p w).updPort p fun q => { q with push := .frame ((descLength w + 3) / 4) } := by
  simp only [State.takeDescriptor, (descriptorAccepted_iff p w).mpr hlen, (s.pushAccepted_iff p).mpr hpool, wordCount,
    Bool.not_true, Bool.false_eq_true, if_false, if_true]

/-- A descriptor that the pool refuses is an overrun (R71). -/
theorem State.takeDescriptor_of_overrun {s : State} {p : Port} {w : Word}
    (hlen : 1 ≤ descLength w ∧ descLength w ≤ maxLength p)
    (hpool : s.partState = .failed ∨ 32 ≤ s.inCount p ∨ s.pool.free ≤ 8) :
    s.takeDescriptor p w = (s.countOverrun p).updPort p fun q =>
      { q with push := .ignoring ((descLength w + 3) / 4), lostPush := true } := by
  have hrefused : s.pushAccepted p = false := by
    rw [Bool.eq_false_iff, ne_eq, s.pushAccepted_iff p]
    rintro ⟨hstate, hroom, hfree⟩
    rcases hpool with h | h | h
    · exact hstate h
    · omega
    · omega
  have hcount : (descLength w + 3) / 4 ≠ 0 := by omega
  simp only [State.takeDescriptor, (descriptorAccepted_iff p w).mpr hlen, hrefused, wordCount, Bool.not_true,
    Bool.false_eq_true, if_false, State.ignorePush, State.losePush, State.updPort_updPort, Function.comp_def, hcount]

/-- A descriptor with a length out of range takes no buffer and is no overrun (R166). -/
theorem State.takeDescriptor_of_range {s : State} {p : Port} {w : Word}
    (hlen : descLength w = 0 ∨ maxLength p < descLength w) :
    s.takeDescriptor p w = s.updPort p fun q =>
      { q with push := if descLength w = 0 then .none else .ignoring ((descLength w + 3) / 4), lostPush := true } := by
  have hrefused : descriptorAccepted p w = false := by
    rw [Bool.eq_false_iff, ne_eq, descriptorAccepted_iff p w]
    omega
  have hcount : (descLength w + 3) / 4 = 0 ↔ descLength w = 0 := by omega
  simp only [State.takeDescriptor, hrefused, wordCount, Bool.not_false, if_true, State.ignorePush, State.losePush,
    State.updPort_updPort, Function.comp_def, hcount]

/-- The filling frame stands at the tail of its queue. -/
theorem updLast_append_singleton {α : Type} (f : α → α) (pre : List α) (a : α) :
    updLast f (pre ++ [a]) = pre ++ [f a] := by
  induction pre with
  | nil => rfl
  | cons b l ih =>
    cases l with
    | nil => rfl
    | cons c l => exact congrArg (b :: ·) ih

/-- Settles O35. -/
theorem frameInWriteStartsPush : Obligations.FrameInWriteStartsPush := by
  refine ⟨fun s w hpush h1 h2 hstate hroom hfree => ?_, fun s w hpush h1 h2 hstate hroom hfree => ?_,
    fun s w hpush h1 h2 hpool => ?_, fun s w hpush h1 h2 hpool => ?_, fun s w p hpush hlen => ?_,
    fun s w n pre f hpush hqueue => ?_, fun s w n pre f hpush hqueue => ?_, fun s w p n hpush => ?_⟩
  case refine_1 =>
    exact congrArg Host.Outcome.next ((State.writeFrameIn_of_none (p := .s) w hpush).trans
      (State.takeDescriptor_of_accepted (p := .s) ⟨h1, h2⟩ ⟨hstate, hroom, hfree⟩))
  case refine_2 =>
    exact congrArg Host.Outcome.next ((State.writeFrameIn_of_none (p := .l) w hpush).trans
      (State.takeDescriptor_of_accepted (p := .l) ⟨h1, h2⟩ ⟨hstate, hroom, hfree⟩))
  case refine_3 =>
    exact congrArg Host.Outcome.next ((State.writeFrameIn_of_none (p := .s) w hpush).trans
      (State.takeDescriptor_of_overrun (p := .s) ⟨h1, h2⟩ hpool))
  case refine_4 =>
    exact congrArg Host.Outcome.next ((State.writeFrameIn_of_none (p := .l) w hpush).trans
      (State.takeDescriptor_of_overrun (p := .l) ⟨h1, h2⟩ hpool))
  case refine_5 =>
    have hrange : descLength w = 0 ∨ maxLength p < descLength w := by
      rcases hlen with h | ⟨rfl, h⟩ | ⟨rfl, h⟩
      · exact .inl h
      · exact .inr h
      · exact .inr h
    exact next_updPort (congrArg Host.Outcome.next
      ((State.writeFrameIn_of_none w hpush).trans (State.takeDescriptor_of_range hrange)))
  case refine_6 =>
    refine congrArg Host.Outcome.next ((State.writeFrameIn_of_frame (p := .s) w hpush).trans ?_)
    simp only [State.fillIn, State.updSIn, hqueue, updLast_append_singleton]
    rfl
  case refine_7 =>
    refine congrArg Host.Outcome.next ((State.writeFrameIn_of_frame (p := .l) w hpush).trans ?_)
    simp only [State.fillIn, State.updLRx, hqueue, updLast_append_singleton]
    rfl
  case refine_8 =>
    obtain ⟨t, ht, hports, hp, hother⟩ :=
      next_updPort (congrArg Host.Outcome.next (State.writeFrameIn_of_ignoring w hpush))
    exact ⟨t, ht, hp, hother, hports⟩

/-! ### MAILBOX -/

theorem State.writeMailbox_of_gather {s : State} {p : Port} {w : Word} (hwrite : (s.port p).mailWrite = .none)
    (hfull : (s.port p).mailbox.full = false) (h1 : 1 ≤ fieldD w) (h2 : fieldD w ≤ 32) :
    s.writeMailbox p w = s.updPort p fun r => { r with mailWrite := .gathering (fieldD w) [] } := by
  simp only [State.writeMailbox, hwrite, hfull, Bool.false_or, decide_eq_true_eq, if_neg (show ¬ 32 < fieldD w by omega),
    if_neg (show fieldD w ≠ 0 by omega)]

theorem State.writeMailbox_of_refused {s : State} {p : Port} {w : Word} (hwrite : (s.port p).mailWrite = .none)
    (h : (s.port p).mailbox.full = true ∨ 32 < fieldD w) :
    s.writeMailbox p w = s.updPort p fun q =>
      { q with lostMail := true,
               mailWrite := if fieldD w = 0 then .none else .ignoring (min 8 ((fieldD w + 3) / 4)) } := by
  have hcount : min 8 ((fieldD w + 3) / 4) = 0 ↔ fieldD w = 0 := by omega
  simp only [State.writeMailbox, hwrite, Bool.or_eq_true, decide_eq_true_eq, if_pos h, State.ignoreMail, State.loseMail,
    State.updPort_updPort, Function.comp_def, wordCount, hcount]

theorem State.writeMailbox_of_more {s : State} {p : Port} {len : Nat} {ws : List Word} (w : Word)
    (hwrite : (s.port p).mailWrite = .gathering len ws) (hmore : ws.length + 1 < (len + 3) / 4) :
    s.writeMailbox p w = s.updPort p fun q => { q with mailWrite := .gathering len (ws ++ [w]) } := by
  have hend : ¬ wordCount len ≤ (ws ++ [w]).length := by simp only [wordCount, List.length_append, List.length_singleton]; omega
  simp only [State.writeMailbox, hwrite, if_neg hend]

theorem State.writeMailbox_of_ignoring {s : State} {p : Port} {n : Nat} (w : Word)
    (hwrite : (s.port p).mailWrite = .ignoring n) :
    s.writeMailbox p w = s.updPort p fun q => { q with mailWrite := if n ≤ 1 then .none else .ignoring (n - 1) } := by
  simp only [State.writeMailbox, hwrite]

/-- The bytes of a run of words that holds them. -/
theorem unpackWords_length {n : Nat} {ws : List Word} (h : n ≤ 4 * ws.length) : (unpackWords n ws).length = n := by
  have hbytes : (ws.flatMap wordBytes).length = 4 * ws.length := by
    clear h
    induction ws with
    | nil => rfl
    | cons w l ih => simp only [List.flatMap_cons, List.length_append, ih, wordBytes, natBytes_length, List.length_cons]; omega
  simp only [unpackWords, List.length_take, hbytes]
  omega

theorem packWords_length (n : Nat) (bs : List Byte) : (packWords n bs).length = n := by
  induction n generalizing bs with
  | zero => rfl
  | succ n ih => simp [packWords, ih]

/-- The write that brings the last content word, or the length word of an empty message, completes (R173). -/
theorem State.writeMailbox_of_last {s : State} {p : Port} {w : Word} {len : Nat} {ws : List Word}
    (h : (s.port p).mailWrite = .gathering len ws ∧ len ≤ 32 ∧ ws.length + 1 = (len + 3) / 4
      ∨ (s.port p).mailWrite = .none ∧ (s.port p).mailbox.full = false ∧ fieldD w = 0 ∧ len = 0) :
    ∃ ws', s.writeMailbox p w = s.completeMail p len ws' ∧ unpackWords len ws' = unpackWords len (ws ++ [w])
      ∧ (unpackWords len ws').length = len ∧ len ≤ 32 := by
  rcases h with ⟨hwrite, hlen, hlast⟩ | ⟨hwrite, hfull, hlen, rfl⟩
  · have hend : wordCount len ≤ (ws ++ [w]).length := by
      simp only [wordCount, List.length_append, List.length_singleton]; omega
    exact ⟨ws ++ [w], by simp only [State.writeMailbox, hwrite, if_pos hend], rfl,
      unpackWords_length (by simp only [List.length_append, List.length_singleton]; omega), hlen⟩
  · exact ⟨[], by simp [State.writeMailbox, hwrite, hfull, hlen], by simp [unpackWords], by simp [unpackWords], by simp⟩

theorem State.readMailbox_of_middle {s : State} {p : Port} {w : Word}
    (hw : (s.port p.other).mailbox.mailWords[(s.port p).mailPos]? = some w)
    (hlt : (s.port p).mailPos + 1 < (s.port p.other).mailbox.mailWords.length) :
    s.readMailbox p = s.updPort p fun q => { q with mailPos := (s.port p).mailPos + 1, dataOut := w } := by
  simp only [State.readMailbox, if_neg (show ¬ (s.port p.other).mailbox.mailWords.length ≤ (s.port p).mailPos + 1 by omega),
    State.returnWord, State.updPort_updPort, wordAt_of_getElem? hw]
  rfl

theorem State.readMailbox_of_last {s : State} {p : Port} {w : Word}
    (hw : (s.port p.other).mailbox.mailWords[(s.port p).mailPos]? = some w)
    (hlast : (s.port p).mailPos + 1 = (s.port p.other).mailbox.mailWords.length) :
    s.readMailbox p = (s.updPort p fun q => { q with mailPos := 0, dataOut := w }).updPort p.other fun q =>
      { q with mailbox := { q.mailbox with full := false } } := by
  simp only [State.readMailbox, if_pos (show (s.port p.other).mailbox.mailWords.length ≤ (s.port p).mailPos + 1 by omega),
    State.returnWord, State.updPort_updPort, wordAt_of_getElem? hw]
  rfl

/-- A change of both ports is a change of the ports. -/
theorem next_updPort_other {o : Host.Outcome State Fault Refusal} {p : Port} {f g : PortState → PortState} {s : State}
    (h : o = .next ((s.updPort p f).updPort p.other g)) :
    ∃ t, o = .next t ∧ t = { s with sPort := t.sPort, lPort := t.lPort } ∧ t.port p = f (s.port p)
      ∧ t.port p.other = g (s.port p.other) := by
  refine ⟨_, h, ?_, ?_, ?_⟩ <;> cases p <;> rfl

/-- Settles O38. -/
theorem mailboxPassesMessages : Obligations.MailboxPassesMessages := by
  refine ⟨fun s p w hwrite hfull h1 h2 => ?_, fun s p w hwrite h => ?_, fun s p w len ws hwrite hmore => ?_,
    fun s p w len ws h => ?_, fun s p w n hwrite => ?_, fun s p m ws w hm hws hw => ?_⟩
  case refine_1 => exact next_updPort (congrArg Host.Outcome.next (State.writeMailbox_of_gather hwrite hfull h1 h2))
  case refine_2 => exact next_updPort (congrArg Host.Outcome.next (State.writeMailbox_of_refused hwrite h))
  case refine_3 => exact next_updPort (congrArg Host.Outcome.next (State.writeMailbox_of_more w hwrite hmore))
  case refine_4 =>
    obtain ⟨ws', hdone, hbytes, hlength, hlen⟩ := State.writeMailbox_of_last h
    obtain ⟨t, ht, hports, hp, hother⟩ := next_updPort_other (congrArg Host.Outcome.next hdone)
    have hmail : (t.port p).mailbox = { length := len, content := padTo 32 (unpackWords len ws'), full := true } := by
      rw [hp]
    refine ⟨t, ht, hports, by rw [hp], by rw [hmail], by rw [hmail], by rw [hmail, padTo_length], ?_, hother⟩
    rw [hmail, ← hbytes]
    exact (congrArg (List.take · (padTo 32 (unpackWords len ws'))) hlength.symm).trans (take_padTo (by omega))
  case refine_5 => exact next_updPort (congrArg Host.Outcome.next (State.writeMailbox_of_ignoring w hwrite))
  case refine_6 =>
    have hwords : (s.port p.other).mailbox.mailWords = ws := by rw [hws, hm]; rfl
    have hcount : ws.length = (m.length + 3) / 4 + 1 := by rw [hws, List.length_cons, packWords_length]
    rw [← hwords] at hw hcount
    rcases Nat.lt_or_ge (s.port p).mailPos ((m.length + 3) / 4) with hlt | hge
    · obtain ⟨t, ht, hports, hp, hother⟩ :=
        next_updPort (congrArg Host.Outcome.next (State.readMailbox_of_middle hw (by omega)))
      exact ⟨t, ht, hports, fun _ => ⟨hp, hother⟩, fun h => absurd h (by omega)⟩
    · have hpos := lt_length_of_getElem? hw
      obtain ⟨t, ht, hports, hp, hother⟩ :=
        next_updPort_other (congrArg Host.Outcome.next (State.readMailbox_of_last hw (by omega)))
      exact ⟨t, ht, hports, fun h => absurd h (by omega), fun _ => ⟨hp, by rw [hother, hm]⟩⟩

/-! ### STATUS -/

/-- The numbers of the status word (R188). -/
theorem State.statusWord_numbers (s : State) (p : Port) :
    ((s.statusWord p).extractLsb' 29 3).toNat = s.partState.code
      ∧ ((s.statusWord p).extractLsb' 18 11).toNat = (s.inCount p * 33 + s.outCount p) % 2048
      ∧ ((s.statusWord p).extractLsb' 11 7).toNat = s.pool.free % 128 := by
  have hstate : (s.statusWord p).extractLsb' 29 3 = BitVec.ofNat 3 s.partState.code := by
    refine BitVec.eq_of_getLsbD_eq fun i hi => ?_
    rw [BitVec.getLsbD_extractLsb']
    simp only [State.statusWord, BitVec.getLsbD_append]
    interval_cases i <;> simp
  have hcounts : (s.statusWord p).extractLsb' 18 11 = BitVec.ofNat 11 (s.inCount p * 33 + s.outCount p) := by
    refine BitVec.eq_of_getLsbD_eq fun i hi => ?_
    rw [BitVec.getLsbD_extractLsb']
    simp only [State.statusWord, BitVec.getLsbD_append]
    interval_cases i <;> simp
  have hfree : (s.statusWord p).extractLsb' 11 7 = BitVec.ofNat 7 s.pool.free := by
    refine BitVec.eq_of_getLsbD_eq fun i hi => ?_
    rw [BitVec.getLsbD_extractLsb']
    simp only [State.statusWord, BitVec.getLsbD_append]
    interval_cases i <;> simp
  rw [hstate, hcounts, hfree]
  refine ⟨?_, by simp, by simp⟩
  cases s.partState <;> rfl

/-- The flags of the status word (R188). -/
theorem State.statusWord_flags (s : State) (p : Port) :
    (s.statusWord p).getLsbD 10 = s.inRoom p ∧ (s.statusWord p).getLsbD 9 = s.outReady p
      ∧ (s.statusWord p).getLsbD 8 = (s.port p).mailCause ∧ (s.statusWord p).getLsbD 7 = (s.port p).responseCause
      ∧ (s.statusWord p).getLsbD 6 = (s.port p).faultCause ∧ (s.statusWord p).getLsbD 5 = (s.port p).lostPush
      ∧ (s.statusWord p).getLsbD 4 = (s.port p).lostMail ∧ (s.statusWord p).getLsbD 3 = (s.port p).lostCommand
      ∧ (s.statusWord p).getLsbD 2 = (s.port p.other).mailbox.full
      ∧ (s.statusWord p).getLsbD 1 = (s.port p).mailbox.full ∧ (s.statusWord p).getLsbD 0 = (s.port p).cmd.busy := by
  simp only [State.statusWord, BitVec.getLsbD_append]
  simp

/-- The attention line of a port, cause by cause (R174). -/
theorem State.attention_iff (s : State) (p : Port) : s.attention p = true ↔
    ((s.port p).enable.inRoom = true ∧ s.inRoom p = true) ∨ ((s.port p).enable.outReady = true ∧ s.outReady p = true)
      ∨ ((s.port p).enable.mail = true ∧ (s.port p).mailCause = true)
      ∨ ((s.port p).enable.response = true ∧ (s.port p).responseCause = true)
      ∨ ((s.port p).enable.fault = true ∧ (s.port p).faultCause = true)
      ∨ ((s.port p).enable.lost = true
          ∧ ((s.port p).lostPush = true ∨ (s.port p).lostMail = true ∨ (s.port p).lostCommand = true)) := by
  simp [State.attention, PortState.lost, or_assoc]

theorem State.inRoom_iff (s : State) (p : Port) : s.inRoom p = true ↔ (s.pool.port p).af ≤ 32 - s.inCount p :=
  decide_eq_true_iff

theorem State.outReady_iff (s : State) (p : Port) : s.outReady p = true ↔ (s.pool.port p).ae ≤ s.outCount p :=
  decide_eq_true_iff

/-- The port as a STATUS read leaves it (R174). -/
def PortState.statusRead (w : Word) (q : PortState) : PortState :=
  { q with mailCause := false, responseCause := false, faultCause := false, lostPush := false, lostMail := false,
           lostCommand := false, dataOut := w }

theorem State.readStatus_eq (s : State) (p : Port) : s.readStatus p = s.updPort p (.statusRead (s.statusWord p)) := by
  cases p <;> rfl

/-- A change of the ports leaves the state causes as they are (R72). -/
theorem State.room_of_ports {s t : State} (h : t = { s with sPort := t.sPort, lPort := t.lPort }) (p : Port) :
    t.inRoom p = s.inRoom p ∧ t.outReady p = s.outReady p := by
  rw [h]; exact ⟨by cases p <;> rfl, by cases p <;> rfl⟩

/-- Settles O39. -/
theorem statusReadReportsAndClears : Obligations.StatusReadReportsAndClears := by
  refine ⟨fun s p => by rw [State.attention_iff, State.inRoom_iff, State.outReady_iff], fun s p => ?_⟩
  obtain ⟨t, ht, hports, hp, hother⟩ := next_updPort (congrArg Host.Outcome.next (s.readStatus_eq p))
  have hout : (t.port p).dataOut = s.statusWord p := by rw [hp]; rfl
  refine ⟨t, ht, hports, hother, by rw [hp]; rfl, ?_, ?_, ?_⟩
  case refine_1 =>
    obtain ⟨hstate, hcounts, hfree⟩ := s.statusWord_numbers p
    rw [hout]
    exact ⟨hstate, hcounts, hfree, s.statusWord_flags p⟩
  case refine_2 =>
    obtain ⟨hroom, hready⟩ := State.room_of_ports hports p
    rw [State.attention_iff, hp, hroom, hready]
    simp [PortState.statusRead]
  case refine_3 =>
    obtain ⟨hroom, hready⟩ := State.room_of_ports hports p.other
    rw [Bool.eq_iff_iff, State.attention_iff, State.attention_iff, hother, hroom, hready]

/-! ### COMMAND and the select codes -/

theorem statedCount_eq (w : Word) : statedCount w = w.toNat % 16 := by
  simp [statedCount, BitVec.extractLsb'_toNat]

theorem commandNumber_eq (w : Word) : commandNumber w = w.toNat / 2 ^ 24 := by
  have := w.isLt
  rw [commandNumber, fieldA_toNat]
  omega

theorem State.writeCommand_of_busy {s : State} {p : Port} {c : HeldCommand} (w : Word)
    (h : (s.port p).cmd = .inProgress c) : s.writeCommand p w = s.updPort p fun q => { q with lostCommand := true } := by
  simp only [State.writeCommand, h]; rfl

theorem State.writeCommand_of_first {s : State} {p : Port} {w : Word} (h : (s.port p).cmd = .idle)
    (h2 : 2 ≤ w.toNat % 16) (h8 : w.toNat % 16 ≤ 8) :
    s.writeCommand p w = s.updPort p fun q => { q with cmd := .writing [w] } := by
  have hmore : ¬ (statedCount w ≤ 1 ∨ 8 < statedCount w) := by rw [statedCount_eq]; omega
  simp only [State.writeCommand, h, if_neg hmore]

theorem State.writeCommand_of_more {s : State} {p : Port} {first : Word} {args : List Word} (w : Word)
    (h : (s.port p).cmd = .writing (first :: args)) (hmore : args.length + 2 < first.toNat % 16) :
    s.writeCommand p w = s.updPort p fun q => { q with cmd := .writing (first :: (args ++ [w])) } := by
  have hend : ¬ statedCount ((first :: args ++ [w]).headD 0) ≤ (first :: args ++ [w]).length := by
    simp only [List.cons_append, List.headD_cons, statedCount_eq, List.length_cons, List.length_append, List.length_nil]
    omega
  rw [State.writeCommand_writing w h, if_neg hend]
  rfl

/-- The word that completes a command takes it (R168). -/
theorem State.writeCommand_of_last {s : State} {p : Port} {first w : Word} {args : List Word}
    (h : (s.port p).cmd = .idle ∧ args = [] ∧ w = first ∧ (first.toNat % 16 ≤ 1 ∨ 8 < first.toNat % 16)
      ∨ ∃ pre, (s.port p).cmd = .writing (first :: pre) ∧ args = pre ++ [w] ∧ args.length + 1 = first.toNat % 16) :
    s.writeCommand p w = s.takeCommand p (first :: args) := by
  rcases h with ⟨hidle, rfl, rfl, hcount⟩ | ⟨pre, hwriting, rfl, hcount⟩
  · simp only [State.writeCommand, hidle, statedCount_eq, if_pos hcount]
  · have hend : statedCount ((first :: pre ++ [w]).headD 0) ≤ (first :: pre ++ [w]).length := by
      simp only [List.cons_append, List.headD_cons, statedCount_eq, List.length_cons, List.length_append, List.length_nil]
        at hcount ⊢
      omega
    rw [State.writeCommand_writing w hwriting, if_pos hend]
    rfl

/-- A command taken acts as its own words do at the port made idle (R169). -/
theorem State.takeCommand_of_count {s u : State} {p : Port} {first : Word} {args : List Word} (c : Command)
    (hu : s.updPort p (fun q => { q with cmd := .idle }) = u) (hidle : (u.port p).cmd = .idle)
    (hnumber : Command.ofNumber (first.toNat / 2 ^ 24) = some c) (hcount : first.toNat % 16 = args.length + 1)
    (hargs : args.length + 1 = c.words) :
    s.takeCommand p (first :: args) = u.writeCommandWords p (c.firstWord :: args) := by
  have hrun : runCommand c p (fun k => (first :: args).getD (k - 1) 0) u
      = runCommand c p (fun k => (c.firstWord :: args).getD (k - 1) 0) u := by cases c <;> rfl
  rw [State.writeCommandWords_idle c u p args hidle hargs, ← hrun]
  simp only [State.takeCommand, List.headD_cons, commandNumber_eq, hnumber, statedCount_eq, hcount, hargs, hu, ne_eq,
    not_true_eq_false, if_false]

/-- A command with no known number, or not with that command's word count, is refused (R169 step 1). -/
theorem State.takeCommand_of_range {s : State} {p : Port} {first : Word} {args : List Word}
    (h : ∀ c, Command.ofNumber (first.toNat / 2 ^ 24) = some c → first.toNat % 16 ≠ c.words) :
    s.takeCommand p (first :: args) = s.updPort p (.withAnswer .refusedRange []) := by
  simp only [State.takeCommand, List.headD_cons, commandNumber_eq, statedCount_eq]
  split
  next => cases p <;> rfl
  next c hc => rw [if_pos (h c hc)]; cases p <;> rfl

/-- The command a row of R185 stands for: its number, its word count, and its words at COMMAND. -/
def rowIs (p : Port) (u : State) (row : Nat × List Word × Instr) : Prop :=
  ∃ c : Command, Command.ofNumber row.1 = some c ∧ row.2.1.length + 1 = c.words
    ∧ exec row.2.2 u = .next (u.writeCommandWords p (c.firstWord :: row.2.1))

theorem rowIs_of_mem (p : Port) (u : State) (a b c d e : Word) : ∀ row ∈
    [(1, [a, b], Instr.channelOpen p a b), (2, [a], .channelClose p a), (3, [a, b], .channelFlags p a b),
      (4, [a], .channelReset p a), (5, [a], .channelRead p a), (6, [a], .keyStatus p a), (7, [a], .faultRead p a),
      (8, [a], .partRead p a), (9, [a], .renewNow p a), (10, [a], .queueLimits p a), (11, [a], .queueReset p a),
      (12, [a], .faultDismiss p a), (13, [a], .beaconSet p a), (14, [], .beaconCommit p), (15, [], .beaconHalt p),
      (16, [a, b, c, d, e], .loadRoot p a b c d e), (17, [], .partReset p), (18, [], .quiesce p), (19, [], .resume p),
      (20, [a], .localLoop p a), (21, [], .erase p)], rowIs p u row := by
  simp only [List.forall_mem_cons, List.not_mem_nil, false_imp_iff, implies_true, and_true]
  exact ⟨⟨.channelOpen, rfl, rfl, rfl⟩, ⟨.channelClose, rfl, rfl, rfl⟩, ⟨.channelFlags, rfl, rfl, rfl⟩,
    ⟨.channelReset, rfl, rfl, rfl⟩, ⟨.channelRead, rfl, rfl, rfl⟩, ⟨.keyStatus, rfl, rfl, rfl⟩,
    ⟨.faultRead, rfl, rfl, rfl⟩, ⟨.partRead, rfl, rfl, rfl⟩, ⟨.renewNow, rfl, rfl, rfl⟩, ⟨.queueLimits, rfl, rfl, rfl⟩,
    ⟨.queueReset, rfl, rfl, rfl⟩, ⟨.faultDismiss, rfl, rfl, rfl⟩, ⟨.beaconSet, rfl, rfl, rfl⟩,
    ⟨.beaconCommit, rfl, rfl, rfl⟩, ⟨.beaconHalt, rfl, rfl, rfl⟩, ⟨.loadRoot, rfl, rfl, rfl⟩,
    ⟨.partReset, rfl, rfl, rfl⟩, ⟨.quiesce, rfl, rfl, rfl⟩, ⟨.resume, rfl, rfl, rfl⟩, ⟨.localLoop, rfl, rfl, rfl⟩,
    ⟨.erase, rfl, rfl, rfl⟩⟩

/-- The table of word counts by number is that of the commands (R185). -/
theorem words_of_ofNumber {n : Nat} {c : Command} (h : Command.ofNumber n = some c) :
    c.words = [0, 3, 2, 3, 2, 2, 2, 2, 2, 2, 2, 2, 2, 2, 1, 1, 6, 1, 1, 1, 2, 1].getD n 0 ∧ 1 ≤ c.words := by
  unfold Command.ofNumber at h
  split at h <;> cases h <;> exact ⟨rfl, by decide⟩

/-- The port made idle is the state the rows are stated at. -/
theorem State.idle_eq {s u : State} {p : Port} (hports : u = { s with sPort := u.sPort, lPort := u.lPort })
    (hp : u.port p = { s.port p with cmd := .idle }) (hother : u.port p.other = s.port p.other) :
    s.updPort p (fun q => { q with cmd := .idle }) = u := by
  rw [hports]
  cases p
  · exact congrArg₂ (fun a b => ({ s with sPort := a, lPort := b } : State)) hp.symm hother.symm
  · exact congrArg₂ (fun a b => ({ s with sPort := a, lPort := b } : State)) hother.symm hp.symm

/-- Settles O40. -/
theorem registerWritesReachTheirPoint : Obligations.RegisterWritesReachTheirPoint := by
  refine ⟨fun s p w => ⟨?_, rfl, rfl, fun h h2 h8 => ?_, fun c h => ?_⟩, fun s p first w args h hmore => ?_,
    fun s u p first w args h hports hp hother => ⟨fun a b c d e row hrow hnumber hcount hargs => ?_, fun hcount => ?_⟩,
    fun s p => ⟨?_, rfl, rfl, rfl, rfl⟩⟩
  case refine_1 => rintro sel (rfl | rfl | rfl | rfl | rfl) <;> rfl
  case refine_2 => exact next_updPort (congrArg Host.Outcome.next (State.writeCommand_of_first h h2 h8))
  case refine_3 => exact next_updPort (congrArg Host.Outcome.next (State.writeCommand_of_busy w h))
  case refine_4 => exact next_updPort (congrArg Host.Outcome.next (State.writeCommand_of_more w h hmore))
  case refine_5 =>
    obtain ⟨c, hc, hwords, hexec⟩ := rowIs_of_mem p u a b c d e row hrow
    rw [hexec]
    refine congrArg Host.Outcome.next ((State.writeCommand_of_last h).trans ?_)
    rw [hargs]
    exact State.takeCommand_of_count c (State.idle_eq hports hp hother) (by rw [hp]) (by rw [hnumber, hc]) hcount hwords
  case refine_6 =>
    refine next_updPort (congrArg Host.Outcome.next
      ((State.writeCommand_of_last h).trans (State.takeCommand_of_range fun c hc heq => ?_)))
    obtain ⟨htable, hpos⟩ := words_of_ofNumber hc
    rcases hcount with h' | h'
    · exact h' (heq.trans htable)
    · omega
  case refine_7 =>
    rintro sel (rfl | rfl | rfl | rfl) <;> exact next_updPort (p := p) rfl

end Sys2Proof.Machine
end

section
/-! PROOFS. The words of the reading commands (O46, O47). -/

namespace Sys2Proof.Machine

/-! ### A command at an idle port -/

theorem State.respond_eq (p : Port) (st : Status) (ws : List Word) (s : State) :
    s.respond p st ws = s.updPort p (.withAnswer st ws) := by cases p <;> rfl

theorem State.refuse_eq (p : Port) (st : Status) (s : State) : s.refuse p st = s.updPort p (.withAnswer st []) :=
  s.respond_eq p st []

/-- A command that its port may issue acts (R169). -/
theorem State.writeCommandWords_permitted {s : State} {p : Port} (c : Command) {args : List Word}
    (h : (s.port p).cmd = .idle) (hl : args.length + 1 = c.words) (hp : c.permits p = true) :
    s.writeCommandWords p (c.firstWord :: args) = runCommand c p (fun k => (c.firstWord :: args).getD (k - 1) 0) s :=
  (State.writeCommandWords_idle c s p args h hl).trans (if_pos hp)

theorem exec_channelRead {s : State} {p : Port} (w2 : Word) (h : (s.port p).cmd = .idle) :
    exec (.channelRead p w2) s = .next (channelRead p w2 s) :=
  congrArg Host.Outcome.next (State.writeCommandWords_permitted (args := [w2]) .channelRead h rfl rfl)

theorem exec_keyStatus {s : State} {p : Port} (w2 : Word) (h : (s.port p).cmd = .idle) :
    exec (.keyStatus p w2) s = .next (keyStatus p w2 s) :=
  congrArg Host.Outcome.next (State.writeCommandWords_permitted (args := [w2]) .keyStatus h rfl rfl)

theorem exec_partRead {s : State} {p : Port} (w2 : Word) (h : (s.port p).cmd = .idle) :
    exec (.partRead p w2) s = .next (partRead p w2 s) :=
  congrArg Host.Outcome.next (State.writeCommandWords_permitted (args := [w2]) .partRead h rfl rfl)

/-! ### CHANNEL READ (R185) -/

theorem slotCode_eq (o : Option Nat) : slotCode o = o.getD 255 := by cases o <;> rfl

theorem ChanKind.code_lt (k : ChanKind) : k.code < 256 := by cases k <;> decide

theorem ChanState.code_lt (k : ChanState) : k.code < 256 := by cases k <;> decide

/-- The bits of the flag byte are the flags (R184). -/
theorem flagByte_bits (f : ChanFlags) : (flagByte f % 256).testBit 0 = f.hold ∧ (flagByte f % 256).testBit 1 = f.notify
    ∧ (flagByte f % 256).testBit 2 = f.urgent := by
  obtain ⟨hold, notify, urgent⟩ := f
  cases hold <;> cases notify <;> cases urgent <;> decide

/-- Settles O46. -/
theorem channelReadShowsDescriptor : Obligations.ChannelReadShowsDescriptor := by
  intro s p w2 h
  rcases Nat.lt_or_ge 47 (fieldD w2) with hbig | hsmall
  · obtain ⟨t, ht, hports, hp, hother⟩ := next_updPort
      ((exec_channelRead w2 h).trans (congrArg Host.Outcome.next ((if_pos hbig).trans (s.refuse_eq p _))))
    exact ⟨t, ht, hports, hother, fun _ => hp, fun h => absurd h (by omega)⟩
  · have hwords : channelRead p w2 s = _ := (if_neg (show ¬ 47 < fieldD w2 by omega)).trans (s.respond_eq p _ _)
    obtain ⟨t, ht, hports, hp, hother⟩ := next_updPort ((exec_channelRead w2 h).trans (congrArg Host.Outcome.next hwords))
    refine ⟨t, ht, hports, hother, fun h => absurd h (by omega), fun _ => ⟨_, _, _, hp, ?_⟩⟩
    generalize s.chan (fieldD w2) = c
    obtain ⟨hold, notify, urgent⟩ := flagByte_bits c.flags
    refine ⟨?_, fieldB_word4 .., ?_, ?_, ?_, ?_, ?_, ?_, ?_, fieldD_word4 .., ?_⟩
    · rw [fieldA_word4, Nat.mod_eq_of_lt c.kind.code_lt]
    · rw [fieldC_word4, Nat.mod_eq_of_lt c.state.code_lt]
    · rw [getLsbD_fieldD _ _ (by decide), fieldD_word4, hold]
    · rw [getLsbD_fieldD _ _ (by decide), fieldD_word4, notify]
    · rw [getLsbD_fieldD _ _ (by decide), fieldD_word4, urgent]
    · rw [fieldA_word4, slotCode_eq]
    · rw [fieldB_word4, slotCode_eq]
    · rintro g hg
      rw [fieldC_word4, hg, targetByte]
    · cases c.inEngine <;> rfl

/-! ### KEY STATUS and PART READ (R185) -/

theorem word4_toNat_bytesWord (a b c d : Nat) : (word4 a b c d).toNat = bytesWord a b c d := by
  rw [word4_toNat]; rfl

theorem word2_toNat_halvesWord (a b : Nat) : (word2 a b).toNat = halvesWord a b := by rw [word2_toNat]; rfl

/-- A word of two bytes and a half (R185). -/
theorem wordBytesHalf_toNat (a b : Nat) (x : BitVec 16) :
    (BitVec.ofNat 8 a ++ BitVec.ofNat 8 b ++ x : Word).toNat = bytesWord a b 0 0 + x.toNat := by
  rw [show (BitVec.ofNat 8 a ++ BitVec.ofNat 8 b ++ x : Word).toNat = _ from toNat_append_eq (m := 16) (n := 16) _ _,
    show (BitVec.ofNat 8 a ++ BitVec.ofNat 8 b : BitVec 16).toNat = _ from toNat_append_eq (m := 8) (n := 8) _ _, bytesWord]
  simp only [BitVec.toNat_ofNat]
  omega

/-- The value of an entry's word (R185). -/
theorem entryWord_toNat (e : Entry) : (entryWord e).toNat =
    e.slot.getD 255 % 256 * 2 ^ 24 + e.urgency % 16 * 2 ^ 20 + e.reason.code * 2 ^ 16 + e.arrival % 2 ^ 16 := by
  have hreason : e.reason.code < 16 := by cases e.reason <;> decide
  unfold entryWord
  rw [show (BitVec.ofNat 8 (slotCode e.slot) ++ BitVec.ofNat 4 e.urgency ++ BitVec.ofNat 4 e.reason.code
        ++ BitVec.ofNat 16 e.arrival : Word).toNat = _ from toNat_append_eq (m := 16) (n := 16) _ _,
    show (BitVec.ofNat 8 (slotCode e.slot) ++ BitVec.ofNat 4 e.urgency ++ BitVec.ofNat 4 e.reason.code : BitVec 16).toNat
        = _ from toNat_append_eq (m := 12) (n := 4) _ _,
    show (BitVec.ofNat 8 (slotCode e.slot) ++ BitVec.ofNat 4 e.urgency : BitVec 12).toNat = _ from
      toNat_append_eq (m := 8) (n := 4) _ _, slotCode_eq]
  simp only [BitVec.toNat_ofNat]
  omega

/-- The value of a context's second word (R185). -/
theorem contextWord_toNat (a b c d e : Nat) (hb : b < 16) (hd : d < 256) :
    (BitVec.ofNat 8 a ++ BitVec.ofNat 4 b ++ BitVec.ofNat 4 c ++ BitVec.ofNat 8 d ++ BitVec.ofNat 8 e : Word).toNat =
      a % 256 * 2 ^ 24 + b * 2 ^ 20 + c % 16 * 2 ^ 16 + d * 2 ^ 8 + e % 256 := by
  rw [show (BitVec.ofNat 8 a ++ BitVec.ofNat 4 b ++ BitVec.ofNat 4 c ++ BitVec.ofNat 8 d ++ BitVec.ofNat 8 e
        : Word).toNat = _ from toNat_append_eq (m := 24) (n := 8) _ _,
    show (BitVec.ofNat 8 a ++ BitVec.ofNat 4 b ++ BitVec.ofNat 4 c ++ BitVec.ofNat 8 d : BitVec 24).toNat = _ from
      toNat_append_eq (m := 16) (n := 8) _ _,
    show (BitVec.ofNat 8 a ++ BitVec.ofNat 4 b ++ BitVec.ofNat 4 c : BitVec 16).toNat = _ from
      toNat_append_eq (m := 12) (n := 4) _ _,
    show (BitVec.ofNat 8 a ++ BitVec.ofNat 4 b : BitVec 12).toNat = _ from toNat_append_eq (m := 8) (n := 4) _ _]
  simp only [BitVec.toNat_ofNat]
  omega

/-- Four bytes of a list of numbers, the absent ones 0. -/
theorem bytesNat_padTo_four (l : List Nat) : bytesNat (padTo 4 (l.map (BitVec.ofNat 8)))
    = bytesWord (l.getD 0 0) (l.getD 1 0) (l.getD 2 0) (l.getD 3 0) := by
  unfold bytesWord
  match l with
  | [] => rfl
  | [a] => simp [padTo, bytesNat, List.replicate]; omega
  | [a, b] => simp [padTo, bytesNat, List.replicate]; omega
  | [a, b, c] => simp [padTo, bytesNat]; omega
  | a :: b :: c :: d :: l => simp [padTo, bytesNat]; omega

/-- The words of a list of byte numbers (R185). -/
theorem byteWords_toNat (n : Nat) (l : List Nat) : (byteWords n l).map (·.toNat) = (List.range n).map fun k =>
    bytesWord (l.getD (4 * k) 0) (l.getD (4 * k + 1) 0) (l.getD (4 * k + 2) 0) (l.getD (4 * k + 3) 0) := by
  unfold byteWords
  induction n generalizing l with
  | zero => rfl
  | succ n ih =>
    have hlt := bytesNat_lt (padTo 4 (l.map (BitVec.ofNat 8)))
    rw [padTo_length] at hlt
    have hhead : (BitVec.ofNat 32 (bytesNat (padTo 4 (l.map (BitVec.ofNat 8))))).toNat
        = bytesWord (l.getD 0 0) (l.getD 1 0) (l.getD 2 0) (l.getD 3 0) := by
      rw [BitVec.toNat_ofNat, ← bytesNat_padTo_four]
      exact Nat.mod_eq_of_lt hlt
    rw [packWords, List.map_cons, hhead, ← List.map_drop, ih, List.range_succ_eq_map, List.map_cons, List.map_map]
    refine congrArg₂ List.cons rfl (List.map_congr_left fun k _ => ?_)
    simp only [Function.comp_apply, List.getD_eq_getElem?_getD, List.getElem?_drop]
    congr 3 <;> omega

theorem toNat_eq_ite (b : Bool) : b.toNat = if b then 1 else 0 := by cases b <;> rfl

/-- KEY STATUS of slot 0 (R185). -/
theorem rootWords_toNat (r : Root) : (rootWords r).map (·.toNat) =
    [bytesWord (if r.active then 2 else 0) (if r.pendingRoot.isSome then 1 else 0) 0 0 + (r.storeTag.getD 0).toNat,
      0, r.txCounter / 2 ^ 32 % 2 ^ 16, r.txCounter % 2 ^ 32, 0, 0, 0, 0, 0, 0, 0, 0, 0] := by
  have hcounter : halvesWord 0 (r.txCounter / 2 ^ 32) = r.txCounter / 2 ^ 32 % 2 ^ 16 := by simp [halvesWord]
  simp only [rootWords, List.map_cons, List.map_nil, wordBytesHalf_toNat, word2_toNat_halvesWord, word1_toNat, hcounter,
    toNat_eq_ite]
  rfl

/-- KEY STATUS of a working slot (R185). -/
theorem slotWords_toNat (v : Slot) : (slotWords v).map (·.toNat) =
    [bytesWord v.state.code v.generation.toNat v.level v.refs,
      bytesWord (v.predecessor.getD 255) (v.successor.getD 255) v.drain ((if v.spent then 1 else 0)
        + (if v.suspect then 2 else 0) + (if v.requested then 4 else 0) + (if v.engineUse then 8 else 0)),
      bytesWord v.tagFailures v.replays 0 0 + v.txCounter / 2 ^ 32 % 2 ^ 16, v.txCounter % 2 ^ 32,
      halvesWord v.lead (v.top / 2 ^ 32), v.top % 2 ^ 32, v.used % 2 ^ 32, v.intervalCharge % 2 ^ 32,
      v.rate % 2 ^ 32, v.hard % 2 ^ 32, v.soft % 2 ^ 32, v.maxAge % 2 ^ 32, v.age % 2 ^ 32] := by
  have hflags : v.spent.toNat + 2 * v.suspect.toNat + 4 * v.requested.toNat + 8 * v.engineUse.toNat
      = (if v.spent then 1 else 0) + (if v.suspect then 2 else 0) + (if v.requested then 4 else 0)
        + (if v.engineUse then 8 else 0) := by
    cases v.spent <;> cases v.suspect <;> cases v.requested <;> cases v.engineUse <;> rfl
  simp only [slotWords, List.map_cons, List.map_nil, wordBytesHalf_toNat, word4_toNat_bytesWord, word2_toNat_halvesWord,
    word1_toNat, hflags, slotCode_eq, BitVec.toNat_ofNat]
  rfl

/-- The list of PART READ for the request list: its entries, then words of 0 (R185). -/
theorem entryWords_toNat (l : List Entry) :
    (((l.map entryWord) ++ List.replicate 8 0).take 8).map (fun w : Word => w.toNat)
      = (List.range 8).map fun k => ((l[k]?).map fun e => (entryWord e).toNat).getD 0 := by
  have hzero : ∀ j, j < 8 → (List.replicate 8 (0 : Word))[j]? = some 0 := fun j hj => by
    rw [List.getElem?_replicate, if_pos hj]
  generalize List.replicate 8 (0 : Word) = zeros at hzero
  refine List.ext_getElem? fun k => ?_
  rcases Nat.lt_or_ge k 8 with hk | hk
  · rcases Nat.lt_or_ge k l.length with hl | hl
    · simp [hk, hl, List.getElem?_append]
    · simp [hk, hl, List.getElem?_append, hzero _ (show k - l.length < 8 by omega)]
  · simp [hk]

/-- A context's two words (R185). -/
theorem contextWords_toNat (c : Context) : (contextWords c).map (·.toNat) =
    [bytesWord c.state.code (c.exchange.getD 0) (ctxKindCode c.kind) (c.subject.getD 255),
      c.successor.getD 255 % 256 * 2 ^ 24 + reasonCode c.reason * 2 ^ 20 + c.attempt % 16 * 2 ^ 16 + c.send.code * 2 ^ 8
        + c.reply % 256] := by
  have hreason : reasonCode c.reason < 16 := by
    rcases c.reason with _ | r
    · decide
    · cases r <;> decide
  have hsend : c.send.code < 256 := by cases c.send <;> decide
  have hnumber : numberCode c.exchange = c.exchange.getD 0 := by cases c.exchange <;> rfl
  simp only [contextWords, List.map_cons, List.map_nil, word4_toNat_bytesWord, contextWord_toNat _ _ _ _ _ hreason hsend,
    hnumber, slotCode_eq]

/-- The backoffs in PART READ: the BOOT backoff, then those of slots 1 to 23 (R185). -/
theorem backoffWords_toNat (s : State) :
    (byteWords 6 (s.renewal.bootBackoff.remaining :: workingSlots.map fun x => (s.backoff x).remaining)).map (·.toNat)
      = (List.range 6).map fun k => bytesWord
          (if k = 0 then s.renewal.bootBackoff.remaining else (s.backoff (4 * k)).remaining)
          (s.backoff (4 * k + 1)).remaining (s.backoff (4 * k + 2)).remaining (s.backoff (4 * k + 3)).remaining := by
  rw [byteWords_toNat]
  refine List.map_congr_left fun k hk => ?_
  have hlt : k < 6 := List.mem_range.mp hk
  interval_cases k <;> rfl

theorem pairWords_two (a b : Nat) (l : List Nat) :
    (pairWords (a :: b :: l)).map (·.toNat) = halvesWord a b :: (pairWords l).map (·.toNat) := by
  rw [pairWords, List.map_cons, word2_toNat_halvesWord]

theorem pairWords_one (a : Nat) : (pairWords [a]).map (·.toNat) = [halvesWord a 0] := by
  rw [pairWords, List.map_cons, word2_toNat_halvesWord]; rfl

theorem pairWords_nil : (pairWords []).map (·.toNat) = [] := rfl

/-- The words of the section that a PART READ names are the answer (R170). -/
theorem partRead_of_section {s : State} {p : Port} {w2 : Word} {ws : List Word}
    (h : sectionWords s (fieldD w2) = some ws) : partRead p w2 s = s.updPort p (.withAnswer .done ws) := by
  simp only [partRead, h, State.respond_eq]

theorem partRead_of_none {s : State} {p : Port} {w2 : Word} (h : sectionWords s (fieldD w2) = none) :
    partRead p w2 s = s.updPort p (.withAnswer .refusedRange []) := by
  simp only [partRead, h, State.refuse_eq]

theorem sectionWords_of_range {s : State} {n : Nat} (h : ¬ (1 ≤ n ∧ n ≤ 6)) : sectionWords s n = none := by
  unfold sectionWords
  split
  case h_7 => rfl
  all_goals exact absurd h (by decide)

/-- KEY STATUS answers the words of the slot and changes no field (R41, R185). -/
theorem keyStatus_shows (s : State) (p : Port) (w2 : Word) (h : (s.port p).cmd = .idle) :
    ∃ t, exec (.keyStatus p w2) s = .next t ∧ t = { s with sPort := t.sPort, lPort := t.lPort }
      ∧ t.port p.other = s.port p.other
      ∧ (23 < fieldD w2 → t.port p = (s.port p).withAnswer .refusedRange [])
      ∧ (fieldD w2 = 0 → t.port p = (s.port p).withAnswer .done (rootWords s.root))
      ∧ (1 ≤ fieldD w2 → fieldD w2 ≤ 23 → t.port p = (s.port p).withAnswer .done (slotWords (s.slot (fieldD w2)))) := by
  have hexec := exec_keyStatus w2 h
  rcases Nat.lt_or_ge 23 (fieldD w2) with hbig | hsmall
  · obtain ⟨t, ht, hports, hp, hother⟩ := next_updPort
      (hexec.trans (congrArg Host.Outcome.next ((if_pos hbig).trans (s.refuse_eq p _))))
    exact ⟨t, ht, hports, hother, fun _ => hp, fun h => absurd h (by omega), fun _ h => absurd h (by omega)⟩
  · have hwords : keyStatus p w2 s = _ := (if_neg (show ¬ 23 < fieldD w2 by omega)).trans (s.respond_eq p _ _)
    obtain ⟨t, ht, hports, hp, hother⟩ := next_updPort (hexec.trans (congrArg Host.Outcome.next hwords))
    refine ⟨t, ht, hports, hother, fun h => absurd h (by omega), fun h0 => ?_, fun h1 _ => ?_⟩
    · rw [hp, if_pos h0]
    · rw [hp, if_neg (by omega)]

/-- PART READ answers the words of the section and changes no field (R170). -/
theorem partRead_shows (s : State) (p : Port) (w2 : Word) (h : (s.port p).cmd = .idle) :
    ∃ t, exec (.partRead p w2) s = .next t ∧ t = { s with sPort := t.sPort, lPort := t.lPort }
      ∧ t.port p.other = s.port p.other
      ∧ (¬ (1 ≤ fieldD w2 ∧ fieldD w2 ≤ 6) → t.port p = (s.port p).withAnswer .refusedRange [])
      ∧ ∀ ws, sectionWords s (fieldD w2) = some ws → t.port p = (s.port p).withAnswer .done ws := by
  have hexec := exec_partRead w2 h
  cases hws : sectionWords s (fieldD w2) with
  | none =>
    obtain ⟨t, ht, hports, hp, hother⟩ := next_updPort (hexec.trans (congrArg Host.Outcome.next (partRead_of_none hws)))
    exact ⟨t, ht, hports, hother, fun _ => hp, fun ws h => absurd h (by simp)⟩
  | some ws =>
    obtain ⟨t, ht, hports, hp, hother⟩ := next_updPort (hexec.trans (congrArg Host.Outcome.next (partRead_of_section hws)))
    refine ⟨t, ht, hports, hother, fun h => absurd (hws.symm.trans (sectionWords_of_range h)) (by simp), fun ws' h => ?_⟩
    rw [hp, Option.some.inj h]

/-- PART READ, section PART (R185). -/
theorem partWords_toNat (s : State) : (partWords s).map (·.toNat) =
    [bytesWord s.partState.code (match s.eraseWindow with | none => 0 | some (.s, _) => 1 | some (.l, _) => 2)
        (match s.eraseWindow with | none => 0 | some (_, n) => n) (if s.link.test.isSome then 1 else 0),
      s.tick % 2 ^ 32] := by
  rw [← toNat_eq_ite s.link.test.isSome]
  have hwords : ∀ owner ticks : Nat, [word4 s.partState.code owner ticks s.link.test.isSome.toNat, word1 s.tick].map
      (fun w : Word => w.toNat) = [bytesWord s.partState.code owner ticks s.link.test.isSome.toNat, s.tick % 2 ^ 32] :=
    fun owner ticks => by
      rw [List.map_cons, List.map_cons, word4_toNat_bytesWord, word1_toNat]; rfl
  exact hwords _ _

theorem poolWords_toNat (s : State) : (poolWords s).map (·.toNat) =
    [bytesWord s.pool.free s.sIn.length s.sOut.length s.lRx.length,
      bytesWord s.lTx.length s.ctrl.length (if s.pool.setAside then 1 else 0) (if s.pool.low then 1 else 0),
      bytesWord s.pool.sPort.af s.pool.sPort.ae (causesByte s.sPort.enable) 0,
      bytesWord s.pool.lPort.af s.pool.lPort.ae (causesByte s.lPort.enable) 0,
      halvesWord s.pool.sPort.overrun s.pool.lPort.overrun] := by
  simp only [poolWords, List.map_cons, List.map_nil, word4_toNat_bytesWord, word2_toNat_halvesWord, toNat_eq_ite]

theorem engineWords_toNat (e : Engine) : (engineWords e).map (·.toNat) =
    bytesWord (if e.work.isSome then 1 else 0) (workCode e.work) e.lastDirection.code 0
      :: [e.discards.notReady, e.discards.unknownKey, e.discards.suspect, e.discards.replay, e.discards.tagFail,
          e.discards.noChannel, e.discards.held, e.discards.rootLimit].map (· % 2 ^ 32) := by
  simp only [engineWords, List.map_cons, List.map_nil, word4_toNat_bytesWord, word1_toNat, toNat_eq_ite]
  rfl

theorem linkWords_toNat (l : LinkWatch) : (linkWords l).map (·.toNat) =
    [bytesWord l.quiet.code l.quietRemaining l.malformed l.lastMalformed, halvesWord l.foreign l.overrun,
      halvesWord l.lastForeign l.lastOverrun]
    ++ [l.totalMalformed, l.totalForeign, l.totalOverrun, l.probesAnswered, l.probesDropped].map (· % 2 ^ 32) := by
  simp only [linkWords, List.map_cons, List.map_nil, word4_toNat_bytesWord, word2_toNat_halvesWord, word1_toNat]
  rfl

/-- The word of the last refusal in PART READ (R185). -/
def refusalWord : Option (Nat × Nat) → Word
  | some (e, r) => word4 e r 0 0
  | none => 0

theorem messengerWords_eq (m : Messenger) : messengerWords m =
    word4 m.nextExchange m.finished.length m.noSlotMark.toNat 0 :: byteWords 2 m.finished
    ++ [refusalWord m.lastRefusal]
    ++ pairWords
      [ m.handedDelivery, m.handedCommit, m.handedRefuse, m.handedRenew, m.handedOrder, m.handedAck,
        m.handedProbe, m.unparseable, m.stale, m.rejectNotEmpty, m.rejectNoSlot, m.rejectLevel,
        m.rejectGeneration, m.rejectWrapCheck, m.rejectNoContext, m.rejectsNotSent, m.ordersApplied,
        m.ordersNotApplied ] := rfl

/-- PART READ, section MESSENGER (R185); `v` is the value of its last refusal. -/
theorem messengerWords_toNat (m : Messenger) {v : Nat} (hv : (refusalWord m.lastRefusal).toNat = v) : (messengerWords m).map (·.toNat) =
    [bytesWord m.nextExchange m.finished.length (if m.noSlotMark then 1 else 0) 0,
      bytesWord (m.finished.getD 0 0) (m.finished.getD 1 0) (m.finished.getD 2 0) (m.finished.getD 3 0),
      bytesWord (m.finished.getD 4 0) (m.finished.getD 5 0) (m.finished.getD 6 0) (m.finished.getD 7 0),
      v,
      halvesWord m.handedDelivery m.handedCommit, halvesWord m.handedRefuse m.handedRenew,
      halvesWord m.handedOrder m.handedAck, halvesWord m.handedProbe m.unparseable,
      halvesWord m.stale m.rejectNotEmpty, halvesWord m.rejectNoSlot m.rejectLevel,
      halvesWord m.rejectGeneration m.rejectWrapCheck, halvesWord m.rejectNoContext m.rejectsNotSent,
      halvesWord m.ordersApplied m.ordersNotApplied] := by
  rw [messengerWords_eq, List.map_append, List.map_append, List.map_cons, byteWords_toNat]
  simp only [pairWords_two, pairWords_nil, word4_toNat_bytesWord, List.map_cons, List.map_nil, toNat_eq_ite, hv,
    show List.range 2 = [0, 1] from rfl, List.cons_append, List.nil_append, Nat.mul_zero, Nat.mul_one, Nat.zero_add,
    Nat.reduceAdd]

theorem renewalWords_toNat (s : State) : (renewalWords s).map (·.toNat) =
    [s.renewal.list.length % 256]
    ++ (List.range 8).map (fun k => ((s.renewal.list[k]?).map fun e => (entryWord e).toNat).getD 0)
    ++ [0, 1, 2, 3].flatMap (fun c =>
        [bytesWord (s.ctx c).state.code ((s.ctx c).exchange.getD 0) (ctxKindCode (s.ctx c).kind)
            ((s.ctx c).subject.getD 255),
          (s.ctx c).successor.getD 255 % 256 * 2 ^ 24 + reasonCode (s.ctx c).reason * 2 ^ 20
            + (s.ctx c).attempt % 16 * 2 ^ 16 + (s.ctx c).send.code * 2 ^ 8 + (s.ctx c).reply % 256])
    ++ (List.range 6).map (fun k => bytesWord
        (if k = 0 then s.renewal.bootBackoff.remaining else (s.backoff (4 * k)).remaining) (s.backoff (4 * k + 1)).remaining
        (s.backoff (4 * k + 2)).remaining (s.backoff (4 * k + 3)).remaining)
    ++ [halvesWord s.renewal.received s.renewal.notListed, halvesWord s.renewal.replaced s.renewal.started,
        halvesWord s.renewal.completed s.renewal.failed, halvesWord s.renewal.refused 0] := by
  have hcount : bytesWord 0 0 0 s.renewal.list.length = s.renewal.list.length % 256 := by simp [bytesWord]
  rw [renewalWords]
  simp only [List.map_append, List.map_cons, entryWords_toNat, backoffWords_toNat, List.map_flatMap, contextWords_toNat,
    pairWords_two, pairWords_one, word4_toNat_bytesWord, hcount]
  rfl

/-- Settles O47. -/
theorem readingCommandsChangeNothing : Obligations.ReadingCommandsChangeNothing := by
  intro s p w2 h
  refine ⟨?_, ?_⟩
  · obtain ⟨t, ht, hports, hother, hrange, hroot, hslot⟩ := keyStatus_shows s p w2 h
    refine ⟨t, ht, hports, hother, hrange, fun h0 => ⟨_, hroot h0, ?_⟩, ?_⟩
    · rw [rootWords_toNat]
      rcases s.root.storeTag with _ | tag <;> rfl
    · rintro v rfl h1 h23
      exact ⟨_, hslot h1 h23, slotWords_toNat _⟩
  · obtain ⟨t, ht, hports, hother, hrange, hsection⟩ := partRead_shows s p w2 h
    refine ⟨t, ht, hports, hother, hrange, fun h1 h6 => ?_⟩
    have hsome : ∃ ws, sectionWords s (fieldD w2) = some ws := by
      interval_cases fieldD w2 <;> exact ⟨_, rfl⟩
    obtain ⟨ws, hws⟩ := hsome
    refine ⟨ws, hsection ws hws, fun hd => ?_, fun hd => ?_, fun hd => ?_, fun hd => ?_, ?_, ?_⟩
    · rw [hd] at hws
      exact (congrArg (List.map _) (Option.some.inj hws).symm).trans ((partWords_toNat s).trans (by
        rcases s.eraseWindow with _ | ⟨p, n⟩
        · rfl
        · cases p <;> rfl))
    · rw [hd] at hws
      rw [← Option.some.inj hws, poolWords_toNat]
    · rw [hd] at hws
      rw [← Option.some.inj hws, engineWords_toNat]
      rfl
    · rw [hd] at hws
      rw [← Option.some.inj hws, linkWords_toNat]
    · rintro m rfl hd
      rw [hd] at hws
      rw [← Option.some.inj hws]
      refine messengerWords_toNat _ ?_
      rcases s.messenger.lastRefusal with _ | ⟨e, r⟩
      · rfl
      · exact word4_toNat_bytesWord ..
    · rintro n rfl hd
      rw [hd] at hws
      rw [← Option.some.inj hws, renewalWords_toNat]
      refine congrArg₂ (· ++ ·) (congrArg₂ (· ++ ·) (congrArg₂ (· ++ ·) (congrArg₂ (· ++ ·) rfl
        (List.map_congr_left fun k _ => ?entries)) (congrArg (List.flatMap · [0, 1, 2, 3]) (funext fun c => ?contexts)))
        rfl) rfl
      case entries =>
        rcases s.renewal.list[k]? with _ | e
        · rfl
        · exact entryWord_toNat e
      case contexts =>
        rcases (s.ctx c).kind with _ | k
        · rcases (s.ctx c).reason with _ | r <;> rfl
        · cases k <;> rcases (s.ctx c).reason with _ | r <;> rfl

end Sys2Proof.Machine
end

section
/-! PROOFS. The Fault Monitor's raise and clear, and how a record leaves the list (O60, O53). -/

namespace Sys2Proof.Machine

/-! ### One element of a list -/

theorem find?_of_split {α : Type} {q : α → Bool} {pre post : List α} {a : α} (hpre : ∀ b ∈ pre, q b = false)
    (ha : q a = true) : (pre ++ a :: post).find? q = some a := by
  rw [List.find?_append, List.find?_eq_none.mpr (fun b hb => by simp [hpre b hb]), Option.none_or,
    List.find?_cons_of_pos ha]

/-- A map that leaves every other element as it is. -/
theorem map_of_fixed {α : Type} {f : α → α} {pre post : List α} {a : α} (hrest : ∀ b ∈ pre ++ post, f b = b) :
    (pre ++ a :: post).map f = pre ++ f a :: post := by
  have hsame : ∀ l : List α, (∀ b ∈ l, f b = b) → l.map f = l := fun l hl =>
    (List.map_congr_left hl).trans (List.map_id'' (fun _ => rfl) l)
  rw [List.map_append, List.map_cons, hsame pre fun b hb => hrest b (List.mem_append_left _ hb),
    hsame post fun b hb => hrest b (List.mem_append_right _ hb)]

theorem map_of_split {α : Type} {q : α → Bool} {g : α → α} {pre post : List α} {a : α}
    (hrest : ∀ b ∈ pre ++ post, q b = false) (ha : q a = true) :
    (pre ++ a :: post).map (fun b => if q b then g b else b) = pre ++ g a :: post := by
  rw [map_of_fixed fun b hb => if_neg (by simp [hrest b hb]), if_pos ha]

theorem filter_of_split {α : Type} {q : α → Bool} {pre post : List α} {a : α} (hrest : ∀ b ∈ pre ++ post, q b = true)
    (ha : q a = false) : (pre ++ a :: post).filter q = pre ++ post := by
  rw [List.filter_append, List.filter_cons_of_neg (by simp [ha]), ← List.filter_append, List.filter_eq_self.mpr hrest]

/-- The record before the first one with an identifier (R159). -/
theorem precedingId_of_split {id : Nat} {pre post : List FaultRecord} {r : FaultRecord} (before : Option Nat)
    (hpre : ∀ q ∈ pre, q.id ≠ id) (hr : r.id = id) :
    precedingId id before (pre ++ r :: post) = (pre.getLast?.map (·.id)).or before := by
  induction pre generalizing before with
  | nil => simp [precedingId, hr]
  | cons q l ih =>
    have hq : q.id ≠ id := hpre q (List.mem_cons_self ..)
    rw [List.cons_append, precedingId, if_neg hq, ih _ fun p hp => hpre p (List.mem_cons_of_mem _ hp)]
    cases l with
    | nil => rfl
    | cons p l =>
      obtain ⟨z, hz⟩ : ∃ z, (p :: l).getLast? = some z := ⟨_, List.getLast?_eq_some_getLast (by simp)⟩
      rw [List.getLast?_cons_cons, hz]
      rfl

/-! ### A record leaves the list (R152, R153, R159) -/

/-- A record of its own identifier leaves the list, and its marker passes to the record before it. -/
theorem State.removeRecord_of_split {s : State} {id : Nat} {pre post : List FaultRecord} {r : FaultRecord}
    (hs : s.faults.records = pre ++ r :: post) (hr : r.id = id) (hrest : ∀ q ∈ pre ++ post, q.id ≠ id) :
    s.removeRecord id = { s with
      faults := { s.faults with records := pre ++ post },
      beacon := { s.beacon with marker :=
        if s.beacon.marker = some id then pre.getLast?.map (·.id) else s.beacon.marker } } := by
  have hfilter : s.faults.records.filter (fun r => r.id != id) = pre ++ post := by
    rw [hs]
    exact filter_of_split (fun q hq => by simp [hrest q hq]) (by simp [hr])
  have hmarker : precedingId id none s.faults.records = pre.getLast?.map (·.id) := by
    rw [hs, precedingId_of_split none (fun q hq => hrest q (List.mem_append_left _ hq)) hr, Option.or_none]
  simp only [State.removeRecord, State.updBeacon, State.updFaults, hfilter, hmarker]
  split <;> rfl

/-! ### A clear (R151) -/

theorem hits_eq_false {k : FaultKind} {x : Subject} {r : FaultRecord} (h : ¬ (r.kind = k ∧ r.subject = x)) :
    r.hits k x = false := Bool.eq_false_iff.mpr fun hits => h ((FaultRecord.hits_iff k x r).mp hits)

theorem State.find?_hits_of_none {s : State} {k : FaultKind} {x : Subject}
    (h : ∀ q ∈ s.faults.records, ¬ (q.kind = k ∧ q.subject = x)) : s.faults.records.find? (·.hits k x) = none :=
  List.find?_eq_none.mpr fun q hq => by simp [hits_eq_false (h q hq)]

theorem State.clearFault_of_none {s : State} {k : FaultKind} {x : Subject}
    (h : ∀ q ∈ s.faults.records, ¬ (q.kind = k ∧ q.subject = x)) : s.clearFault k x = s := by
  simp only [State.clearFault, State.find?_hits_of_none h]

section
variable {s : State} {k : FaultKind} {x : Subject} {pre post : List FaultRecord} {r : FaultRecord}

theorem State.find?_hits_of_split (hs : s.faults.records = pre ++ r :: post)
    (hrest : ∀ q ∈ pre ++ post, ¬ (q.kind = k ∧ q.subject = x)) (hr : r.kind = k ∧ r.subject = x) :
    s.faults.records.find? (·.hits k x) = some r := by
  rw [hs]
  exact find?_of_split (fun q hq => hits_eq_false (hrest q (List.mem_append_left _ hq)))
    ((FaultRecord.hits_iff k x r).mpr hr)

theorem State.updRecord_of_split (g : FaultRecord → FaultRecord) (hs : s.faults.records = pre ++ r :: post)
    (hrest : ∀ q ∈ pre ++ post, ¬ (q.kind = k ∧ q.subject = x)) (hr : r.kind = k ∧ r.subject = x) :
    s.updRecord k x g = { s with faults := { s.faults with records := pre ++ g r :: post } } := by
  simp only [State.updRecord, State.updFaults, hs,
    map_of_split (g := g) (fun q hq => hits_eq_false (hrest q hq)) ((FaultRecord.hits_iff k x r).mpr hr)]

theorem State.clearFault_of_active (hs : s.faults.records = pre ++ r :: post)
    (hrest : ∀ q ∈ pre ++ post, ¬ (q.kind = k ∧ q.subject = x)) (hr : r.kind = k ∧ r.subject = x)
    (hactive : r.active = true) :
    s.clearFault k x =
      ((({ s with faults := { s.faults with records := pre ++ r.clear :: post } } : State).armOneShot).latchFault) := by
  simp only [State.clearFault, State.find?_hits_of_split hs hrest hr, hactive, if_true,
    State.updRecord_of_split FaultRecord.clear hs hrest hr]

theorem State.clearFault_of_cleared (hs : s.faults.records = pre ++ r :: post)
    (hrest : ∀ q ∈ pre ++ post, ¬ (q.kind = k ∧ q.subject = x)) (hr : r.kind = k ∧ r.subject = x)
    (hactive : r.active = false) : s.clearFault k x = s := by
  simp only [State.clearFault, State.find?_hits_of_split hs hrest hr, hactive, Bool.false_eq_true, if_false]

/-! ### A raise (R150, R152) -/

theorem State.raiseFault_of_active (hs : s.faults.records = pre ++ r :: post)
    (hrest : ∀ q ∈ pre ++ post, ¬ (q.kind = k ∧ q.subject = x)) (hr : r.kind = k ∧ r.subject = x)
    (hactive : r.active = true) (hcount : r.count < 255) :
    s.raiseFault k x = (({ s with faults := { s.faults with records := pre ++
      { r with count := r.count + 1, last := s.tick, reported := false } :: post } } : State).armOneShot) := by
  simp only [State.raiseFault, State.find?_hits_of_split hs hrest hr, hactive, if_true, if_pos hcount,
    State.updRecord_of_split _ hs hrest hr, FaultRecord.raiseAgain]

theorem State.raiseFault_of_saturated (hs : s.faults.records = pre ++ r :: post)
    (hrest : ∀ q ∈ pre ++ post, ¬ (q.kind = k ∧ q.subject = x)) (hr : r.kind = k ∧ r.subject = x)
    (hactive : r.active = true) (hcount : 255 ≤ r.count) :
    s.raiseFault k x = { s with faults := { s.faults with records := pre ++ { r with last := s.tick } :: post } } := by
  simp only [State.raiseFault, State.find?_hits_of_split hs hrest hr, hactive, if_true,
    if_neg (show ¬ r.count < 255 by omega), State.updRecord_of_split _ hs hrest hr, FaultRecord.raiseAgain]

theorem State.raiseFault_of_cleared (hs : s.faults.records = pre ++ r :: post)
    (hrest : ∀ q ∈ pre ++ post, ¬ (q.kind = k ∧ q.subject = x)) (hr : r.kind = k ∧ r.subject = x)
    (hactive : r.active = false) :
    s.raiseFault k x = ((({ s with faults := { s.faults with records := pre ++
      { r with active := true, count := min (r.count + 1) 255, last := s.tick, acked := 0, reported := false } :: post }
      } : State).armOneShot).latchFault) := by
  simp only [State.raiseFault, State.find?_hits_of_split hs hrest hr, hactive, Bool.false_eq_true, if_false,
    State.updRecord_of_split _ hs hrest hr, FaultRecord.reactivate]

end

theorem State.raiseFault_of_room {s : State} {k : FaultKind} {x : Subject}
    (h : ∀ q ∈ s.faults.records, ¬ (q.kind = k ∧ q.subject = x)) (hroom : s.faults.records.length < 16) :
    s.raiseFault k x = s.createRecord k x true := by
  simp only [State.raiseFault, State.find?_hits_of_none h, if_pos hroom]

/-- A full list gives up its first CLEARED record (R152). -/
theorem State.raiseFault_of_replaced {s : State} {k : FaultKind} {x : Subject} {pre post : List FaultRecord}
    {old : FaultRecord} (h : ∀ q ∈ s.faults.records, ¬ (q.kind = k ∧ q.subject = x))
    (hfull : 16 ≤ s.faults.records.length) (hs : s.faults.records = pre ++ old :: post)
    (hpre : ∀ q ∈ pre, q.active = true) (hold : old.active = false) :
    s.raiseFault k x = (s.removeRecord old.id).createRecord k x true := by
  have hfind : s.faults.records.find? (fun r => !r.active) = some old := by
    rw [hs]
    exact find?_of_split (fun q hq => by simp [hpre q hq]) (by simp [hold])
  simp only [State.raiseFault, State.find?_hits_of_none h, if_neg (show ¬ s.faults.records.length < 16 by omega), hfind]

/-- A list full of ACTIVE records sets the overflow mark (R152). -/
theorem State.raiseFault_of_full {s : State} {k : FaultKind} {x : Subject}
    (h : ∀ q ∈ s.faults.records, q.active = true ∧ ¬ (q.kind = k ∧ q.subject = x))
    (hfull : 16 ≤ s.faults.records.length) : s.raiseFault k x = s.setOverflow := by
  have hfind : s.faults.records.find? (fun r => !r.active) = none :=
    List.find?_eq_none.mpr fun q hq => by simp [(h q hq).1]
  simp only [State.raiseFault, State.find?_hits_of_none fun q hq => (h q hq).2,
    if_neg (show ¬ s.faults.records.length < 16 by omega), hfind]

theorem State.createRecord_beacon (k : FaultKind) (x : Subject) (a : Bool) (s : State) :
    (s.createRecord k x a).beacon = { s.beacon with oneShot := s.beacon.working.repeats + 1 } := rfl

theorem State.createRecord_faults (k : FaultKind) (x : Subject) (a : Bool) (s : State) :
    (s.createRecord k x a).faults = { s.faults with
      records := s.faults.records ++ [{ id := firstUnused 17 (s.faults.records.map (·.id)) s.faults.nextId, kind := k,
                                        subject := x, first := s.tick, last := s.tick, active := a }]
      nextId := nextNumber (firstUnused 17 (s.faults.records.map (·.id)) s.faults.nextId) } := rfl

/-- The identifier of a new record: the first, counting 1 to 255 upwards from the next one, that no record holds (R150). -/
theorem newId_spec {records : List FaultRecord} {n : Nat} (h1 : 1 ≤ n) (h255 : n ≤ 255) (hlen : records.length ≤ 15) :
    ∃ m id, m ≤ 15 ∧ id = (n - 1 + m) % 255 + 1 ∧ firstUnused 17 (records.map (·.id)) n = id
      ∧ (∀ q ∈ records, q.id ≠ id) ∧ ∀ j, j < m → ∃ q ∈ records, q.id = (n - 1 + j) % 255 + 1 := by
  obtain ⟨m, hm, heq, hnot, hbefore⟩ :=
    firstUnused_spec (k := 17) (used := records.map (·.id)) ⟨h1, h255⟩ (by simp; omega) (by omega)
  refine ⟨m, _, by simp at hm; omega, rfl, heq, fun q hq hid => ?_, fun j hj => ?_⟩
  · exact hnot (List.mem_map.mpr ⟨q, hq, hid⟩)
  · obtain ⟨q, hq, hid⟩ := List.mem_map.mp (hbefore j hj)
    exact ⟨q, hq, hid⟩

/-- Settles O60. -/
theorem raiseMergesOrCreates : Obligations.RaiseMergesOrCreates := by
  refine ⟨fun s k x => ⟨State.clearFault_same k x s, fun pre post r hs hrest hk hx => ⟨fun ha => ?_, fun ha => ?_⟩,
      fun h => State.clearFault_of_none h⟩,
    fun s k x => ⟨State.raiseFault_same k x s, fun pre post r hs hrest hk hx =>
      ⟨fun ha hcount => ?_, fun ha hcount => ?_, fun ha => ?_⟩, fun h h1 h255 rest marker hlist => ?_, fun h hfull => ?_⟩⟩
  case refine_1 =>
    rw [State.clearFault_of_active hs hrest ⟨hk, hx⟩ ha]
    exact ⟨rfl, rfl, rfl, rfl⟩
  case refine_2 => exact State.clearFault_of_cleared hs hrest ⟨hk, hx⟩ ha
  case refine_3 =>
    rw [State.raiseFault_of_active hs hrest ⟨hk, hx⟩ ha hcount]
    exact ⟨rfl, rfl, rfl, rfl⟩
  case refine_4 => exact State.raiseFault_of_saturated hs hrest ⟨hk, hx⟩ ha hcount
  case refine_5 =>
    rw [State.raiseFault_of_cleared hs hrest ⟨hk, hx⟩ ha]
    exact ⟨rfl, rfl, rfl, rfl⟩
  case refine_6 =>
    have hcreated : ∃ u : State, s.raiseFault k x = u.createRecord k x true ∧ u.faults = { s.faults with records := rest }
        ∧ u.beacon = { s.beacon with marker := marker } ∧ u.tick = s.tick ∧ rest.length ≤ 15 := by
      rcases hlist with ⟨hroom, rfl, rfl⟩ | ⟨hfull, pre, old, post, hs, rfl, hpre, hold, hids, rfl⟩
      · exact ⟨s, State.raiseFault_of_room h hroom, rfl, rfl, rfl, by omega⟩
      · have hremoved := State.removeRecord_of_split hs rfl hids
        refine ⟨_, State.raiseFault_of_replaced h (by omega) hs hpre hold, by rw [hremoved], by rw [hremoved],
          by rw [hremoved], ?_⟩
        rw [hs] at hfull
        simp only [List.length_append, List.length_cons] at hfull ⊢
        omega
    obtain ⟨u, hu, hfaults, hbeacon, htick, hlen⟩ := hcreated
    obtain ⟨m, id, hm, hid, hfirst, hnew, hbefore⟩ := newId_spec h1 h255 hlen
    refine ⟨m, id, hm, hid, hnew, hbefore, ?_⟩
    have hnext : nextNumber id = if id = 255 then 1 else id + 1 := by
      unfold nextNumber
      have : id ≥ 255 ↔ id = 255 := by omega
      simp only [this]
    rw [hu]
    refine ⟨?_, rfl, rfl, ?_⟩
    · rw [State.createRecord_faults, hfaults, htick, hfirst, hnext]
    · rw [State.createRecord_beacon, hbeacon]
  case refine_7 =>
    rw [State.raiseFault_of_full h hfull]
    refine ⟨fun ho => if_pos ho, fun ho => ?_⟩
    rw [State.setOverflow, if_neg (by simp [ho])]
    exact ⟨rfl, rfl, rfl, rfl⟩

/-! ### FAULT DISMISS and REPORT ACK (R153, R154) -/

theorem exec_faultDismiss {s : State} (w2 : Word) (h : s.sPort.cmd = .idle) :
    exec (.faultDismiss .s w2) s = .next (faultDismiss .s w2 s) :=
  congrArg Host.Outcome.next (State.writeCommandWords_permitted (p := .s) (args := [w2]) .faultDismiss h rfl rfl)

theorem takePair_of_none {s : State} {id : Nat} (seen : Nat)
    (h : ∀ r ∈ s.faults.records, r.id = id → r.reported = false) : s.takePair (id, seen) = s := by
  have hfind : s.faults.records.find? (fun r => r.id == id && r.reported) = none :=
    List.find?_eq_none.mpr fun r hr => by
      simp only [Bool.and_eq_true, beq_iff_eq, not_and]
      intro hid
      simp [h r hr hid]
  simp only [State.takePair, hfind]

section
variable {s : State} {id seen acked : Nat} {pre post : List FaultRecord} {r : FaultRecord}

theorem find?_reported (hs : s.faults.records = pre ++ r :: post) (hid : r.id = id) (hrest : ∀ q ∈ pre ++ post, q.id ≠ id)
    (hreported : r.reported = true) : s.faults.records.find? (fun r => r.id == id && r.reported) = some r := by
  rw [hs]
  exact find?_of_split (fun q hq => by simp [hrest q (List.mem_append_left _ hq)]) (by simp [hid, hreported])

/-- A pair that leaves its record in the list raises its acked count (R154). -/
theorem takePair_of_kept (hs : s.faults.records = pre ++ r :: post) (hid : r.id = id)
    (hrest : ∀ q ∈ pre ++ post, q.id ≠ id) (hreported : r.reported = true) (hacked : acked = max r.acked (min seen r.count))
    (hkept : ¬ (r.active = false ∧ acked = r.count)) :
    s.takePair (id, seen)
      = { s with faults := { s.faults with records := pre ++ { r with acked := acked } :: post } } := by
  have hnot : ¬ (!r.active && acked == r.count) = true := by
    simpa only [Bool.and_eq_true, Bool.not_eq_true', beq_iff_eq] using hkept
  have hmap : s.faults.records.map (fun q => if q.id = id then { q with acked := acked } else q)
      = pre ++ { r with acked := acked } :: post := by
    rw [hs, map_of_fixed fun q hq => if_neg (hrest q hq), if_pos hid]
  simp only [State.takePair, find?_reported hs hid hrest hreported, if_neg hnot, ← hacked, State.updFaults, hmap]

/-- A pair that acks a CLEARED record whole removes it (R154). -/
theorem takePair_of_removed (hs : s.faults.records = pre ++ r :: post) (hid : r.id = id)
    (hrest : ∀ q ∈ pre ++ post, q.id ≠ id) (hreported : r.reported = true) (hacked : acked = max r.acked (min seen r.count))
    (hactive : r.active = false) (hwhole : acked = r.count) :
    s.takePair (id, seen) = { s with
      faults := { s.faults with records := pre ++ post },
      beacon := { s.beacon with marker :=
        if s.beacon.marker = some id then pre.getLast?.map (·.id) else s.beacon.marker } } := by
  have htest : (!r.active && acked == r.count) = true := by simp [hactive, hwhole]
  simp only [State.takePair, find?_reported hs hid hrest hreported, ← hacked, if_pos htest]
  exact State.removeRecord_of_split hs hid hrest

end

/-- Settles O53. -/
theorem faultDismissRemovesRecord : Obligations.FaultDismissRemovesRecord := by
  refine ⟨fun s w2 hidle => ⟨fun hnone => ?_, fun pre post r hs hid hrest => ?_⟩, fun s number id seen rest =>
    ⟨rfl, fun h => ?_, fun pre post r acked hs hid hrest hreported hacked => ?_⟩⟩
  case refine_1 =>
    have hfind : s.faults.records.find? (fun r => r.id == fieldD w2) = none :=
      List.find?_eq_none.mpr fun r hr => by simp [hnone r hr]
    rw [exec_faultDismiss w2 hidle]
    simp only [faultDismiss, hfind]
    rfl
  case refine_2 =>
    have hfind : s.faults.records.find? (fun r => r.id == fieldD w2) = some r := by
      rw [hs]
      exact find?_of_split (fun q hq => by simp [hrest q (List.mem_append_left _ hq)]) (by simp [hid])
    rw [exec_faultDismiss w2 hidle]
    refine ⟨fun h => ?_, fun hactive hreported => ?_⟩
    · have htest : (r.active || !r.reported) = true := by simpa using h
      simp only [faultDismiss, hfind, if_pos htest]
      rfl
    · simp only [faultDismiss, hfind, hactive, hreported, Bool.not_true, Bool.or_false, Bool.false_eq_true, if_false,
        State.removeRecord_of_split hs hid hrest, hid]
      rfl
  case refine_3 => exact congrArg (State.takeAck number rest) (takePair_of_none seen h)
  case refine_4 =>
    have hmax : acked = max r.acked (min seen r.count) := by rw [hacked]; split <;> omega
    exact ⟨fun hkept => congrArg (State.takeAck number rest) (takePair_of_kept hs hid hrest hreported hmax hkept),
      fun hactive hwhole =>
        congrArg (State.takeAck number rest) (takePair_of_removed hs hid hrest hreported hmax hactive hwhole)⟩

end Sys2Proof.Machine
end

section
/-! PROOFS. QUEUE RESET, ERASE and TICK (O52, O58, O12). -/

namespace Sys2Proof.Machine

/-! ### The end of a push (R65) -/

theorem State.endPush_of_frame {s : State} {p : Port} {n : Nat} (h : (s.port p).push = .frame n) :
    s.endPush p = s.updPort p fun q => { q with push := .ignoring n, lostPush := true } := by
  simp only [State.endPush, h, State.losePush, State.updPort_updPort, Function.comp_def]

/-- The end of a push touches the push and its lost reason alone. -/
theorem State.endPush_port (p : Port) (s : State) : ∃ push lost,
    (s.endPush p).port p = { s.port p with push := push, lostPush := lost }
      ∧ ∀ n, (s.port p).push = .frame n → push = .ignoring n ∧ lost = true := by
  rcases hpush : (s.port p).push with _ | n | n
  · exact ⟨_, _, by simp only [State.endPush, hpush]; rfl, by simp⟩
  · refine ⟨.ignoring n, true, by rw [State.endPush_of_frame hpush, State.updPort_port_self], fun m hm => ?_⟩
    cases hm
    exact ⟨rfl, rfl⟩
  · exact ⟨_, _, by simp only [State.endPush, hpush]; rfl, by simp⟩

/-! ### QUEUE RESET (R74) -/

theorem exec_queueReset {s : State} {p : Port} (w2 : Word) (h : (s.port p).cmd = .idle) :
    exec (.queueReset p w2) s = .next (queueReset p w2 s) :=
  congrArg Host.Outcome.next (State.writeCommandWords_permitted (args := [w2]) .queueReset h rfl rfl)

/-- The answer to a state that differs from port p's by its FAULT cause. -/
theorem State.respond_answered {t : State} {p : Port} (st : Status) (ws : List Word) :
    ((t.respond p st ws).port p).answered st ws := by
  rw [State.respond_eq, State.updPort_port_self]
  exact ⟨rfl, rfl, rfl, rfl⟩

/-- QUEUE RESET of the IN queue (R74, R65). -/
theorem queueReset_in {s : State} {p : Port} {w2 : Word} (h : fieldD w2 = 1) : ∃ t, queueReset p w2 s = t
    ∧ (t.port p).answered .done [word4 0 0 0 (s.inCount p)] ∧ t.pool.free = s.pool.free + s.inCount p
    ∧ t = { s with sIn := if p = .s then [] else s.sIn, lRx := if p = .l then [] else s.lRx,
                   pool := { s.pool with free := t.pool.free, low := t.pool.low }, faults := t.faults, beacon := t.beacon,
                   sPort := t.sPort, lPort := t.lPort }
    ∧ (∀ n, (s.port p).push = .frame n → (t.port p).push = .ignoring n ∧ (t.port p).lostPush = true)
    ∧ (t.port p).pullPos = (s.port p).pullPos := by
  have heq : queueReset p w2 s = (s.emptyIn p).respond p .done [word4 0 0 0 (s.inCount p)] := by
    simp only [queueReset, h]
  obtain ⟨u, hu, husame, huport⟩ : ∃ u : State, s.emptyIn p = (u.endPush p).returnBuffers (s.inCount p)
      ∧ u = { s with sIn := if p = .s then [] else s.sIn, lRx := if p = .l then [] else s.lRx } ∧ u.port p = s.port p := by
    cases p <;> exact ⟨_, rfl, rfl, rfl⟩
  obtain ⟨push, lost, hend, hpush⟩ := u.endPush_port p
  have hport := State.returnBuffers_port (s.inCount p) (u.endPush p) p
  have hpool := State.returnBuffers_pool (s.inCount p) (u.endPush p)
  have hupool : u.pool = s.pool := by rw [husame]
  refine ⟨_, heq, State.respond_answered .., ?_, ?_, fun n hn => ?_, ?_⟩
  · simp [hu, hpool, hupool]
  · apply State.ext_fields <;> simp [hu, husame, State.returnBuffers_pool]
  · rw [State.respond_eq, State.updPort_port_self, hu, hport, hend]
    exact hpush n (by rw [huport, hn])
  · rw [State.respond_eq, State.updPort_port_self, hu, hport, hend, huport]
    rfl

/-- QUEUE RESET of the OUT queue (R74, R66). -/
theorem queueReset_out {s : State} {p : Port} {w2 : Word} (h : fieldD w2 = 2) : ∃ t, queueReset p w2 s = t
    ∧ (t.port p).answered .done [word4 0 0 0 (s.outCount p)] ∧ t.pool.free = s.pool.free + s.outCount p
    ∧ t = { s with sOut := if p = .s then [] else s.sOut, lTx := if p = .l then [] else s.lTx,
                   pool := { s.pool with free := t.pool.free, low := t.pool.low }, faults := t.faults, beacon := t.beacon,
                   sPort := t.sPort, lPort := t.lPort }
    ∧ (t.port p).pullPos = 0 ∧ (t.port p).push = (s.port p).push ∧ (t.port p).lostPush = (s.port p).lostPush := by
  have heq : queueReset p w2 s = (s.emptyOut p).respond p .done [word4 0 0 0 (s.outCount p)] := by
    simp only [queueReset, h]
  obtain ⟨u, hu, husame, huport⟩ : ∃ u : State,
      s.emptyOut p = (u.updPort p fun q => { q with pullPos := 0 }).returnBuffers (s.outCount p)
      ∧ u = { s with sOut := if p = .s then [] else s.sOut, lTx := if p = .l then [] else s.lTx }
      ∧ u.port p = s.port p := by
    cases p <;> exact ⟨_, rfl, rfl, rfl⟩
  have hport := State.returnBuffers_port (s.outCount p) (u.updPort p fun q => { q with pullPos := 0 }) p
  have hpool := State.returnBuffers_pool (s.outCount p) (u.updPort p fun q => { q with pullPos := 0 })
  have hupool : u.pool = s.pool := by rw [husame]
  rw [PortState.sameButCause, State.updPort_port_self, huport] at hport
  have hfinal : ((s.emptyOut p).respond p .done [word4 0 0 0 (s.outCount p)]).port p
      = ((s.emptyOut p).port p).withAnswer .done [word4 0 0 0 (s.outCount p)] := by
    rw [State.respond_eq, State.updPort_port_self]
  refine ⟨_, heq, State.respond_answered .., ?_, ?_, ?_, ?_, ?_⟩
  · simp [hu, hpool, hupool]
  · apply State.ext_fields <;> simp [hu, husame, State.returnBuffers_pool]
  all_goals rw [hfinal, hu, hport]; rfl

/-- Settles O52. -/
theorem queueResetEmptiesQueue : Obligations.QueueResetEmptiesQueue := by
  intro s p w2 h
  refine ⟨_, exec_queueReset w2 h, fun h1 => ?_, fun h2 => ?_, fun h1 h2 => ?_⟩
  · obtain ⟨t, rfl, ht⟩ := queueReset_in (s := s) (p := p) h1
    exact ht
  · obtain ⟨t, rfl, ht⟩ := queueReset_out (s := s) (p := p) h2
    exact ht
  · have heq : queueReset p w2 s = s.updPort p (.withAnswer .refusedRange []) := by
      unfold queueReset
      split
      · exact absurd ‹_› h1
      · exact absurd ‹_› h2
      · exact s.refuse_eq p _
    rw [heq]
    exact ⟨s.updPort_port_self p _, s.updPort_port_other p _, s.updPort_ports p _⟩

/-! ### TICK -/

/-- An update of every working slot that keeps the EMPTY values. -/
theorem State.slot_mapSlots_of_fixed {f : Nat → Slot → Slot} (h : ∀ y, f y {} = {}) (y : Nat) (s : State) :
    (s.mapSlots f).slot y = f y (s.slot y) := by
  rw [State.slot_mapSlots]
  by_cases hy : 1 ≤ y ∧ y ≤ 23
  · rw [if_pos hy]
  · rw [if_neg hy, State.slot_out s y hy, h]

/-- An update of every descriptor that keeps the EMPTY values. -/
theorem State.chan_mapChans_of_fixed {f : Nat → Channel → Channel} (h : ∀ y, f y {} = {}) (y : Nat) (s : State) :
    (s.mapChans f).chan y = f y (s.chan y) := by
  rw [State.chan_mapChans]
  by_cases hy : y < 48
  · rw [if_pos hy]
  · rw [if_neg hy, State.chan_out s y hy, h]

theorem State.tickAll_slot (s : State) (x : Nat) : s.tickAll.slot x = (s.slot x).tick :=
  State.slot_mapSlots_of_fixed (f := fun _ v => v.tick) (fun _ => rfl) x _

theorem Slot.tick_of_active {v : Slot} (h : v.state = .active) :
    v.tick = { v with age := min (v.age + 1) (2 ^ 32 - 1), ageTestDue := true, graceTestDue := true } := by
  cases v; cases h; rfl

theorem Slot.tick_of_draining {v : Slot} (h : v.state = .draining) : v.tick = { v with drain := v.drain - 1 } := by
  cases v; cases h; rfl

theorem State.tickAll_ctx (s : State) (c : Nat) : s.tickAll.ctx c = (s.ctx c).tick (s.partState == .quiesced) := by
  change (s.renewal.contexts.mapIdx fun _ d => d.tick (s.partState == .quiesced))[c]?.getD {} = _
  by_cases hc : c < 4
  · simp [State.ctx, hc]
  · rw [State.ctx_out s c hc, Vector.getElem?_eq_none (by omega)]
    rfl

theorem State.tickAll_backoff (s : State) (x : Nat) :
    s.tickAll.backoff x = if s.partState = .quiesced then s.backoff x else (s.backoff x).tick := by
  change slotEntry {} (if s.partState == .quiesced then s.renewal.backoff
    else s.renewal.backoff.mapIdx fun _ b => b.tick) x = _
  by_cases hq : s.partState = .quiesced
  · simp [hq, State.backoff]
  · have hne : ¬ (s.partState == PartState.quiesced) = true := by simpa using hq
    rw [if_neg hne, if_neg hq, slotEntry_mapIdx ({} : Backoff) (fun _ b => b.tick)]
    by_cases hx : 1 ≤ x ∧ x ≤ 23
    · rw [if_pos hx]; rfl
    · rw [if_neg hx, State.backoff_out s x hx]; rfl

/-- A backoff counts down (R138); at 0 its end is due. -/
theorem Backoff.tick_cases (b : Backoff) : (b.remaining = 0 → b.tick = b)
    ∧ (b.remaining = 1 → b.tick = { remaining := 0, endDue := true })
    ∧ (2 ≤ b.remaining → b.tick = { remaining := b.remaining - 1, endDue := b.endDue }) := by
  refine ⟨fun h => if_pos h, fun h => ?_, fun h => ?_⟩
  · rw [Backoff.tick, if_neg (by omega)]
    simp [h]
  · have hne : ¬ b.remaining = 1 := by omega
    rw [Backoff.tick, if_neg (by omega)]
    simp [hne]

/-- Settles O12. -/
theorem tickCounts : Obligations.TickCounts := by
  intro s
  refine ⟨s.tickAll, rfl, ?_, rfl, fun x h => ?_, fun x h => ?_, fun x ha hd => ?_, fun p n h => ?_, fun h => ?_,
    fun c ho hs hq => ?_, fun c ho hs hq => ?_, fun c ho hs => ?_, fun c h => ?_, fun hq => ?_, fun hq => ?_, ?_, fun h => ?_,
    fun h => ?_, fun h hq => ?_, fun h => ?_⟩
  case refine_1 =>
    have hlink : s.tickAll.link = { s.link with quietRemaining := s.tickAll.link.quietRemaining } := by
      change s.link.tick = { s.link with quietRemaining := s.link.tick.quietRemaining }
      unfold LinkWatch.tick
      split <;> rfl
    have hbeacon : s.tickAll.beacon = { s.beacon with remaining := s.tickAll.beacon.remaining } := by
      change s.beacon.tick (s.partState == .quiesced)
        = { s.beacon with remaining := (s.beacon.tick (s.partState == .quiesced)).remaining }
      unfold Beacon.tick
      split <;> rfl
    exact State.ext_fields rfl rfl rfl rfl rfl rfl rfl rfl rfl rfl rfl rfl rfl rfl rfl rfl hlink rfl rfl rfl hbeacon rfl rfl
  case refine_2 => rw [State.tickAll_slot, Slot.tick_of_active h]
  case refine_3 => rw [State.tickAll_slot, Slot.tick_of_draining h]
  case refine_4 =>
    rw [State.tickAll_slot, Slot.tick]
    split
    · exact absurd ‹_› ha
    · exact absurd ‹_› hd
    · rfl
    · rfl
  case refine_5 => change s.eraseWindow.map _ = _; rw [h]; rfl
  case refine_6 => change s.eraseWindow.map _ = _; rw [h]; rfl
  case refine_7 => simp [State.tickAll_ctx, Context.tick, ho, hs, hq]
  case refine_8 => simp [State.tickAll_ctx, Context.tick, ho, hs, hq]
  case refine_9 => simp [State.tickAll_ctx, Context.tick, ho, hs]
  case refine_10 =>
    rcases h with h | h
    · simp [State.tickAll_ctx, Context.tick, h]
    · simp [State.tickAll_ctx, Context.tick, h]
  case refine_11 =>
    refine ⟨fun x => ?_, ?_⟩
    · rw [State.tickAll_backoff, if_neg hq]
      exact (s.backoff x).tick_cases
    · have hboot : s.tickAll.renewal.bootBackoff = s.renewal.bootBackoff.tick := if_neg (by simpa using hq)
      rw [hboot]
      exact s.renewal.bootBackoff.tick_cases
  case refine_12 =>
    exact ⟨fun x => by rw [State.tickAll_backoff, if_pos hq], if_pos (by simpa using hq)⟩
  case refine_13 =>
    change s.renewal.bootRelist.tick = _
    cases s.renewal.bootRelist <;> rfl
  case refine_14 => exact congrArg LinkWatch.quietRemaining (if_pos h)
  case refine_15 => exact congrArg LinkWatch.quietRemaining (if_neg h)
  case refine_16 => exact congrArg Beacon.remaining (if_pos ⟨h, by simpa using hq⟩)
  case refine_17 => exact congrArg Beacon.remaining (if_neg (by rcases h with h | h <;> simp [h]))

/-! ### Ports at PART RESET and ERASE (R164, R172) -/

/-- What a reset makes of a push (R166). -/
def Push.cutOff : Push → Push
  | .frame n => .ignoring n
  | .none => .none
  | .ignoring n => .ignoring n

def Push.isFrame : Push → Bool
  | .frame _ => true
  | .none | .ignoring _ => false

/-- What a reset makes of a mailbox write (R173). -/
def MailWrite.cutOff : MailWrite → MailWrite
  | .gathering len ws => .ignoring (wordCount len - ws.length)
  | .none => .none
  | .ignoring n => .ignoring n

def MailWrite.isOpen : MailWrite → Bool
  | .none => false
  | .gathering _ _ | .ignoring _ => true

def CmdProgress.isWriting : CmdProgress → Bool
  | .writing _ => true
  | .idle | .inProgress _ => false

/-- What PART RESET and ERASE make of a port, but for the answer to a command in progress, field by field. -/
theorem PortState.afterReset_eq (q : PortState) : q.afterReset = { q with
    push := q.push.cutOff, lostPush := q.lostPush || q.push.isFrame, mailWrite := q.mailWrite.cutOff,
    lostMail := q.lostMail || q.mailWrite.isOpen, cmd := if q.cmd.isWriting then .idle else q.cmd,
    lostCommand := q.lostCommand || q.cmd.isWriting, pullPos := 0, responsePos := 0, mailbox := {}, mailPos := 0,
    mailCause := false, enable := {} } := by
  obtain ⟨push, pullPos, cmd, response, responsePos, mailbox, mailWrite⟩ := q
  rcases push with _ | _ | _ <;> rcases mailWrite with _ | _ | _ <;> rcases cmd with _ | _ | _ <;>
    simp [PortState.afterReset, Push.cutOff, Push.isFrame, MailWrite.cutOff, MailWrite.isOpen, CmdProgress.isWriting]

/-- What PART RESET and ERASE make of a port (R164, R172). -/
def PortState.cutOff (q : PortState) : PortState :=
  if q.cmd.busy then q.afterReset.withAnswer .refusedState [] else q.afterReset

theorem PortState.afterReset_busy (q : PortState) : q.afterReset.cmd.busy = q.cmd.busy := by
  rw [PortState.afterReset_eq]
  rcases q.cmd with _ | _ | _ <;> rfl

theorem State.endCommand_eq (p : Port) (s : State) :
    s.endCommand p = s.updPort p fun q => if q.cmd.busy then q.withAnswer .refusedState [] else q := by
  unfold State.endCommand
  split
  next h => cases p <;> simp_all [State.updPort, State.updSPort, State.updLPort, State.port, State.respond, PortState.withAnswer]
  next h => cases p <;> simp_all [State.updPort, State.updSPort, State.updLPort, State.port]

theorem State.resetPorts_eq (s : State) :
    s.resetPorts = { s with sPort := s.sPort.cutOff, lPort := s.lPort.cutOff } := by
  have hcut : ∀ q : PortState, (if q.afterReset.cmd.busy then q.afterReset.withAnswer .refusedState [] else q.afterReset)
      = q.cutOff := fun q => by rw [PortState.afterReset_busy]; rfl
  rw [State.resetPorts, State.endCommand_eq, State.endCommand_eq]
  have hboth : ∀ f g : PortState → PortState, (((s.updSPort f).updLPort f).updPort .s g).updPort .l g
      = { s with sPort := g (f s.sPort), lPort := g (f s.lPort) } := fun _ _ => rfl
  rw [hboth]
  simp only [hcut]

/-- Port r is port q after PART RESET or ERASE, in the words of `State.portReset`. -/
def PortState.resetTo (q r : PortState) : Prop :=
  r = { q with
      push := r.push, mailWrite := r.mailWrite, cmd := .idle, enable := {}, pullPos := 0, mailbox := {},
      mailPos := 0, mailCause := false, faultCause := true, response := r.response, responsePos := 0,
      responseCause := r.responseCause, lostPush := r.lostPush, lostMail := r.lostMail, lostCommand := r.lostCommand }
    ∧ (∀ n, q.push = .frame n → r.push = .ignoring n ∧ r.lostPush = true)
    ∧ ((∀ n, q.push ≠ .frame n) → r.push = q.push ∧ r.lostPush = q.lostPush)
    ∧ (∀ n ws, q.mailWrite = .gathering n ws → r.mailWrite = .ignoring ((n + 3) / 4 - ws.length) ∧ r.lostMail = true)
    ∧ (∀ n, q.mailWrite = .ignoring n → r.mailWrite = .ignoring n ∧ r.lostMail = true)
    ∧ (q.mailWrite = .none → r.mailWrite = .none ∧ r.lostMail = q.lostMail)
    ∧ (r.lostCommand = true ↔ q.lostCommand = true ∨ ∃ ws, q.cmd = .writing ws)

theorem State.portReset_iff (t s : State) (p : Port) : t.portReset s p ↔ (s.port p).resetTo (t.port p) := Iff.rfl

/-- An answer to a port that has been reset. -/
theorem PortState.resetTo.withAnswer {q r : PortState} (h : q.resetTo r) (st : Status) (ws : List Word) :
    q.resetTo (r.withAnswer st ws) := by
  obtain ⟨hr, hrest⟩ := h
  exact ⟨by rw [hr]; rfl, hrest⟩

theorem PortState.cutOff_resetTo (q : PortState) : q.resetTo { q.cutOff with faultCause := true } := by
  have hfields : ∀ r : PortState, r = q.afterReset ∨ r = q.afterReset.withAnswer .refusedState [] →
      (q.cmd.busy = true → r = q.afterReset.withAnswer .refusedState []) → q.resetTo { r with faultCause := true } := by
    intro r hr hbusy
    have hpush : r.push = q.push.cutOff ∧ r.lostPush = (q.lostPush || q.push.isFrame)
        ∧ r.mailWrite = q.mailWrite.cutOff ∧ r.lostMail = (q.lostMail || q.mailWrite.isOpen)
        ∧ r.lostCommand = (q.lostCommand || q.cmd.isWriting) := by
      rcases hr with rfl | rfl <;> rw [PortState.afterReset_eq] <;> exact ⟨rfl, rfl, rfl, rfl, rfl⟩
    obtain ⟨hpush, hlost, hmail, hlostMail, hcommand⟩ := hpush
    refine ⟨?_, fun n h => ?_, fun h => ?_, fun n ws h => ?_, fun n h => ?_, fun h => ?_, ?_⟩
    case refine_1 =>
      rcases hr with rfl | rfl
      · have hidle : (if q.cmd.isWriting then CmdProgress.idle else q.cmd) = .idle := by
          rcases hcmd : q.cmd with _ | ws | c
          · rfl
          · rfl
          · have := congrArg PortState.cmd (hbusy (by rw [hcmd]; rfl))
            rw [PortState.afterReset_eq] at this
            rw [hcmd] at this
            cases this
        rw [PortState.afterReset_eq, hidle]
      · rw [PortState.afterReset_eq]; rfl
    case refine_2 => exact ⟨by simp only [hpush, h]; rfl, by simp only [hlost, h, Push.isFrame, Bool.or_true]⟩
    case refine_3 =>
      rcases hq : q.push with _ | n | n
      · exact ⟨by simp only [hpush, hq]; rfl, by simp only [hlost, hq, Push.isFrame, Bool.or_false]⟩
      · exact absurd hq (h n)
      · exact ⟨by simp only [hpush, hq]; rfl, by simp only [hlost, hq, Push.isFrame, Bool.or_false]⟩
    case refine_4 => exact ⟨by simp only [hmail, h]; rfl, by simp only [hlostMail, h, MailWrite.isOpen, Bool.or_true]⟩
    case refine_5 => exact ⟨by simp only [hmail, h]; rfl, by simp only [hlostMail, h, MailWrite.isOpen, Bool.or_true]⟩
    case refine_6 => exact ⟨by simp only [hmail, h]; rfl, by simp only [hlostMail, h, MailWrite.isOpen, Bool.or_false]⟩
    case refine_7 =>
      simp only [hcommand, Bool.or_eq_true]
      rcases q.cmd with _ | ws | c <;> simp [CmdProgress.isWriting]
  refine hfields q.cutOff ?_ fun h => if_pos h
  unfold PortState.cutOff
  split
  · exact .inr rfl
  · exact .inl rfl

/-! ### ERASE (R42, R43) -/

theorem exec_erase {s : State} {p : Port} (h : (s.port p).cmd = .idle) : exec (.erase p) s = .next (erase p s) :=
  congrArg Host.Outcome.next (State.writeCommandWords_permitted (args := []) .erase h rfl rfl)

/-- The record of an executed ERASE or of a PART RESET, CLEARED from its birth (R163). -/
def resetRecord (k : FaultKind) (id tick : Nat) : FaultRecord :=
  { id := id, kind := k, subject := .nothing, first := tick, last := tick, active := false }

/-- The Fault Monitor, the beacon and the FAULT causes after a reset (R163). -/
theorem State.resetFaults_eq (k : FaultKind) (s : State) : s.resetFaults k = { s with
    faults := { records := [resetRecord k s.faults.nextId s.tick],
                nextId := if 255 ≤ s.faults.nextId then 1 else s.faults.nextId + 1 }
    beacon := { nextReport := s.beacon.nextReport, oneShot := 1 }
    sPort := { s.sPort with faultCause := true }
    lPort := { s.lPort with faultCause := true } } := by
  have hid : firstUnused 17 [] s.faults.nextId = s.faults.nextId := by simp [firstUnused]
  have hsport := State.createRecord_port k .nothing false
    ((s.updFaults fun f => { nextId := f.nextId }).updBeacon fun b => { nextReport := b.nextReport }) .s
  have hlport := State.createRecord_port k .nothing false
    ((s.updFaults fun f => { nextId := f.nextId }).updBeacon fun b => { nextReport := b.nextReport }) .l
  have hfaults : (s.resetFaults k).faults =
      { records := [resetRecord k s.faults.nextId s.tick],
        nextId := if 255 ≤ s.faults.nextId then 1 else s.faults.nextId + 1 } := by
    rw [State.resetFaults, State.createRecord_faults]
    simp [hid, nextNumber, resetRecord]
  have hbeacon : (s.resetFaults k).beacon = { nextReport := s.beacon.nextReport, oneShot := 1 } := by
    rw [State.resetFaults, State.createRecord_beacon]
    simp
  apply State.ext_fields
  case h20 => exact hfaults
  case h21 => exact hbeacon
  case h22 => exact hsport
  case h23 => exact hlport
  all_goals simp [State.resetFaults]

/-- The state of an executed ERASE before its answer. -/
theorem State.eraseBlocks_state (s : State) : s.eraseBlocks = { s.erasedPart with
    faults := { records := [resetRecord .erased s.faults.nextId s.tick],
                nextId := if 255 ≤ s.faults.nextId then 1 else s.faults.nextId + 1 }
    beacon := { nextReport := s.beacon.nextReport, oneShot := 1 }
    sPort := { s.sPort.cutOff with faultCause := true }
    lPort := { s.lPort.cutOff with faultCause := true } } := by
  rw [State.eraseBlocks_eq, State.resetPorts_eq, State.resetFaults_eq]
  rfl

/-- An idle port made idle is as it was. -/
theorem State.makeIdle_eq {s : State} {p : Port} (h : (s.port p).cmd = .idle) :
    (s.updPort p fun q => { q with cmd := .idle }) = s := State.updPort_self (by rw [← h])

theorem State.executeErase_eq {s : State} {p : Port} (h : (s.port p).cmd = .idle) :
    s.executeErase p = s.eraseBlocks.updPort p (.withAnswer .done (eraseResult 3)) := by
  rw [State.executeErase, State.makeIdle_eq h, State.respond_eq]

theorem State.eraseBlocks_port (s : State) (p : Port) :
    s.eraseBlocks.port p = { (s.port p).cutOff with faultCause := true } := by
  rw [State.eraseBlocks_state]; cases p <;> rfl

/-- What an executed ERASE leaves, and its answers (R43, R172). -/
theorem State.executeErase_spec {s : State} {p : Port} (h : (s.port p).cmd = .idle) :
    ∃ t, s.executeErase p = t
      ∧ t = { State.reset with pending := s.pending, partState := if s.partState = .failed then .failed else .noRoot,
                               tick := s.tick, intervalTicks := s.intervalTicks, selfCheckPending := s.selfCheckPending,
                               faults := t.faults, beacon := t.beacon, sPort := t.sPort, lPort := t.lPort }
      ∧ (t.port p).answered .done [3]
      ∧ ((s.port p.other).cmd.busy = true → (t.port p.other).answered .refusedState [])
      ∧ ((s.port p.other).cmd.busy = false → (t.port p.other).response = (s.port p.other).response
          ∧ (t.port p.other).responseCause = (s.port p.other).responseCause)
      ∧ t.faults = { records := [resetRecord .erased s.faults.nextId s.tick],
                     nextId := if 255 ≤ s.faults.nextId then 1 else s.faults.nextId + 1 }
      ∧ t.beacon = { nextReport := s.beacon.nextReport, oneShot := 1 } ∧ ∀ q, t.portReset s q := by
  have hother : (s.eraseBlocks.updPort p (.withAnswer .done (eraseResult 3))).port p.other
      = { (s.port p.other).cutOff with faultCause := true } := by
    rw [State.updPort_port_other, State.eraseBlocks_port]
  have hsame : (s.eraseBlocks.updPort p (.withAnswer .done (eraseResult 3))).port p
      = ({ (s.port p).cutOff with faultCause := true } : PortState).withAnswer .done (eraseResult 3) := by
    rw [State.updPort_port_self, State.eraseBlocks_port]
  refine ⟨_, State.executeErase_eq h, ?_, ?_, fun hbusy => ?_, fun hbusy => ?_, ?_, ?_, fun q => ?_⟩
  case refine_1 => apply State.ext_fields <;> simp [State.eraseBlocks_state, State.erasedPart]
  case refine_2 => rw [hsame]; exact ⟨rfl, rfl, rfl, rfl⟩
  case refine_3 =>
    rw [hother, PortState.cutOff, if_pos hbusy]
    exact ⟨rfl, rfl, rfl, rfl⟩
  case refine_4 =>
    rw [hother, PortState.cutOff, if_neg (by simp [hbusy]), PortState.afterReset_eq]
    exact ⟨rfl, rfl⟩
  case refine_5 => rw [State.updPort_faults, State.eraseBlocks_state]
  case refine_6 => rw [State.updPort_beacon, State.eraseBlocks_state]
  case refine_7 =>
    rw [State.portReset_iff]
    by_cases hq : q = p
    · subst hq
      rw [hsame]
      exact (PortState.cutOff_resetTo _).withAnswer ..
    · have hq' : q = p.other := by cases p <;> cases q <;> first | rfl | exact absurd rfl hq
      rw [hq', hother]
      exact PortState.cutOff_resetTo _

/-- Settles O58. -/
theorem eraseNeedsBothPorts : Obligations.EraseNeedsBothPorts := by
  refine ⟨fun s p hidle => ⟨fun hwindow => ?_, fun n hwindow => ⟨fun hwait => ?_, fun hboot hwriting => ?_⟩⟩,
    fun s h => ?_, fun s p h => ?_, fun s p n h => ?_⟩
  case refine_1 =>
    have hopened : erase p s = ((s.setWindow (some (p, 10))).updPort p
        (.withAnswer .done [if s.eraseWindow = none then 1 else 2])) := by
      rcases hwindow with h | ⟨n, h⟩
      · simp only [erase, h, State.respond_eq]; rfl
      · simp only [erase, h, if_pos, State.respond_eq]; rfl
    obtain ⟨t, ht, hports, hp, hother⟩ := next_updPort ((exec_erase hidle).trans (congrArg Host.Outcome.next hopened))
    exact ⟨t, ht, hports, hother.trans (by cases p <;> rfl), hp.trans (by cases p <;> rfl)⟩
  case refine_2 =>
    have hwaits : erase p s = (s.setWindow none).updPort p fun q => { q with cmd := .inProgress .erase } := by
      simp only [erase, hwindow, if_neg (port_other_ne p), if_pos hwait]
    obtain ⟨t, ht, hports, hp, hother⟩ := next_updPort ((exec_erase hidle).trans (congrArg Host.Outcome.next hwaits))
    exact ⟨t, ht, hports, hother.trans (by cases p <;> rfl), hp.trans (by cases p <;> rfl)⟩
  case refine_3 =>
    have hnot : ¬ (s.partState = .boot ∨ s.loadRootWriting = true) := by simp [hboot, hwriting]
    have hexecuted : erase p s = s.executeErase p := by
      simp only [erase, hwindow, if_neg (port_other_ne p), if_neg hnot]
    obtain ⟨t, ht, hrest⟩ := State.executeErase_spec hidle
    exact ⟨t, (exec_erase hidle).trans (congrArg Host.Outcome.next (hexecuted.trans ht)), hrest⟩
  case refine_4 => exact congrArg Host.Outcome.next (by simp only [State.expireWindow, h])
  case refine_5 => exact congrArg Host.Outcome.next (by simp only [State.expireWindow, h]; rfl)
  case refine_6 => exact congrArg Host.Outcome.next (by simp only [State.expireWindow, h])

end Sys2Proof.Machine
end

section
/-! PROOFS. Triggers and the request list (R129 to R131): what the receipt of a trigger touches and what it answers, and the
statements about one trigger (O13, O20, O50). -/

namespace Sys2Proof.Machine

/-! ### What the listing step touches -/

/-- Between s and t the listing step may have changed REQUESTED flags, the request list with its counts, and whether BOOT
waits to be listed anew. -/
structure State.Listed (s t : State) : Prop where
  state : t = { s with slots := t.slots, renewal := { s.renewal with
    list := t.renewal.list, notListed := t.renewal.notListed, replaced := t.renewal.replaced,
    bootRelist := t.renewal.bootRelist } }
  slot : ∀ x, t.slot x = { s.slot x with requested := (t.slot x).requested }

theorem State.Listed.refl (s : State) : s.Listed s := ⟨rfl, fun _ => rfl⟩

theorem State.backoff_congr {s t : State} (h : t.renewal.backoff = s.renewal.backoff) (x : Nat) :
    t.backoff x = s.backoff x := by
  rw [State.backoff, h, State.backoff]

theorem State.Listed.backoffs {s t : State} (h : s.Listed t) : t.renewal.backoff = s.renewal.backoff := by rw [h.state]

theorem State.Listed.received {s t : State} (h : s.Listed t) : t.renewal.received = s.renewal.received := by rw [h.state]

theorem State.Listed.trans {s t u : State} (h : s.Listed t) (k : t.Listed u) : s.Listed u :=
  ⟨by rw [k.state, h.state], fun x => by rw [k.slot x, h.slot x]⟩

theorem State.setRequested_slot (o : Option Nat) (b : Bool) (s : State) (y : Nat) :
    (s.setRequested o b).slot y =
      { s.slot y with requested := if o = some y ∧ 1 ≤ y ∧ y ≤ 23 then b else (s.slot y).requested } := by
  cases o with
  | none => simp [State.setRequested]
  | some x =>
    rw [State.setRequested, State.slot_updSlot]
    by_cases hy : y = x ∧ 1 ≤ x ∧ x ≤ 23
    · obtain ⟨rfl, hx⟩ := hy
      simp [hx]
    · have hne : ¬ (some x = some y ∧ 1 ≤ y ∧ y ≤ 23) := by
        rintro ⟨h, hb⟩
        cases h
        exact hy ⟨rfl, hb⟩
      rw [if_neg hy, if_neg hne]

theorem State.setRequested_listed (o : Option Nat) (b : Bool) (s : State) : s.Listed (s.setRequested o b) :=
  ⟨by apply State.ext_fields <;> simp, fun x => by rw [State.setRequested_slot]⟩

theorem State.listNew_listed (o : Option Nat) (r : Reason) (s : State) : s.Listed (s.listNew o r).1 := by
  unfold State.listNew
  dsimp only
  split
  · exact ⟨rfl, fun _ => rfl⟩
  · split
    · split
      · dsimp only
        refine State.Listed.trans ?_ (State.setRequested_listed ..)
        exact ⟨rfl, fun _ => rfl⟩
      · dsimp only
        refine State.Listed.trans ?_ (State.setRequested_listed ..)
        exact ⟨rfl, fun _ => rfl⟩
    · exact .refl s

theorem State.listTrigger_listed (o : Option Nat) (r : Reason) (s : State) : s.Listed (s.listTrigger o r).1 := by
  unfold State.listTrigger
  split
  · split
    · exact ⟨rfl, fun _ => rfl⟩
    · exact .refl s
  · exact s.listNew_listed o r

/-- Only the BOOT trigger waits to be listed anew (R131). -/
theorem State.listTrigger_bootRelist (x : Nat) (r : Reason) (s : State) :
    (s.listTrigger (some x) r).1.renewal.bootRelist = s.renewal.bootRelist := by
  unfold State.listTrigger State.listNew
  dsimp only
  (repeat' split) <;> simp_all

/-! ### The listing step, case by case (R130, R131) -/

/-- The entry a trigger makes (R130). -/
def State.newEntry (s : State) (o : Option Nat) (r : Reason) : Entry :=
  { slot := o, urgency := r.urgency, reason := r, arrival := s.renewal.received }

section
variable {s : State} {o : Option Nat} {r : Reason} {pre post : List Entry} {e : Entry}

theorem State.listTrigger_of_new (h : ∀ e ∈ s.renewal.list, e.slot ≠ o) : s.listTrigger o r = s.listNew o r := by
  have hfind : s.renewal.list.find? (fun e => e.slot == o) = none :=
    List.find?_eq_none.mpr fun e he => by simp [h e he]
  simp only [State.listTrigger, hfind]

theorem State.listNew_of_room (h : s.renewal.list.length < 8) :
    s.listNew o r = (s.updRenewal fun n => { n with list := insertEntry (s.newEntry o r) n.list }, .listed) := by
  simp only [State.listNew, if_pos h]
  rfl

theorem State.listNew_of_replaced (hfull : 8 ≤ s.renewal.list.length) (hs : s.renewal.list = pre ++ [e])
    (hless : e.urgency < r.urgency) :
    s.listNew o r = ((s.updRenewal fun n =>
      { n with list := insertEntry (s.newEntry o r) pre, replaced := satInc 65535 n.replaced }).setRequested e.slot false,
      .listed) := by
  have hlast : s.renewal.list.getLast? = some e := by rw [hs]; exact List.getLast?_concat ..
  have hdrop : s.renewal.list.dropLast = pre := by rw [hs]; exact List.dropLast_concat ..
  simp only [State.listNew, if_neg (show ¬ s.renewal.list.length < 8 by omega), hlast, if_pos hless]
  rw [State.updRenewal, State.updRenewal, hdrop]
  rfl

theorem State.listNew_of_full (hfull : 8 ≤ s.renewal.list.length) (hs : s.renewal.list = pre ++ [e])
    (hless : r.urgency ≤ e.urgency) :
    s.listNew o r = ((s.updRenewal fun n =>
      { n with notListed := satInc 65535 n.notListed
               bootRelist := if o = none then .waiting else n.bootRelist }).setRequested o false, .notListed) := by
  have hlast : s.renewal.list.getLast? = some e := by rw [hs]; exact List.getLast?_concat ..
  simp only [State.listNew, if_neg (show ¬ s.renewal.list.length < 8 by omega), hlast,
    if_neg (show ¬ e.urgency < r.urgency by omega)]

theorem State.find?_entry (hs : s.renewal.list = pre ++ e :: post) (hrest : ∀ d ∈ pre ++ post, d.slot ≠ o)
    (he : e.slot = o) : s.renewal.list.find? (fun e => e.slot == o) = some e := by
  rw [hs]
  exact find?_of_split (fun d hd => by simp [hrest d (List.mem_append_left _ hd)]) (by simp [he])

theorem State.listTrigger_of_raised (hs : s.renewal.list = pre ++ e :: post) (hrest : ∀ d ∈ pre ++ post, d.slot ≠ o)
    (he : e.slot = o) (hless : e.urgency < r.urgency) :
    s.listTrigger o r = (s.updRenewal fun n =>
      { n with list := insertEntry { e with urgency := r.urgency, reason := r } (pre ++ post) }, .raised) := by
  have hfilter : s.renewal.list.filter (fun d => d.slot != o) = pre ++ post := by
    rw [hs]
    exact filter_of_split (fun d hd => by simp [hrest d hd]) (by simp [he])
  simp only [State.listTrigger, State.find?_entry hs hrest he, if_pos hless]
  rw [State.updRenewal, State.updRenewal, hfilter]

theorem State.listTrigger_of_unchanged (hs : s.renewal.list = pre ++ e :: post)
    (hrest : ∀ d ∈ pre ++ post, d.slot ≠ o) (he : e.slot = o) (hless : r.urgency ≤ e.urgency) :
    s.listTrigger o r = (s, .unchanged) := by
  simp only [State.listTrigger, State.find?_entry hs hrest he, if_neg (show ¬ e.urgency < r.urgency by omega)]

end

/-! ### The receipt of a trigger (R129) -/

/-- The count of triggers received (R128). -/
def State.countTrigger (s : State) : State := s.updRenewal fun n => { n with received := satInc 65535 n.received }

theorem State.findCtx_eq_none {s : State} {q : Context → Bool} (h : ∀ c, q (s.ctx c) = false) : s.findCtx q = none := by
  rw [State.findCtx, List.find?_eq_none]
  intro c _
  simp [h c]

theorem State.findCtx_isSome {s : State} {q : Context → Bool} {c : Nat} (hc : c < 4) (h : q (s.ctx c) = true) :
    (s.findCtx q).isSome = true := by
  by_contra hnone
  rw [Bool.not_eq_true, Option.isSome_eq_false_iff, Option.isNone_iff_eq_none] at hnone
  simp [State.findCtx_none hnone c hc] at h

theorem State.isOpen_lt {s : State} {c : Nat} (h : (s.ctx c).isOpen = true) : c < 4 := by
  by_contra hc
  rw [State.ctx_out s c hc] at h
  exact absurd h (by decide)

/-- No open context serves slot x. -/
theorem State.serves_none {s : State} {x : Nat} (h : ∀ c, (s.ctx c).isOpen = true → (s.ctx c).subject ≠ some x) :
    s.findCtx (Context.serves (some x)) = none :=
  State.findCtx_eq_none fun c => by
    by_cases ho : (s.ctx c).isOpen = true
    · simp [Context.serves, h c ho]
    · simp [Context.serves, ho]

theorem State.countTrigger_ctx (s : State) (c : Nat) : s.countTrigger.ctx c = s.ctx c := rfl

theorem State.countTrigger_findCtx (q : Context → Bool) (s : State) : s.countTrigger.findCtx q = s.findCtx q := rfl

section
variable {s : State} {x : Nat} {r : Reason}

/-- A trigger for a slot that an open context serves ends there. -/
theorem State.receiveTrigger_of_opened (h : ∃ c, (s.ctx c).isOpen = true ∧ (s.ctx c).subject = some x) :
    s.receiveTrigger (some x) r = (s.countTrigger, .opened) := by
  obtain ⟨c, ho, hsubject⟩ := h
  have hserved : (s.countTrigger.findCtx (Context.serves (some x))).isSome = true :=
    State.findCtx_isSome (State.isOpen_lt ho) 
      (by simp [State.countTrigger_ctx, Context.serves, ho, hsubject])
  exact if_pos hserved

/-- A trigger for an ACTIVE slot that nothing serves and no backoff holds back is listed. -/
theorem State.receiveTrigger_of_listing (h : ∀ c, (s.ctx c).isOpen = true → (s.ctx c).subject ≠ some x)
    (hactive : (s.slot x).state = .active) (hbackoff : (s.backoff x).holds = false) :
    s.receiveTrigger (some x) r = s.countTrigger.listTrigger (some x) r := by
  have hserved : ¬ (s.countTrigger.findCtx (Context.serves (some x))).isSome = true := by
    rw [State.countTrigger_findCtx, State.serves_none h]; simp
  have hstate : ¬ (s.countTrigger.slot x).state ≠ .active := fun h => h hactive
  have hholds : ¬ (s.countTrigger.backoff x).holds = true := fun h => Bool.false_ne_true (hbackoff.symm.trans h)
  exact (if_neg hserved).trans ((if_neg hstate).trans (if_neg hholds))

/-- ORDER and LOCAL end a backoff that would hold them back. -/
theorem State.receiveTrigger_of_backoff (h : ∀ c, (s.ctx c).isOpen = true → (s.ctx c).subject ≠ some x)
    (hactive : (s.slot x).state = .active) (hbackoff : (s.backoff x).holds = true) (hends : r.endsBackoff = true) :
    s.receiveTrigger (some x) r = (s.countTrigger.setBackoff x {}).listTrigger (some x) r := by
  have hserved : ¬ (s.countTrigger.findCtx (Context.serves (some x))).isSome = true := by
    rw [State.countTrigger_findCtx, State.serves_none h]; simp
  have hstate : ¬ (s.countTrigger.slot x).state ≠ .active := fun h => h hactive
  have hholds : (s.countTrigger.backoff x).holds = true :=  hbackoff
  exact (if_neg hserved).trans ((if_neg hstate).trans ((if_pos hholds).trans (if_pos hends)))

end

/-- Between s and t a trigger has been received (R129): counted, and nothing else changed but REQUESTED flags, the request
list with its counts, and, for ORDER, LOCAL and BOOT, a backoff or whether BOOT waits to be listed anew. -/
structure State.Triggered (s t : State) : Prop where
  state : t = { s with slots := t.slots, renewal := { s.renewal with
    list := t.renewal.list, received := satInc 65535 s.renewal.received, notListed := t.renewal.notListed,
    replaced := t.renewal.replaced, backoff := t.renewal.backoff, bootRelist := t.renewal.bootRelist } }
  slot : ∀ x, t.slot x = { s.slot x with requested := (t.slot x).requested }

theorem State.Triggered.contexts {s t : State} (h : s.Triggered t) : t.renewal.contexts = s.renewal.contexts := by
  rw [h.state]

theorem State.Triggered.received {s t : State} (h : s.Triggered t) :
    t.renewal.received = min (s.renewal.received + 1) 65535 := by
  rw [h.state]
  rfl

/-- A trigger received changes slots and the Renewal Controller alone. -/
theorem State.Triggered.slots_renewal {s t : State} (h : s.Triggered t) :
    t = { s with slots := t.slots, renewal := t.renewal } := by
  rw [h.state]

theorem State.Triggered.of_listed {s t : State} (h : s.countTrigger.Listed t) : s.Triggered t :=
  ⟨by rw [h.state]; rfl, h.slot⟩

theorem State.Triggered.of_backoff {s t : State} {x : Nat} (h : (s.countTrigger.setBackoff x {}).Listed t) : s.Triggered t :=
  ⟨by rw [h.state]; rfl, h.slot⟩

theorem State.receiveTrigger_triggered (o : Option Nat) (r : Reason) (s : State) :
    s.Triggered (s.receiveTrigger o r).1 := by
  unfold State.receiveTrigger
  dsimp only
  split
  · exact .of_listed (.refl _)
  · split
    · split
      · dsimp only
        exact .of_listed (State.setRequested_listed _ _ s.countTrigger)
      · split
        · split
          · exact .of_backoff (State.listTrigger_listed ..)
          · exact .of_listed (.refl _)
        · exact .of_listed (State.listTrigger_listed ..)
    · split
      · exact .of_listed (.refl _)
      · exact .of_listed (State.listTrigger_listed ..)

/-- A trigger of another reason than ORDER and LOCAL leaves every backoff, and BOOT's waiting, as they are. -/
theorem State.receiveTrigger_keeps (x : Nat) {r : Reason} (hr : r.endsBackoff = false) (s : State) :
    (s.receiveTrigger (some x) r).1.renewal.backoff = s.renewal.backoff
      ∧ (s.receiveTrigger (some x) r).1.renewal.bootRelist = s.renewal.bootRelist := by
  have hlisted : ∀ u : State, u.renewal.backoff = s.renewal.backoff → u.renewal.bootRelist = s.renewal.bootRelist →
      (u.listTrigger (some x) r).1.renewal.backoff = s.renewal.backoff
        ∧ (u.listTrigger (some x) r).1.renewal.bootRelist = s.renewal.bootRelist := fun u hb hw =>
    ⟨by rw [(u.listTrigger_listed (some x) r).state]; exact hb, by rw [State.listTrigger_bootRelist, hw]⟩
  unfold State.receiveTrigger
  dsimp only
  split
  · exact ⟨rfl, rfl⟩
  · split
    · simp
    · split
      · split
        · simp_all
        · exact ⟨rfl, rfl⟩
      · exact hlisted _ rfl rfl

/-- A trigger sent: REQUESTED is set first (R37). -/
theorem State.sendTrigger_triggered (x : Nat) (r : Reason) (s : State) : s.Triggered (s.sendTrigger x r) := by
  have h := State.receiveTrigger_triggered (some x) r (s.setRequested (some x) true)
  have hset := State.setRequested_listed (some x) true s
  refine ⟨?_, fun y => ?_⟩
  · rw [State.sendTrigger, h.state, hset.state]
  · rw [State.sendTrigger, h.slot, hset.slot]

end Sys2Proof.Machine
end

section
/-! PROOFS. The statements about one trigger: the age test (O13), the ends of backoffs (O20), RENEW NOW and ORDER RENEW
(O50), the root's first load (O55), the self check (O23), and the grace test (O14). -/

namespace Sys2Proof.Machine

/-- A trigger for an ACTIVE slot that no context, backoff or entry of it stands against takes a place of its own. -/
theorem State.sendTrigger_of_room {s : State} {x : Nat} {r : Reason}
    (hopen : ∀ c, (s.ctx c).isOpen = true → (s.ctx c).subject ≠ some x) (hactive : (s.slot x).state = .active)
    (hbackoff : s.backoff x = {}) (hlist : ∀ e ∈ s.renewal.list, e.slot ≠ some x) (hroom : s.renewal.list.length < 8) :
    s.sendTrigger x r = (s.setRequested (some x) true).updRenewal fun n =>
      { n with received := satInc 65535 n.received
               list := insertEntry { slot := some x, urgency := r.urgency, reason := r, arrival := satInc 65535 n.received }
                 n.list } := by
  have hstate : ((s.setRequested (some x) true).slot x).state = .active := by rw [State.setRequested_slot]; exact hactive
  have hheld : ((s.setRequested (some x) true).backoff x).holds = false := by
    rw [show (s.setRequested (some x) true).backoff x = s.backoff x from rfl, hbackoff]; rfl
  rw [State.sendTrigger, State.receiveTrigger_of_listing (s := s.setRequested (some x) true) hopen hstate hheld,
    State.listTrigger_of_new (s := (s.setRequested (some x) true).countTrigger) hlist,
    State.listNew_of_room (s := (s.setRequested (some x) true).countTrigger) hroom]
  rfl

/-! ### The age test (O13) -/

/-- Settles O13: the test clears its due mark and sends the trigger, which takes its place on the list. -/
theorem ageTestSendsTrigger : Obligations.AgeTestSendsTrigger := by
  unfold Obligations.AgeTestSendsTrigger
  intro s x hlow hhigh hdue hactive hage hclear hopen hbackoff hlist hroom
  have hx : x = x ∧ 1 ≤ x ∧ x ≤ 23 := ⟨rfl, hlow, hhigh⟩
  have htest : s.ageTest x = (s.updSlot x fun w => { w with ageTestDue := false }).sendTrigger x .age := by
    simp [State.ageTest, hdue, hactive, hage, hclear]
  have hslot : ∀ y, (s.updSlot x fun w => { w with ageTestDue := false }).slot y =
      if y = x ∧ 1 ≤ x ∧ x ≤ 23 then { s.slot x with ageTestDue := false } else s.slot y := fun y => State.slot_updSlot ..
  have hsent := State.sendTrigger_of_room (s := s.updSlot x fun w => { w with ageTestDue := false }) (x := x) (r := .age)
    hopen (by rw [hslot, if_pos hx]; exact hactive) hbackoff hlist hroom
  have hsentSlot : ∀ y, (s.ageTest x).slot y = { (s.updSlot x fun w => { w with ageTestDue := false }).slot y with
      requested := if some x = some y ∧ 1 ≤ y ∧ y ≤ 23 then true
        else ((s.updSlot x fun w => { w with ageTestDue := false }).slot y).requested } := fun y => by
    rw [htest, hsent]; exact State.setRequested_slot ..
  refine ⟨s.ageTest x, onSlot_of_wf (by simp [isWorkingSlot, hlow, hhigh]) _, ?_, ?_, fun y hy => ?_, ?_, ?_⟩
  · rw [htest, hsent]
    rfl
  · rw [hsentSlot, hslot, if_pos hx, if_pos ⟨rfl, hlow, hhigh⟩]
  · rw [hsentSlot, hslot, if_neg fun h => hy h.1, if_neg fun h => hy (Option.some.inj h.1).symm]
  · rw [htest, hsent]
    exact rfl
  · rw [htest, hsent]
    exact insertEntry_perm ..

/-! ### The ends of backoffs and the BOOT trigger (O20) -/

/-- A BOOT trigger that no open context, backoff or entry stands against takes a place of its own. -/
theorem State.sendBoot_of_room {s : State} (hopen : ∀ c, (s.ctx c).isOpen = true → (s.ctx c).kind ≠ some .boot)
    (hbackoff : s.renewal.bootBackoff = {}) (hlist : ∀ e ∈ s.renewal.list, e.slot ≠ none)
    (hroom : s.renewal.list.length < 8) :
    s.sendBoot = s.updRenewal fun n =>
      { n with received := satInc 65535 n.received
               list := insertEntry { slot := none, urgency := 2, reason := .boot, arrival := satInc 65535 n.received } n.list } := by
  have hserved : ¬ (s.countTrigger.findCtx (Context.serves none)).isSome = true := by
    rw [State.countTrigger_findCtx, State.findCtx_eq_none]
    · simp
    · intro c
      by_cases ho : (s.ctx c).isOpen = true
      · simp [Context.serves, hopen c ho]
      · simp [Context.serves, ho]
  have hheld : ¬ s.countTrigger.renewal.bootBackoff.holds = true := by
    rw [show s.countTrigger.renewal.bootBackoff = s.renewal.bootBackoff from rfl, hbackoff]; decide
  have hreceive : s.receiveTrigger none .boot = s.countTrigger.listTrigger none .boot :=
    (if_neg hserved).trans (if_neg hheld)
  rw [State.sendBoot, hreceive, State.listTrigger_of_new (s := s.countTrigger) hlist,
    State.listNew_of_room (s := s.countTrigger) hroom]
  rfl

/-- Settles O20: an end of a slot's backoff frees its REQUESTED; both ways of listing BOOT anew send its trigger. -/
theorem backoffEndFreesTriggers : Obligations.BackoffEndFreesTriggers := by
  unfold Obligations.BackoffEndFreesTriggers
  refine ⟨fun s x hlow hhigh hdue hstate => ?_, fun s i hstate hunbound hopen hlist hroom hevent => ?_⟩
  · have hend : s.endBackoff x = (s.setBackoff x {}).setRequested (some x) false := if_pos ⟨hdue, hstate⟩
    refine ⟨s.endBackoff x, onSlot_of_wf (by simp [isWorkingSlot, hlow, hhigh]) _, ?_, ?_, fun y hy => ?_, ?_, fun y hy => ?_⟩
    · rw [hend]
      rfl
    · rw [hend]
      exact (State.backoff_setBackoff ..).trans (if_pos ⟨rfl, hlow, hhigh⟩)
    · rw [hend]
      exact (State.backoff_setBackoff ..).trans (if_neg fun h => hy h.1)
    · rw [hend, State.setRequested_slot, if_pos ⟨rfl, hlow, hhigh⟩]
      rfl
    · rw [hend, State.setRequested_slot, if_neg fun h => hy (Option.some.inj h.1).symm]
      rfl
  · have hsend := fun (u : State) (hu : u.renewal.list = s.renewal.list) (hc : u.renewal.contexts = s.renewal.contexts)
        (hb : u.renewal.bootBackoff = {}) =>
      State.sendBoot_of_room (s := u) (fun c => by rw [State.ctx_congr hc]; exact hopen c) hb (hu ▸ hlist) (hu ▸ hroom)
    have hwants : s.wantsBoot = true := by simp [State.wantsBoot, hstate, hunbound]
    rcases hevent with ⟨rfl, hdue⟩ | ⟨rfl, hdue, hnone⟩
    · have hend : s.endBootBackoff = (s.updRenewal fun n => { n with bootBackoff := {} }).sendBoot :=
        (if_pos ⟨hdue, by rw [hstate]; decide⟩).trans (if_pos hwants)
      have hsent := hsend (s.updRenewal fun n => { n with bootBackoff := {} }) rfl rfl rfl
      refine ⟨s.endBootBackoff, rfl, ?_, ?_, ?_⟩
      · rw [hend, hsent]
        rfl
      · rw [hend, hsent]
        exact rfl
      · rw [hend, hsent]
        exact insertEntry_perm ..
    · have hend : s.relistBoot = (s.updRenewal fun n => { n with bootRelist := .idle }).sendBoot :=
        (if_pos hdue).trans (if_pos hwants)
      have hsent := hsend (s.updRenewal fun n => { n with bootRelist := .idle }) rfl rfl hnone
      refine ⟨s.relistBoot, rfl, ?_, ?_, ?_⟩
      · rw [hend, hsent]
        exact congrArg (fun b => ({ s with renewal := { s.renewal with
          received := satInc 65535 s.renewal.received, bootRelist := .idle, bootBackoff := b
          list := insertEntry { slot := none, urgency := 2, reason := .boot, arrival := satInc 65535 s.renewal.received }
            s.renewal.list } } : State)) hnone
      · rw [hend, hsent]
        exact rfl
      · rw [hend, hsent]
        exact insertEntry_perm ..

/-! ### A trigger of urgency 1 with its outcome (O50) -/

/-- A trigger that no open context meets and that ends backoffs reaches the list with its slot's backoff gone. -/
theorem State.receiveTrigger_of_urgent {s : State} {x : Nat} {r : Reason}
    (hopen : ∀ c, (s.ctx c).isOpen = true → (s.ctx c).subject ≠ some x) (hactive : (s.slot x).state = .active)
    (hends : r.endsBackoff = true) :
    ∃ u : State, s.receiveTrigger (some x) r = u.listTrigger (some x) r
      ∧ u = { s with renewal := { s.renewal with received := satInc 65535 s.renewal.received, backoff := u.renewal.backoff } }
      ∧ u.backoff x = {} ∧ ∀ y, y ≠ x → u.backoff y = s.backoff y := by
  have hx : 1 ≤ x ∧ x ≤ 23 := by
    by_contra hout
    rw [State.slot_out s x hout] at hactive
    exact absurd hactive (by decide)
  by_cases hheld : (s.backoff x).holds = true
  · refine ⟨s.countTrigger.setBackoff x {}, State.receiveTrigger_of_backoff hopen hactive hheld hends, rfl, ?_, fun y hy => ?_⟩
    · rw [State.backoff_setBackoff, if_pos ⟨rfl, hx⟩]
    · rw [State.backoff_setBackoff, if_neg fun h => hy h.1]
      rfl
  · rw [Bool.not_eq_true] at hheld
    refine ⟨s.countTrigger, State.receiveTrigger_of_listing hopen hactive hheld, rfl, ?_, fun y _ => rfl⟩
    rw [Backoff.holds, Bool.or_eq_false_iff, decide_eq_false_iff_not] at hheld
    obtain ⟨hzero, hdue⟩ := hheld
    exact congrArg₂ Backoff.mk (by omega : (s.backoff x).remaining = 0) hdue

/-- What listing a trigger of urgency 1 does to a list that may hold an entry of its slot, with the outcome. -/
theorem State.listTrigger_outcome {u : State} {x : Nat} {r : Reason} (hr : r.urgency = 1) (hrange : 1 ≤ x ∧ x ≤ 23)
    (hset : (u.slot x).requested = true) :
    ((∀ e ∈ u.renewal.list, e.slot ≠ some x) → u.renewal.list.length < 8 →
        (u.listTrigger (some x) r).2 = .listed ∧ ((u.listTrigger (some x) r).1.slot x).requested = true
        ∧ (u.listTrigger (some x) r).1.renewal.list.Perm
            ({ slot := some x, urgency := 1, reason := r, arrival := u.renewal.received } :: u.renewal.list))
    ∧ (∀ pre post e, u.renewal.list = pre ++ e :: post → (∀ d ∈ pre ++ post, d.slot ≠ some x) → e.slot = some x →
        ((u.listTrigger (some x) r).1.slot x).requested = true
        ∧ (e.urgency = 0 → (u.listTrigger (some x) r).2 = .raised
            ∧ (u.listTrigger (some x) r).1.renewal.list.Perm ({ e with urgency := 1, reason := r } :: (pre ++ post)))
        ∧ (1 ≤ e.urgency → (u.listTrigger (some x) r).2 = .unchanged
            ∧ (u.listTrigger (some x) r).1.renewal.list = u.renewal.list))
    ∧ (∀ pre e, u.renewal.list = pre ++ [e] → (∀ d ∈ u.renewal.list, d.slot ≠ some x) → 8 ≤ u.renewal.list.length →
        (1 ≤ e.urgency → (u.listTrigger (some x) r).2 = .notListed
            ∧ (u.listTrigger (some x) r).1.renewal.list = u.renewal.list
            ∧ ((u.listTrigger (some x) r).1.slot x).requested = false)
        ∧ (e.urgency = 0 → (u.listTrigger (some x) r).2 = .listed
            ∧ ((u.listTrigger (some x) r).1.slot x).requested = true
            ∧ (u.listTrigger (some x) r).1.renewal.list.Perm
                ({ slot := some x, urgency := 1, reason := r, arrival := u.renewal.received } :: pre))) := by
  refine ⟨fun hlist hroom => ?_, fun pre post e hs hrest he => ?_, fun pre e hs hlist hfull => ⟨fun hurgent => ?_, fun hidle => ?_⟩⟩
  · rw [State.listTrigger_of_new hlist, State.listNew_of_room hroom, ← hr]
    exact ⟨rfl, hset, insertEntry_perm ..⟩
  · refine ⟨?_, fun hidle => ?_, fun hurgent => ?_⟩
    · by_cases hless : e.urgency < r.urgency
      · rw [State.listTrigger_of_raised hs hrest he hless]
        exact hset
      · rw [State.listTrigger_of_unchanged hs hrest he (by omega)]
        exact hset
    · rw [State.listTrigger_of_raised hs hrest he (by omega), ← hr]
      exact ⟨rfl, insertEntry_perm ..⟩
    · rw [State.listTrigger_of_unchanged hs hrest he (by omega)]
      exact ⟨rfl, rfl⟩
  · rw [State.listTrigger_of_new hlist, State.listNew_of_full hfull hs (by omega)]
    refine ⟨rfl, rfl, ?_⟩
    rw [State.setRequested_slot]
    exact if_pos ⟨rfl, hrange⟩
  · have hother : e.slot ≠ some x := hlist e (by simp [hs])
    rw [State.listTrigger_of_new hlist, State.listNew_of_replaced hfull hs (by omega), ← hr]
    refine ⟨rfl, ?_, ?_⟩
    · rw [State.setRequested_slot]
      exact (if_neg fun h => hother h.1).trans hset
    · simp only [State.setRequested_frame]
      exact insertEntry_perm ..

/-- A trigger of urgency 1 that ends backoffs, sent for an ACTIVE slot. -/
theorem State.triggeredFrom_send {s : State} {x : Nat} {r : Reason} (hr : r.urgency = 1) (hends : r.endsBackoff = true)
    (hactive : (s.slot x).state = .active) :
    (((s.setRequested (some x) true).receiveTrigger (some x) r).1).triggeredFrom s x r
      ((s.setRequested (some x) true).receiveTrigger (some x) r).2.code := by
  have hx : 1 ≤ x ∧ x ≤ 23 := by
    by_contra hout
    rw [State.slot_out s x hout] at hactive
    exact absurd hactive (by decide)
  have hsent : s.Triggered ((s.setRequested (some x) true).receiveTrigger (some x) r).1 := State.sendTrigger_triggered x r s
  have hrequested : ((s.setRequested (some x) true).slot x).requested = true := by
    rw [State.setRequested_slot]
    exact if_pos ⟨rfl, hx⟩
  have hstate : ((s.setRequested (some x) true).slot x).state = .active := by rw [State.setRequested_slot]; exact hactive
  have hctx : ∀ c, (((s.setRequested (some x) true).receiveTrigger (some x) r).1).ctx c = s.ctx c :=
    State.ctx_congr hsent.contexts
  have hreceived := hsent.received
  by_cases hopen : ∃ c, (s.ctx c).isOpen = true ∧ (s.ctx c).subject = some x
  · have hserved := State.receiveTrigger_of_opened (s := s.setRequested (some x) true) (r := r) hopen
    have hnone : ¬ ∀ c, (s.ctx c).isOpen = true → (s.ctx c).subject ≠ some x := fun h =>
      hopen.elim fun c hc => h c hc.1 hc.2
    refine ⟨hreceived, hsent.slot, hctx, fun y _ => ?_, fun _ => ?_, fun h => absurd h hnone⟩
    · rw [hserved]
      rfl
    · rw [hserved]
      exact ⟨rfl, rfl, hrequested, rfl⟩
  · have hnone : ∀ c, (s.ctx c).isOpen = true → (s.ctx c).subject ≠ some x := fun c ho hc => hopen ⟨c, ho, hc⟩
    obtain ⟨u, hlisting, hu, hself, hothers⟩ :=
      State.receiveTrigger_of_urgent (s := s.setRequested (some x) true) hnone hstate hends
    have hkeep := State.listTrigger_listed (some x) r u
    have hbackoff : ∀ y, (u.listTrigger (some x) r).1.backoff y = u.backoff y := State.backoff_congr hkeep.backoffs
    have hlist : u.renewal.list = s.renewal.list := by rw [hu]; rfl
    have hcount := hkeep.received
    have houtcome := State.listTrigger_outcome hr hx (u := u) (by rw [hu]; exact hrequested)
    rw [hlist, ← hcount] at houtcome
    obtain ⟨hnew, hentry, hfull⟩ := houtcome
    rw [hlisting] at hsent hctx hreceived ⊢
    refine ⟨hreceived, hsent.slot, hctx, fun y hy => (hbackoff y).trans (hothers y hy), fun h => absurd h hopen, fun _ =>
      ⟨(hbackoff x).trans hself, fun hl hroom => ?_, fun pre post e hs hrest he => ?_, fun pre e hs hl hlen => ?_⟩⟩
    · obtain ⟨hk, hrest⟩ := hnew hl hroom
      exact ⟨congrArg Listing.code hk, hrest⟩
    · obtain ⟨hreq, hraised, hstands⟩ := hentry pre post e hs hrest he
      exact ⟨hreq, fun h => (hraised h).imp_left (congrArg Listing.code), fun h => (hstands h).imp_left (congrArg Listing.code)⟩
    · obtain ⟨hout, hin⟩ := hfull pre e hs hl hlen
      exact ⟨fun h => (hout h).imp_left (congrArg Listing.code), fun h => (hin h).imp_left (congrArg Listing.code)⟩

theorem exec_renewNow {s : State} (w2 : Word) (h : s.sPort.cmd = .idle) :
    exec (.renewNow .s w2) s = .next (renewNow .s w2 s) :=
  congrArg Host.Outcome.next (State.writeCommandWords_permitted (p := .s) (args := [w2]) .renewNow h rfl rfl)

/-- An outcome fits the word that carries it. -/
theorem Listing.word_toNat (l : Listing) : (word4 0 0 0 l.code).toNat = l.code := by cases l <;> decide

/-- A state reads the same in what a trigger is about when what it is about is the same. -/
theorem State.triggeredFrom_congr {s t u : State} {x k : Nat} {r : Reason} (hs : u.slots = t.slots)
    (hn : u.renewal = t.renewal) (h : t.triggeredFrom s x r k) : u.triggeredFrom s x r k := by
  have hslot := State.slot_congr hs
  have hctx := fun c => State.ctx_congr (congrArg Renewal.contexts hn) c
  have hbackoff : ∀ y, u.backoff y = t.backoff y := State.backoff_congr (congrArg Renewal.backoff hn)
  simp only [State.triggeredFrom, hslot, hctx, hbackoff, hn] at h ⊢
  exact h

/-- Settles O50: the checks of RENEW NOW, then `triggeredFrom_send` for LOCAL and for ORDER. -/
theorem renewNowReportsOutcome : Obligations.RenewNowReportsOutcome := by
  unfold Obligations.RenewNowReportsOutcome
  refine ⟨fun s w2 x hx hidle hboot hfailed hlow hhigh hactive => ?_, fun s w2 x st hx hidle hcheck => ?_, fun s x =>
    ⟨fun hlow hhigh hactive => ?_, fun hnot => ?_⟩⟩
  · subst hx
    have hrun : renewNow .s w2 s = ((s.setRequested (some (fieldD w2)) true).receiveTrigger (some (fieldD w2)) .locally).1.respond
        .s .done [word4 0 0 0 ((s.setRequested (some (fieldD w2)) true).receiveTrigger (some (fieldD w2)) .locally).2.code] :=
      (if_neg (by simp [hboot, hfailed])).trans ((if_neg (by omega)).trans (if_neg fun h => h hactive))
    have hsent := (State.sendTrigger_triggered (fieldD w2) .locally s).slots_renewal
    have hfrom := State.triggeredFrom_send (r := .locally) rfl rfl hactive
    refine ⟨_, _, exec_renewNow w2 hidle, ?_, State.triggeredFrom_congr ?_ ?_ (Listing.word_toNat _ ▸ hfrom)⟩
    · rw [hrun, State.respond_eq]
      exact congrArg (State.updPort .s (.withAnswer .done _)) hsent
    · rw [hrun, State.respond_eq]
      rfl
    · rw [hrun, State.respond_eq]
      rfl
  · subst hx
    have hrefused : renewNow .s w2 s = s.refuse .s st := by
      rcases hcheck with ⟨hstate, rfl⟩ | ⟨hboot, hfailed, ⟨hrange, rfl⟩ | ⟨hlow, hhigh, hactive, rfl⟩⟩
      · exact if_pos hstate
      · exact (if_neg (by simp [hboot, hfailed])).trans (if_pos hrange)
      · exact (if_neg (by simp [hboot, hfailed])).trans ((if_neg (by omega)).trans (if_pos hactive))
    rw [exec_renewNow w2 hidle, hrefused, State.refuse_eq]
    rfl
  · have htake : s.takeMessage (.renew x) = (s.sendTrigger x .order).countOrder true := if_pos ⟨hhigh, hactive⟩
    have hsent := (State.sendTrigger_triggered x .order s).slots_renewal
    refine ⟨_, _, htake, ?_, State.triggeredFrom_congr ?_ ?_ (State.triggeredFrom_send (r := .order) rfl rfl hactive)⟩
    · exact congrArg (State.countOrder true) hsent
    · rfl
    · rfl
  · have hnone : ¬ (x ≤ 23 ∧ (s.slot x).state = .active) := fun h => by
      refine hnot ⟨?_, h⟩
      by_contra hzero
      rw [State.slot_out s x (by omega)] at h
      exact absurd h.2 (by decide)
    exact if_neg hnone

/-! ### The root's first load (O55) and the self check (O23) -/

/-- A BOOT trigger finds a place on a list with room: no REQUESTED changes. -/
theorem State.sendBoot_slots {s : State} (hroom : s.renewal.list.length < 8) : s.sendBoot.slots = s.slots := by
  have hlist : (s.countTrigger.listTrigger none .boot).1.slots = s.slots := by
    unfold State.listTrigger
    split
    · split <;> rfl
    · rw [State.listNew_of_room (s := s.countTrigger) hroom]
      rfl
  unfold State.sendBoot State.receiveTrigger
  dsimp only
  split
  · rfl
  · split
    · rfl
    · exact hlist

theorem State.sendBoot_triggered (s : State) : s.Triggered s.sendBoot := State.receiveTrigger_triggered none .boot s

/-- An ERASE that waits is executed with the answer of a command of its own. -/
theorem State.executeErase_idle (p : Port) (s : State) :
    s.executeErase p = (s.updPort p fun q => { q with cmd := .idle }).executeErase p := by
  rw [State.executeErase, State.executeErase, State.updPort_updPort]
  rfl

theorem exec_loadRoot {s : State} (w2 w3 w4 w5 w6 : Word) (h : s.sPort.cmd = .idle) :
    exec (.loadRoot .s w2 w3 w4 w5 w6) s = .next (loadRoot .s w2 w3 w4 w5 w6 s) :=
  congrArg Host.Outcome.next
    (State.writeCommandWords_permitted (p := .s) (args := [w2, w3, w4, w5, w6]) .loadRoot h rfl rfl)

/-- The part after the write of a LOAD ROOT, before BOOTSTRAP's trigger and a waiting ERASE. -/
def State.rootLoaded (s : State) (key : Block) (tag : BitVec 16) : State :=
  { s with partState := .bootstrap, sPort := s.sPort.withAnswer .done []
           root := { s.root with active := true, material := key, storeTag := some tag, txCounter := 1
                                 unsavedCounter := none } }

theorem State.completeLoadRoot_eq {s : State} {key : Block} {tag : BitVec 16}
    (h : s.sPort.cmd = .inProgress (.loadRoot key tag)) :
    s.completeLoadRoot = (s.rootLoaded key tag).sendBoot.executeWaitingErase := by
  simp only [State.completeLoadRoot, h]
  rfl

/-- Settles O55: the command's own check, then the completion of its write with and without a waiting ERASE. -/
theorem loadRootEntersBootstrap : Obligations.LoadRootEntersBootstrap := by
  unfold Obligations.LoadRootEntersBootstrap
  refine ⟨fun s w2 w3 w4 w5 w6 hidle => ⟨fun hstate => ?_, fun hstate => ?_⟩, fun s key tag hcmd =>
    ⟨fun hnone => ?_, fun hwaits => ?_⟩⟩
  · rw [exec_loadRoot w2 w3 w4 w5 w6 hidle, loadRoot, if_neg fun h => h hstate]
    rfl
  · rw [exec_loadRoot w2 w3 w4 w5 w6 hidle, loadRoot, if_pos hstate, State.refuse_eq]
    rfl
  · have hsent := (s.rootLoaded key tag).sendBoot_triggered
    have hstands : (s.rootLoaded key tag).sendBoot.executeWaitingErase = (s.rootLoaded key tag).sendBoot := by
      have hno : (s.rootLoaded key tag).sendBoot.waitingErase = none := by
        rw [hsent.state]
        exact (if_neg (by simp [State.rootLoaded, PortState.withAnswer])).trans (if_neg hnone)
      rw [State.executeWaitingErase, hno]
    refine ⟨(s.rootLoaded key tag).sendBoot, ?_, hsent.slots_renewal, hsent.received, fun hroom => ?_, hsent.slot⟩
    · exact congrArg Host.Outcome.next ((State.completeLoadRoot_eq hcmd).trans hstands)
    · exact State.sendBoot_slots (s := s.rootLoaded key tag) hroom
  · have hsent := (s.rootLoaded key tag).sendBoot_triggered.slots_renewal
    have hwaiting : (s.rootLoaded key tag).sendBoot.waitingErase = some .l := by
      rw [hsent]
      exact (if_neg (by simp [State.rootLoaded, PortState.withAnswer])).trans (if_pos hwaits)
    have herased : (s.rootLoaded key tag).sendBoot.executeWaitingErase
        = ((s.rootLoaded key tag).sendBoot.updPort .l fun q => { q with cmd := .idle }).executeErase .l := by
      rw [State.executeWaitingErase, hwaiting]
      exact State.executeErase_idle ..
    obtain ⟨t, ht, hreset, hl, -, hs, -, -, hports⟩ := State.executeErase_spec (p := .l)
      (s := (s.rootLoaded key tag).sendBoot.updPort .l fun q => { q with cmd := .idle }) rfl
    have hsPort : ((s.rootLoaded key tag).sendBoot.updPort .l fun q => { q with cmd := .idle }).sPort
        = s.sPort.withAnswer .done [] := congrArg State.sPort hsent
    have hpart : ((s.rootLoaded key tag).sendBoot.updPort .l fun q => { q with cmd := .idle }).partState = .bootstrap :=
      congrArg State.partState hsent
    obtain ⟨hresponse, hcause⟩ := hs (by
      rw [show ((s.rootLoaded key tag).sendBoot.updPort .l fun q => { q with cmd := .idle }).port Port.l.other
        = s.sPort.withAnswer .done [] from hsPort]
      rfl)
    have hport : t.sPort = t.port .s := rfl
    refine ⟨t, congrArg Host.Outcome.next ((State.completeLoadRoot_eq hcmd).trans (herased.trans ht)), ?_, ?_, ?_, hl⟩
    · rw [hreset]
      exact if_neg (by rw [hpart]; decide)
    · rw [hreset]
      rfl
    · refine ⟨hresponse.trans (congrArg PortState.response hsPort), ?_, hcause.trans (congrArg PortState.responseCause hsPort), ?_⟩
      · rw [hport, (hports .s).1]
      · rw [hport, (hports .s).1]

/-- The engine gives the known answer exactly when nothing upsets it. -/
theorem selfCheckPasses_eq (upset : Block) : selfCheckPasses upset = (upset == 0) := by
  have hanswer : Config.E Config.knownAnswerKey Config.knownAnswerBlock = Config.knownAnswerValue := by simp [Config.E]
  have hsound : Config.knownAnswerValue ^^^ upset = Config.knownAnswerValue ↔ upset = 0 := by
    simp
  rw [selfCheckPasses, hanswer, Bool.eq_iff_iff, beq_iff_eq, beq_iff_eq, hsound]

/-- The part the self check leaves, before a waiting ERASE. -/
def State.selfChecked (s : State) (upset : Block) : State :=
  if upset ≠ 0 then (s.setWork none).setPartState .failed
  else if s.root.active then ((s.setWork none).setPartState .bootstrap).sendBoot
  else (s.setWork none).setPartState .noRoot

theorem State.completeSelfCheck_eq {s : State} (upset : Block) (h : s.engine.work = some .selfCheck) :
    s.completeSelfCheck upset = (s.selfChecked upset).executeWaitingErase := by
  have hpass : (!selfCheckPasses upset) = true ↔ upset ≠ 0 := by simp [selfCheckPasses_eq]
  simp only [State.completeSelfCheck, h, hpass, State.selfChecked]
  rfl

/-- Without a waiting ERASE the self check is done. -/
theorem State.selfChecked_state {s : State} {upset : Block} :
    ∃ t, s.selfChecked upset = t
      ∧ t = { s with partState := t.partState, engine := { s.engine with work := none }, slots := t.slots
                     renewal := t.renewal }
      ∧ t.partState = (if upset ≠ 0 then .failed else if s.root.active then .bootstrap else .noRoot)
      ∧ (t.partState ≠ .bootstrap → t.renewal = s.renewal)
      ∧ ((t.partState ≠ .bootstrap ∨ s.renewal.list.length < 8) → t.slots = s.slots)
      ∧ (∀ x, t.slot x = { s.slot x with requested := (t.slot x).requested })
      ∧ (t.partState = .bootstrap → t.renewal.received = min (s.renewal.received + 1) 65535) := by
  refine ⟨_, rfl, ?_⟩
  unfold State.selfChecked
  by_cases hu : upset ≠ 0
  · rw [if_pos hu, if_pos hu]
    exact ⟨rfl, rfl, fun _ => rfl, fun _ => rfl, fun _ => rfl, fun h => nomatch h⟩
  · rw [if_neg hu, if_neg hu]
    by_cases ha : s.root.active = true
    · rw [if_pos ha, if_pos ha]
      have hsent := State.sendBoot_triggered ((s.setWork none).setPartState .bootstrap)
      have hpart : ((s.setWork none).setPartState .bootstrap).sendBoot.partState = .bootstrap :=
        congrArg State.partState hsent.slots_renewal
      refine ⟨?_, hpart, fun h => absurd hpart h, fun h => ?_, hsent.slot, fun _ => hsent.received⟩
      · rw [hsent.slots_renewal]
        rfl
      · exact State.sendBoot_slots (s := (s.setWork none).setPartState .bootstrap) (h.resolve_left fun h => h hpart)
    · rw [if_neg ha, if_neg ha]
      exact ⟨rfl, rfl, fun _ => rfl, fun _ => rfl, fun _ => rfl, fun h => nomatch h⟩

/-- Settles O23: the start, the three results, and a waiting ERASE that follows them. -/
theorem selfCheckDecidesPartState : Obligations.SelfCheckDecidesPartState := by
  unfold Obligations.SelfCheckDecidesPartState
  refine ⟨fun s hboot hpending hidle => ?_, fun s upset hwork => ⟨fun hnone => ?_, fun p hwaits hother => ?_⟩⟩
  · have hpick : s.pick = some .selfCheck := by simp [State.pick, hidle, hboot, hpending]
    exact congrArg Host.Outcome.next (if_pos hpick)
  · obtain ⟨t, ht, hstate, hrest⟩ := State.selfChecked_state (s := s) (upset := upset)
    have hno : t.waitingErase = none := by
      rw [hstate]
      exact (if_neg (hnone .s)).trans (if_neg (hnone .l))
    refine ⟨t, congrArg Host.Outcome.next ((State.completeSelfCheck_eq upset hwork).trans ?_), hstate, hrest⟩
    rw [ht, State.executeWaitingErase, hno]
  · obtain ⟨t, ht, hstate, hpart, -⟩ := State.selfChecked_state (s := s) (upset := upset)
    have hwaiting : t.waitingErase = some p := by
      rw [hstate]
      cases p with
      | s => exact if_pos hwaits
      | l => exact (if_neg hother).trans (if_pos hwaits)
    obtain ⟨u, hu, hreset, hanswered, -⟩ := State.executeErase_spec (p := p) (s := t.updPort p fun q => { q with cmd := .idle })
      (by rw [State.updPort_port_self])
    refine ⟨u, congrArg Host.Outcome.next ((State.completeSelfCheck_eq upset hwork).trans ?_), ?_, hanswered, ?_, fun x => ?_, ?_⟩
    · rw [ht, State.executeWaitingErase, hwaiting]
      exact (State.executeErase_idle p t).trans hu
    · have hstate : u.partState = if t.partState = .failed then .failed else .noRoot := by
        rw [hreset]
        simp
      rw [hstate, hpart]
      by_cases hupset : upset = 0 <;> cases s.root.active <;> simp [hupset]
    · rw [hreset]
      rfl
    · rw [hreset]
      exact State.reset_erased.slots x
    · rw [hreset]
      rfl

end Sys2Proof.Machine
end

section
/-! PROOFS. The Account Unit's rules: spending a key (R20, R48, R56), charging a frame (R47, R49), and the statement about
grace (O14). -/

namespace Sys2Proof.Machine

/-! ### The channels of a spent key (R20) -/

theorem State.exhaustedWith_iff (s : State) (x i : Nat) :
    s.exhaustedWith x i ↔ ((s.chan i).currentIs x && (s.chan i).state == .opened
      || s.targetHas (fun c => c.currentIs x && c.state == .opened) (s.chan i)) = true := by
  rw [Bool.or_eq_true, Bool.and_eq_true, beq_iff_eq, State.targetHas]
  refine or_congr Iff.rfl ⟨fun ⟨r, hkind, htarget, hhit⟩ => ?_, fun h => ?_⟩
  · simp [hkind, htarget, hhit]
  · cases htarget : (s.chan i).target with
    | none => simp [htarget] at h
    | some r =>
      simp only [htarget, Bool.and_eq_true, beq_iff_eq] at h
      exact ⟨r, h.1, rfl, h.2⟩

theorem State.exhaustedWith_lt {s : State} {x i : Nat} (h : s.exhaustedWith x i) : i < 48 := by
  by_contra hi
  rcases h with ⟨hcurrent, -⟩ | ⟨r, hkind, -⟩
  · rw [State.chan_out s i hi] at hcurrent
    exact Bool.false_ne_true hcurrent
  · rw [State.chan_out s i hi] at hkind
    nomatch hkind

theorem State.chan_markExhausted_of {s : State} {x i : Nat} (h : s.exhaustedWith x i) :
    (s.markExhausted x).chan i = { s.chan i with state := .exhausted } := by
  rw [State.markExhausted, State.chan_mapChans, if_pos (State.exhaustedWith_lt h)]
  exact if_pos ((s.exhaustedWith_iff x i).mp h)

theorem State.chan_markExhausted_not {s : State} {x i : Nat} (h : ¬ s.exhaustedWith x i) :
    (s.markExhausted x).chan i = s.chan i := by
  rw [State.markExhausted, State.chan_mapChans]
  by_cases hi : i < 48
  · rw [if_pos hi]
    exact if_neg fun hit => h ((s.exhaustedWith_iff x i).mpr hit)
  · rw [if_neg hi, State.chan_out s i hi]

/-! ### A trigger of the Account Unit -/

/-- A trigger of another reason than ORDER, LOCAL and BOOT: REQUESTED flags and the list with its counts. -/
theorem State.sendTrigger_state (x : Nat) {r : Reason} (hr : r.endsBackoff = false) (s : State) :
    s.sendTrigger x r = { s with slots := (s.sendTrigger x r).slots, renewal := { s.renewal with
      list := (s.sendTrigger x r).renewal.list, received := min (s.renewal.received + 1) 65535
      notListed := (s.sendTrigger x r).renewal.notListed, replaced := (s.sendTrigger x r).renewal.replaced } } := by
  have hsent := State.sendTrigger_triggered x r s
  have hkeeps := State.receiveTrigger_keeps x hr (s.setRequested (some x) true)
  have hbackoff : (s.sendTrigger x r).renewal.backoff = s.renewal.backoff := hkeeps.1
  have hrelist : (s.sendTrigger x r).renewal.bootRelist = s.renewal.bootRelist := hkeeps.2
  have h := hsent.state
  rw [hbackoff, hrelist] at h
  exact h

/-- A trigger for a slot that an open context serves leaves the list, and REQUESTED set. -/
theorem State.sendTrigger_of_opened {s : State} {x : Nat} {r : Reason}
    (h : ∃ c, (s.ctx c).isOpen = true ∧ (s.ctx c).subject = some x) :
    s.sendTrigger x r = (s.setRequested (some x) true).countTrigger := by
  rw [State.sendTrigger, State.receiveTrigger_of_opened (s := s.setRequested (some x) true) h]

/-! ### A key is spent (R48, R56) -/

/-- Between s and t the key in slot x has been spent: SPENT, its channels EXHAUSTED, the fault raised, the SPENT trigger
received. -/
structure State.Spends (s t : State) (x : Nat) (k : FaultKind) : Prop where
  state : t = { s with
    slots := t.slots, chans := t.chans, faults := t.faults, beacon := t.beacon
    renewal := { s.renewal with list := t.renewal.list, received := min (s.renewal.received + 1) 65535
                                notListed := t.renewal.notListed, replaced := t.renewal.replaced }
    sPort := { s.sPort with faultCause := t.sPort.faultCause }
    lPort := { s.lPort with faultCause := t.lPort.faultCause } }
  self : t.slot x = { s.slot x with spent := true, requested := (t.slot x).requested }
  others : ∀ y, y ≠ x → t.slot y = { s.slot y with requested := (t.slot y).requested }
  exhausted : ∀ i, s.exhaustedWith x i → t.chan i = { s.chan i with state := .exhausted }
  rest : ∀ i, ¬ s.exhaustedWith x i → t.chan i = s.chan i
  stands : t.faultStands k (.slot x)
  served : (∃ c, (s.ctx c).isOpen = true ∧ (s.ctx c).subject = some x) →
    t.renewal.list = s.renewal.list ∧ (t.slot x).requested = true

/-- SPENT of slot x, with its channels (R20). -/
def State.spentKey (x : Nat) (s : State) : State := (s.updSlot x fun v => { v with spent := true }).markExhausted x

theorem State.spentKey_slot (x y : Nat) (s : State) :
    (s.spentKey x).slot y = if y = x ∧ 1 ≤ x ∧ x ≤ 23 then { s.slot x with spent := true } else s.slot y :=
  (State.slot_congr (by simp [State.spentKey]) y).trans (State.slot_updSlot x y (fun v => { v with spent := true }) s)

theorem State.spendSlot_spends {s : State} {x : Nat} (hx : 1 ≤ x ∧ x ≤ 23) (k : FaultKind) :
    s.Spends (s.spendSlot x k) x k := by
  have hraised := State.raiseFault_same k (.slot x) (s.spentKey x)
  have hsent := State.sendTrigger_triggered x .spent
    ((s.spentKey x).raiseFault k (.slot x))
  have hstate := State.sendTrigger_state x (r := .spent) rfl
    ((s.spentKey x).raiseFault k (.slot x))
  have hslot : ∀ y, ((s.spentKey x).raiseFault k (.slot x)).slot y
      = if y = x ∧ 1 ≤ x ∧ x ≤ 23 then { s.slot x with spent := true } else s.slot y := fun y =>
    (State.slot_congr (by simp) y).trans (s.spentKey_slot x y)
  have hchan : ∀ i, (s.spendSlot x k).chan i = (s.spentKey x).chan i :=
    fun i => by simp [State.spendSlot, State.spentKey]
  have hrenewal := congrArg State.renewal hstate
  have hsPort := congrArg State.sPort hraised
  have hlPort := congrArg State.lPort hraised
  constructor
  case state =>
    apply State.ext_fields
    case h19 => exact hrenewal.trans (by simp [State.spendSlot, State.spentKey])
    case h22 => exact (congrArg State.sPort hstate).trans (hsPort.trans (by simp [State.spendSlot, State.spentKey]))
    case h23 => exact (congrArg State.lPort hstate).trans (hlPort.trans (by simp [State.spendSlot, State.spentKey]))
    all_goals simp
  case self =>
    have h := hsent.slot x
    rw [hslot, if_pos ⟨rfl, hx⟩] at h
    exact h
  case others =>
    intro y hy
    have h := hsent.slot y
    rw [hslot, if_neg fun hxy => hy hxy.1] at h
    exact h
  case exhausted =>
    intro i hi
    rw [hchan]
    exact State.chan_markExhausted_of (s := s.updSlot x fun v => { v with spent := true }) hi
  case rest =>
    intro i hi
    rw [hchan]
    exact State.chan_markExhausted_not (s := s.updSlot x fun v => { v with spent := true }) hi
  case stands =>
    exact State.faultStands_congr (s := (s.spentKey x).raiseFault k (.slot x)) (by simp [State.spendSlot, State.spentKey])
      (State.raiseFault_stands ..)
  case served =>
    intro h
    have hopened := State.sendTrigger_of_opened (r := .spent) (x := x)
      (s := (s.spentKey x).raiseFault k (.slot x)) (by simpa [State.spentKey] using h)
    have hspend : s.spendSlot x k = _ := hopened
    constructor
    · rw [hspend]
      simp [State.countTrigger, State.spentKey]
    · rw [hspend]
      have hset := State.setRequested_slot (some x) true
        ((s.spentKey x).raiseFault k (.slot x)) x
      rw [if_pos ⟨rfl, hx⟩] at hset
      exact congrArg Slot.requested hset

/-- Settles O14: the test clears its due mark and spends the key. -/
theorem graceExpirySpendsKey : Obligations.GraceExpirySpendsKey := by
  unfold Obligations.GraceExpirySpendsKey
  intro s x hlow hhigh hdue hactive hage hsucc hspent
  have htest : s.graceTest x = (s.updSlot x fun w => { w with graceTestDue := false }).spendSlot x .keyAgeOver := by
    simp [State.graceTest, hdue, hactive, hage, hsucc, hspent]
  have hslot : ∀ y, (s.updSlot x fun w => { w with graceTestDue := false }).slot y =
      if y = x ∧ 1 ≤ x ∧ x ≤ 23 then { s.slot x with graceTestDue := false } else s.slot y := fun y => State.slot_updSlot ..
  have hspends := State.spendSlot_spends (s := s.updSlot x fun w => { w with graceTestDue := false }) ⟨hlow, hhigh⟩ .keyAgeOver
  rw [← htest] at hspends
  refine ⟨s.graceTest x, onSlot_of_wf (by simp [isWorkingSlot, hlow, hhigh]) _, ?_, ?_, fun y hy => ?_, hspends.exhausted,
    fun i hself htarget => hspends.rest i ?_, hspends.stands, ?_⟩
  · rw [hspends.state]
    rfl
  · have h := hspends.self
    rw [hslot, if_pos ⟨rfl, hlow, hhigh⟩] at h
    exact h
  · have h := hspends.others y hy
    rw [hslot, if_neg fun hxy => hy hxy.1] at h
    exact h
  · rintro (h | ⟨r, hkind, htar, h⟩)
    · exact hself h
    · exact htarget r hkind htar h
  · rw [hspends.state]
    rfl

/-! ### A charge (R47, R49) -/

/-- Between s and t a charge of c was taken from slot x: U and B rise, and past S a SOFT trigger is received. -/
structure State.Charges (s t : State) (x c : Nat) : Prop where
  state : t = { s with slots := t.slots, renewal := { s.renewal with
    list := t.renewal.list, received := t.renewal.received, notListed := t.renewal.notListed
    replaced := t.renewal.replaced } }
  self : t.slot x = { s.slot x with
    used := (s.slot x).used + c, intervalCharge := min ((s.slot x).intervalCharge + c) 4294967295
    requested := (t.slot x).requested }
  others : ∀ y, y ≠ x → t.slot y = { s.slot y with requested := (t.slot y).requested }
  quiet : ((s.slot x).requested = true ∨ (s.slot x).used + c < (s.slot x).soft) →
    t.renewal = s.renewal ∧ ∀ y, (t.slot y).requested = (s.slot y).requested
  soft : (s.slot x).requested = false → (s.slot x).soft ≤ (s.slot x).used + c →
    t.renewal.received = min (s.renewal.received + 1) 65535
      ∧ ((s.slot x).state = .active → (∀ d, (s.ctx d).isOpen = true → (s.ctx d).subject ≠ some x) → s.backoff x = {} →
          (∀ e ∈ s.renewal.list, e.slot ≠ some x) → s.renewal.list.length < 8 → (t.slot x).requested = true
          ∧ t.renewal.list.Perm
              ({ slot := some x, urgency := 0, reason := .soft, arrival := t.renewal.received } :: s.renewal.list))

/-- The slot after a charge. -/
def Slot.charged (c : Nat) (v : Slot) : Slot :=
  { v with used := v.used + c, intervalCharge := min (v.intervalCharge + c) 4294967295 }

theorem State.softTest_charges {s : State} {x : Nat} (hx : 1 ≤ x ∧ x ≤ 23) (c : Nat) :
    s.Charges ((s.updSlot x (Slot.charged c)).softTest x) x c := by
  have hslot : ∀ y, (s.updSlot x (Slot.charged c)).slot y = if y = x ∧ 1 ≤ x ∧ x ≤ 23 then (s.slot x).charged c else s.slot y :=
    fun y => State.slot_updSlot ..
  have hself : (s.updSlot x (Slot.charged c)).slot x = (s.slot x).charged c := by rw [hslot, if_pos ⟨rfl, hx⟩]
  have hothers : ∀ y, y ≠ x → (s.updSlot x (Slot.charged c)).slot y = s.slot y := fun y hy => by
    rw [hslot, if_neg fun h => hy h.1]
  by_cases hsoft : (s.slot x).soft ≤ (s.slot x).used + c ∧ (s.slot x).requested = false
  · have htest : (s.updSlot x (Slot.charged c)).softTest x = (s.updSlot x (Slot.charged c)).sendTrigger x .soft := by
      rw [State.softTest, hself]
      exact if_pos hsoft
    rw [htest]
    have hsent := State.sendTrigger_triggered x .soft (s.updSlot x (Slot.charged c))
    have hstate := State.sendTrigger_state x (r := .soft) rfl (s.updSlot x (Slot.charged c))
    constructor
    case state => rw [hstate]; rfl
    case self =>
      have h := hsent.slot x
      rw [hself] at h
      exact h
    case others =>
      intro y hy
      have h := hsent.slot y
      rw [hothers y hy] at h
      exact h
    case quiet =>
      rintro (h | h)
      · exact absurd (hsoft.2.symm.trans h) Bool.false_ne_true
      · omega
    case soft =>
      refine fun _ _ => ⟨hsent.received, fun hactive hopen hbackoff hlist hroom => ?_⟩
      rw [State.sendTrigger_of_room (s := s.updSlot x (Slot.charged c)) hopen (by rw [hself]; exact hactive) hbackoff hlist
        hroom]
      refine ⟨?_, insertEntry_perm ..⟩
      have hset := State.setRequested_slot (some x) true (s.updSlot x (Slot.charged c)) x
      rw [if_pos ⟨rfl, hx⟩] at hset
      exact congrArg Slot.requested hset
  · have htest : (s.updSlot x (Slot.charged c)).softTest x = s.updSlot x (Slot.charged c) := by
      rw [State.softTest, hself]
      exact if_neg hsoft
    rw [htest]
    constructor
    case state => rfl
    case self => rw [hself]; rfl
    case others => exact fun y hy => by rw [hothers y hy]
    case quiet =>
      refine fun _ => ⟨rfl, fun y => ?_⟩
      by_cases hy : y = x
      · subst hy; rw [hself]; rfl
      · rw [hothers y hy]
    case soft => exact fun hrequested hover => absurd ⟨hover, hrequested⟩ hsoft

theorem State.charge_of_fits {s : State} {x c : Nat} (hx : 1 ≤ x ∧ x ≤ 23) (hspent : (s.slot x).spent = false)
    (hfits : (s.slot x).used + c ≤ (s.slot x).hard) : ∃ t, s.charge x c = (t, true) ∧ s.Charges t x c := by
  refine ⟨_, ?_, State.softTest_charges hx c⟩
  rw [State.charge, if_neg (by simp [hspent]), if_neg (by omega)]
  rfl

theorem State.charge_of_over {s : State} {x c : Nat} (hspent : (s.slot x).spent = false)
    (hover : (s.slot x).hard < (s.slot x).used + c) : s.charge x c = (s.spendSlot x .keySpent, false) := by
  rw [State.charge, if_neg (by simp [hspent]), if_pos hover]

end Sys2Proof.Machine
end

section
/-! PROOFS. The outbound starts (R80 to R84): what the engine picks, and the statements about a data frame and a control
message taken (O24, O25, O26). -/

namespace Sys2Proof.Machine

/-! ### What the engine picks (R78 to R80) -/

/-- Outbound work is picked when inbound work is not eligible or had the last turn. -/
theorem State.pick_of_outbound {s : State} {o : Pick} (hidle : s.engine.work = none)
    (hstate : s.partState = .noRoot ∨ s.partState = .bootstrap ∨ s.partState = .run)
    (hturn : s.inboundEligible = false ∨ s.engine.lastDirection = .inbound) (ho : s.outboundPick = some o) :
    s.pick = some o := by
  cases hin : s.inboundEligible with
  | false => rcases hstate with h | h | h <;> simp [State.pick, hidle, h, ho, hin]
  | true =>
    have hlast : s.engine.lastDirection = .inbound := hturn.resolve_left (by simp [hin])
    rcases hstate with h | h | h <;> simp [State.pick, hidle, h, ho, hin, hlast]

theorem State.outboundPick_control {s : State} (hroom : s.lTx.length < 32) (hctrl : s.ctrl ≠ []) :
    s.outboundPick = some .control := by
  have hfree : s.lTxRoom = true := decide_eq_true hroom
  simp [State.outboundPick, hfree, hctrl]

theorem State.testOffered_eq_false {s : State} (h : ∀ q, s.link.test = some q → q.offered = false) :
    s.testOffered = false := by
  unfold State.testOffered
  split
  next q hq => exact h q hq
  next => rfl

theorem State.outboundPick_data {s : State} (hroom : s.lTx.length < 32) (hctrl : s.ctrl = [])
    (htest : ∀ q, s.link.test = some q → q.offered = false) (hany : ∃ f ∈ s.sIn, f.complete = true) :
    s.outboundPick = some .data := by
  have hfree : s.lTxRoom = true := decide_eq_true hroom
  have hcomplete : s.sIn.any ShopFrame.complete = true := List.any_eq_true.mpr hany
  simp [State.outboundPick, hfree, hctrl, State.testOffered_eq_false htest, hcomplete]

/-! ### The frame taken from S-in (R63, R80) -/

theorem takeFirst_of_split {α : Type} {q : α → Bool} {pre post : List α} {a : α} (hpre : ∀ b ∈ pre, q b = false)
    (ha : q a = true) : takeFirst q (pre ++ a :: post) = some (a, pre ++ post) := by
  induction pre with
  | nil => simp [takeFirst, ha]
  | cons b pre ih =>
    rw [List.forall_mem_cons] at hpre
    simp [takeFirst, hpre.1, ih hpre.2]

theorem takeFirst_of_none {α : Type} {q : α → Bool} {l : List α} (h : ∀ a ∈ l, q a = false) : takeFirst q l = none := by
  induction l with
  | nil => rfl
  | cons b l ih =>
    rw [List.forall_mem_cons] at h
    simp [takeFirst, h.1, ih h.2]

/-- The frame taken is the oldest complete URGENT one, or, where none is, the oldest complete one. -/
theorem State.takeShop_of_split {s : State} {pre post : List ShopFrame} {f : ShopFrame} (hs : s.sIn = pre ++ f :: post)
    (hf : f.complete = true)
    (horder : (s.urgent f = true ∧ ∀ g ∈ pre, g.complete = true → s.urgent g = false)
      ∨ ((∀ g ∈ s.sIn, g.complete = true → s.urgent g = false) ∧ ∀ g ∈ pre, g.complete = false)) :
    s.takeShop = some (f, pre ++ post) := by
  have hplain : ∀ g : ShopFrame, (g.complete = true → s.urgent g = false) → (g.complete && s.urgent g) = false := by
    intro g h
    cases hc : g.complete with
    | false => rfl
    | true => exact h hc
  rcases horder with ⟨hurgent, hpre⟩ | ⟨hall, hpre⟩
  · have htake : takeFirst (fun g => g.complete && s.urgent g) s.sIn = some (f, pre ++ post) := by
      rw [hs]
      exact takeFirst_of_split (fun g hg => hplain g (hpre g hg)) (by simp [hf, hurgent])
    rw [State.takeShop, htake]
  · have hnone : takeFirst (fun g => g.complete && s.urgent g) s.sIn = none :=
      takeFirst_of_none fun g hg => hplain g (hall g hg)
    rw [State.takeShop, hnone, hs]
    exact takeFirst_of_split hpre hf

/-- The part once the frame has left S-in. -/
def State.shopTaken (s : State) (rest : List ShopFrame) : State := (s.updSIn fun _ => rest).setDirection .outbound

theorem State.startData_of_taken {s : State} {f : ShopFrame} {rest : List ShopFrame} (hpick : s.pick = some .data)
    (htake : s.takeShop = some (f, rest)) :
    s.startData = if s.partState = .run then (s.shopTaken rest).startFrame f else (s.shopTaken rest).refuseFrame f .notReady := by
  simp only [State.startData, if_pos hpick, htake]
  rfl

/-! ### The resolution of a shop frame (R7) -/

/-- Frame f names a DATA descriptor, or an ALIAS of it: descriptor r. -/
def State.names (s : State) (f : ShopFrame) (r : Nat) : Prop :=
  ((s.chan f.channel).kind = .data ∧ r = f.channel)
    ∨ ((s.chan f.channel).kind = .aliased ∧ (s.chan f.channel).target = some r)

theorem State.isOpenIndex_iff (s : State) (i : Nat) : s.isOpenIndex i = true ↔ i ≤ 47 ∧ (s.chan i).kind ≠ .empty := by
  simp [State.isOpenIndex]

theorem State.names_open {s : State} {f : ShopFrame} {r : Nat} (h : s.names f r) (hhigh : f.channel ≤ 47) :
    s.isOpenIndex f.channel = true := by
  rw [State.isOpenIndex_iff]
  refine ⟨hhigh, ?_⟩
  rcases h with ⟨hkind, -⟩ | ⟨hkind, -⟩ <;> rw [hkind] <;> decide

/-- The checks of R7 after the first, in their order, for a frame that names descriptor r. -/
theorem State.resolve_of_names {s : State} {f : ShopFrame} {r : Nat} (h : s.names f r) (hlow : 1 ≤ f.channel)
    (hhigh : f.channel ≤ 47) :
    s.resolve f =
      if (s.chan f.channel).level < f.level then .error .level
      else if (s.chan f.channel).flags.hold ∨ (s.chan r).flags.hold then .error .held
      else if (s.chan r).state = .exhausted then .error .keySpent
      else if (s.chan r).current = none then .error .noChannel
      else .ok r := by
  have hr : (if (s.chan f.channel).kind = .aliased then (s.chan f.channel).target.getD 0 else f.channel) = r := by
    rcases h with ⟨hkind, rfl⟩ | ⟨hkind, htarget⟩
    · rw [if_neg (by rw [hkind]; decide)]
    · rw [if_pos hkind, htarget]
      rfl
  have hfirst : ¬ (f.channel = 0 ∨ s.isOpenIndex f.channel = false) := by
    simp [State.names_open h hhigh, Nat.one_le_iff_ne_zero.mp hlow]
  simp only [State.resolve, hr]
  exact if_neg hfirst

theorem State.resolve_ok {s : State} {f : ShopFrame} {r x : Nat} (h : s.names f r) (hlow : 1 ≤ f.channel)
    (hhigh : f.channel ≤ 47) (hlevel : f.level ≤ (s.chan f.channel).level)
    (hhold : ¬ ((s.chan f.channel).flags.hold = true ∨ (s.chan r).flags.hold = true)) (hopened : (s.chan r).state = .opened)
    (hcurrent : (s.chan r).current = some x) : s.resolve f = .ok r := by
  rw [State.resolve_of_names h hlow hhigh, if_neg (by omega), if_neg hhold, if_neg (by rw [hopened]; decide),
    if_neg (by rw [hcurrent]; nofun)]

/-! ### A frame goes into flight (R34, R36, R82) -/

/-- The counter of slot x drawn and its engine-use mark set. -/
def State.drawn (s : State) (x : Nat) : State := (s.drawCounter x).1.markSlot x

theorem State.drawn_slot (s : State) (x y : Nat) :
    (s.drawn x).slot y = if y = x ∧ 1 ≤ x ∧ x ≤ 23 then
      { s.slot x with txCounter := (s.slot x).txCounter + 1, engineUse := true } else s.slot y := by
  rw [State.drawn, State.markSlot, State.slot_updSlot, State.drawCounter, State.slot_updSlot, State.slot_updSlot]
  by_cases h : y = x ∧ 1 ≤ x ∧ x ≤ 23
  · rw [if_pos h, if_pos h, if_pos ⟨rfl, h.2⟩]
  · rw [if_neg h, if_neg h, if_neg h]

/-- Channel i counts a frame as sent. -/
def State.countSent (i : Nat) : State → State := State.updChan i fun c => { c with sent := satInc 4294967295 c.sent }

/-- The frame is charged, its counter drawn, its marks set. -/
theorem State.startFrame_of_charge {s u : State} {f : ShopFrame} {r x : Nat} (hresolve : s.resolve f = .ok r)
    (hcurrent : (s.chan r).current = some x) (hcharge : s.charge x (frameCost f.length) = (u, true)) :
    s.startFrame f = ((((u.drawn x).markChannel r).countSent f.channel).setWork
      (some (.outData f (s.slotKey x) (u.slot x).txCounter r))) := by
  have hx : (s.chan r).current.getD 0 = x := by rw [hcurrent]; rfl
  simp only [State.startFrame, hresolve, hx, hcharge]
  rfl

theorem State.launched_state (u : State) (x i r : Nat) (w : Option Work) :
    (((u.drawn x).markChannel r).countSent i).setWork w = { u with
      slots := (u.drawn x).slots, chans := (((u.drawn x).markChannel r).countSent i).chans
      engine := { u.engine with work := w } } := rfl

theorem State.chan_launched {s : State} {i r : Nat} (hi : i < 48) (hr : r < 48) (j : Nat) :
    ((s.markChannel r).countSent i).chan j = { s.chan j with
      sent := if j = i then min ((s.chan j).sent + 1) 4294967295 else (s.chan j).sent
      inEngine := if j = r then true else (s.chan j).inEngine } := by
  simp only [State.countSent, State.markChannel, State.chan_updChan, hi, hr, and_true]
  by_cases hji : j = i
  · subst hji
    by_cases hjr : j = r
    · subst hjr; simp [satInc]
    · simp [hjr, satInc]
  · by_cases hjr : j = r
    · subst hjr; simp [hji]
    · simp [hji, hjr]

/-- Settles O24: the frame is taken and resolves, its charge is taken, and it goes into flight. -/
theorem outboundDataStartCharges : Obligations.OutboundDataStartCharges := by
  unfold Obligations.OutboundDataStartCharges
  intro s pre post f r x hidle hrun hroom hctrl htest hturn hsIn hf horder hlow hhigh hnames hlevel hhold hholdTarget hopened
    hcurrent hxlow hxhigh hspent hfits
  have hpick : s.pick = some .data := State.pick_of_outbound hidle (.inr (.inr hrun)) hturn
    (State.outboundPick_data hroom hctrl htest ⟨f, by simp [hsIn], hf⟩)
  have htaken : s.startData = (s.shopTaken (pre ++ post)).startFrame f :=
    (State.startData_of_taken hpick (State.takeShop_of_split hsIn hf horder)).trans (if_pos hrun)
  have hresolve : (s.shopTaken (pre ++ post)).resolve f = .ok r :=
    State.resolve_ok (s := s.shopTaken (pre ++ post)) hnames hlow hhigh hlevel (by simpa using ⟨hhold, hholdTarget⟩) hopened
      hcurrent
  obtain ⟨u, hcharge, hcharged⟩ := State.charge_of_fits (s := s.shopTaken (pre ++ post)) (c := frameCost f.length)
    ⟨hxlow, hxhigh⟩ hspent hfits
  have hstart := htaken.trans (State.startFrame_of_charge hresolve hcurrent hcharge)
  have hcounter : (u.slot x).txCounter = (s.slot x).txCounter := by rw [hcharged.self]; rfl
  have hr : r < 48 := by
    by_contra hr
    rw [State.chan_out s r hr] at hopened
    nomatch hopened
  have hslots : s.startData.slots = (u.drawn x).slots := by rw [hstart]; rfl
  have hslot : ∀ y, s.startData.slot y = (u.drawn x).slot y := State.slot_congr hslots
  have hself : s.startData.slot x = { u.slot x with txCounter := (s.slot x).txCounter + 1, engineUse := true } := by
    rw [hslot, State.drawn_slot, if_pos ⟨rfl, hxlow, hxhigh⟩, hcounter]
  have hothers : ∀ y, y ≠ x → s.startData.slot y = u.slot y := fun y hy => by
    rw [hslot, State.drawn_slot, if_neg fun h => hy h.1]
  have hrequested : ∀ y, (s.startData.slot y).requested = (u.slot y).requested := fun y => by
    by_cases hy : y = x
    · rw [hy, hself]
    · rw [hothers y hy]
  have hrenewal : s.startData.renewal = u.renewal := by rw [hstart]; rfl
  have hstate := hstart.trans (State.launched_state ..)
  have hchans : s.startData.chans = (((u.drawn x).markChannel r).countSent f.channel).chans := by
    rw [hstart]; rfl
  refine ⟨s.startData, rfl, ?_, ?_, fun y hy => ?_, fun hquiet => ?_, fun hclear hover => ?_, fun j => ?_⟩
  · refine hstate.trans ?_
    rw [← hslots, ← hchans, hrenewal, hcounter]
    generalize s.startData.slots = slots, s.startData.chans = chans
    rw [hcharged.state]
    rfl
  · rw [hself, hcharged.self]
    rfl
  · rw [hothers y hy, hcharged.others y hy]
    rfl
  · obtain ⟨hsame, hflags⟩ := hcharged.quiet hquiet
    exact ⟨hrenewal.trans hsame, fun y => (hrequested y).trans (hflags y)⟩
  · rw [hrenewal, hrequested]
    exact hcharged.soft hclear hover
  · have hchan : s.startData.chan j = (((u.drawn x).markChannel r).countSent f.channel).chan j := State.chan_congr hchans j
    have hu : (u.drawn x).chan j = s.chan j := State.chan_congr (congrArg State.chans hcharged.state) j
    rw [hchan, State.chan_launched (by omega) hr, hu]

/-! ### A buffer returned (R60, R70) -/

theorem State.returnBuffer_state (s : State) :
    s.returnBuffer = { s with
      pool := { s.pool with free := s.pool.free + 1, low := s.returnBuffer.pool.low }
      faults := s.returnBuffer.faults, beacon := s.returnBuffer.beacon
      sPort := { s.sPort with faultCause := s.returnBuffer.sPort.faultCause }
      lPort := { s.lPort with faultCause := s.returnBuffer.lPort.faultCause } } := by
  have hs : s.returnBuffer.sPort = { s.sPort with faultCause := s.returnBuffer.sPort.faultCause } := s.returnBuffer_port .s
  have hl : s.returnBuffer.lPort = { s.lPort with faultCause := s.returnBuffer.lPort.faultCause } := s.returnBuffer_port .l
  apply State.ext_fields
  case h10 => rw [s.returnBuffer_pool]
  case h22 => exact hs
  case h23 => exact hl
  all_goals simp

/-- The clear of another kind leaves a fault standing. -/
theorem State.clearFault_stands {k j : FaultKind} {x y : Subject} (hkind : j ≠ k) {s : State} (h : s.faultStands k x) :
    (s.clearFault j y).faultStands k x := by
  unfold State.clearFault
  split
  next r hr =>
    split
    · rcases h with ⟨q, hq, hk, hx, ha⟩ | hover
      · refine .inl ⟨q, ?_, hk, hx, ha⟩
        have hmiss : q.hits j y = false := by simp [FaultRecord.hits, hk, Ne.symm hkind]
        simp only [State.latchFault_frame, State.armOneShot_frame, State.updRecord, State.updFaults_faults]
        exact List.mem_map.mpr ⟨q, hq, by simp [hmiss]⟩
      · exact .inr (by simpa [State.updRecord] using hover)
    · exact h
  next => exact h

theorem State.returnBuffer_stands {k : FaultKind} {x : Subject} (hkind : k ≠ .poolLow) {s : State}
    (h : s.faultStands k x) : s.returnBuffer.faultStands k x := by
  unfold State.returnBuffer
  dsimp only
  split
  · exact State.clearFault_stands (Ne.symm hkind) (State.faultStands_congr (s := s) rfl h)
  · exact State.faultStands_congr (s := s) rfl h

/-! ### A refused frame (R9, R68, R83) -/

/-- Frame f is handed back as a notice. -/
def State.givesNotice (s : State) (f : ShopFrame) : Prop :=
  (f.channel ≤ 47 ∧ (s.chan f.channel).kind ≠ .empty) ∧ (s.chan f.channel).flags.notify = true
    ∧ s.sOut.length + s.pool.setAside.toNat < 32

/-- Between s and t frame f was refused for its reason: a notice or a free buffer, counted on its descriptor. -/
structure State.Refuses (s t : State) (f : ShopFrame) (why : RefuseReason) : Prop where
  state : t = { s with
    sOut := t.sOut, chans := t.chans, pool := { s.pool with free := t.pool.free, low := t.pool.low }, faults := t.faults
    beacon := t.beacon, sPort := { s.sPort with faultCause := t.sPort.faultCause }
    lPort := { s.lPort with faultCause := t.lPort.faultCause } }
  notice : s.givesNotice f → t.pool = s.pool ∧ t.sOut = s.sOut ++
    [{ channel := f.channel, level := f.level, length := f.length, refusal := some why }]
  free : ¬ s.givesNotice f → t.sOut = s.sOut ∧ t.pool.free = s.pool.free + 1
  counted : f.channel ≤ 47 ∧ (s.chan f.channel).kind ≠ .empty → why ≠ .noChannel →
    t.chan f.channel = { s.chan f.channel with refused := min ((s.chan f.channel).refused + 1) 4294967295 }
  uncounted : ¬ ((f.channel ≤ 47 ∧ (s.chan f.channel).kind ≠ .empty) ∧ why ≠ .noChannel) → t.chans = s.chans
  others : ∀ j, j ≠ f.channel → t.chan j = s.chan j
  stands : ∀ k x, k ≠ .poolLow → s.faultStands k x → t.faultStands k x

/-- The descriptor frame f names counts its refusal. -/
def State.countRefused (s : State) (f : ShopFrame) (why : RefuseReason) : State :=
  if s.isOpenIndex f.channel ∧ why ≠ .noChannel then
    s.updChan f.channel fun c => { c with refused := satInc 4294967295 c.refused }
  else s

theorem State.countRefused_state (s : State) (f : ShopFrame) (why : RefuseReason) :
    s.countRefused f why = { s with chans := (s.countRefused f why).chans } := by
  unfold State.countRefused
  split <;> rfl

theorem State.countRefused_chan (s : State) (f : ShopFrame) (why : RefuseReason) (j : Nat) :
    (s.countRefused f why).chan j = { s.chan j with
      refused := if j = f.channel ∧ (f.channel ≤ 47 ∧ (s.chan f.channel).kind ≠ .empty) ∧ why ≠ .noChannel
        then min ((s.chan j).refused + 1) 4294967295 else (s.chan j).refused } := by
  by_cases hcount : (f.channel ≤ 47 ∧ (s.chan f.channel).kind ≠ .empty) ∧ why ≠ .noChannel
  · rw [State.countRefused, if_pos (by rwa [State.isOpenIndex_iff]), State.chan_updChan]
    by_cases hj : j = f.channel
    · rw [if_pos ⟨hj, by omega⟩, if_pos ⟨hj, hcount⟩, hj]
      rfl
    · rw [if_neg fun h => hj h.1, if_neg fun h => hj h.1]
  · rw [State.countRefused, if_neg (by rwa [State.isOpenIndex_iff]), if_neg fun h => hcount h.2]

theorem State.givesNotice_iff (s : State) (f : ShopFrame) :
    s.givesNotice f ↔ s.isOpenIndex f.channel = true ∧ (s.chan f.channel).flags.notify = true ∧ s.sOutRoom = true := by
  rw [State.givesNotice, State.isOpenIndex_iff, State.sOutRoom, decide_eq_true_iff]
  rfl

theorem State.countRefused_givesNotice (s : State) (f : ShopFrame) (why : RefuseReason) :
    (s.countRefused f why).givesNotice f ↔ s.givesNotice f := by
  rw [State.givesNotice, State.countRefused_chan, State.countRefused_state]
  rfl

theorem State.noticeOrFree_notice {s : State} {f : ShopFrame} (h : s.givesNotice f) (why : RefuseReason) :
    s.noticeOrFree f why = s.updSOut fun q =>
      q ++ [{ channel := f.channel, level := f.level, length := f.length, refusal := some why }] := by
  rcases s.noticeOrFree_cases f why with ⟨-, heq⟩ | ⟨hno, -⟩
  · exact heq
  · exact absurd ((s.givesNotice_iff f).mp h) hno

theorem State.noticeOrFree_free {s : State} {f : ShopFrame} (h : ¬ s.givesNotice f) (why : RefuseReason) :
    s.noticeOrFree f why = s.returnBuffer := by
  rcases s.noticeOrFree_cases f why with ⟨hyes, -⟩ | ⟨-, heq⟩
  · exact absurd ((s.givesNotice_iff f).mpr hyes) h
  · exact heq

theorem State.refuseFrame_eq (s : State) (f : ShopFrame) (why : RefuseReason) :
    s.refuseFrame f why = (s.countRefused f why).noticeOrFree f why := rfl

theorem State.refuseFrame_refuses (s : State) (f : ShopFrame) (why : RefuseReason) :
    s.Refuses (s.refuseFrame f why) f why := by
  have hchans : (s.refuseFrame f why).chans = (s.countRefused f why).chans := by simp [State.refuseFrame_eq]
  have hchan : ∀ j, (s.refuseFrame f why).chan j = _ := fun j =>
    (State.chan_congr hchans j).trans (s.countRefused_chan f why j)
  have hcount := s.countRefused_state f why
  have hgives := s.countRefused_givesNotice f why
  constructor
  case state =>
    by_cases hn : s.givesNotice f
    · rw [State.refuseFrame_eq, State.noticeOrFree_notice (hgives.mpr hn), hcount]
      rfl
    · rw [State.refuseFrame_eq, State.noticeOrFree_free fun h => hn (hgives.mp h), State.returnBuffer_state, hcount]
  case notice =>
    intro hn
    rw [State.refuseFrame_eq, State.noticeOrFree_notice (hgives.mpr hn), hcount]
    exact ⟨rfl, rfl⟩
  case free =>
    intro hn
    rw [State.refuseFrame_eq, State.noticeOrFree_free fun h => hn (hgives.mp h), State.returnBuffer_state, hcount]
    exact ⟨rfl, rfl⟩
  case counted =>
    intro hnamed hwhy
    rw [hchan, if_pos ⟨rfl, hnamed, hwhy⟩]
  case uncounted =>
    intro hnot
    refine hchans.trans ?_
    rw [State.countRefused, if_neg]
    rwa [State.isOpenIndex_iff]
  case others =>
    intro j hj
    rw [hchan, if_neg fun h => hj h.1]
  case stands =>
    intro k x hk hstands
    have hkeep : (s.countRefused f why).faultStands k x := State.faultStands_congr (by rw [hcount]) hstands
    by_cases hn : s.givesNotice f
    · rw [State.refuseFrame_eq, State.noticeOrFree_notice (hgives.mpr hn)]
      exact State.faultStands_congr (s := s.countRefused f why) rfl hkeep
    · rw [State.refuseFrame_eq, State.noticeOrFree_free fun h => hn (hgives.mp h)]
      exact State.returnBuffer_stands hk hkeep

end Sys2Proof.Machine
end

section
/-! PROOFS. A shop frame refused at its start (O25), and a control message taken (O26). -/

namespace Sys2Proof.Machine

theorem State.startFrame_of_error {s : State} {f : ShopFrame} {why : RefuseReason} (h : s.resolve f = .error why) :
    s.startFrame f = s.refuseFrame f why := by
  simp only [State.startFrame, h]

theorem State.startFrame_of_over {s : State} {f : ShopFrame} {r x : Nat} (hresolve : s.resolve f = .ok r)
    (hcurrent : (s.chan r).current = some x) (hspent : (s.slot x).spent = false)
    (hover : (s.slot x).hard < (s.slot x).used + frameCost f.length) :
    s.startFrame f = (s.spendSlot x .keySpent).refuseFrame f .keySpent := by
  have hx : (s.chan r).current.getD 0 = x := by rw [hcurrent]; rfl
  simp only [State.startFrame, hresolve, hx, State.charge_of_over hspent hover, Bool.false_eq_true, if_false]

/-- The head of S-in is taken when it is complete and no complete frame behind it is URGENT. -/
theorem State.takeShop_head {s : State} {f : ShopFrame} {rest : List ShopFrame} (hs : s.sIn = f :: rest)
    (hf : f.complete = true) (hplain : ∀ g ∈ rest, g.complete = true → s.urgent g = false) :
    s.takeShop = some (f, rest) := by
  refine State.takeShop_of_split (pre := []) hs hf ?_
  cases hu : s.urgent f with
  | true => exact .inl ⟨rfl, fun g hg => absurd hg List.not_mem_nil⟩
  | false =>
    refine .inr ⟨fun g hg => ?_, fun g hg => absurd hg List.not_mem_nil⟩
    rw [hs] at hg
    rcases List.mem_cons.mp hg with rfl | hg
    · exact fun _ => hu
    · exact hplain g hg

/-- A frame of no channel (R7 step 1). -/
theorem State.resolve_of_none {s : State} {f : ShopFrame}
    (h : f.channel = 0 ∨ 47 < f.channel ∨ (s.chan f.channel).kind = .empty) : s.resolve f = .error .noChannel := by
  have hfirst : f.channel = 0 ∨ s.isOpenIndex f.channel = false := by
    rcases h with h | h | h
    · exact .inl h
    · exact .inr (by simp [State.isOpenIndex, h])
    · exact .inr (by simp [State.isOpenIndex, h])
  exact if_pos hfirst

/-- A key that is spent as its descriptor r says exhausts the channel a frame names (R20). -/
theorem State.exhaustedWith_of_names {s : State} {f : ShopFrame} {r x : Nat} (h : s.names f r)
    (hkind : (s.chan r).kind = .data) (hopened : (s.chan r).state = .opened) (hcurrent : (s.chan r).current = some x) :
    s.exhaustedWith x f.channel := by
  have hcur : (s.chan r).currentIs x = true := by simp [Channel.currentIs, Channel.namesKey, hkind, hcurrent]
  rcases h with ⟨-, rfl⟩ | ⟨haliased, htarget⟩
  · exact .inl ⟨hcur, hopened⟩
  · exact .inr ⟨r, haliased, htarget, hcur, hopened⟩

/-- What a refusal after a spent key leaves of it. -/
theorem State.Spends.refused {s v t : State} {x : Nat} {f : ShopFrame} (hs : s.Spends v x .keySpent)
    (h : v.Refuses t f .keySpent) : t.keySpentIn s x := by
  have hslots : t.slots = v.slots := by rw [h.state]
  have hslot := State.slot_congr hslots
  have hrenewal : t.renewal = v.renewal := by rw [h.state]
  refine ⟨?_, ?_, fun y hy => ?_, h.stands _ _ (by decide) hs.stands, fun hserved => ?_⟩
  · rw [h.state, hs.state]
  · rw [hslot, hs.self]
  · rw [hslot, hs.others y hy]
  · rw [hrenewal, hslot]
    exact hs.served hserved

/-- Settles O25: the frame is taken; R7 refuses it for the reason, or its charge spends the key. -/
theorem outboundDataRefusalGivesNotice : Obligations.OutboundDataRefusalGivesNotice := by
  unfold Obligations.OutboundDataRefusalGivesNotice
  intro s f rest hidle hroom hctrl htest hturn hsIn hf hplain named notice resolvesTo held
  have htake := State.takeShop_head hsIn hf hplain
  have hpicked : ∀ (_ : s.partState = .noRoot ∨ s.partState = .bootstrap ∨ s.partState = .run), s.pick = some .data := fun h =>
    State.pick_of_outbound hidle h hturn (State.outboundPick_data hroom hctrl htest ⟨f, by simp [hsIn], hf⟩)
  have hstarted : s.partState = .run → s.startData = (s.shopTaken rest).startFrame f := fun h =>
    (State.startData_of_taken (hpicked (.inr (.inr h))) htake).trans (if_pos h)
  refine ⟨fun why hwhy => ?_, fun r x hrun hresolves hlevel hheld hkind hopened hcurrent hxlow hxhigh hspent hover => ?_⟩
  · have hrefused : s.startData = (s.shopTaken rest).refuseFrame f why := by
      rcases hwhy with ⟨hstate, rfl⟩ | ⟨hrun, hnone, rfl⟩ | ⟨hrun, r, ⟨hlow, hhigh, hnames⟩, hreason⟩
      · have hnot : ¬ s.partState = .run := by rcases hstate with h | h <;> rw [h] <;> decide
        exact (State.startData_of_taken (hpicked (hstate.imp_right .inl)) htake).trans (if_neg hnot)
      · exact (hstarted hrun).trans (State.startFrame_of_error (State.resolve_of_none (s := s.shopTaken rest) hnone))
      · refine (hstarted hrun).trans (State.startFrame_of_error ?_)
        rw [State.resolve_of_names (s := s.shopTaken rest) hnames hlow hhigh]
        rcases hreason with ⟨hlevel, rfl⟩ | ⟨hlevel, hheld, rfl⟩ | ⟨hlevel, hheld, hstate, rfl⟩
        · exact if_pos hlevel
        · exact (if_neg (Nat.not_lt.mpr hlevel)).trans (if_pos hheld)
        · exact (if_neg (Nat.not_lt.mpr hlevel)).trans ((if_neg hheld).trans (if_pos hstate))
    have h := State.refuseFrame_refuses (s.shopTaken rest) f why
    rw [← hrefused] at h
    refine ⟨s.startData, rfl, ?_, h.notice, h.free, h.counted, h.uncounted, h.others⟩
    rw [h.state]
    rfl
  · obtain ⟨hlow, hhigh, hnames⟩ := hresolves
    have hresolve : (s.shopTaken rest).resolve f = .ok r :=
      State.resolve_ok (s := s.shopTaken rest) hnames hlow hhigh hlevel hheld hopened hcurrent
    have hrefused := (hstarted hrun).trans
      (State.startFrame_of_over (s := s.shopTaken rest) hresolve hcurrent hspent hover)
    have hspends := State.spendSlot_spends (s := s.shopTaken rest) ⟨hxlow, hxhigh⟩ .keySpent
    have h := State.refuseFrame_refuses ((s.shopTaken rest).spendSlot x .keySpent) f .keySpent
    rw [← hrefused] at h
    have hexhausted : (s.shopTaken rest).exhaustedWith x f.channel :=
      State.exhaustedWith_of_names (s := s.shopTaken rest) hnames hkind hopened hcurrent
    have hchan := hspends.exhausted f.channel hexhausted
    have hnamed : f.channel ≤ 47 ∧ (((s.shopTaken rest).spendSlot x .keySpent).chan f.channel).kind ≠ .empty := by
      rw [hchan]
      exact (State.isOpenIndex_iff s f.channel).mp (State.names_open hnames hhigh)
    have hgives : ((s.shopTaken rest).spendSlot x .keySpent).givesNotice f ↔ notice := by
      rw [State.givesNotice, hchan, hspends.state]
      rfl
    have hkeep : (s.startData).keySpentIn (s.shopTaken rest) x := hspends.refused h
    have hpool : ((s.shopTaken rest).spendSlot x .keySpent).pool = s.pool ∧
        ((s.shopTaken rest).spendSlot x .keySpent).sOut = s.sOut := by
      rw [hspends.state]
      exact ⟨rfl, rfl⟩
    refine ⟨s.startData, rfl, hkeep, ?_, ?_, ?_, fun hn => ?_, fun hn => ?_, ?_, fun j hj hex => ?_, fun j hex => ?_⟩
    · rw [h.state, hspends.state]
      rfl
    · rw [h.state, hspends.state]
      rfl
    · rw [h.state, hspends.state]
      rfl
    · have hnotice := h.notice (hgives.mpr hn)
      rwa [hpool.1, hpool.2] at hnotice
    · have hfree := h.free fun hg => hn (hgives.mp hg)
      rwa [hpool.1, hpool.2] at hfree
    · rw [h.counted hnamed (by decide), hchan]
      rfl
    · exact (h.others j hj).trans (hspends.exhausted j hex)
    · have hj : j ≠ f.channel := fun hj => hex (hj ▸ hexhausted)
      exact (h.others j hj).trans (hspends.rest j hex)

/-! ### The placement report (R135) -/

/-- The lowest context with a property is the one found. -/
theorem State.findCtx_of_first {s : State} {q : Context → Bool} {c : Nat} (hc : c < 4) (h : q (s.ctx c) = true)
    (hfirst : ∀ d, d < c → q (s.ctx d) = false) : s.findCtx q = some c := by
  have hsplit : contextNumbers = List.range c ++ c :: (List.range' (c + 1) (3 - c)) := by
    interval_cases c <;> rfl
  rw [State.findCtx, hsplit]
  exact find?_of_split (fun d hd => hfirst d (List.mem_range.mp hd)) h

/-- A context waits for the placement of message n. -/
def Context.awaits (n : Nat) (x : Context) : Bool := x.isOpen && x.send == .queued && x.latest == some n

theorem Context.awaits_iff (n : Nat) (x : Context) :
    x.awaits n = true ↔ x.isOpen = true ∧ x.send = .queued ∧ x.latest = some n := by
  simp [Context.awaits, and_assoc]

theorem State.reportPlaced_of_first {s : State} {n c : Nat} (hc : c < 4) (h : (s.ctx c).awaits n = true)
    (hfirst : ∀ d, d < c → (s.ctx d).latest ≠ some n) :
    s.reportPlaced n = s.updCtx c fun x => { x with send := .sent, reply := 16 } := by
  have hfind : s.findCtx (Context.awaits n) = some c :=
    State.findCtx_of_first hc h fun d hd => by simp [Context.awaits, hfirst d hd]
  have hplaced : s.reportPlaced n = (match s.findCtx (Context.awaits n) with
    | some c => s.updCtx c fun x => { x with send := .sent, reply := 16 }
    | none => s) := rfl
  rw [hplaced, hfind]

theorem State.reportPlaced_cases (n : Nat) (s : State) :
    (∃ c, c < 4 ∧ (s.ctx c).awaits n = true
        ∧ s.reportPlaced n = s.updCtx c fun x => { x with send := .sent, reply := 16 })
      ∨ (∀ c, c < 4 → (s.ctx c).awaits n = false) ∧ s.reportPlaced n = s := by
  have hplaced : s.reportPlaced n = (match s.findCtx (Context.awaits n) with
    | some c => s.updCtx c fun x => { x with send := .sent, reply := 16 }
    | none => s) := rfl
  cases hfind : s.findCtx (Context.awaits n) with
  | some c =>
    obtain ⟨hc, hq⟩ := State.findCtx_some hfind
    exact .inl ⟨c, hc, hq, by rw [hplaced, hfind]⟩
  | none => exact .inr ⟨State.findCtx_none hfind, by rw [hplaced, hfind]⟩

theorem State.reportPlaced_state (n : Nat) (s : State) :
    s.reportPlaced n = { s with renewal := { s.renewal with contexts := (s.reportPlaced n).renewal.contexts } } := by
  rcases s.reportPlaced_cases n with ⟨c, -, -, h⟩ | ⟨-, h⟩
  · rw [h]
    rfl
  · rw [h]

theorem State.reportPlaced_ctx_of_first {s : State} {n c : Nat} (hc : c < 4) (h : (s.ctx c).awaits n = true)
    (hfirst : ∀ d, d < c → (s.ctx d).latest ≠ some n) :
    (s.reportPlaced n).ctx c = { s.ctx c with send := .sent, reply := 16 }
      ∧ ∀ d, d ≠ c → (s.reportPlaced n).ctx d = s.ctx d := by
  rw [State.reportPlaced_of_first hc h hfirst]
  exact ⟨(State.ctx_updCtx ..).trans (if_pos ⟨rfl, hc⟩), fun d hd => (State.ctx_updCtx ..).trans (if_neg fun h => hd h.1)⟩

theorem State.reportPlaced_ctx_of_other {s : State} {n c : Nat} (h : (s.ctx c).awaits n = false) :
    (s.reportPlaced n).ctx c = s.ctx c := by
  rcases s.reportPlaced_cases n with ⟨d, -, hd, heq⟩ | ⟨-, heq⟩
  · have hne : c ≠ d := by
      rintro rfl
      exact Bool.false_ne_true (h.symm.trans hd)
    rw [heq]
    exact (State.ctx_updCtx ..).trans (if_neg fun h => hne h.1)
  · rw [heq]

theorem State.reportPlaced_of_none {s : State} {n : Nat} (h : ∀ c, (s.ctx c).awaits n = false) : s.reportPlaced n = s := by
  rcases s.reportPlaced_cases n with ⟨d, -, hd, -⟩ | ⟨-, heq⟩
  · exact absurd ((h d).symm.trans hd) Bool.false_ne_true
  · exact heq

/-! ### A control message is taken (R84) -/

/-- The part once the message has left the control pending list. -/
def State.messageTaken (s : State) (rest : List CtrlMsg) : State := (s.updCtrl fun _ => rest).setDirection .outbound

theorem State.startControl_of_taken {s : State} {m : CtrlMsg} {rest : List CtrlMsg} (hpick : s.pick = some .control)
    (hctrl : s.ctrl = m :: rest) : s.startControl = (s.messageTaken rest).startMessage m := by
  simp only [State.startControl, if_pos hpick, hctrl]
  rfl

theorem State.startMessage_root {s : State} (m : CtrlMsg) (h : (s.chan 0).current = none ∨ (s.chan 0).state = .exhausted) :
    s.startMessage m = s.startUnderRoot m := by
  unfold State.startMessage
  rcases h with h | h
  · rw [h]
  · cases hcurrent : (s.chan 0).current with
    | none => rfl
    | some x =>
      dsimp only
      rw [if_neg (by rw [h]; decide)]

theorem State.startMessage_slot {s : State} (m : CtrlMsg) {x : Nat} (hcurrent : (s.chan 0).current = some x)
    (hopened : (s.chan 0).state = .opened) :
    s.startMessage m =
      if (s.charge x (frameCost m.payload.length)).2 then
        ((s.charge x (frameCost m.payload.length)).1.drawn x).launchControl m (s.slotKey x)
          ((s.charge x (frameCost m.payload.length)).1.slot x).txCounter
      else (s.charge x (frameCost m.payload.length)).1.startUnderRoot m := by
  simp only [State.startMessage, hcurrent, if_pos hopened]
  rfl

theorem State.launchControl_state (m : CtrlMsg) (k : WorkKey) (n : Nat) (s : State) :
    s.launchControl m k n = { s with
      chans := (s.launchControl m k n).chans, engine := { s.engine with work := some (.outControl m k n) } } := rfl

theorem State.launchControl_chan (m : CtrlMsg) (k : WorkKey) (n : Nat) (s : State) (j : Nat) :
    (s.launchControl m k n).chan j = { s.chan j with
      sent := if j = 0 then min ((s.chan j).sent + 1) 4294967295 else (s.chan j).sent
      inEngine := if j = 0 then true else (s.chan j).inEngine } :=
  State.chan_launched (s := s) (i := 0) (r := 0) (by decide) (by decide) j

/-- The message goes under the root, with its counter drawn. -/
theorem State.startUnderRoot_of_below {s : State} (m : CtrlMsg) (h : s.root.txCounter < 2 ^ 48 - 1) :
    s.startUnderRoot m = s.drawRootCounter.1.launchControl m s.rootKey s.root.txCounter :=
  if_neg (Nat.not_le.mpr h)

/-- The message is discarded for ROOT_LIMIT. -/
theorem State.startUnderRoot_of_limit {s : State} (m : CtrlMsg) (h : 2 ^ 48 - 1 ≤ s.root.txCounter) :
    s.startUnderRoot m = (s.returnBuffer.updEngine fun e =>
      { e with discards := { e.discards with rootLimit := satInc 4294967295 e.discards.rootLimit } }).reportPlaced m.serial :=
  if_pos h

/-- Settles O26: by channel 0's key and the charge, then by the root's counter. -/
theorem outboundControlStartChoosesKey : Obligations.OutboundControlStartChoosesKey := by
  unfold Obligations.OutboundControlStartChoosesKey
  intro s m rest hidle hstate hroom hctrl hturn
  have hpick : s.pick = some .control := State.pick_of_outbound hidle hstate hturn
    (State.outboundPick_control hroom (by rw [hctrl]; nofun))
  have htaken := State.startControl_of_taken hpick hctrl
  refine ⟨fun hroot hbelow => ?_, fun hroot hlimit => ?_, fun x hcurrent hopened hxlow hxhigh hspent =>
    ⟨fun hfits => ?_, fun hover hbelow hkind => ?_⟩⟩
  · have hstart : s.startControl = (s.messageTaken rest).drawRootCounter.1.launchControl m s.rootKey s.root.txCounter :=
      (htaken.trans (State.startMessage_root (s := s.messageTaken rest) m hroot)).trans
        (State.startUnderRoot_of_below (s := s.messageTaken rest) m hbelow)
    have hchan : ∀ j, (s.messageTaken rest).drawRootCounter.1.chan j = s.chan j := fun _ => rfl
    refine ⟨s.startControl, rfl, ?_, ?_, fun j hj => ?_⟩
    · rw [hstart, State.launchControl_state]
      rfl
    · rw [hstart, State.launchControl_chan, hchan]
      rfl
    · rw [hstart, State.launchControl_chan, if_neg hj, if_neg hj, hchan]
  · have hstart := (htaken.trans (State.startMessage_root (s := s.messageTaken rest) m hroot)).trans
      (State.startUnderRoot_of_limit m hlimit)
    have hreturn := (s.messageTaken rest).returnBuffer_state
    have hcontexts : (s.messageTaken rest).returnBuffer.renewal = s.renewal := by rw [hreturn]; rfl
    have hctx : ∀ c, ((s.messageTaken rest).returnBuffer.updEngine fun e =>
        { e with discards := { e.discards with rootLimit := satInc 4294967295 e.discards.rootLimit } }).ctx c = s.ctx c :=
      State.ctx_congr (congrArg Renewal.contexts hcontexts)
    refine ⟨s.startControl, rfl, ?_, fun c hc hopen hqueued hlatest hfirst => ?_, fun c hc => ?_⟩
    · have hs := State.returnBuffer_port (s.messageTaken rest) .s
      have hl := State.returnBuffer_port (s.messageTaken rest) .l
      apply State.ext_fields
      case h10 => simp [hstart, State.returnBuffer_pool, State.messageTaken, State.setDirection]
      case h19 => rw [hstart, State.reportPlaced_state]; simp [State.messageTaken, State.setDirection]
      case h22 =>
        rw [show s.startControl.sPort = (s.messageTaken rest).returnBuffer.sPort by simp [hstart]]
        exact hs
      case h23 =>
        rw [show s.startControl.lPort = (s.messageTaken rest).returnBuffer.lPort by simp [hstart]]
        exact hl
      all_goals simp [hstart, State.messageTaken, State.setDirection, satInc]
    · rw [hstart, (State.reportPlaced_ctx_of_first hc (by rw [hctx, Context.awaits_iff]; exact ⟨hopen, hqueued, hlatest⟩)
        fun d hd => by rw [hctx]; exact hfirst d hd).1, hctx]
    · rw [hstart, State.reportPlaced_ctx_of_other, hctx]
      rw [hctx, Bool.eq_false_iff, Ne, Context.awaits_iff]
      rintro ⟨hopen, hqueued, hlatest⟩
      rcases hc with h | h | h
      · exact Bool.false_ne_true (h.symm.trans hopen)
      · exact h hqueued
      · exact h hlatest
  · obtain ⟨u, hcharge, hcharged⟩ := State.charge_of_fits (s := s.messageTaken rest) (c := frameCost m.payload.length)
      ⟨hxlow, hxhigh⟩ hspent hfits
    have hcounter : (u.slot x).txCounter = (s.slot x).txCounter := by rw [hcharged.self]; rfl
    have hstart : s.startControl = (u.drawn x).launchControl m (s.slotKey x) (s.slot x).txCounter := by
      rw [htaken, State.startMessage_slot (s := s.messageTaken rest) m hcurrent hopened, hcharge, if_pos rfl, hcounter]
      rfl
    have hslots : s.startControl.slots = (u.drawn x).slots := by rw [hstart]; rfl
    have hslot := State.slot_congr hslots
    have hself : s.startControl.slot x = { u.slot x with txCounter := (s.slot x).txCounter + 1, engineUse := true } := by
      rw [hslot, State.drawn_slot, if_pos ⟨rfl, hxlow, hxhigh⟩, hcounter]
    have hothers : ∀ y, y ≠ x → s.startControl.slot y = u.slot y := fun y hy => by
      rw [hslot, State.drawn_slot, if_neg fun h => hy h.1]
    have hrequested : ∀ y, (s.startControl.slot y).requested = (u.slot y).requested := fun y => by
      by_cases hy : y = x
      · rw [hy, hself]
      · rw [hothers y hy]
    have hrenewal : s.startControl.renewal = u.renewal := by rw [hstart]; rfl
    have hchan : ∀ j, (u.drawn x).chan j = s.chan j := State.chan_congr (by rw [State.drawn, hcharged.state]; rfl)
    refine ⟨s.startControl, rfl, ?_, ?_, fun y hy => ?_, fun hquiet => ?_, ?_, fun j hj => ?_⟩
    · have hlaunched := hstart.trans (State.launchControl_state ..)
      rw [← hstart] at hlaunched
      refine hlaunched.trans ?_
      rw [hrenewal, hslots]
      generalize s.startControl.chans = chans
      rw [State.drawn, State.markSlot, State.drawCounter]
      rw [hcharged.state]
      rfl
    · rw [hself, hcharged.self]
      rfl
    · rw [hothers y hy, hcharged.others y hy]
      rfl
    · obtain ⟨hsame, hflags⟩ := hcharged.quiet hquiet
      exact ⟨hrenewal.trans hsame, fun y => (hrequested y).trans (hflags y)⟩
    · rw [hstart, State.launchControl_chan, hchan]
      rfl
    · rw [hstart, State.launchControl_chan, if_neg hj, if_neg hj, hchan]
  · have hspends := State.spendSlot_spends (s := s.messageTaken rest) ⟨hxlow, hxhigh⟩ .keySpent
    have hroot : ((s.messageTaken rest).spendSlot x .keySpent).root = s.root := by rw [hspends.state]; rfl
    have hstart : s.startControl = ((s.messageTaken rest).spendSlot x .keySpent).drawRootCounter.1.launchControl m s.rootKey
        s.root.txCounter := by
      rw [htaken, State.startMessage_slot (s := s.messageTaken rest) m hcurrent hopened,
        State.charge_of_over (s := s.messageTaken rest) (c := frameCost m.payload.length) hspent hover, if_neg Bool.false_ne_true,
        State.startUnderRoot_of_below m (by rw [hroot]; exact hbelow), State.rootKey, hroot]
      rfl
    generalize (s.messageTaken rest).spendSlot x .keySpent = v at hspends hroot hstart
    have hslots : s.startControl.slots = v.slots := by rw [hstart]; rfl
    have hslot := State.slot_congr hslots
    have hrenewal : s.startControl.renewal = v.renewal := by rw [hstart]; rfl
    have hexhausted : s.exhaustedWith x 0 := .inl ⟨by simp [Channel.currentIs, Channel.namesKey, hkind, hcurrent], hopened⟩
    have hchan : ∀ j, v.drawRootCounter.1.chan j = v.chan j := fun _ => rfl
    refine ⟨s.startControl, rfl, ⟨?_, ?_, fun y hy => ?_, ?_, fun hserved => ?_⟩, ?_, ?_, ?_, ?_, ?_, ?_, ?_, fun j hj hex => ?_,
      fun j hex => ?_⟩
    · rw [hstart, State.launchControl_state, hspends.state]
      rfl
    · rw [hslot, hspends.self]
      rfl
    · rw [hslot, hspends.others y hy]
      rfl
    · exact State.faultStands_congr (s := v) (by rw [hstart]; rfl) hspends.stands
    · rw [hrenewal, hslot]
      exact hspends.served hserved
    · rw [hstart, State.launchControl_state, hspends.state]; rfl
    · rw [hstart, State.launchControl_state, hspends.state]; rfl
    · rw [hstart, State.launchControl_state, hspends.state]; rfl
    · rw [hstart, State.launchControl_state, hspends.state]; rfl
    · rw [hstart, State.launchControl_state, hspends.state]; rfl
    · rw [hstart, State.launchControl_state, hspends.state]; rfl
    · rw [hstart, State.launchControl_chan, hchan, hspends.exhausted 0 hexhausted]
      rfl
    · rw [hstart, State.launchControl_chan, if_neg hj, if_neg hj, hchan]
      exact hspends.exhausted j hex
    · have hj : j ≠ 0 := fun hj => hex (hj ▸ hexhausted)
      rw [hstart, State.launchControl_chan, if_neg hj, if_neg hj, hchan]
      exact hspends.rest j hex

end Sys2Proof.Machine
end

section
/-! PROOFS. Drain ends and completions (R35, R96, R97): what the end of a flight does, and the statements about a drain end
and about outbound and inbound data completions (O16, O29, O30). -/

namespace Sys2Proof.Machine

/-! ### A drain end (R22, R33, R35) -/

theorem State.emptySlot_same (x : Nat) (s : State) :
    s.emptySlot x = { s with
      slots := (s.emptySlot x).slots, engine := { s.engine with burst := (s.emptySlot x).engine.burst }
      faults := (s.emptySlot x).faults, beacon := (s.emptySlot x).beacon
      sPort := { s.sPort with faultCause := (s.emptySlot x).sPort.faultCause }
      lPort := { s.lPort with faultCause := (s.emptySlot x).lPort.faultCause } } := by
  have hcleared : ∀ (b : Bool) (t : State) (k : FaultKind), t.sameButFaults (if b then t.clearFault k (.slot x) else t) :=
    fun b t k => by
      cases b
      · exact .refl t
      · exact State.clearFault_same ..
  have hreleased : ∀ t : State, (if s.burst x then (t.setBurst x false).clearFault .replayBurst (.slot x) else t) = { t with
      engine := { t.engine with
        burst := (if s.burst x then (t.setBurst x false).clearFault .replayBurst (.slot x) else t).engine.burst }
      faults := (if s.burst x then (t.setBurst x false).clearFault .replayBurst (.slot x) else t).faults
      beacon := (if s.burst x then (t.setBurst x false).clearFault .replayBurst (.slot x) else t).beacon
      sPort := { t.sPort with
        faultCause := (if s.burst x then (t.setBurst x false).clearFault .replayBurst (.slot x) else t).sPort.faultCause }
      lPort := { t.lPort with
        faultCause := (if s.burst x then (t.setBurst x false).clearFault .replayBurst (.slot x) else t).lPort.faultCause } } :=
    fun t => by
      cases s.burst x
      · rfl
      · have h := State.clearFault_same .replayBurst (.slot x) (t.setBurst x false)
        rw [State.sameButFaults] at h
        rw [if_pos rfl, h]
        rfl
  unfold State.emptySlot
  dsimp only
  have h := hcleared (s.slot x).suspect (s.mapSlots fun y v =>
    if y = x then {}
    else
      { v with predecessor := if v.predecessor = some x then none else v.predecessor
               successor := if v.successor = some x then none else v.successor }) .tagFails
  rw [State.sameButFaults] at h
  rw [hreleased, h]
  rfl

theorem State.dropAlternate_chan (x i : Nat) (s : State) :
    (s.dropAlternate x).chan i =
      { s.chan i with alternate := if (s.chan i).alternate = some x then none else (s.chan i).alternate } := by
  have hmap : (s.dropAlternate x).chan i =
      (s.mapChans fun _ c => if c.alternate = some x then { c with alternate := none } else c).chan i := rfl
  rw [hmap, State.chan_mapChans]
  by_cases hi : i < 48
  · rw [if_pos hi]
    by_cases h : (s.chan i).alternate = some x
    · rw [if_pos h, if_pos h]
    · rw [if_neg h, if_neg h]
  · rw [if_neg hi, State.chan_out s i hi]
    rfl

theorem State.dropAlternate_slot (x y : Nat) (s : State) (hy : y ≠ x) : (s.dropAlternate x).slot y = s.slot y := by
  rw [State.dropAlternate, State.dropRefs, State.slot_updSlot, if_neg fun h => hy h.1]
  rfl

theorem State.dropAlternate_state (x : Nat) (s : State) :
    s.dropAlternate x = { s with slots := (s.dropAlternate x).slots, chans := (s.dropAlternate x).chans } := rfl

/-- The slot has left every alternate, its values and every link that named it. -/
theorem State.drained_gone {s : State} {x : Nat} (hx : 1 ≤ x ∧ x ≤ 23) :
    ((s.dropAlternate x).emptySlot x).slot x = {}
      ∧ (∀ j, (((s.dropAlternate x).emptySlot x).chan j).alternate ≠ some x)
      ∧ ∀ y, (((s.dropAlternate x).emptySlot x).slot y).predecessor ≠ some x
        ∧ (((s.dropAlternate x).emptySlot x).slot y).successor ≠ some x := by
  refine ⟨(State.emptySlot_slot x x _ hx).trans (if_pos rfl), fun j => ?_, fun y => ?_⟩
  · simp only [State.emptySlot_reads, State.dropAlternate_chan]
    split
    · nofun
    · assumption
  · rw [State.emptySlot_slot x y _ hx]
    by_cases hy : y = x
    · rw [if_pos hy]
      exact ⟨nofun, nofun⟩
    · rw [if_neg hy]
      dsimp only
      constructor
      · split
        · nofun
        · assumption
      · split
        · nofun
        · assumption

/-! ### The end of a flight (R96, steps 1 to 3) -/

/-- The descriptor's and the slot's mark have cleared, and a CLOSING descriptor is EMPTY. -/
def State.marksCleared (i x : Nat) (s : State) : State :=
  (s.updChan i fun c => if c.state = .closing then {} else { c with inEngine := false }).updSlot x
    fun v => { v with engineUse := false }

theorem State.marksCleared_slot (i x y : Nat) (s : State) :
    (s.marksCleared i x).slot y = if y = x ∧ 1 ≤ x ∧ x ≤ 23 then { s.slot x with engineUse := false } else s.slot y :=
  State.slot_updSlot ..

/-- The end of a flight under a working slot: a waiting drain end is performed. -/
theorem State.endFlight_of_waiting {s : State} {i x : Nat} (hx : 1 ≤ x ∧ x ≤ 23) (hstate : (s.slot x).state = .draining)
    (hdrain : (s.slot x).drain = 0) :
    s.endFlight i (.slot x) = (((s.marksCleared i x).dropAlternate x).emptySlot x).setWork none := by
  have hslot : (s.marksCleared i x).slot x = { s.slot x with engineUse := false } :=
    (s.marksCleared_slot i x x).trans (if_pos ⟨rfl, hx⟩)
  have hend : (s.marksCleared i x).endDrain x = ((s.marksCleared i x).dropAlternate x).emptySlot x := by
    rw [State.endDrain, hslot]
    exact if_pos ⟨hstate, hdrain, rfl⟩
  exact congrArg (State.setWork none) hend

/-- The end of a flight under a working slot whose drain end does not wait. -/
theorem State.endFlight_of_slot {s : State} {i x : Nat} (hx : 1 ≤ x ∧ x ≤ 23)
    (hstays : ¬ ((s.slot x).state = .draining ∧ (s.slot x).drain = 0)) :
    s.endFlight i (.slot x) = (s.marksCleared i x).setWork none := by
  have hslot : (s.marksCleared i x).slot x = { s.slot x with engineUse := false } :=
    (s.marksCleared_slot i x x).trans (if_pos ⟨rfl, hx⟩)
  have hend : (s.marksCleared i x).endDrain x = s.marksCleared i x := by
    rw [State.endDrain, hslot]
    exact if_neg fun h => hstays ⟨h.1, h.2.1⟩
  exact congrArg (State.setWork none) hend

/-- The end of a flight under the root (R26). -/
theorem State.endFlight_of_root (i : Nat) (s : State) :
    s.endFlight i .root = ((s.updChan i fun c => if c.state = .closing then {} else { c with inEngine := false }).updRoot
      fun r => { r with unsavedCounter := none }).setWork none := rfl

/-- A waiting drain end leaves the slot EMPTY and unnamed, and the engine IDLE. -/
theorem State.endFlight_drained {s : State} {i x : Nat} (hx : 1 ≤ x ∧ x ≤ 23) (hstate : (s.slot x).state = .draining)
    (hdrain : (s.slot x).drain = 0) :
    (s.endFlight i (.slot x)).engine.work = none ∧ (s.endFlight i (.slot x)).slot x = {}
      ∧ (∀ j, ((s.endFlight i (.slot x)).chan j).alternate ≠ some x)
      ∧ ∀ y, ((s.endFlight i (.slot x)).slot y).predecessor ≠ some x
        ∧ ((s.endFlight i (.slot x)).slot y).successor ≠ some x := by
  rw [State.endFlight_of_waiting hx hstate hdrain]
  exact ⟨rfl, State.drained_gone (s := s.marksCleared i x) hx⟩

/-! ### The completions, by the work in flight (R96, R97) -/

/-- The line frame of a data frame in flight (R85). -/
def State.dataLine (s : State) (f : ShopFrame) (k : WorkKey) (n i : Nat) :=
  buildFrame k.material (s.outHeader kindData i k n f.length) f.payload

theorem State.completeOutbound_data {s : State} {f : ShopFrame} {k : WorkKey} {n i : Nat}
    (h : s.engine.work = some (.outData f k n i)) :
    s.completeOutbound = (s.updLTx fun l => l ++ [s.dataLine f k n i]).endFlight i k.ref := by
  simp only [State.completeOutbound, h]
  rfl

/-- The line frame of a control message in flight (R85). -/
def State.controlLine (s : State) (m : CtrlMsg) (k : WorkKey) (n : Nat) :=
  buildFrame k.material (s.outHeader kindControl 0 k n m.payload.length) m.payload

theorem State.completeOutbound_control {s : State} {m : CtrlMsg} {k : WorkKey} {n : Nat}
    (h : s.engine.work = some (.outControl m k n)) :
    s.completeOutbound = ((s.updLTx fun l => l ++ [s.controlLine m k n]).reportPlaced m.serial).endFlight 0 k.ref := by
  simp only [State.completeOutbound, h]
  rfl

theorem State.completeInbound_data {s : State} {f : LineIn} {k : WorkKey} {n i : Nat}
    (h : s.engine.work = some (.inbound f k n i)) (hkind : f.parts.header.kind = kindData) :
    s.completeInbound = (s.deliverData f k i).endFlight i k.ref := by
  simp only [State.completeInbound, h]
  rw [if_neg (by rw [hkind]; decide)]

theorem State.completeInbound_control {s : State} {f : LineIn} {k : WorkKey} {n i : Nat}
    (h : s.engine.work = some (.inbound f k n i)) (hkind : f.parts.header.kind = kindControl) :
    s.completeInbound = (s.deliverControl f k).endFlight i k.ref := by
  simp only [State.completeInbound, h]
  rw [if_pos hkind]

/-- What a control frame's message leaves of the slots stands to the end of its completion (R97). -/
theorem State.deliverControl_slots (f : LineIn) (k : WorkKey) (s : State) :
    (s.deliverControl f k).slots = (s.handleControl (f.payload k.material)).slots := by
  unfold State.deliverControl
  dsimp only
  split <;> simp [State.setAsidePlace]

/-- Settles O16: a drain end not held up, one held up, and the completions that perform one. -/
theorem drainEndEmptiesSlot : Obligations.DrainEndEmptiesSlot := by
  unfold Obligations.DrainEndEmptiesSlot
  refine ⟨fun s x hlow hhigh hstate hdrain => ⟨fun huse => ?_, fun huse => ?_⟩, fun s x n c k i hk hlow hhigh hc hstate hdrain
    hwork => ?_⟩
  · have hnone : s.endDrain x = s := if_neg fun h => Bool.false_ne_true (h.2.2.symm.trans huse)
    rw [show exec (.drainEnd x) s = onSlot x (s.endDrain x) from rfl, hnone]
    exact onSlot_of_wf (by simp [isWorkingSlot, hlow, hhigh]) _
  · have hend : s.endDrain x = (s.dropAlternate x).emptySlot x := if_pos ⟨hstate, hdrain, huse⟩
    refine ⟨s.endDrain x, onSlot_of_wf (by simp [isWorkingSlot, hlow, hhigh]) _, ?_, ?_, ?_, fun y hy => ?_, fun y hy => ?_,
      fun i => ?_⟩
    · rw [hend, State.emptySlot_same, State.dropAlternate_state]
    · rw [hend, State.emptySlot_slot x x _ ⟨hlow, hhigh⟩, if_pos rfl]
    · rw [hend, State.emptySlot_burst, if_pos rfl]
    · rw [hend, State.emptySlot_burst, if_neg hy]
      simp
    · rw [hend, State.emptySlot_slot x y _ ⟨hlow, hhigh⟩, if_neg hy, State.dropAlternate_slot x y s hy]
    · rw [hend, ← State.dropAlternate_chan]
      simp
  · rcases hwork with ⟨rfl, f, hw⟩ | ⟨rfl, m, hw⟩ | ⟨rfl, f, hw, hkind⟩
    · refine ⟨s.completeOutbound, rfl, ?_⟩
      rw [State.completeOutbound_data hw, hk]
      exact State.endFlight_drained ⟨hlow, hhigh⟩ hstate hdrain
    · have hslot := State.slot_congr (x := x) (s := s)
        (t := (s.updLTx fun l => l ++ [s.controlLine m k n]).reportPlaced m.serial) (by simp)
      refine ⟨s.completeOutbound, rfl, ?_⟩
      rw [State.completeOutbound_control hw, hk]
      exact State.endFlight_drained ⟨hlow, hhigh⟩ (by rw [hslot]; exact hstate) (by rw [hslot]; exact hdrain)
    · refine ⟨s.completeInbound, rfl, ?_⟩
      rcases hkind with hkind | ⟨hkind, hstate', hdrain'⟩
      · have hslot := State.slot_congr (x := x) (s := s) (t := s.deliverData f k c) (by simp)
        rw [State.completeInbound_data hw hkind, hk]
        exact State.endFlight_drained ⟨hlow, hhigh⟩ (by rw [hslot]; exact hstate) (by rw [hslot]; exact hdrain)
      · have hslot := State.slot_congr (x := x) (s.deliverControl_slots f k)
        rw [State.completeInbound_control hw hkind, hk]
        exact State.endFlight_drained ⟨hlow, hhigh⟩ (by rw [hslot]; exact hstate') (by rw [hslot]; exact hdrain')

/-! ### Outbound completions (O29) -/

theorem State.marksCleared_chan {i x : Nat} (hi : i < 48) (s : State) (j : Nat) :
    (s.marksCleared i x).chan j =
      if j = i then (if (s.chan i).state = .closing then {} else { s.chan i with inEngine := false }) else s.chan j := by
  have h := State.chan_updChan i j (fun c => if c.state = .closing then {} else { c with inEngine := false }) s
  by_cases hj : j = i
  · rw [if_pos ⟨hj, hi⟩] at h
    exact h.trans (if_pos hj).symm
  · rw [if_neg fun hji => hj hji.1] at h
    exact h.trans (if_neg hj).symm

/-- The end of a flight whose drain end does not wait: the slot, and the channels. -/
theorem State.endFlight_slot_spec {s : State} {i x : Nat} (hi : i < 48) (hx : 1 ≤ x ∧ x ≤ 23)
    (hstays : ¬ ((s.slot x).state = .draining ∧ (s.slot x).drain = 0)) :
    ∃ t, s.endFlight i (.slot x) = t
      ∧ t = { s with slots := t.slots, chans := t.chans, engine := { s.engine with work := none } }
      ∧ t.slot x = { s.slot x with engineUse := false } ∧ (∀ y, y ≠ x → t.slot y = s.slot y)
      ∧ ((s.chan i).state = .closing → t.chan i = {})
      ∧ ((s.chan i).state ≠ .closing → t.chan i = { s.chan i with inEngine := false })
      ∧ (∀ j, j ≠ i → t.chan j = s.chan j) := by
  have hchan : ∀ j, ((s.marksCleared i x).setWork none).chan j = _ :=
    State.marksCleared_chan (x := x) hi s
  have hslot : ∀ y, ((s.marksCleared i x).setWork none).slot y = _ := fun y => s.marksCleared_slot i x y
  refine ⟨_, State.endFlight_of_slot hx hstays, rfl, (hslot x).trans (if_pos ⟨rfl, hx⟩),
    fun y hy => (hslot y).trans (if_neg fun h => hy h.1), fun hclosing => ?_, fun hopen => ?_,
    fun j hj => (hchan j).trans (if_neg hj)⟩
  · rw [hchan, if_pos rfl, if_pos hclosing]
  · rw [hchan, if_pos rfl, if_neg hopen]

/-- The end of a flight under the root, on channel 0. -/
theorem State.endFlight_root_spec {s : State} (hopen : (s.chan 0).state ≠ .closing) :
    ∃ t, s.endFlight 0 .root = t
      ∧ t = { s with chans := t.chans, root := { s.root with unsavedCounter := none }, engine := { s.engine with work := none } }
      ∧ t.chan 0 = { s.chan 0 with inEngine := false } ∧ (∀ j, j ≠ 0 → t.chan j = s.chan j) := by
  have hchan := fun j => State.chan_updChan 0 j (fun c => if c.state = .closing then {} else { c with inEngine := false }) s
  refine ⟨_, State.endFlight_of_root 0 s, rfl, ?_, fun j hj => (hchan j).trans (if_neg fun h => hj h.1)⟩
  exact ((hchan 0).trans (if_pos ⟨rfl, by decide⟩)).trans (if_neg hopen)

/-- Settles O29: the line frame joins L-tx, the placement is reported, the flight ends. -/
theorem outboundCompletionPlacesFrame : Obligations.OutboundCompletionPlacesFrame := by
  unfold Obligations.OutboundCompletionPlacesFrame
  refine ⟨fun s f k n i x hw hi hk hlow hhigh hstays => ?_, fun s m k n b hw hopen hkey => ?_⟩
  · obtain ⟨t, ht, hstate, hrest⟩ := State.endFlight_slot_spec (s := s.updLTx fun l => l ++ [s.dataLine f k n i]) hi ⟨hlow, hhigh⟩
      hstays
    refine ⟨t, congrArg Host.Outcome.next ?_, ?_, hrest⟩
    · rw [State.completeOutbound_data hw, hk, ht]
    · rw [hstate, State.dataLine, State.outHeader, hk]
      rfl
  · have hplaced := State.reportPlaced_state m.serial (s.updLTx fun l => l ++ [s.controlLine m k n])
    have hawaits : ∀ c, (s.updLTx fun l => l ++ [s.controlLine m k n]).ctx c = s.ctx c := fun _ => rfl
    have hfirst : ∀ t : State, t.renewal = ((s.updLTx fun l => l ++ [s.controlLine m k n]).reportPlaced m.serial).renewal →
        (∀ c, c < 4 → (s.ctx c).isOpen = true → (s.ctx c).send = .queued → (s.ctx c).latest = some m.serial →
          (∀ d, d < c → (s.ctx d).latest ≠ some m.serial) →
          t.ctx c = { s.ctx c with send := .sent, reply := 16 } ∧ ∀ d, d ≠ c → t.ctx d = s.ctx d)
        ∧ ((∀ c, (s.ctx c).isOpen = true → (s.ctx c).send = .queued → (s.ctx c).latest ≠ some m.serial) →
            t.renewal = s.renewal) := fun t ht => by
      have hctx := State.ctx_congr (congrArg Renewal.contexts ht)
      refine ⟨fun c hc ho hq hl hf => ?_, fun hnone => ?_⟩
      · have h := State.reportPlaced_ctx_of_first (s := s.updLTx fun l => l ++ [s.controlLine m k n]) hc
          ((Context.awaits_iff _ _).mpr ⟨ho, hq, hl⟩) hf
        exact ⟨(hctx c).trans h.1, fun d hd => (hctx d).trans (h.2 d hd)⟩
      · rw [ht, State.reportPlaced_of_none]
        · rfl
        · intro c
          rw [hawaits, Bool.eq_false_iff, Ne, Context.awaits_iff]
          exact fun h => hnone c h.1 h.2.1 h.2.2
    rcases hkey with ⟨hk, rfl⟩ | ⟨x, hk, hlow, hhigh, rfl, hstays⟩
    · obtain ⟨t, ht, hstate, hchan, hchans⟩ := State.endFlight_root_spec
        (s := (s.updLTx fun l => l ++ [s.controlLine m k n]).reportPlaced m.serial) (by rw [hplaced]; exact hopen)
      have hrenewal : t.renewal = ((s.updLTx fun l => l ++ [s.controlLine m k n]).reportPlaced m.serial).renewal := by rw [hstate]
      rw [hplaced] at hchan hchans
      refine ⟨t, congrArg Host.Outcome.next ?_, ?_, hchan, hchans, fun _ => ?_, fun x hx => ?_, hfirst t hrenewal⟩
      · rw [State.completeOutbound_control hw, hk, ht]
      · rw [hrenewal, hstate, hplaced, State.controlLine, State.outHeader, hk]
        rfl
      · rw [hstate, hplaced]
        exact ⟨rfl, rfl⟩
      · rw [hk] at hx
        nomatch hx
    · have hslots := State.slot_congr (s := s) (t := (s.updLTx fun l => l ++ [s.controlLine m k n]).reportPlaced m.serial)
        (by simp)
      obtain ⟨t, ht, hstate, hself, hothers, -, hchan, hchans⟩ := State.endFlight_slot_spec
        (s := (s.updLTx fun l => l ++ [s.controlLine m k n]).reportPlaced m.serial) (i := 0) (by decide) ⟨hlow, hhigh⟩
        (by rw [hslots]; exact hstays)
      have hrenewal : t.renewal = ((s.updLTx fun l => l ++ [s.controlLine m k n]).reportPlaced m.serial).renewal := by rw [hstate]
      have hroot : t.root = s.root := by rw [hstate, hplaced]; rfl
      replace hchan := hchan (by rw [hplaced]; exact hopen)
      rw [hplaced] at hchan hchans
      refine ⟨t, congrArg Host.Outcome.next ?_, ?_, hchan, hchans, fun hx => ?_, fun y hy => ?_, hfirst t hrenewal⟩
      · rw [State.completeOutbound_control hw, hk, ht]
      · rw [hrenewal, hroot, hstate, hplaced, State.controlLine, State.outHeader, hk]
        rfl
      · rw [hk] at hx
        nomatch hx
      · rw [hk] at hy
        cases hy
        exact ⟨hroot, by rw [hself, hslots], fun z hz => by rw [hothers z hz, hslots]⟩

/-! ### Inbound data (O30) -/

/-- The frame stands in S-out, its place released; it counts unless its channel is CLOSING. -/
theorem State.deliverData_spec {s : State} {i : Nat} (hi : i < 48) (f : LineIn) (k : WorkKey) :
    ∃ t, s.deliverData f k i = t
      ∧ t = { s with
          sOut := s.sOut ++ [{ channel := i, level := (s.chan i).level, length := f.parts.header.length.toNat
                               payload := f.payload k.material }]
          pool := { s.pool with setAside := false }, chans := t.chans }
      ∧ t.chan i = { s.chan i with
          received := if (s.chan i).state = .closing then (s.chan i).received else min ((s.chan i).received + 1) 4294967295 }
      ∧ ∀ j, j ≠ i → t.chan j = s.chan j := by
  refine ⟨_, rfl, ?_⟩
  unfold State.deliverData
  dsimp only
  by_cases hclosing : (s.chan i).state = .closing
  · rw [if_pos hclosing, if_pos hclosing]
    exact ⟨rfl, rfl, fun _ _ => rfl⟩
  · rw [if_neg hclosing, if_neg hclosing]
    exact ⟨rfl, (State.chan_updChan ..).trans (if_pos ⟨rfl, hi⟩), fun j hj => (State.chan_updChan ..).trans (if_neg fun h => hj h.1)⟩

/-- Settles O30: the frame is delivered, then its flight ends. -/
theorem inboundCompletionDelivers : Obligations.InboundCompletionDelivers := by
  unfold Obligations.InboundCompletionDelivers
  intro s f k n i x hw hi hkind hk hlow hhigh hstays
  obtain ⟨u, hu, hustate, huself, huothers⟩ := State.deliverData_spec (s := s) hi f k
  have hslot := State.slot_congr (show u.slots = s.slots by rw [hustate])
  obtain ⟨t, ht, hstate, hself, hothers, hclosing, hopen, hchans⟩ := State.endFlight_slot_spec (s := u) hi ⟨hlow, hhigh⟩
    (by rw [hslot]; exact hstays)
  have hchanState : (u.chan i).state = (s.chan i).state := by rw [huself]
  refine ⟨t, congrArg Host.Outcome.next ?_, ?_, by rw [hself, hslot], fun y hy => by rw [hothers y hy, hslot], fun h => ?_,
    fun h => ?_, fun j hj => (hchans j hj).trans (huothers j hj)⟩
  · rw [State.completeInbound_data hw hkind, hk, hu, ht]
  · rw [hstate, hustate]
    rfl
  · exact hclosing (hchanState.trans h)
  · rw [hopen (by rw [hchanState]; exact h), huself, if_neg h]

end Sys2Proof.Machine
end

section
/-! PROOFS. Compositions of the Renewal Controller (R69, R133 to R136): the statements about a context that composes again
and about the start of an exchange (O18, O22). -/

namespace Sys2Proof.Machine

/-! ### A context asks for its message (R135) -/

theorem numberCode_eq (o : Option Nat) : numberCode o = o.getD 0 := by cases o <;> rfl

theorem keyRequestBytes_eq (s : State) (x : Context) {v : Slot} (hv : v = (x.subject.map s.slot).getD {}) :
    keyRequestBytes s x = natBytes 1 0x11 ++ natBytes 1 (x.exchange.getD 0) ++ natBytes 1 (x.subject.getD 0)
      ++ [v.generation] ++ natBytes 1 (reasonCode x.reason) ++ natBytes 1 x.attempt ++ natBytes 4 v.used
      ++ natBytes 4 v.rate ++ natBytes 4 v.hard := by
  rw [hv, keyRequestBytes, numberCode_eq, numberCode_eq]
  cases x.subject <;> rfl

theorem keyAcceptBytes_eq (s : State) (x : Context) {y : Nat} (hy : y = x.successor.getD 0) :
    keyAcceptBytes s x =
      natBytes 1 0x12 ++ natBytes 1 (x.exchange.getD 0) ++ natBytes 1 y ++ [(s.slot y).generation] := by
  rw [hy, keyAcceptBytes, numberCode_eq, numberCode_eq]

/-- A context whose composition succeeds: QUEUED, one buffer taken, its message at the tail of the list. -/
theorem State.composeContext_queued {s : State} {c : Nat} (hc : c < 4) (hp : s.partState.composes = true)
    (hf : 0 < s.pool.free) (hl : s.ctrl.length < 8) :
    ∃ t, s.composeContext c = t
      ∧ t = { s with
          pool := { s.pool with free := s.pool.free - 1 }
          ctrl := s.ctrl ++ [{ payload := s.contextMessage (s.ctx c), serial := s.renewal.nextSerial }]
          renewal := { s.renewal with contexts := t.renewal.contexts, nextSerial := s.renewal.nextSerial + 1 } }
      ∧ t.ctx c = { s.ctx c with send := .queued, latest := some s.renewal.nextSerial, retryDue := false }
      ∧ ∀ d, d ≠ c → t.ctx d = s.ctx d :=
  ⟨_, State.composeContext_success c s hp hf hl, rfl, (State.ctx_updCtx ..).trans (if_pos ⟨rfl, hc⟩),
    fun _ hd => (State.ctx_updCtx ..).trans (if_neg fun h => hd h.1)⟩

/-- A context whose composition finds no buffer: COMPOSE, with POOL_LOW raised. -/
theorem State.composeContext_noBuffer {s : State} {c : Nat} (hc : c < 4) (hp : s.partState.composes = true)
    (hf : s.pool.free = 0) :
    ∃ t, s.composeContext c = t
      ∧ t = { s with
          pool := { s.pool with low := true }, renewal := { s.renewal with contexts := t.renewal.contexts }
          faults := t.faults, beacon := t.beacon, sPort := { s.sPort with faultCause := t.sPort.faultCause }
          lPort := { s.lPort with faultCause := t.lPort.faultCause } }
      ∧ t.ctx c = { s.ctx c with send := .compose, retryDue := false }
      ∧ (∀ d, d ≠ c → t.ctx d = s.ctx d) ∧ t.faultStands .poolLow .nothing := by
  have hraised := State.raiseFault_same .poolLow .nothing (s.updPool fun q => { q with low := true })
  have hcomposed : s.composeContext c = ((s.updPool fun q => { q with low := true }).raiseFault .poolLow .nothing).updCtx c
      fun y => { y with send := .compose, retryDue := false } := by
    unfold State.composeContext
    dsimp only
    rw [State.compose_noBuffer _ s hp hf]
    rfl
  have hctx : ∀ d, ((s.updPool fun q => { q with low := true }).raiseFault .poolLow .nothing).ctx d = s.ctx d := fun d => by simp
  refine ⟨_, hcomposed, ?_, ?_, fun d hd => ?_, State.faultStands_congr rfl (State.raiseFault_stands _ _ _)⟩
  · rw [State.sameButFaults] at hraised
    rw [hraised]
    rfl
  · rw [State.ctx_updCtx, if_pos ⟨rfl, hc⟩, hctx]
  · rw [State.ctx_updCtx, if_neg fun h => hd h.1, hctx]

/-! ### Composing again (O18) -/

/-- The context as its composition is asked for again, at the attempt given: what a reply timer's expiry makes of it. -/
def State.askAgain (c : Nat) : State → State :=
  State.updCtx c fun y => { y with attempt := y.attempt + 1, send := .compose, latest := none, retryDue := false }

theorem State.askAgain_ctx {c : Nat} (hc : c < 4) (s : State) :
    (s.askAgain c).ctx c = { s.ctx c with
      attempt := (s.ctx c).attempt + 1, send := .compose, latest := none, retryDue := false } :=
  (State.ctx_updCtx ..).trans (if_pos ⟨rfl, hc⟩)

theorem State.expireReply_again {s : State} {c : Nat} (hopen : (s.ctx c).isOpen = true) (hsent : (s.ctx c).send = .sent)
    (hreply : (s.ctx c).reply = 0) (hstate : s.partState ≠ .quiesced) (hattempt : (s.ctx c).attempt < 3) :
    s.expireReply c = (s.askAgain c).composeContext c := by
  have hdue : s.replyDue c = true := by simp [State.replyDue, hopen, hsent, hreply, hstate]
  exact (if_pos hdue).trans (if_pos hattempt)

theorem State.retryCompose_again {s : State} {c : Nat} (hopen : (s.ctx c).isOpen = true) (hsend : (s.ctx c).send = .compose)
    (hdue : (s.ctx c).retryDue = true) : s.retryCompose c = s.composeContext c := by
  have h : s.retryDue c = true := by simp [State.retryDue, hopen, hsend, hdue]
  exact if_pos h

/-- Settles O18: both events ask for the context's message, at the raised or at the same attempt. -/
theorem contextComposesAgain : Obligations.ContextComposesAgain := by
  unfold Obligations.ContextComposesAgain
  intro s c hc hopen i attempt hstate hevent
  obtain ⟨u, hrun, hu, hself, hothers⟩ : ∃ u : State, exec i s = .next (u.composeContext c)
      ∧ u = { s with renewal := { s.renewal with contexts := u.renewal.contexts } }
      ∧ u.ctx c = { s.ctx c with attempt := attempt, send := .compose, retryDue := (u.ctx c).retryDue, latest := (u.ctx c).latest }
      ∧ ∀ d, d ≠ c → u.ctx d = s.ctx d := by
    rcases hevent with ⟨rfl, hsent, hreply, hattempt, rfl⟩ | ⟨rfl, hsend, hdue, rfl⟩
    · have hnot : s.partState ≠ .quiesced := by
        rcases hstate with h | h | ⟨-, h⟩
        · rw [h]; decide
        · rw [h]; decide
        · nomatch h
      refine ⟨s.askAgain c, ?_, rfl, ?_, fun d hd => (State.ctx_updCtx ..).trans (if_neg fun h => hd h.1)⟩
      · exact (onContext_of_wf (by simp [isContext, hc]) _).trans
          (congrArg Host.Outcome.next (State.expireReply_again hopen hsent hreply hnot hattempt))
      · rw [State.askAgain_ctx hc]
    · refine ⟨s, ?_, rfl, ?_, fun _ _ => rfl⟩
      · exact (onContext_of_wf (by simp [isContext, hc]) _).trans
          (congrArg Host.Outcome.next (State.retryCompose_again hopen hsend hdue))
      · rw [← hsend]
  have hcomposes : u.partState.composes = true := by
    rw [hu]
    rcases hstate with h | h | ⟨h, -⟩ <;> simp [h, PartState.composes]
  have hserial : u.renewal.nextSerial = s.renewal.nextSerial := by rw [hu]
  have hslot : ∀ y, u.slot y = s.slot y := State.slot_congr (by rw [hu])
  have hmap : ∀ o : Option Nat, o.map u.slot = o.map s.slot := fun o => congrArg (o.map ·) (funext hslot)
  refine ⟨fun hfree hroom => ?_, fun hnone => ?_⟩
  · obtain ⟨t, ht, hstate', hctx, hrest⟩ := State.composeContext_queued (s := u) hc hcomposes (by rw [hu]; exact hfree)
      (by rw [hu]; exact hroom)
    have hctrl : t.ctrl = s.ctrl ++ [{ payload := u.contextMessage (u.ctx c), serial := s.renewal.nextSerial }] := by
      rw [hstate', hserial, hu]
    refine ⟨t, hrun.trans (congrArg Host.Outcome.next ht), ?_, ?_, fun d hd => (hrest d hd).trans (hothers d hd),
      fun v hv hawaits => ?_, fun y hy hawaits => ?_⟩
    · rw [hstate', hu]
    · rw [hctx, hself, hserial]
    · have hmessage : u.contextMessage (u.ctx c) = keyRequestBytes u (u.ctx c) := if_pos (by rw [hself]; exact hawaits)
      have hsubject : (u.ctx c).subject = (s.ctx c).subject := by rw [hself]
      rw [hctrl, hmessage, keyRequestBytes_eq u (u.ctx c) (v := v) (by rw [hsubject, hmap]; exact hv), hself]
    · have hmessage : u.contextMessage (u.ctx c) = keyAcceptBytes u (u.ctx c) :=
        if_neg (by rw [hself]; dsimp only; rw [hawaits]; decide)
      rw [hctrl, hmessage, keyAcceptBytes_eq u (u.ctx c) (y := y) (by rw [hself]; exact hy), hslot, hself]
  · obtain ⟨t, ht, hstate', hctx, hrest, hstands⟩ := State.composeContext_noBuffer (s := u) hc hcomposes (by rw [hu]; exact hnone)
    refine ⟨t, hrun.trans (congrArg Host.Outcome.next ht), ?_, ?_, fun d hd => (hrest d hd).trans (hothers d hd), hstands⟩
    · rw [hstate', hu]
    · rw [hctx, hself]

/-! ### Exchange numbers (R115) -/

theorem State.mem_heldExchanges (s : State) (n : Nat) :
    n ∈ s.heldExchanges ↔ ∃ c, (s.ctx c).isOpen = true ∧ (s.ctx c).exchange = some n := by
  rw [State.heldExchanges, List.mem_filterMap]
  refine ⟨fun ⟨c, _, h⟩ => ?_, fun ⟨c, hopen, h⟩ => ⟨c, ?_, by rw [if_pos hopen, h]⟩⟩
  · split at h
    next hopen => exact ⟨c, hopen, h⟩
    next => nomatch h
  · have := State.isOpen_lt hopen
    interval_cases c <;> decide

theorem State.heldExchanges_length (s : State) : s.heldExchanges.length ≤ 4 := List.length_filterMap_le ..

/-- The number assigned is the first one no open context holds. -/
theorem State.assignExchange_spec {s : State} (h : 1 ≤ s.messenger.nextExchange ∧ s.messenger.nextExchange ≤ 255) :
    s.firstExchange s.assignExchange.2 ∧ 1 ≤ s.assignExchange.2 ∧ s.assignExchange.2 ≤ 255 := by
  have hlength := s.heldExchanges_length
  obtain ⟨k, hk, heq, hnot, hbefore⟩ := firstUnused_spec (k := 5) (used := s.heldExchanges) h (by omega) (by decide)
  have hassigned : s.assignExchange.2 = numberAfter s.messenger.nextExchange k := heq
  rw [hassigned]
  exact ⟨⟨fun d hopen hd => hnot ((s.mem_heldExchanges _).mpr ⟨d, hopen, hd⟩), k, by omega, rfl,
    fun m hm => (s.mem_heldExchanges _).mp (hbefore m hm)⟩, numberAfter_range ..⟩

theorem State.assignExchange_state (s : State) :
    s.assignExchange.1 = { s with messenger := { s.messenger with
      nextExchange := nextNumber s.assignExchange.2
      finished := s.messenger.finished.filter (· != s.assignExchange.2) } } := rfl

theorem nextNumber_eq {n : Nat} (h : n ≤ 255) : nextNumber n = if n = 255 then 1 else n + 1 := by
  unfold nextNumber
  by_cases hn : n = 255
  · rw [if_pos (by omega), if_pos hn]
  · rw [if_neg (by omega), if_neg hn]

/-- A context opens under the number assigned. -/
theorem State.openContext_spec {s : State} {c : Nat} (hc : c < 4) (x : Context)
    (h : 1 ≤ s.messenger.nextExchange ∧ s.messenger.nextExchange ≤ 255) :
    ∃ t n, s.openContext c x = t ∧ s.firstExchange n ∧ 1 ≤ n ∧ n ≤ 255
      ∧ t = { s with
          messenger := { s.messenger with nextExchange := if n = 255 then 1 else n + 1
                                          finished := s.messenger.finished.filter (· != n) }
          renewal := { s.renewal with contexts := t.renewal.contexts, started := min (s.renewal.started + 1) 65535 } }
      ∧ t.ctx c = { x with exchange := some n } ∧ ∀ d, d ≠ c → t.ctx d = s.ctx d := by
  obtain ⟨hfirst, hlow, hhigh⟩ := State.assignExchange_spec h
  refine ⟨_, s.assignExchange.2, rfl, hfirst, hlow, hhigh, ?_, (State.ctx_setCtx ..).trans (if_pos ⟨rfl, hc⟩),
    fun d hd => (State.ctx_setCtx ..).trans (if_neg fun hdc => hd hdc.1)⟩
  rw [← nextNumber_eq hhigh]
  rfl

/-! ### The start of an exchange (O22) -/

theorem takeEligible_of_split {q : Entry → Bool} {pre post : List Entry} {e : Entry} (hpre : ∀ f ∈ pre, q f = false)
    (he : q e = true) : takeEligible q (pre ++ e :: post) = some (e, pre ++ post) := by
  induction pre with
  | nil => simp [takeEligible, he]
  | cons f pre ih =>
    rw [List.forall_mem_cons] at hpre
    simp [takeEligible, hpre.1, ih hpre.2]

/-- The context an entry opens, before its number is assigned (R134). -/
def Entry.context (e : Entry) : Context :=
  { state := .awaitDelivery, kind := some (if e.slot = none then .boot else .renewal), subject := e.slot
    reason := some e.reason }

theorem State.startExchange_of_entry {s : State} {pre post : List Entry} {e : Entry} {c : Nat}
    (hlist : s.renewal.list = pre ++ e :: post) (hpre : ∀ f ∈ pre, s.eligible f = false) (he : s.eligible e = true)
    (hc : c < 4) (hfree : (s.ctx c).isOpen = false) (hopen : ∀ d, d < c → (s.ctx d).isOpen = true) :
    s.startExchange =
      ((s.updRenewal fun n => { n with list := pre ++ post }).openContext c e.context).composeContext c := by
  have hfind : s.findCtx (fun x => !x.isOpen) = some c :=
    State.findCtx_of_first hc (by simp [hfree]) fun d hd => by simp [hopen d hd]
  have htake : takeEligible s.eligible s.renewal.list = some (e, pre ++ post) := by
    rw [hlist]
    exact takeEligible_of_split hpre he
  simp only [State.startExchange, hfind, htake]
  rfl

/-- Settles O22: the entry leaves the list, its context opens, its KEY REQUEST is composed. -/
theorem exchangeStartOpensContext : Obligations.ExchangeStartOpensContext := by
  unfold Obligations.ExchangeStartOpensContext
  refine ⟨rfl, fun s pre post e c hlist hpre he hc hfree hopen hbuffer hroom hnext1 hnext255 => ?_⟩
  have heligible : s.eligible e = true := by
    rcases he with ⟨x, hslot, hactive, hpred, hrun⟩ | ⟨hslot, hboot, hunbound⟩
    · simp [State.eligible, hslot, hactive, hpred, hrun]
    · simp [State.eligible, hslot, hboot, hunbound]
  have hcomposes : s.partState.composes = true := by
    rcases he with ⟨x, -, -, -, hrun⟩ | ⟨-, hboot, -⟩
    · rw [hrun]; rfl
    · rw [hboot]; rfl
  obtain ⟨u, n, hu, hfirst, -, hn, hustate, huself, huothers⟩ := State.openContext_spec
    (s := s.updRenewal fun n => { n with list := pre ++ post }) hc e.context ⟨hnext1, hnext255⟩
  obtain ⟨t, ht, hstate, hself, hothers⟩ := State.composeContext_queued (s := u) hc (by rw [hustate]; exact hcomposes)
    (by rw [hustate]; exact hbuffer) (by rw [hustate]; exact hroom)
  have hserial : u.renewal.nextSerial = s.renewal.nextSerial := by rw [hustate]; rfl
  have hctrl : t.ctrl = s.ctrl ++ [{ payload := u.contextMessage (u.ctx c), serial := s.renewal.nextSerial }] := by
    rw [hstate, hserial, hustate]
    rfl
  have hslot : ∀ y, u.slot y = s.slot y := State.slot_congr (by rw [hustate]; rfl)
  refine ⟨t, n, congrArg Host.Outcome.next ?_, hfirst, ?_, ?_, fun d hd => (hothers d hd).trans (huothers d hd), fun v hv => ?_⟩
  · rw [State.startExchange_of_entry hlist hpre heligible hc hfree hopen, hu, ht]
  · refine hstate.trans ?_
    rw [hctrl]
    rw [show u.ctrl = s.ctrl by rw [hustate]; rfl, hserial, hustate]
    rfl
  · rw [hself, huself, hserial]
    rfl
  · have hmessage : u.contextMessage (u.ctx c) = keyRequestBytes u (u.ctx c) := if_pos (by rw [huself]; rfl)
    have hsubject : (u.ctx c).subject = e.slot := by rw [huself]; rfl
    have hmap : e.slot.map u.slot = e.slot.map s.slot := congrArg (e.slot.map ·) (funext hslot)
    rw [hctrl, hmessage, keyRequestBytes_eq u (u.ctx c) (v := v) (by rw [hsubject, hmap]; exact hv), huself,
      show ([1] : List Byte) = natBytes 1 1 by decide]
    rfl

end Sys2Proof.Machine
end

section
/-! PROOFS. The failure and the refusal of an exchange (R116, R137, R138, R140): the statement about the third expiry and
KEY REFUSE (O19). -/

namespace Sys2Proof.Machine

/-! ### A context becomes FREE (R116) -/

theorem addFinished_getLast? (e : Nat) (l : List Nat) : (addFinished e l).getLast? = some e := by
  unfold addFinished
  dsimp only
  split
  next h =>
    cases hl : l.filter (· != e) with
    | nil => simp [hl] at h
    | cons a m => simp
  next => simp

theorem State.freeContext_eq {s : State} {c e : Nat} (h : (s.ctx c).exchange = some e) :
    s.freeContext c = (s.updMessenger fun m => { m with finished := addFinished e m.finished }).setCtx c {} := by
  simp only [State.freeContext, h]

/-! ### An exchange ends without its key (R137, R140) -/

/-- The end that a failure and a refusal share: the successor discarded, the fault raised, the backoff started, the context
FREE. -/
def State.endExchange (k : FaultKind) (c : Nat) (s : State) : State :=
  (((s.discardSuccessor c).raiseFault k (s.ctx c).faultSubject).startBackoff (s.ctx c)).freeContext c

theorem State.failContext_eq (c : Nat) (s : State) :
    s.failContext c = (s.endExchange .renewalFailed c).updRenewal fun n => { n with failed := satInc 65535 n.failed } := rfl

theorem State.refuseContext_eq (c : Nat) (s : State) :
    s.refuseContext c = (s.endExchange .renewalRefused c).updRenewal fun n => { n with refused := satInc 65535 n.refused } :=
  rfl

section
variable {s : State} {c : Nat}

theorem State.discardSuccessor_slot_of {y : Nat} (hy : 1 ≤ y) (hsucc : (s.ctx c).successor = some y)
    (hstaged : (s.slot y).state = .staged) : (s.discardSuccessor c).slot y = {} := by
  have hrange : 1 ≤ y ∧ y ≤ 23 := by
    by_contra hout
    rw [State.slot_out s y hout] at hstaged
    nomatch hstaged
  have hdiscard : s.discardSuccessor c = s.emptySlot y := by
    simp only [State.discardSuccessor, hsucc, if_neg (show ¬ y = 0 by omega), State.discardSlot, if_pos hstaged]
  rw [hdiscard, State.emptySlot_slot y y s hrange, if_pos rfl]

theorem State.discardSuccessor_slots (h : (s.ctx c).successor = none ∨ (s.ctx c).successor = some 0) :
    (s.discardSuccessor c).slots = s.slots := by
  rcases h with h | h <;> simp [State.discardSuccessor, h]

theorem State.discardSuccessor_root : (s.discardSuccessor c).root = { s.root with
    pendingRoot := if (s.ctx c).successor = some 0 then none else s.root.pendingRoot } := by
  unfold State.discardSuccessor
  split
  next y hy =>
    by_cases h0 : y = 0
    · subst h0
      rw [if_pos rfl, if_pos hy]
      rfl
    · rw [if_neg h0, if_neg (by rw [hy]; simpa using h0)]
      simp
  next hy => rw [if_neg (by rw [hy]; nofun)]

/-- The context before it becomes FREE is the one that ends. -/
theorem State.startBackoff_ctx (x : Context) (t : State) (d : Nat) : (t.startBackoff x).ctx d = t.ctx d := by
  unfold State.startBackoff
  split <;> rfl

theorem State.endExchange_eq {e : Nat} (k : FaultKind) (h : (s.ctx c).exchange = some e) :
    s.endExchange k c = ((((s.discardSuccessor c).raiseFault k (s.ctx c).faultSubject).startBackoff (s.ctx c)).updMessenger
      fun m => { m with finished := addFinished e m.finished }).setCtx c {} :=
  State.freeContext_eq (by rw [State.startBackoff_ctx]; simpa using h)

theorem State.endExchange_ctx (hc : c < 4) {e : Nat} (k : FaultKind) (h : (s.ctx c).exchange = some e) :
    (s.endExchange k c).ctx c = {} ∧ ∀ d, d ≠ c → (s.endExchange k c).ctx d = s.ctx d := by
  rw [State.endExchange_eq k h]
  refine ⟨(State.ctx_setCtx ..).trans (if_pos ⟨rfl, hc⟩), fun d hd => ?_⟩
  refine (State.ctx_setCtx ..).trans ((if_neg fun hdc => hd hdc.1).trans ?_)
  exact (State.startBackoff_ctx _ _ d).trans (by simp)

theorem State.endExchange_messenger {e : Nat} (k : FaultKind) (h : (s.ctx c).exchange = some e) :
    (s.endExchange k c).messenger = { s.messenger with finished := addFinished e s.messenger.finished } := by
  rw [State.endExchange_eq k h]
  simp

theorem State.startBackoff_renewal (x : Context) (t : State) :
    (t.startBackoff x).renewal = { t.renewal with
      backoff := (t.startBackoff x).renewal.backoff, bootBackoff := (t.startBackoff x).renewal.bootBackoff } := by
  unfold State.startBackoff
  split <;> rfl

theorem State.endExchange_renewal {e : Nat} (k : FaultKind) (h : (s.ctx c).exchange = some e) :
    (s.endExchange k c).renewal = { s.renewal with
      contexts := (s.endExchange k c).renewal.contexts, backoff := (s.endExchange k c).renewal.backoff
      bootBackoff := (s.endExchange k c).renewal.bootBackoff } := by
  rw [State.endExchange_eq k h]
  have hrest := State.startBackoff_renewal (s.ctx c) ((s.discardSuccessor c).raiseFault k (s.ctx c).faultSubject)
  simp only [State.raiseFault_frame, State.discardSuccessor_frame] at hrest
  simp only [State.setCtx_renewal, State.updMessenger_renewal]
  rw [hrest]

theorem State.endExchange_stands {e : Nat} (k : FaultKind) (h : (s.ctx c).exchange = some e) :
    (s.endExchange k c).faultStands k (s.ctx c).faultSubject :=
  State.faultStands_congr (s := (s.discardSuccessor c).raiseFault k (s.ctx c).faultSubject)
    (by rw [State.endExchange_eq k h]; simp) (State.raiseFault_stands _ _ _)

theorem State.endExchange_slots {e : Nat} (k : FaultKind) (h : (s.ctx c).exchange = some e) :
    (s.endExchange k c).slots = (s.discardSuccessor c).slots := by
  rw [State.endExchange_eq k h]
  simp

theorem State.endExchange_root {e : Nat} (k : FaultKind) (h : (s.ctx c).exchange = some e) :
    (s.endExchange k c).root = { s.root with
      pendingRoot := if (s.ctx c).successor = some 0 then none else s.root.pendingRoot } := by
  rw [← State.discardSuccessor_root, State.endExchange_eq k h]
  simp

theorem State.endExchange_same {e : Nat} (k : FaultKind) (h : (s.ctx c).exchange = some e) :
    (s.endExchange k c).partState = s.partState ∧ (s.endExchange k c).chans = s.chans
      ∧ (s.endExchange k c).pool = s.pool ∧ (s.endExchange k c).ctrl = s.ctrl := by
  rw [State.endExchange_eq k h]
  simp

/-- The backoffs a context's end leaves (R138). -/
theorem State.endExchange_backoff {e : Nat} (k : FaultKind) (h : (s.ctx c).exchange = some e) :
    (∀ y, (s.endExchange k c).backoff y = (s.startBackoff (s.ctx c)).backoff y)
      ∧ (s.endExchange k c).renewal.bootBackoff = (s.startBackoff (s.ctx c)).renewal.bootBackoff := by
  have hboth : ∀ t : State, t.renewal = s.renewal → (t.startBackoff (s.ctx c)).renewal.backoff
      = (s.startBackoff (s.ctx c)).renewal.backoff
      ∧ (t.startBackoff (s.ctx c)).renewal.bootBackoff = (s.startBackoff (s.ctx c)).renewal.bootBackoff := fun t ht => by
    unfold State.startBackoff
    split <;> simp [ht]
  obtain ⟨hslots, hboot⟩ := hboth ((s.discardSuccessor c).raiseFault k (s.ctx c).faultSubject) (by simp)
  rw [State.endExchange_eq k h]
  exact ⟨fun y => State.backoff_congr hslots y, hboot⟩

end

theorem State.startBackoff_slot {x : Context} {y : Nat} (hkind : x.kind = some .renewal) (hsubject : x.subject = some y)
    (s : State) : s.startBackoff x = s.setBackoff y { remaining := 64 } := by
  simp only [State.startBackoff, hkind, hsubject]
  rfl

theorem State.startBackoff_boot {x : Context} (hkind : x.kind = some .boot) (s : State) :
    s.startBackoff x = s.updRenewal fun n => { n with bootBackoff := { remaining := 64 } } := by
  simp only [State.startBackoff, hkind]

theorem State.startBackoff_none {x : Context} (hkind : x.kind = some .install ∨ x.kind = some .root) (s : State) :
    s.startBackoff x = s := by
  rcases hkind with h | h <;> simp only [State.startBackoff, h]

/-! ### The third expiry and KEY REFUSE (O19) -/

theorem State.expireReply_fails {s : State} {c : Nat} (hopen : (s.ctx c).isOpen = true) (hsent : (s.ctx c).send = .sent)
    (hreply : (s.ctx c).reply = 0) (hstate : s.partState ≠ .quiesced) (hattempt : 3 ≤ (s.ctx c).attempt) :
    s.expireReply c = s.failContext c := by
  have hdue : s.replyDue c = true := by simp [State.replyDue, hopen, hsent, hreply, hstate]
  exact (if_pos hdue).trans (if_neg (by omega))

/-- The open context that holds an exchange number. -/
theorem State.holder_of_first {s : State} {c e : Nat} {q : Context → Bool} (hc : c < 4) (hopen : (s.ctx c).isOpen = true)
    (hexchange : (s.ctx c).exchange = some e) (hq : q (s.ctx c) = true)
    (hfirst : ∀ d, d < c → (s.ctx d).exchange ≠ some e) : s.holder e q = some c :=
  State.findCtx_of_first hc (by simp [hopen, hexchange, hq]) fun d hd => by simp [hfirst d hd]

theorem State.holder_of_none {s : State} {e : Nat} {q : Context → Bool}
    (h : ∀ c, (s.ctx c).isOpen = true → (s.ctx c).exchange ≠ some e) : s.holder e q = none :=
  State.findCtx_eq_none fun c => by
    cases ho : (s.ctx c).isOpen with
    | false => rfl
    | true => simp [h c ho]

/-- Settles O19: both ends are `endExchange`; a KEY REFUSE that names no open context is stale. -/
theorem thirdExpiryFailsExchange : Obligations.ThirdExpiryFailsExchange := by
  unfold Obligations.ThirdExpiryFailsExchange
  refine ⟨fun s c x e hc hopen hsent hreply hstate hattempt hkind hsubject hlow hhigh hexchange => ?_,
    fun s c e reason x hc hopen hexchange hfirst hx => ?_, fun s e reason hnone => ?_⟩
  · have hfails := State.expireReply_fails hopen hsent hreply hstate hattempt
    obtain ⟨hself, hothers⟩ := State.endExchange_ctx hc .renewalFailed hexchange
    obtain ⟨hbackoff, -⟩ := State.endExchange_backoff .renewalFailed hexchange
    obtain ⟨-, hchans, hpool, hctrl⟩ := State.endExchange_same .renewalFailed hexchange
    have hslots := State.endExchange_slots .renewalFailed hexchange
    have hfaultSubject : (s.ctx c).faultSubject = .slot x := by simp [Context.faultSubject, hkind, hsubject]
    refine ⟨s.failContext c, (onContext_of_wf (by simp [isContext, hc]) _).trans (congrArg Host.Outcome.next hfails), hself,
      hothers, ?_, ?_, ?_, ?_, fun y hy hsucc hstaged => ?_, fun hsucc => ?_, hchans, hpool, hctrl⟩
    · refine (hbackoff x).trans ?_
      rw [State.startBackoff_slot hkind hsubject, State.backoff_setBackoff, if_pos ⟨rfl, hlow, hhigh⟩]
    · refine (congrArg (fun m => m.finished.getLast?) (State.endExchange_messenger .renewalFailed hexchange)).trans ?_
      exact addFinished_getLast? ..
    · exact congrArg (fun n => min (n.failed + 1) 65535) (State.endExchange_renewal .renewalFailed hexchange)
    · rw [← hfaultSubject]
      exact State.endExchange_stands .renewalFailed hexchange
    · exact (State.slot_congr hslots y).trans (State.discardSuccessor_slot_of hy hsucc hstaged)
    · exact hslots.trans (State.discardSuccessor_slots (.inl hsucc))
  · have htake : s.takeMessage (.refuse e reason) =
        (s.updMessenger fun m => { m with lastRefusal := some (e, reason) }).refuseContext c := by
      have hholder := State.holder_of_first (q := fun _ => true) hc hopen hexchange rfl hfirst
      simp only [State.takeMessage, State.takeRefuse, hholder]
    intro t
    have ht : t = _ := htake.trans (State.refuseContext_eq c _)
    have hexchange' : ((s.updMessenger fun m => { m with lastRefusal := some (e, reason) }).ctx c).exchange = some e := hexchange
    obtain ⟨hself, hothers⟩ := State.endExchange_ctx hc .renewalRefused hexchange'
    obtain ⟨hbackoff, hboot⟩ := State.endExchange_backoff .renewalRefused hexchange'
    obtain ⟨hpart, hchans, hpool, hctrl⟩ := State.endExchange_same .renewalRefused hexchange'
    have hslots := State.endExchange_slots .renewalRefused hexchange'
    have hmessenger := State.endExchange_messenger .renewalRefused hexchange'
    have hstands := State.endExchange_stands .renewalRefused hexchange'
    have hroot := State.endExchange_root .renewalRefused hexchange'
    have hrenewal := State.endExchange_renewal .renewalRefused hexchange'
    have hctxSame : (s.updMessenger fun m => { m with lastRefusal := some (e, reason) }).ctx c = s.ctx c := rfl
    have hfaultSubject : (s.ctx c).faultSubject = x := by
      rcases hx with ⟨hkind, y, -, -, hsubject, rfl⟩ | ⟨hkind | hkind | hkind, rfl⟩
      · simp [Context.faultSubject, hkind, hsubject]
      all_goals simp [Context.faultSubject, hkind]
    rw [ht]
    refine ⟨hself, hothers, ?_, ?_, ?_, ?_, fun y => ?_, ?_, fun y hy hsucc hstaged => ?_, fun hsucc => ?_, hroot, hpart, hchans,
      hpool, hctrl⟩
    · exact hmessenger.trans (by rw [State.updRenewal_messenger, hmessenger]; rfl)
    · refine (congrArg (fun m => m.finished.getLast?) hmessenger).trans ?_
      exact addFinished_getLast? ..
    · rw [State.updRenewal_renewal, hrenewal]
      rfl
    · rw [← hfaultSubject]
      exact hstands
    · refine (hbackoff y).trans ?_
      rw [hctxSame]
      rcases hx with ⟨hkind, z, hlow, hhigh, hsubject, rfl⟩ | ⟨hkind, rfl⟩
      · rw [State.startBackoff_slot hkind hsubject, State.backoff_setBackoff]
        by_cases hzy : y = z
        · subst hzy
          rw [if_pos ⟨rfl, hlow, hhigh⟩, if_pos ⟨rfl, hlow⟩]
        · rw [if_neg fun h => hzy h.1, if_neg fun h => hzy (by injection h.1 with h; exact h.symm)]
          rfl
      · have hy : ¬ (Subject.slot 0 = .slot y ∧ 1 ≤ y) := by
          rintro ⟨h, hy⟩
          injection h with h
          omega
        rw [if_neg hy]
        rcases hkind with hkind | hkind
        · rw [State.startBackoff_boot hkind]
          rfl
        · rw [State.startBackoff_none hkind]
          rfl
    · refine hboot.trans ?_
      rw [hctxSame]
      rcases hx with ⟨hkind, z, -, -, hsubject, -⟩ | ⟨hkind | hkind, -⟩
      · rw [State.startBackoff_slot hkind hsubject, hkind, if_neg (by decide)]
        rfl
      · rw [State.startBackoff_boot hkind, if_pos hkind]
        rfl
      · rw [State.startBackoff_none hkind]
        rcases hkind with hkind | hkind
        · rw [hkind, if_neg (by decide)]
          rfl
        · rw [hkind, if_neg (by decide)]
          rfl
    · exact (State.slot_congr hslots y).trans
        (State.discardSuccessor_slot_of (s := s.updMessenger fun m => { m with lastRefusal := some (e, reason) }) hy hsucc hstaged)
    · exact hslots.trans
        (State.discardSuccessor_slots (s := s.updMessenger fun m => { m with lastRefusal := some (e, reason) }) hsucc)
  · have hholder := State.holder_of_none (q := fun _ => true) hnone
    simp only [State.takeMessage, State.takeRefuse, hholder]
    rfl

end Sys2Proof.Machine
end

section
/-! PROOFS. The report of a beacon cycle end (R157 to R159), and the local loop self check (R110 to R112): the statements
about both (O21, O34). -/

namespace Sys2Proof.Machine

/-! ### The records a report carries (R159) -/

theorem walkFrom_perm (marker : Option Nat) (rs : List FaultRecord) : (walkFrom marker rs).Perm rs := by
  cases marker with
  | none => exact .refl _
  | some m =>
    have h : (rs.drop (rs.findIdx (fun r => r.id == m) + 1) ++ rs.take (rs.findIdx (fun r => r.id == m) + 1)).Perm rs :=
      List.perm_append_comm.trans (by rw [List.take_append_drop])
    exact h

theorem walkFrom_split {pre post : List FaultRecord} {m : FaultRecord} (hpre : ∀ r ∈ pre, r.id ≠ m.id) :
    walkFrom (some m.id) (pre ++ m :: post) = post ++ pre ++ [m] := by
  have hindex : (pre ++ m :: post).findIdx (fun r => r.id == m.id) = pre.length := by
    rw [List.findIdx_append, if_neg]
    · simp [List.findIdx_cons]
    · rw [List.findIdx_lt_length]
      rintro ⟨r, hr, heq⟩
      exact hpre r hr (beq_iff_eq.mp heq)
  have hsplit : pre ++ m :: post = (pre ++ [m]) ++ post := by simp
  rw [walkFrom, hindex, hsplit, show pre.length + 1 = (pre ++ [m]).length by simp, List.drop_left, List.take_left]
  simp

theorem FaultRecord.unacked_eq : FaultRecord.unacked = fun r => decide (r.acked < r.count) := rfl

theorem State.mem_reportRecords {s : State} {r : FaultRecord} (h : r ∈ s.reportRecords) :
    r ∈ s.faults.records ∧ r.acked < r.count := by
  have hmem := List.mem_of_mem_take h
  rw [List.mem_filter] at hmem
  exact ⟨(walkFrom_perm _ _).mem_iff.mp hmem.1, of_decide_eq_true hmem.2⟩

/-- A report that carries fewer than 4 records carries every unacked one. -/
theorem State.reportRecords_all {s : State} (hlen : s.reportRecords.length < 4) {r : FaultRecord}
    (hr : r ∈ s.faults.records) (hunacked : r.acked < r.count) : r ∈ s.reportRecords := by
  have hwhole : s.reportRecords = (walkFrom s.beacon.marker s.faults.records).filter FaultRecord.unacked := by
    refine List.take_of_length_le ?_
    by_contra hlong
    rw [State.reportRecords, List.length_take] at hlen
    omega
  rw [hwhole, List.mem_filter]
  exact ⟨(walkFrom_perm _ _).mem_iff.mpr hr, decide_eq_true hunacked⟩

/-! ### The bytes of a report (R189) -/

theorem natBytes_bool (b : Bool) : natBytes 1 b.toNat = [if b then 1 else 0] := by cases b <;> decide

theorem natBytes_recordState (b : Bool) : natBytes 1 (recordStateCode b) = [if b then 1 else 2] := by cases b <;> decide

theorem recordBytes_eq (r : FaultRecord) :
    recordBytes r = natBytes 1 r.id ++ natBytes 1 r.kind.code ++ natBytes 1 r.subject.code ++ natBytes 1 r.count
      ++ natBytes 4 r.first ++ natBytes 4 r.last ++ [if r.active then 1 else 2] := by
  rw [recordBytes, natBytes_recordState]

theorem faultReportBytes_eq (n : Nat) (overflow : Bool) (rs : List FaultRecord) :
    faultReportBytes n overflow rs = natBytes 1 0x14 ++ natBytes 1 n ++ [if overflow then 1 else 0] ++ natBytes 1 rs.length
      ++ rs.flatMap fun r => natBytes 1 r.id ++ natBytes 1 r.kind.code ++ natBytes 1 r.subject.code ++ natBytes 1 r.count
        ++ natBytes 4 r.first ++ natBytes 4 r.last ++ [if r.active then 1 else 2] := by
  rw [faultReportBytes, natBytes_bool]
  exact congrArg (_ ++ rs.flatMap ·) (funext recordBytes_eq)

/-! ### A report made (R158, R159) -/

/-- The part after a report of its records. -/
def State.reportMade (s : State) : State :=
  { s with
    pool := { s.pool with free := s.pool.free - 1 }
    ctrl := s.ctrl ++ [{ payload := faultReportBytes s.beacon.nextReport s.faults.overflow s.reportRecords
                         serial := s.renewal.nextSerial }]
    renewal := { s.renewal with nextSerial := s.renewal.nextSerial + 1 }
    faults := { s.faults with
      records := s.faults.records.map fun q =>
        if s.reportRecords.any (fun x => x.id == q.id) then { q with reported := true } else q
      overflowReports :=
        if s.faults.overflow then addReport s.beacon.nextReport s.faults.overflowReports else s.faults.overflowReports }
    beacon := { s.beacon with
      marker := (s.reportRecords.getLast?.map (·.id)).or s.beacon.marker, nextReport := nextNumber s.beacon.nextReport } }

theorem State.askReport_success {s : State} (hp : s.partState.composes = true) (hf : 0 < s.pool.free)
    (hl : s.ctrl.length < 8) : s.askReport = (s.reportMade, true) := by
  simp only [State.askReport, State.compose_success _ s hp hf hl, if_true]
  rfl

/-- The beacon as a cycle end leaves it (R158). -/
def Beacon.ended (b : Beacon) : Beacon :=
  if b.lastCycle then { b with running := false, lastCycle := false }
  else { b with remaining := b.working.period, cycleMode := b.working.mode }

theorem State.endCycle_eq {s : State} (h : s.cycleDue = true) : s.endCycle = s.cycleReport.updBeacon Beacon.ended := if_pos h

theorem Beacon.ended_keeps (b : Beacon) :
    b.ended.nextReport = b.nextReport ∧ b.ended.marker = b.marker ∧ b.ended.oneShot = b.oneShot := by
  unfold Beacon.ended
  split <;> exact ⟨rfl, rfl, rfl⟩

/-- A cycle end with its report made; a one-shot report is one fewer remaining. -/
theorem State.cycleReport_made {s : State} (hasks : s.asksReport = true) (hp : s.partState.composes = true)
    (hf : 0 < s.pool.free) (hl : s.ctrl.length < 8) :
    s.cycleReport = s.reportMade.updBeacon fun b =>
      { b with oneShot := if s.beacon.cycleMode = .oneShot then b.oneShot - 1 else b.oneShot } := by
  have hmade := State.askReport_success hp hf hl
  by_cases hmode : s.beacon.cycleMode = .oneShot
  · simp only [State.cycleReport, hasks, hmade, hmode, if_true, and_self]
  · simp only [State.cycleReport, hasks, hmade, hmode, if_true, false_and, if_false]
    rfl

theorem State.asksReport_iff (s : State) : s.asksReport = true ↔ s.partState = .run
    ∧ ((s.beacon.cycleMode = .continuous ∧ ((∃ r ∈ s.faults.records, r.acked < r.count) ∨ s.faults.overflow = true))
      ∨ (s.beacon.cycleMode = .oneShot ∧ 0 < s.beacon.oneShot)) := by
  unfold State.asksReport
  rw [Bool.and_eq_true, beq_iff_eq]
  refine and_congr_right fun _ => ?_
  cases hmode : s.beacon.cycleMode with
  | idle => simp
  | oneShot => simp
  | continuous => simp [FaultRecord.unacked]

/-- Settles O21: the beacon's cycle ends, with a report made when one is asked for. -/
theorem beaconCycleEndReports : Obligations.BeaconCycleEndReports := by
  unfold Obligations.BeaconCycleEndReports
  refine ⟨rfl, fun _ => rfl, rfl, rfl, rfl, rfl, fun s hrunning hzero hstate hfree hroom => ?_⟩
  intro asks
  have hdue : s.cycleDue = true := by simp [State.cycleDue, hrunning, hzero, hstate]
  have hend := State.endCycle_eq hdue
  by_cases hasks : s.asksReport = true
  · have hrun : s.partState = .run := ((State.asksReport_iff s).mp hasks).1
    have hreport := State.cycleReport_made hasks (by rw [hrun]; rfl) hfree hroom
    obtain ⟨hnext, hmarker, honeShot⟩ := Beacon.ended_keeps s.cycleReport.beacon
    have hbeacon : s.endCycle.beacon = s.cycleReport.beacon.ended := by rw [hend]; rfl
    refine ⟨s.endCycle, rfl, fun hlast => ?_, fun hgoes => ?_, fun hnot => absurd ((State.asksReport_iff s).mp hasks) hnot,
      fun _ => ⟨s.reportRecords, List.length_take_le .., fun r hr => State.mem_reportRecords hr,
        fun hlen r hr hu => State.reportRecords_all hlen hr hu, fun hnone => ?_, fun pre m post hs hm hpre => ?_, fun hempty => ?_,
        fun r hr => ?_, ?_, ?_, ?_, fun hclear => ?_, fun hover => ?_, ?_, ?_⟩⟩
    · have hlast' : s.cycleReport.beacon.lastCycle = true := by rw [hreport]; exact hlast
      rw [hbeacon, Beacon.ended, if_pos hlast']
      exact ⟨rfl, rfl⟩
    · have hgoes' : ¬ s.cycleReport.beacon.lastCycle = true := by rw [hreport]; exact ne_true_of_eq_false hgoes
      rw [hbeacon, Beacon.ended, if_neg hgoes', hreport]
      exact ⟨hrunning, rfl, rfl⟩
    · rw [State.reportRecords, hnone, FaultRecord.unacked_eq]
      rfl
    · rw [State.reportRecords, hm, hs, walkFrom_split hpre, FaultRecord.unacked_eq]
    · rw [hbeacon, hmarker, hreport]
      simp [State.reportMade, hempty]
    · rw [hbeacon, hmarker, hreport]
      simp [State.reportMade, hr]
    · rw [hend, hreport]
      rfl
    · rw [hend, hreport, ← faultReportBytes_eq]
      rfl
    · rw [hend, hreport]
      rfl
    · rw [hend, hreport]
      exact if_neg (ne_true_of_eq_false hclear)
    · rw [hend, hreport]
      exact if_pos hover
    · rw [hbeacon, hnext, hreport]
      rfl
    · rw [hbeacon, honeShot, hreport]
      rfl
  · have hreport : s.cycleReport = s := if_neg hasks
    obtain ⟨hnext, hmarker, honeShot⟩ := Beacon.ended_keeps s.beacon
    rw [hreport] at hend
    refine ⟨s.endCycle, rfl, fun hlast => ?_, fun hgoes => ?_, fun _ => ?_, fun h => absurd ((State.asksReport_iff s).mpr h) hasks⟩
    · rw [hend, State.updBeacon_beacon, Beacon.ended, if_pos hlast]
      exact ⟨rfl, rfl⟩
    · rw [hend, State.updBeacon_beacon, Beacon.ended, if_neg (ne_true_of_eq_false hgoes)]
      exact ⟨hrunning, rfl, rfl⟩
    · rw [hend]
      exact ⟨rfl, hnext, hmarker, honeShot⟩

/-! ### A fault cleared (R151) -/

/-- After a clear no ACTIVE record of its kind and subject stands in a lawful list. -/
theorem State.clearFault_cleared {s : State} (hlaw : s.FaultListLaw) (k : FaultKind) (x : Subject) :
    ∀ f ∈ (s.clearFault k x).faults.records, f.kind = k → f.subject = x → f.active = false := by
  intro f hf hkind hsubject
  obtain ⟨-, hnodup, -⟩ := hlaw
  unfold State.clearFault at hf
  split at hf
  next r hfind =>
    split at hf
    next hactive =>
      simp only [State.latchFault_frame, State.armOneShot_frame, State.updRecord, State.updFaults_faults] at hf
      obtain ⟨q, hq, rfl⟩ := List.mem_map.mp hf
      by_cases hhit : q.hits k x = true
      · rw [if_pos hhit]
        rfl
      · rw [if_neg hhit] at hkind hsubject
        exact absurd ((FaultRecord.hits_iff k x q).mpr ⟨hkind, hsubject⟩) hhit
    next hactive =>
      have hr := List.mem_of_find?_eq_some hfind
      obtain ⟨hrk, hrx⟩ := (FaultRecord.hits_iff k x r).mp (List.find?_some hfind)
      have hsame : f = r := List.inj_on_of_nodup_map hnodup hf hr (by rw [hkind, hsubject, hrk, hrx])
      rw [hsame]
      exact Bool.eq_false_iff.mpr hactive
  next hfind =>
    exact absurd ((FaultRecord.hits_iff k x f).mpr ⟨hkind, hsubject⟩) (List.find?_eq_none.mp hfind f hf)

/-! ### The local loop (O34) -/

/-- A test frame passes exactly when nothing upsets the engine. -/
theorem testPasses_eq (k : Nat) (a : BitVec 64) (b : BitVec 512) : testPasses k a b = decide (a = 0 ∧ b = 0) := by
  have hundone : encipher Config.testKey ((testHeader k).fields .outbound)
      (encipher Config.testKey ((testHeader k).fields .outbound) testPattern) = testPattern := encipher_encipher ..
  have htag : ∀ x : BitVec 64, x ^^^ a = x ↔ a = 0 := fun x => by simp
  have htext : ∀ x : BitVec 512, x ^^^ b = x ↔ b = 0 := fun x => by simp
  rw [testPasses, hundone, Bool.eq_iff_iff, Bool.and_eq_true, beq_iff_eq, beq_iff_eq, htag, htext, decide_eq_true_iff]

theorem exec_localLoop {s : State} (w2 : Word) (h : s.lPort.cmd = .idle) :
    exec (.localLoop .l w2) s = .next (localLoop .l w2 s) :=
  congrArg Host.Outcome.next (State.writeCommandWords_permitted (p := .l) (args := [w2]) .localLoop h rfl rfl)

theorem State.outboundPick_test {s : State} (hroom : s.lTx.length < 32) (hctrl : s.ctrl = []) {q : TestRecord}
    (htest : s.link.test = some q) (hoffered : q.offered = true) : s.outboundPick = some .test := by
  have hfree : s.lTxRoom = true := decide_eq_true hroom
  have hoffer : s.testOffered = true := by simp [State.testOffered, htest, hoffered]
  simp [State.outboundPick, hfree, hctrl, hoffer]

/-- The part with its test at an end, before the fault events of R112. -/
def State.testAnswered (s : State) (r : TestRecord) : State :=
  s.respond .l .done [word4 r.requested r.run r.passed (numberCode r.firstFail)]

theorem State.endTest_failed {s : State} {r : TestRecord} (hfailed : r.passed < r.run) (hmark : s.link.selfCheckMark = false) :
    s.endTest r = (((s.testAnswered r).raiseFault .selfCheckFail .nothing).updLink
      fun l => { l with selfCheckMark := true }).updLink fun l => { l with test := none } :=
  congrArg (State.updLink fun l => { l with test := none }) (if_pos ⟨hfailed, hmark⟩)

theorem State.endTest_released {s : State} {r : TestRecord} (hpassed : r.passed = r.run) (hfull : r.run = r.requested)
    (hmark : s.link.selfCheckMark = true) :
    s.endTest r = (((s.testAnswered r).clearFault .selfCheckFail .nothing).updLink
      fun l => { l with selfCheckMark := false }).updLink fun l => { l with test := none } :=
  congrArg (State.updLink fun l => { l with test := none })
    ((if_neg fun h => by omega).trans (if_pos ⟨hpassed, hfull, hmark⟩))

theorem State.endTest_quiet {s : State} {r : TestRecord} (hno : ¬ (r.passed < r.run ∧ s.link.selfCheckMark = false))
    (hnot : ¬ (r.passed = r.run ∧ r.run = r.requested ∧ s.link.selfCheckMark = true)) :
    s.endTest r = (s.testAnswered r).updLink fun l => { l with test := none } :=
  congrArg (State.updLink fun l => { l with test := none }) ((if_neg hno).trans (if_neg hnot))

theorem State.testAnswered_state (s : State) (r : TestRecord) : s.testAnswered r = { s with
    lPort := s.lPort.withAnswer .done [word4 r.requested r.run r.passed (r.firstFail.getD 0)] } := by
  rw [State.testAnswered, State.respond_eq, numberCode_eq]
  rfl

theorem State.sameButFaults.updLink {s t : State} (h : s.sameButFaults t) (f : LinkWatch → LinkWatch) :
    (s.updLink f).sameButFaults (t.updLink f) := by
  rw [State.sameButFaults] at h ⊢
  rw [h]
  rfl

/-- The record after a result (R111). -/
theorem TestRecord.result_eq (k : Nat) (a : BitVec 64) (b : BitVec 512) (q : TestRecord) :
    q.result k (testPasses k a b) = { q with
      run := q.run + 1, passed := if a = 0 ∧ b = 0 then q.passed + 1 else q.passed
      firstFail := if (a = 0 ∧ b = 0) ∨ q.firstFail.isSome then q.firstFail else some k
      next := k + 1, offered := false } := by
  rw [testPasses_eq, TestRecord.result]
  by_cases hpass : a = 0 ∧ b = 0
  · have hfirst : (if (a = 0 ∧ b = 0) ∨ q.firstFail.isSome then q.firstFail else some k) = q.firstFail := if_pos (.inl hpass)
    rw [decide_eq_true hpass, if_pos hpass, hfirst]
    rfl
  · have hfirst : (if (a = 0 ∧ b = 0) ∨ q.firstFail.isSome then q.firstFail else some k) = q.firstFail.or (some k) := by
      cases q.firstFail with
      | none => exact if_neg fun h => h.elim hpass nofun
      | some j => exact if_pos (.inr rfl)
    rw [decide_eq_false hpass, if_neg hpass, hfirst]
    rfl

theorem State.completeTest_eq {s : State} {q : TestRecord} {k : Nat} (hwork : s.engine.work = some (.test k))
    (htest : s.link.test = some q) (a : BitVec 64) (b : BitVec 512) :
    s.completeTest a b =
      if k + 1 ≤ q.requested then
        (s.setWork none).updLink fun l => { l with test := some { q.result k (testPasses k a b) with offered := true } }
      else (s.setWork none).endTest (q.result k (testPasses k a b)) := by
  simp only [State.completeTest, hwork, htest]
  rfl

/-- Settles O34: the command, the start, a result that is not the last, and the end of the test. -/
theorem localLoopRunsItsTest : Obligations.LocalLoopRunsItsTest := by
  unfold Obligations.LocalLoopRunsItsTest
  refine ⟨fun s w2 hidle hstate hlow hhigh => ?_, fun s w2 st hidle hcheck => ?_, fun s q hidle hstate hroom hctrl htest hoffered
    hturn => ?_, fun s q r k a b hwork htest hr => ⟨fun hmore => ?_, fun hlast => ?_⟩⟩
  · have hnot : ¬ (s.partState = .boot ∨ s.partState = .failed ∨ s.partState = .quiesced) := by
      rcases hstate with h | h | h <;> simp [h]
    rw [exec_localLoop w2 hidle, localLoop, if_neg hnot, if_neg (by omega)]
    rfl
  · have hrefused : localLoop .l w2 s = s.refuse .l st := by
      rcases hcheck with ⟨hstate, rfl⟩ | ⟨hstate, hrange, rfl⟩
      · exact if_pos hstate
      · have hnot : ¬ (s.partState = .boot ∨ s.partState = .failed ∨ s.partState = .quiesced) := by
          rcases hstate with h | h | h <;> simp [h]
        exact (if_neg hnot).trans (if_pos hrange)
    rw [exec_localLoop w2 hidle, hrefused, State.refuse_eq]
    rfl
  · have hpick : s.pick = some .test := State.pick_of_outbound hidle hstate hturn
      (State.outboundPick_test hroom hctrl htest hoffered)
    have hstart : s.startTest = (s.setDirection .outbound).setWork (some (.test q.next)) := by
      simp only [State.startTest, if_pos hpick, htest]
    rw [show exec .testStart s = .next s.startTest from rfl, hstart]
    rfl
  · rw [show exec (.testCompletion a b) s = .next (s.completeTest a b) from rfl, State.completeTest_eq hwork htest,
      if_pos (show k + 1 ≤ q.requested from hmore), TestRecord.result_eq, hr]
    rfl
  · have hresult : q.result k (testPasses k a b) = { r with offered := false } := by rw [TestRecord.result_eq, hr]
    have hrequested : r.requested = q.requested := by rw [hr]
    have hend : s.completeTest a b = (s.setWork none).endTest { r with offered := false } := by
      rw [State.completeTest_eq hwork htest, if_neg (by omega), hresult]
    have hanswered : ∀ mark, ({ s with
        engine := { s.engine with work := none }, link := { s.link with test := none, selfCheckMark := mark }
        lPort := s.lPort.withAnswer .done [word4 q.requested r.run r.passed (r.firstFail.getD 0)] } : State)
        = (((s.setWork none).testAnswered { r with offered := false }).updLink
            fun l => { l with selfCheckMark := mark }).updLink fun l => { l with test := none } := fun mark => by
      rw [State.testAnswered_state, ← hrequested]
      rfl
    by_cases hfailed : r.passed < r.run ∧ s.link.selfCheckMark = false
    · have hT := hend.trans (State.endTest_failed (s := s.setWork none) (r := { r with offered := false }) hfailed.1 hfailed.2)
      refine ⟨_, congrArg Host.Outcome.next hT, ?_, fun _ => ⟨rfl, fun _ => ?_, fun hmark => ?_⟩, fun hpassed => ?_⟩
      · exact (hanswered true) ▸ ((State.raiseFault_same ..).updLink _).updLink _
      · exact State.raiseFault_stands .selfCheckFail .nothing _
      · exact absurd (hfailed.2.symm.trans hmark) Bool.false_ne_true
      · exact absurd hpassed (Nat.ne_of_lt hfailed.1)
    · by_cases hreleased : r.passed = r.run ∧ r.run = q.requested ∧ s.link.selfCheckMark = true
      · obtain ⟨hpassed, hfull, hmark⟩ := hreleased
        have hT := hend.trans (State.endTest_released (s := s.setWork none) (r := { r with offered := false }) hpassed
          (hfull.trans hrequested.symm) hmark)
        refine ⟨_, congrArg Host.Outcome.next hT, ?_, fun hless => ?_, fun _ _ => ⟨rfl, fun _ hlaw => ?_, fun hclear => ?_⟩⟩
        · exact (hanswered false) ▸ ((State.clearFault_same ..).updLink _).updLink _
        · omega
        · refine State.clearFault_cleared (s := (s.setWork none).testAnswered { r with offered := false }) ?_ _ _
          exact hlaw.congr (by rw [State.testAnswered_state]; rfl) (by rw [State.testAnswered_state]; rfl)
        · exact absurd (hclear.symm.trans hmark) Bool.false_ne_true
      · have hT := hend.trans (State.endTest_quiet (s := s.setWork none) (r := { r with offered := false }) hfailed
          fun h => hreleased ⟨h.1, h.2.1.trans hrequested, h.2.2⟩)
        have hfaults : ((s.setWork none).testAnswered { r with offered := false }).faults = s.faults := by
          rw [State.testAnswered_state]; rfl
        have hlink : ((s.setWork none).testAnswered { r with offered := false }).link = s.link := by
          rw [State.testAnswered_state]; rfl
        refine ⟨_, congrArg Host.Outcome.next hT, ?_, fun hless => ⟨?_, fun hmark => ?_, fun _ => hfaults⟩,
          fun hpassed hfull => ⟨?_, fun hmark => ?_, fun _ => hfaults⟩⟩
        · rw [State.sameButFaults, State.testAnswered_state, ← hrequested]
          rfl
        · refine (congrArg LinkWatch.selfCheckMark hlink).trans ?_
          exact Bool.not_eq_false _ ▸ fun hmark => hfailed ⟨hless, hmark⟩
        · exact absurd ⟨hless, hmark⟩ hfailed
        · refine (congrArg LinkWatch.selfCheckMark hlink).trans ?_
          exact Bool.not_eq_true _ ▸ fun hmark => hreleased ⟨hpassed, hfull, hmark⟩
        · exact absurd ⟨hpassed, hfull, hmark⟩ hreleased

end Sys2Proof.Machine
end

section
/-! PROOFS. Opening a channel (R11 to R13): its checks as a list taken in order, and what a passed open does (O42). -/

namespace Sys2Proof.Machine

/-! ### Checks in order -/

/-- The status of the first check that fails. -/
def firstFailing (checks : List (Bool × Status)) : Option Status := (checks.find? (·.1)).map (·.2)

theorem firstFailing_cons (b : Bool) (st : Status) (l : List (Bool × Status)) :
    firstFailing ((b, st) :: l) = if b = true then some st else firstFailing l := by
  cases b <;> simp [firstFailing]

theorem firstFailing_nil : firstFailing [] = none := rfl

theorem firstFailing_of_find {checks : List (Bool × Status)} {c : Bool × Status} (h : checks.find? (·.1) = some c) :
    firstFailing checks = some c.2 := by rw [firstFailing, h]; rfl

theorem firstFailing_eq_none {checks : List (Bool × Status)} (h : ∀ c ∈ checks, c.1 = false) : firstFailing checks = none := by
  rw [firstFailing, List.find?_eq_none.mpr fun c hc => by rw [h c hc]; decide]
  rfl

theorem firstFailing_isSome {checks : List (Bool × Status)} {c : Bool × Status} (hc : c ∈ checks) (h : c.1 = true) :
    ∃ st, firstFailing checks = some st := by
  cases hfind : checks.find? (·.1) with
  | some d => exact ⟨d.2, firstFailing_of_find hfind⟩
  | none => exact absurd h (List.find?_eq_none.mp hfind c hc)

/-! ### The checks of an open (R11 to R13) -/

/-- The checks that the open of a request goes through; head office's leave out those that give REFUSED_PORT. -/
def State.requestChecks (s : State) (office : Bool) (q : OpenRequest) : List (Bool × Status) :=
  (s.openChecks q.index q.kind q.level q.ref).filter fun c => !office || c.2 != .refusedPort

theorem State.openCheck_eq (s : State) (office : Bool) (q : OpenRequest) :
    s.openCheck office q = firstFailing (s.requestChecks office q) := by
  unfold State.openCheck State.requestChecks State.openChecks
  by_cases hkind : q.kind = 1
  · cases office <;>
      simp [hkind, firstFailing_cons, firstFailing_nil]
  · cases office <;>
      simp [hkind, firstFailing_cons, firstFailing_nil]

/-- The checks of an open that passes say where its request points. -/
structure State.OpenFits (s : State) (q : OpenRequest) : Prop where
  low : 1 ≤ q.index
  high : q.index ≤ 47
  empty : (s.chan q.index).kind = .empty
  kind : q.kind = 1 ∨ q.kind = 2
  slot : q.kind = 1 → 1 ≤ q.ref ∧ q.ref ≤ 23
  target : q.kind = 2 → q.ref ≤ 47 ∧ (s.chan q.ref).kind ≠ .empty

theorem State.openFits_of_checks {s : State} {office : Bool} {q : OpenRequest}
    (h : ∀ c ∈ s.requestChecks office q, c.1 = false) : s.OpenFits q := by
  have hpass : ∀ c, c ∈ s.openChecks q.index q.kind q.level q.ref → c.2 ≠ .refusedPort → c.1 = false := fun c hc hne =>
    h c (List.mem_filter.mpr ⟨hc, by simp [hne]⟩)
  have hindex := hpass (q.index == 0 || decide (47 < q.index), .refusedRange) (by simp [State.openChecks]) (by simp)
  have hempty := hpass ((s.chan q.index).kind != .empty, .refusedState) (by simp [State.openChecks]) (by simp)
  have hkind := hpass ((q.kind != 1 && q.kind != 2) || decide (3 < q.level), .refusedRange)
    (by simp [State.openChecks]) (by simp)
  simp at hindex hempty hkind
  refine ⟨by omega, by omega, hempty, by tauto, fun h1 => ?slot, fun h2 => ?target⟩
  case slot =>
    have href := hpass (q.ref == 0 || decide (23 < q.ref), .refusedRange) (by simp [State.openChecks, h1]) (by simp)
    simp at href
    omega
  case target =>
    have href := hpass (q.ref == 0 || decide (47 < q.ref), .refusedRange) (by simp [State.openChecks, h2]) (by simp)
    have hne := hpass ((s.chan q.ref).kind == .empty, .notFound) (by simp [State.openChecks, h2]) (by simp)
    simp at href hne
    exact ⟨href.2, hne⟩

theorem State.requestChecks_port (s : State) (q : OpenRequest) :
    s.requestChecks false q = s.openChecks q.index q.kind q.level q.ref := List.filter_eq_self.mpr fun _ _ => rfl

/-! ### The open -/

theorem State.openChannel_state (q : OpenRequest) (s : State) :
    s.openChannel q = { s with chans := (s.openChannel q).chans, slots := (s.openChannel q).slots } := by
  unfold State.openChannel
  split_ifs <;> rfl

theorem State.openChannel_openedFrom {s : State} {q : OpenRequest} (h : s.OpenFits q) :
    (s.openChannel q).openedFrom s q.index q.kind q.level q.ref q.flags := by
  have hindex : q.index < 48 := Nat.lt_succ_of_le h.high
  refine ⟨fun h1 => ?data, fun h2 => ?aliased⟩
  case data =>
    have hopen : s.openChannel q = _ := if_pos h1
    obtain ⟨hlow, hhigh⟩ := h.slot h1
    rw [hopen]
    refine ⟨by simp [State.addRefs, State.chan_setChan, hindex], fun j hj => by simp [State.addRefs, State.chan_setChan, hj],
      fun y => ?_⟩
    by_cases hy : y = q.ref
    · simp [State.addRefs, State.slot_updSlot, hy, hlow, hhigh]
    · simp [State.addRefs, State.slot_updSlot, hy]
  case aliased =>
    have hopen : s.openChannel q = _ := if_neg (by omega)
    obtain ⟨href, hkind⟩ := h.target h2
    have hne : q.index ≠ q.ref := fun he => hkind (he ▸ h.empty)
    rw [hopen]
    refine ⟨by simp, by simp [State.chan_updChan, State.chan_setChan, hindex, hne], fun j hj => ?_⟩
    by_cases href' : j = q.ref
    · simp [State.chan_updChan, State.chan_setChan, href', Nat.lt_succ_of_le href, Ne.symm hne]
    · simp [State.chan_updChan, State.chan_setChan, href', hj]

/-! ### CHANNEL OPEN and the order to open -/

/-- The flag byte of a CHANNEL OPEN is bits 0 to 2 of its second word (R185). -/
theorem flagsOf_fieldD (w : Word) :
    flagsOf (fieldD w) = { hold := w.getLsbD 0, notify := w.getLsbD 1, urgent := w.getLsbD 2 } := by
  simp (disch := omega) only [flagsOf, getLsbD_fieldD]

theorem exec_channelOpen {s : State} (w2 w3 : Word) (h : s.sPort.cmd = .idle) :
    exec (.channelOpen .s w2 w3) s = .next (channelOpen .s w2 w3 s) :=
  congrArg Host.Outcome.next (State.writeCommandWords_permitted (p := .s) (args := [w2, w3]) .channelOpen h rfl rfl)

theorem channelOpen_of_some {s : State} {w2 w3 : Word} {st : Status}
    (h : s.openCheck false (openRequestOf w2 w3) = some st) : channelOpen .s w2 w3 s = s.refuse .s st := by
  rw [channelOpen, h]

theorem channelOpen_of_none {s : State} {w2 w3 : Word} (h : s.openCheck false (openRequestOf w2 w3) = none) :
    channelOpen .s w2 w3 s = (s.openChannel (openRequestOf w2 w3)).respond .s .done [] := by
  rw [channelOpen, h]

theorem takeOrder_open_of_some {s : State} {q : OpenRequest} {st : Status} (h : s.openCheck true q = some st) :
    s.takeOrder true q = s.countOrder false := by rw [State.takeOrder, if_pos rfl, h]

theorem takeOrder_open_of_none {s : State} {q : OpenRequest} (h : s.openCheck true q = none) :
    s.takeOrder true q = (s.openChannel q).countOrder true := by rw [State.takeOrder, if_pos rfl, h]

/-- Settles O42: the answer is that of the first check that fails; with none failing the channel is opened. -/
theorem channelOpenBinds : Obligations.ChannelOpenBinds := by
  refine ⟨?port, ?office⟩
  case port =>
    rintro s w2 w3 _ hidle rfl
    rw [exec_channelOpen w2 w3 hidle]
    have hcheck := s.openCheck_eq false (openRequestOf w2 w3)
    have hlist : s.requestChecks false (openRequestOf w2 w3) = s.openChecks (fieldA w2) (fieldB w2) (fieldC w2) (fieldD w2) :=
      s.requestChecks_port _
    refine ⟨fun c hc => ?_, fun hall => ?_⟩
    · rw [channelOpen_of_some (hcheck.trans (firstFailing_of_find (hlist ▸ hc)))]
      rfl
    · have hpass := channelOpen_of_none (hcheck.trans (firstFailing_eq_none (hlist ▸ hall)))
      refine ⟨_, rfl, ?_, ?_⟩
      · rw [hpass, State.openChannel_state]
        rfl
      · rw [hpass, ← flagsOf_fieldD]
        exact State.openChannel_openedFrom (State.openFits_of_checks (hlist ▸ hall))
  case office =>
    rintro s q _ rfl
    refine ⟨fun c hc hfail => ?_, fun hall => ?_⟩
    · obtain ⟨st, hst⟩ := firstFailing_isSome hc hfail
      exact takeOrder_open_of_some ((s.openCheck_eq true q).trans hst)
    · have hpass := takeOrder_open_of_none ((s.openCheck_eq true q).trans (firstFailing_eq_none hall))
      have hfits := State.openFits_of_checks (office := true) hall
      refine ⟨_, rfl, ?_, ?_⟩
      · rw [State.takeMessage, hpass, State.openChannel_state]
        rfl
      · rw [State.takeMessage, hpass]
        exact State.openChannel_openedFrom hfits

end Sys2Proof.Machine
end

section
/-! PROOFS. Closing a channel (R14, R15): the frames removed from S-in, and what a close of either kind leaves (O43). -/

namespace Sys2Proof.Machine

/-! ### Frames removed (R14 step 1) -/

/-- The notice a removed frame leaves. -/
def ShopFrame.notice (f : ShopFrame) : OutFrame :=
  { channel := f.channel, level := f.level, length := f.length, refusal := some .noChannel }

/-- What the removal of frames leaves as it was: all but S-out, the free set and what a fault event changes. -/
def State.sameButReturned (t s : State) : Prop :=
  t = { s with
    sOut := t.sOut, pool := { s.pool with free := t.pool.free, low := t.pool.low }, faults := t.faults
    beacon := t.beacon, sPort := { s.sPort with faultCause := t.sPort.faultCause }
    lPort := { s.lPort with faultCause := t.lPort.faultCause } }

theorem State.sameButReturned.trans {s t u : State} (htu : u.sameButReturned t) (hst : t.sameButReturned s) :
    u.sameButReturned s := by
  rw [State.sameButReturned] at *
  rw [htu, hst]

theorem State.noticeOrFree_same (f : ShopFrame) (why : RefuseReason) (s : State) :
    (s.noticeOrFree f why).sameButReturned s := by
  by_cases h : s.givesNotice f
  · rw [State.noticeOrFree_notice h]
    rfl
  · rw [State.noticeOrFree_free h]
    exact s.returnBuffer_state.trans (by rw [s.returnBuffer_state])

/-- The frames of a list hand back their buffers one after another. -/
def State.noticeAll (l : List ShopFrame) (s : State) : State := l.foldl (fun u f => u.noticeOrFree f .noChannel) s

/-- Between s and t the frames of l have handed back their buffers, those with NOTIFY as notices as far as S-out has
places. -/
structure State.HandsBack (s t : State) (l : List ShopFrame) : Prop where
  same : t.sameButReturned s
  sOut : t.sOut = s.sOut
    ++ ((l.filter fun f => (s.chan f.channel).flags.notify).take (32 - s.sOutTaken)).map ShopFrame.notice
  buffers : t.pool.free + t.sOut.length = s.pool.free + s.sOut.length + l.length

theorem State.noticeAll_handsBack {l : List ShopFrame} {s : State} (hopen : ∀ f ∈ l, s.isOpenIndex f.channel = true) :
    s.HandsBack (s.noticeAll l) l := by
  induction l generalizing s with
  | nil => exact ⟨rfl, by simp [State.noticeAll], by simp [State.noticeAll]⟩
  | cons f l ih =>
    have hsame := s.noticeOrFree_same f .noChannel
    have hchan : ∀ j, (s.noticeOrFree f .noChannel).chan j = s.chan j := fun j => by rw [hsame]; rfl
    have hset : (s.noticeOrFree f .noChannel).pool.setAside = s.pool.setAside := by rw [hsame]
    have hrest := ih (s := s.noticeOrFree f .noChannel) fun g hg => by
      rw [State.isOpenIndex, hchan]
      exact hopen g (List.mem_cons_of_mem _ hg)
    have htaken : (s.noticeOrFree f .noChannel).sOutTaken
        = (s.noticeOrFree f .noChannel).sOut.length + s.pool.setAside.toNat := by rw [State.sOutTaken, hset]
    have hsOut := hrest.sOut
    have hbuffers := hrest.buffers
    simp only [hchan, htaken] at hsOut
    have hstep : s.noticeAll (f :: l) = (s.noticeOrFree f .noChannel).noticeAll l := rfl
    rw [hstep]
    generalize (s.noticeOrFree f .noChannel).noticeAll l = t at hsOut hbuffers hrest
    refine ⟨hrest.same.trans hsame, ?sOut, ?buffers⟩
    case sOut =>
      by_cases hgives : s.givesNotice f
      · obtain ⟨-, hnotify, hroom⟩ := id hgives
        rw [State.noticeOrFree_notice hgives] at hsOut
        have hplaces : 32 - s.sOutTaken = 32 - (s.sOut.length + 1 + s.pool.setAside.toNat) + 1 := by
          rw [State.sOutTaken]; omega
        rw [List.filter_cons, if_pos hnotify, hplaces, List.take_succ_cons]
        simpa [ShopFrame.notice] using hsOut
      · rw [State.noticeOrFree_free hgives, State.returnBuffer_state] at hsOut
        refine hsOut.trans ?_
        by_cases hnotify : (s.chan f.channel).flags.notify = true
        · have hfull : 32 - s.sOutTaken = 0 := by
            have hno : ¬ s.sOut.length + s.pool.setAside.toNat < 32 := fun hroom =>
              hgives ⟨(s.isOpenIndex_iff _).mp (hopen f List.mem_cons_self), hnotify, hroom⟩
            rw [State.sOutTaken]; omega
          rw [hfull]
          simp only [State.sOutTaken] at hfull
          simp [hfull]
        · rw [List.filter_cons, if_neg hnotify]
          rfl
    case buffers =>
      by_cases hgives : s.givesNotice f
      · rw [State.noticeOrFree_notice hgives] at hbuffers
        simp [List.length_append] at hbuffers
        simp only [List.length_cons]
        omega
      · rw [State.noticeOrFree_free hgives, State.returnBuffer_state] at hbuffers
        dsimp only at hbuffers
        simp only [List.length_cons]
        omega

/-! ### The push of a removed frame (R65) -/

/-- The frames left in S-in, and the push of a removed one ended. -/
def State.dropFrames (q : ShopFrame → Bool) (s : State) : State :=
  let t := s.updSIn fun l => l.filter fun f => !q f
  if (s.sIn.filter q).any fun f => !f.complete then t.endPush .s else t

theorem State.removeShopFrames_eq (q : ShopFrame → Bool) (s : State) :
    s.removeShopFrames q = (s.dropFrames q).noticeAll (s.sIn.filter q) := rfl

theorem any_filling_iff (q : ShopFrame → Bool) (l : List ShopFrame) :
    ((l.filter q).any fun f => !f.complete) = true ↔ ∃ f ∈ l, q f = true ∧ f.complete = false := by
  simp

theorem State.dropFrames_of_complete {q : ShopFrame → Bool} {s : State} (h : ∀ f ∈ s.sIn, q f = true → f.complete = true) :
    s.dropFrames q = s.updSIn fun l => l.filter fun f => !q f := by
  refine if_neg ?_
  rw [any_filling_iff]
  rintro ⟨f, hf, hq, hfilling⟩
  exact absurd (h f hf hq) (by rw [hfilling]; decide)

theorem State.dropFrames_of_filling {q : ShopFrame → Bool} {s : State} (h : ∃ f ∈ s.sIn, q f = true ∧ f.complete = false) :
    s.dropFrames q = (s.updSIn fun l => l.filter fun f => !q f).endPush .s := if_pos ((any_filling_iff q s.sIn).mpr h)

theorem State.endPush_s_state (s : State) :
    s.endPush .s = { s with sPort := { s.sPort with
      push := (s.endPush .s).sPort.push, lostPush := (s.endPush .s).sPort.lostPush } } := by
  have hkept : (∀ n, s.sPort.push ≠ .frame n) → s.endPush .s = s := fun hno => by
    rcases hpush : s.sPort.push with _ | n | n
    · simp only [State.endPush, State.port, hpush]
    · exact absurd hpush (hno n)
    · simp only [State.endPush, State.port, hpush]
  by_cases hframe : ∃ n, s.sPort.push = .frame n
  · obtain ⟨n, hn⟩ := hframe
    rw [State.endPush_of_frame (p := .s) hn]
    rfl
  · rw [hkept (not_exists.mp hframe)]

theorem State.dropFrames_state (q : ShopFrame → Bool) (s : State) :
    s.dropFrames q = { s with
      sIn := s.sIn.filter fun f => !q f
      sPort := { s.sPort with
        push := (s.dropFrames q).sPort.push, lostPush := (s.dropFrames q).sPort.lostPush } } := by
  by_cases h : ∃ f ∈ s.sIn, q f = true ∧ f.complete = false
  · rw [State.dropFrames_of_filling h, State.endPush_s_state]
    rfl
  · rw [State.dropFrames_of_complete fun f hf hq => by
      by_contra hne
      exact h ⟨f, hf, hq, by simpa using hne⟩]
    rfl

/-! ### The removal -/

theorem State.sameButClosed_of_returned {s t u : State} (hut : u.sameButReturned t)
    (hts : t = { s with
      sIn := t.sIn, sPort := { s.sPort with push := t.sPort.push, lostPush := t.sPort.lostPush } }) :
    u.sameButClosed s := by
  rw [State.sameButReturned] at hut
  rw [State.sameButClosed, hut, hts]

theorem length_filter_split (q : ShopFrame → Bool) (l : List ShopFrame) :
    (l.filter fun f => !q f).length + (l.filter q).length = l.length := by
  induction l with
  | nil => rfl
  | cons f l ih => cases hq : q f <;> simp [hq] <;> omega

theorem State.removeShopFrames_spec {q : ShopFrame → Bool} {s : State}
    (hopen : ∀ f ∈ s.sIn, q f = true → s.isOpenIndex f.channel = true) :
    (s.removeShopFrames q).sameButClosed s ∧ (s.removeShopFrames q).framesRemoved s q := by
  rw [State.removeShopFrames_eq]
  have hdrop := s.dropFrames_state q
  have hchan : ∀ j, (s.dropFrames q).chan j = s.chan j := fun j => by rw [hdrop]; rfl
  have htaken : (s.dropFrames q).sOutTaken = s.sOutTaken := by rw [hdrop]; rfl
  have hback := State.noticeAll_handsBack (l := s.sIn.filter q) (s := s.dropFrames q) fun f hf => by
    rw [State.isOpenIndex, hchan]
    exact hopen f (List.mem_of_mem_filter hf) (List.of_mem_filter hf)
  obtain ⟨hsame, hsOut, hbuffers⟩ := hback
  simp only [hchan, htaken, List.filter_filter] at hsOut
  generalize (s.dropFrames q).noticeAll (s.sIn.filter q) = u at hsame hsOut hbuffers
  have hpush : u.sPort.push = (s.dropFrames q).sPort.push ∧ u.sPort.lostPush = (s.dropFrames q).sPort.lostPush := by
    rw [State.sameButReturned] at hsame
    constructor <;> rw [hsame]
  have hsIn : u.sIn = s.sIn.filter fun f => !q f := by
    rw [State.sameButReturned] at hsame
    rw [hsame, hdrop]
  have hfree : (s.dropFrames q).pool = s.pool ∧ (s.dropFrames q).sOut = s.sOut := by rw [hdrop]; exact ⟨rfl, rfl⟩
  refine ⟨State.sameButClosed_of_returned hsame (hdrop.trans (by rw [hdrop])), hsIn, ?notices, ?buffers, ?kept, ?ended⟩
  case notices =>
    rw [hsOut, hfree.2]
    simp only [Bool.and_comm]
    rfl
  case buffers =>
    have hlen := length_filter_split q s.sIn
    rw [hfree.1, hfree.2] at hbuffers
    rw [hsIn]
    omega
  case kept =>
    intro h
    rw [hpush.1, hpush.2, State.dropFrames_of_complete h]
    exact ⟨rfl, rfl⟩
  case ended =>
    intro n hn h
    rw [hpush.1, hpush.2, State.dropFrames_of_filling h]
    have hend := State.endPush_of_frame (s := s.updSIn fun l => l.filter fun f => !q f) (p := .s) (n := n) hn
    rw [hend]
    exact ⟨rfl, rfl⟩

/-! ### The close of a DATA channel (R14) -/

/-- The frames that name channel i or an ALIAS of it. -/
def State.closesFrame (s : State) (i : Nat) (f : ShopFrame) : Bool :=
  f.channel == i || (decide (f.channel ≤ 47) && (s.chan f.channel).aliasTo i)

/-- A name given up is counted off its slot and off no other (R5). -/
theorem State.dropName_slot (o : Option Nat) (x : Nat) (s : State) :
    (s.dropName o).slot x = { s.slot x with refs := (s.slot x).refs - if o = some x then 1 else 0 } := by
  cases o with
  | none => rfl
  | some y =>
    rw [State.dropName, State.dropRefs, State.slot_updSlot]
    by_cases hxy : y = x
    · subst hxy
      by_cases hrange : 1 ≤ y ∧ y ≤ 23
      · simp [hrange]
      · simp [hrange, State.slot_out s y (by omega)]
    · simp [hxy, Ne.symm hxy]

theorem State.dropName_state (o : Option Nat) (s : State) :
    s.dropName o = { s with slots := (s.dropName o).slots } := by cases o <;> rfl

theorem State.closesFrame_open {s : State} {i : Nat} (hi : i ≤ 47) (hkind : (s.chan i).kind ≠ .empty) {f : ShopFrame}
    (h : s.closesFrame i f = true) : s.isOpenIndex f.channel = true := by
  simp only [State.closesFrame, Bool.or_eq_true, beq_iff_eq, Bool.and_eq_true, decide_eq_true_iff, Channel.aliasTo] at h
  rw [State.isOpenIndex_iff]
  obtain rfl | ⟨hle, halias, -⟩ := h
  · exact ⟨hi, hkind⟩
  · exact ⟨hle, by rw [halias]; decide⟩

/-- The descriptor of a closed DATA channel: EMPTY, or CLOSING while its frame is in the engine. -/
def Channel.closed (c : Channel) : Channel :=
  if c.inEngine then { c with state := .closing, flags := {}, aliasCount := 0, current := none, alternate := none } else {}

/-- The descriptors and slots after the frames of channel i have gone (R14). -/
def State.unbound (i : Nat) (s : State) : State :=
  let t := s.mapChans fun _ c => if c.aliasTo i then {} else c
  let t := (t.dropName (t.chan i).current).dropName (t.chan i).alternate
  t.updChan i Channel.closed

theorem State.closeData_eq (i : Nat) (s : State) : s.closeData i = (s.removeShopFrames (s.closesFrame i)).unbound i := rfl

theorem State.unbound_state (i : Nat) (s : State) :
    s.unbound i = { s with chans := (s.unbound i).chans, slots := (s.unbound i).slots } := by
  unfold State.unbound
  dsimp only
  rw [State.dropName_state, State.dropName_state]
  rfl

theorem State.unbound_chan {s : State} {i : Nat} (hi : i ≤ 47) (hkind : (s.chan i).kind ≠ .aliased) :
    (s.unbound i).chan i = (s.chan i).closed
      ∧ ∀ j, j ≠ i → (s.unbound i).chan j = if (s.chan j).aliasTo i then {} else s.chan j := by
  have hmap : ∀ j, (s.mapChans fun _ c => if c.aliasTo i then {} else c).chan j
      = if (s.chan j).aliasTo i then {} else s.chan j := fun j =>
    State.chan_mapChans_of_fixed (fun _ => rfl) j s
  have hself : (s.chan i).aliasTo i = false := by simp [Channel.aliasTo, hkind]
  refine ⟨?_, fun j hj => ?_⟩
  · rw [State.unbound, State.chan_updChan, if_pos ⟨rfl, by omega⟩]
    simp [hmap, hself]
  · rw [State.unbound, State.chan_updChan, if_neg (by simp [hj])]
    simp [hmap]

theorem State.unbound_slot {s : State} {i : Nat} (hkind : (s.chan i).kind ≠ .aliased) (x : Nat) :
    (s.unbound i).slot x = { s.slot x with refs := (s.slot x).refs - (if (s.chan i).current = some x then 1 else 0)
      - (if (s.chan i).alternate = some x then 1 else 0) } := by
  have hself : (s.mapChans fun _ c => if c.aliasTo i then {} else c).chan i = s.chan i := by
    rw [State.chan_mapChans_of_fixed fun _ => rfl]
    simp [Channel.aliasTo, hkind]
  simp only [State.unbound, State.updChan_reads, State.dropName_slot, hself, State.mapChans_reads]

theorem State.closeData_closedFrom {s : State} {i : Nat} (hi : i ≤ 47) (hkind : (s.chan i).kind = .data) :
    (s.closeData i).closedFrom s i := by
  have hopen : (s.chan i).kind ≠ .empty := by rw [hkind]; decide
  have halias : (s.chan i).kind ≠ .aliased := by rw [hkind]; decide
  obtain ⟨hsame, hframes⟩ := State.removeShopFrames_spec (q := s.closesFrame i) (s := s) fun f _ hf =>
    State.closesFrame_open hi hopen hf
  have hreads := s.removeShopFrames_reads (s.closesFrame i)
  obtain ⟨hchan, hslot, -⟩ := hreads
  rw [State.closeData_eq]
  generalize s.removeShopFrames (s.closesFrame i) = t at *
  obtain ⟨hself, hothers⟩ := State.unbound_chan (s := t) hi (by rwa [hchan])
  have hslots := State.unbound_slot (s := t) (i := i) (by rwa [hchan])
  have hstate := t.unbound_state i
  generalize t.unbound i = u at *
  simp only [hchan, hslot] at hself hothers hslots
  refine ⟨?_, ?_, fun h => ?_, fun h => ?_, hothers, hslots⟩
  · rw [State.sameButClosed] at *
    rw [hstate, hsame]
  · rw [hstate]
    exact hframes
  · exact hself.trans (if_neg (by simp [h]))
  · exact hself.trans (if_pos h)

/-! ### The close of an ALIAS (R15) -/

theorem State.closeAlias_closedFrom {s : State} {i g : Nat} (hi : i ≤ 47) (hkind : (s.chan i).kind = .aliased)
    (htarget : (s.chan i).target = some g) (hne : g ≠ i) : (s.closeAlias i).aliasClosedFrom s i g := by
  obtain ⟨hsame, hframes⟩ := State.removeShopFrames_spec (q := fun f => f.channel == i) (s := s) fun f _ hf => by
    rw [State.isOpenIndex_iff, beq_iff_eq.mp hf]
    exact ⟨hi, by rw [hkind]; decide⟩
  obtain ⟨hchan, -⟩ := s.removeShopFrames_reads fun f => f.channel == i
  have hslots : (s.removeShopFrames fun f => f.channel == i).slots = s.slots := by simp
  have heq : s.closeAlias i = ((s.removeShopFrames fun f => f.channel == i).setChan i {}).updChan g
      fun c => { c with aliasCount := c.aliasCount - 1 } := by
    rw [State.closeAlias, hchan, htarget]
    rfl
  rw [heq]
  generalize (s.removeShopFrames fun f => f.channel == i) = t at *
  refine ⟨?_, hframes, ?_, hslots, fun j hj => ?_⟩
  · rw [State.sameButClosed] at *
    exact Eq.trans (by rfl) (congrArg (fun u : State => ((u.setChan i {}).updChan g
      fun c => { c with aliasCount := c.aliasCount - 1 } : State)) hsame)
  · rw [State.chan_updChan, if_neg (by simp [Ne.symm hne]), State.chan_setChan, if_pos ⟨rfl, by omega⟩]
  · rw [State.chan_updChan]
    by_cases hjg : j = g
    · subst hjg
      by_cases hj48 : j < 48
      · simp [hj48, State.chan_setChan, hj, hchan]
      · simp [hj48, State.chan_setChan, hj, hchan, State.chan_out s j hj48]
    · simp [hjg, State.chan_setChan, hj, hchan]

/-! ### CHANNEL CLOSE and the order to close -/

/-- The checks of a CHANNEL CLOSE in their order. -/
def State.closeChecks (s : State) (i : Nat) : List (Bool × Status) :=
  [(s.partState == .failed, .refusedState), (i == 0 || decide (47 < i), .refusedRange),
    ((s.chan i).kind == .empty, .notFound), (s.keyLevel i == 0, .refusedPort), ((s.chan i).state == .closing, .refusedState)]

theorem State.channelCheck_eq_firstFailing (s : State) (i : Nat) : s.channelCheck i = firstFailing (s.closeChecks i) := by
  unfold State.channelCheck State.closeChecks
  simp [firstFailing_cons, firstFailing_nil]

theorem exec_channelClose {s : State} (w2 : Word) (h : s.sPort.cmd = .idle) :
    exec (.channelClose .s w2) s = .next (channelClose .s w2 s) :=
  congrArg Host.Outcome.next (State.writeCommandWords_permitted (p := .s) (args := [w2]) .channelClose h rfl rfl)

theorem channelClose_of_some {s : State} {w2 : Word} {st : Status} (h : s.channelCheck (fieldD w2) = some st) :
    channelClose .s w2 s = s.refuse .s st := by rw [channelClose, h]

theorem channelClose_of_none {s : State} {w2 : Word} (h : s.channelCheck (fieldD w2) = none) :
    channelClose .s w2 s = (s.closeChannel (fieldD w2)).respond .s .done [] := by rw [channelClose, h]

theorem State.closeChannel_data {s : State} {i : Nat} (h : (s.chan i).kind = .data) : s.closeChannel i = s.closeData i :=
  if_neg (by rw [h]; decide)

theorem State.closeChannel_aliased {s : State} {i : Nat} (h : (s.chan i).kind = .aliased) :
    s.closeChannel i = s.closeAlias i := if_pos h

/-- The answer of the S-port beside a close. -/
theorem State.sameButClosed.answered {t s : State} (h : t.sameButClosed s) :
    (t.respond .s .done []).sameButClosed { s with sPort := s.sPort.withAnswer .done [] } := by
  rw [State.sameButClosed] at h
  rw [h]
  rfl

theorem State.closedFrom.answered {t s : State} {i : Nat} (h : t.closedFrom s i) :
    (t.respond .s .done []).closedFrom { s with sPort := s.sPort.withAnswer .done [] } i :=
  ⟨h.1.answered, h.2⟩

theorem State.aliasClosedFrom.answered {t s : State} {i g : Nat} (h : t.aliasClosedFrom s i g) :
    (t.respond .s .done []).aliasClosedFrom { s with sPort := s.sPort.withAnswer .done [] } i g :=
  ⟨h.1.answered, h.2⟩

/-- The count of an applied order beside a close. -/
theorem State.sameButClosed.counted {t s : State} (h : t.sameButClosed s) :
    (t.countOrder true).sameButClosed { s with
      messenger := { s.messenger with ordersApplied := min (s.messenger.ordersApplied + 1) 65535 } } := by
  rw [State.sameButClosed] at h
  rw [h]
  rfl

theorem State.closedFrom.counted {t s : State} {i : Nat} (h : t.closedFrom s i) :
    (t.countOrder true).closedFrom { s with
      messenger := { s.messenger with ordersApplied := min (s.messenger.ordersApplied + 1) 65535 } } i :=
  ⟨h.1.counted, h.2⟩

theorem State.aliasClosedFrom.counted {t s : State} {i g : Nat} (h : t.aliasClosedFrom s i g) :
    (t.countOrder true).aliasClosedFrom { s with
      messenger := { s.messenger with ordersApplied := min (s.messenger.ordersApplied + 1) 65535 } } i g :=
  ⟨h.1.counted, h.2⟩

theorem takeOrder_close_of_applies {s : State} {q : OpenRequest} (h : s.orderedCloseApplies q.index = true) :
    s.takeOrder false q = (s.closeChannel q.index).countOrder true :=
  (if_neg nofun).trans (if_pos h)

theorem takeOrder_close_of_not {s : State} {q : OpenRequest} (h : s.orderedCloseApplies q.index = false) :
    s.takeOrder false q = s.countOrder false :=
  (if_neg nofun).trans (if_neg (by rw [h]; decide))

theorem State.orderedCloseApplies_iff (s : State) (i : Nat) :
    s.orderedCloseApplies i = true ↔ (1 ≤ i ∧ i ≤ 47) ∧ (s.chan i).kind ≠ .empty ∧ (s.chan i).state ≠ .closing := by
  simp [State.orderedCloseApplies, Nat.one_le_iff_ne_zero, and_assoc]

/-- Settles O43: the answer is that of the first check that fails; with none failing the channel is closed by its kind. -/
theorem channelCloseReleases : Obligations.ChannelCloseReleases := by
  refine ⟨?port, ?office⟩
  case port =>
    rintro s w2 _ rfl hidle
    rw [exec_channelClose w2 hidle]
    refine ⟨fun c hc => ?refused, fun hpart hlow hhigh hstate => ⟨fun hkind hlevel => ?data, fun g hkind htarget hne hlevel => ?aliased⟩⟩
    case refused =>
      rw [channelClose_of_some ((s.channelCheck_eq_firstFailing _).trans (firstFailing_of_find (checks := s.closeChecks _) hc))]
      rfl
    case data =>
      have hkl : s.keyLevel (fieldD w2) ≠ 0 := by
        rw [State.keyLevel, if_neg (by rw [hkind]; decide)]
        omega
      refine ⟨_, rfl, ?_⟩
      rw [channelClose_of_none (State.channelCheck_eq_none hpart hlow hhigh (by rw [hkind]; decide) hkl hstate),
        State.closeChannel_data hkind]
      exact (State.closeData_closedFrom hhigh hkind).answered
    case aliased =>
      have hkl : s.keyLevel (fieldD w2) ≠ 0 := by
        rw [State.keyLevel, if_pos hkind, htarget]
        exact Nat.ne_of_gt hlevel
      refine ⟨_, rfl, ?_⟩
      rw [channelClose_of_none (State.channelCheck_eq_none hpart hlow hhigh (by rw [hkind]; decide) hkl hstate),
        State.closeChannel_aliased hkind]
      exact (State.closeAlias_closedFrom hhigh hkind htarget hne).answered
  case office =>
    rintro s _ q _ rfl rfl
    refine ⟨fun hnot => ?refused, fun hlow hhigh hstate => ⟨fun hkind => ?data, fun g hkind htarget hne => ?aliased⟩⟩
    case refused =>
      refine takeOrder_close_of_not (Bool.eq_false_iff.mpr fun h => ?_)
      obtain ⟨⟨hlow, hhigh⟩, hkind, hstate⟩ := (s.orderedCloseApplies_iff _).mp h
      obtain h | h | h | h := hnot
      · omega
      · omega
      · exact hkind h
      · exact hstate h
    case data =>
      refine ⟨_, rfl, ?_⟩
      rw [State.takeMessage, takeOrder_close_of_applies ((s.orderedCloseApplies_iff _).mpr
        ⟨⟨hlow, hhigh⟩, by rw [hkind]; decide, hstate⟩), State.closeChannel_data hkind]
      exact (State.closeData_closedFrom hhigh hkind).counted
    case aliased =>
      refine ⟨_, rfl, ?_⟩
      rw [State.takeMessage, takeOrder_close_of_applies ((s.orderedCloseApplies_iff _).mpr
        ⟨⟨hlow, hhigh⟩, by rw [hkind]; decide, hstate⟩), State.closeChannel_aliased hkind]
      exact (State.closeAlias_closedFrom hhigh hkind htarget hne).counted

end Sys2Proof.Machine
end

section
/-! PROOFS. What the reads leave at the ports does not depend on key material (R25, O48): an operation that reads neither slots
nor root commutes with a change of them, and the words of KEY STATUS hold no material. -/

namespace Sys2Proof.Machine

/-- The part with other slots and another root. -/
def State.withKeys (slots : Vector Slot 23) (root : Root) (s : State) : State := { s with slots := slots, root := root }

section
variable (slots : Vector Slot 23) (root : Root)

theorem State.clearFault_withKeys (k : FaultKind) (x : Subject) (s : State) :
    (s.withKeys slots root).clearFault k x = (s.clearFault k x).withKeys slots root := by
  unfold State.clearFault
  have hfaults : (s.withKeys slots root).faults = s.faults := rfl
  rw [hfaults]
  cases s.faults.records.find? (·.hits k x) with
  | none => rfl
  | some r => cases hr : r.active <;> simp only [hr] <;> rfl

theorem State.returnBuffer_withKeys (s : State) :
    (s.withKeys slots root).returnBuffer = s.returnBuffer.withKeys slots root := by
  by_cases h : s.pool.low = true ∧ 16 ≤ s.pool.free + 1
  · have hcond : (s.pool.low && decide (16 ≤ s.pool.free + 1)) = true := by simp [h]
    have hclears : ∀ t : State, t.pool = s.pool → t.returnBuffer
        = ((t.updPool fun q => { q with free := q.free + 1 }).updPool fun q => { q with low := false }).clearFault
            .poolLow .nothing := fun t ht =>
      if_pos (by rw [← ht] at hcond; exact hcond)
    rw [hclears s rfl, hclears (s.withKeys slots root) rfl]
    exact State.clearFault_withKeys slots root .poolLow .nothing
      ((s.updPool fun q => { q with free := q.free + 1 }).updPool fun q => { q with low := false })
  · have hkeeps : s.pool.low = false ∨ s.pool.free + 1 < 16 := by
      cases hlow : s.pool.low
      · exact .inl rfl
      · exact .inr (Nat.lt_of_not_le fun hge => h ⟨hlow, hge⟩)
    rw [State.returnBuffer_of_high hkeeps, State.returnBuffer_of_high (s := s.withKeys slots root) hkeeps]
    rfl

theorem State.popOut_withKeys (p : Port) (s : State) :
    (s.withKeys slots root).popOut p = (s.popOut p).withKeys slots root := by
  cases p
  · exact State.returnBuffer_withKeys slots root (s.updSOut List.tail)
  · exact State.returnBuffer_withKeys slots root (s.updLTx List.tail)

theorem State.updPort_withKeys (p : Port) (f : PortState → PortState) (s : State) :
    (s.withKeys slots root).updPort p f = (s.updPort p f).withKeys slots root := by cases p <;> rfl

theorem State.port_withKeys (p : Port) (s : State) : (s.withKeys slots root).port p = s.port p := by cases p <;> rfl

theorem State.respond_withKeys (p : Port) (st : Status) (ws : List Word) (s : State) :
    (s.withKeys slots root).respond p st ws = (s.respond p st ws).withKeys slots root := by
  rw [State.respond_eq, State.respond_eq, State.updPort_withKeys]

theorem State.returnWord_withKeys (p : Port) (w : Word) (s : State) :
    (s.withKeys slots root).returnWord p w = (s.returnWord p w).withKeys slots root := State.updPort_withKeys ..

theorem State.headWords_withKeys (p : Port) (s : State) : (s.withKeys slots root).headWords p = s.headWords p := by
  cases p <;> rfl

/-! ### The reads of the access points -/

theorem State.readFrameOut_withKeys (p : Port) (s : State) :
    (s.withKeys slots root).readFrameOut p = (s.readFrameOut p).withKeys slots root := by
  unfold State.readFrameOut
  rw [State.headWords_withKeys, State.port_withKeys]
  cases s.headWords p with
  | none => exact State.returnWord_withKeys ..
  | some ws =>
    dsimp only
    rw [State.returnWord_withKeys, State.popOut_withKeys, State.updPort_withKeys, State.updPort_withKeys]
    exact (apply_ite (State.withKeys slots root) ..).symm

theorem State.readResponse_withKeys (p : Port) (s : State) :
    (s.withKeys slots root).readResponse p = (s.readResponse p).withKeys slots root := by
  unfold State.readResponse
  rw [State.port_withKeys]
  dsimp only
  rw [State.returnWord_withKeys, State.returnWord_withKeys, State.updPort_withKeys]
  exact (apply_ite (State.withKeys slots root) ..).symm

theorem State.readMailbox_withKeys (p : Port) (s : State) :
    (s.withKeys slots root).readMailbox p = (s.readMailbox p).withKeys slots root := by
  unfold State.readMailbox
  rw [State.port_withKeys, State.port_withKeys]
  dsimp only
  rw [State.returnWord_withKeys, State.updPort_withKeys, State.updPort_withKeys, State.updPort_withKeys]
  exact (apply_ite (State.withKeys slots root) ..).symm

theorem State.statusWord_withKeys (p : Port) (s : State) : (s.withKeys slots root).statusWord p = s.statusWord p := by
  cases p <;> rfl

theorem State.readStatus_withKeys (p : Port) (s : State) :
    (s.withKeys slots root).readStatus p = (s.readStatus p).withKeys slots root := by
  rw [State.readStatus, State.statusWord_withKeys, State.returnWord_withKeys, State.updPort_withKeys, State.readStatus]

theorem State.readAccess_withKeys (p : Port) (sel : BitVec 3) (s : State) :
    (s.withKeys slots root).readAccess p sel = (s.readAccess p sel).withKeys slots root := by
  unfold State.readAccess
  split
  · exact State.readFrameOut_withKeys ..
  · exact State.readResponse_withKeys ..
  · exact State.readMailbox_withKeys ..
  · exact State.readStatus_withKeys ..
  · exact State.returnWord_withKeys ..

/-! ### The reading commands -/

theorem channelRead_withKeys (p : Port) (w2 : Word) (s : State) :
    channelRead p w2 (s.withKeys slots root) = (channelRead p w2 s).withKeys slots root := by
  rw [channelRead, State.refuse, State.respond_withKeys, State.respond_withKeys]
  exact (apply_ite (State.withKeys slots root) ..).symm

theorem faultRead_withKeys (p : Port) (w2 : Word) (s : State) :
    faultRead p w2 (s.withKeys slots root) = (faultRead p w2 s).withKeys slots root := by
  rw [faultRead, State.refuse, State.respond_withKeys, State.respond_withKeys]
  exact (apply_ite (State.withKeys slots root) ..).symm

theorem sectionWords_withKeys (s : State) (n : Nat) : sectionWords (s.withKeys slots root) n = sectionWords s n := by
  unfold sectionWords
  split <;> rfl

theorem partRead_withKeys (p : Port) (w2 : Word) (s : State) :
    partRead p w2 (s.withKeys slots root) = (partRead p w2 s).withKeys slots root := by
  unfold partRead
  rw [sectionWords_withKeys]
  cases sectionWords s (fieldD w2) with
  | none => exact State.respond_withKeys ..
  | some ws => exact State.respond_withKeys ..

end

theorem State.rekey_eq (m : Nat → Block) (root pendingRoot : Block) (s : State) :
    s.rekey m root pendingRoot
      = s.withKeys (s.rekey m root pendingRoot).slots (s.rekey m root pendingRoot).root := rfl

/-- No word of KEY STATUS of a working slot is of its material (R25). -/
theorem slotWords_rekey (m : Nat → Block) (root pendingRoot : Block) (s : State) (x : Nat) :
    slotWords ((s.rekey m root pendingRoot).slot x) = slotWords (s.slot x) := by
  have hslot : (s.rekey m root pendingRoot).slot x = _ := State.slot_mapSlots (fun x v => { v with material := m x }) x s
  rw [hslot]
  split
  · rfl
  · rw [State.slot_out s x (by omega)]

/-- No word of KEY STATUS of slot 0 is of its material or of a pending root's (R25). -/
theorem rootWords_rekey (m : Nat → Block) (root pendingRoot : Block) (s : State) :
    rootWords (s.rekey m root pendingRoot).root = rootWords s.root := by
  have hsome : (s.rekey m root pendingRoot).root.pendingRoot.isSome = s.root.pendingRoot.isSome := Option.isSome_map
  unfold rootWords
  rw [hsome]
  rfl

theorem keyStatus_rekey (m : Nat → Block) (root pendingRoot : Block) (p : Port) (w2 : Word) (s : State) :
    ∃ slots store, keyStatus p w2 (s.rekey m root pendingRoot) = (keyStatus p w2 s).withKeys slots store := by
  refine ⟨(s.rekey m root pendingRoot).slots, (s.rekey m root pendingRoot).root, ?_⟩
  rw [keyStatus, slotWords_rekey, rootWords_rekey, State.rekey_eq, State.refuse, State.respond_withKeys,
    State.respond_withKeys]
  exact (apply_ite (State.withKeys _ _) ..).symm

/-- An instruction that answers alike for other keys leaves the same two ports. -/
theorem next_withKeys {i : Instr} {s s' : State} {g : State → State} (h : ∀ t ∈ [s, s'], exec i t = .next (g t))
    (hg : ∃ slots root, g s' = (g s).withKeys slots root) :
    ∃ t u, exec i s = .next t ∧ exec i s' = .next u ∧ u.sPort = t.sPort ∧ u.lPort = t.lPort := by
  obtain ⟨slots, root, hg⟩ := hg
  exact ⟨_, _, h s (by simp), h s' (by simp), by rw [hg]; rfl, by rw [hg]; rfl⟩

/-- Settles O48: each of the nine reads commutes with the change of keys, KEY STATUS for the words it shows. -/
theorem readsRevealNoMaterial : Obligations.ReadsRevealNoMaterial := by
  intro s m root pendingRoot p w sel i hidle hi
  have hkeys := s.rekey_eq m root pendingRoot
  have hidle' : ∀ t ∈ [s, s.rekey m root pendingRoot], (t.port p).cmd = .idle := by
    intro t ht
    obtain rfl | rfl : t = s ∨ t = s.rekey m root pendingRoot := by simpa using ht
    · exact hidle
    · rw [hkeys, State.port_withKeys, hidle]
  simp only [List.mem_cons, List.not_mem_nil, or_false] at hi
  obtain rfl | rfl | rfl | rfl | rfl | rfl | rfl | rfl | rfl := hi
  · exact next_withKeys (fun t ht => exec_channelRead w (hidle' t ht)) ⟨_, _, hkeys ▸ channelRead_withKeys ..⟩
  · exact next_withKeys (fun t ht => exec_keyStatus w (hidle' t ht)) (keyStatus_rekey ..)
  · exact next_withKeys (fun t ht => exec_faultRead_idle w (hidle' t ht)) ⟨_, _, hkeys ▸ faultRead_withKeys ..⟩
  · exact next_withKeys (fun t ht => exec_partRead w (hidle' t ht)) ⟨_, _, hkeys ▸ partRead_withKeys ..⟩
  · exact next_withKeys (fun t _ => rfl) ⟨_, _, hkeys ▸ State.readStatus_withKeys ..⟩
  · exact next_withKeys (fun t _ => rfl) ⟨_, _, hkeys ▸ State.readResponse_withKeys ..⟩
  · exact next_withKeys (fun t _ => rfl) ⟨_, _, hkeys ▸ State.readMailbox_withKeys ..⟩
  · exact next_withKeys (fun t _ => rfl) ⟨_, _, hkeys ▸ State.readFrameOut_withKeys ..⟩
  · exact next_withKeys (fun t _ => rfl) ⟨_, _, hkeys ▸ State.readAccess_withKeys ..⟩

end Sys2Proof.Machine
end

section
/-! PROOFS. The switch of keys (R29, R21) and the commits of a KEY COMMIT (R123, O33). -/

namespace Sys2Proof.Machine

/-! ### Descriptors counted -/

theorem State.chans_toList (s : State) : s.chans.toList = (List.range 48).map s.chan := by
  refine List.ext_getElem (by simp) fun i h1 h2 => ?_
  have hi : i < 48 := by simpa using h2
  simp [State.chan, hi]

theorem State.countChans_eq (s : State) (q : Channel → Bool) :
    s.countChans q = (List.range 48).countP fun i => q (s.chan i) := by
  rw [State.countChans, State.chans_toList, List.countP_map]
  rfl

/-! ### The rebinding (R21) -/

/-- A descriptor as the rebinding from slot x to slot y leaves it. -/
def State.reboundChan (s : State) (x y : Nat) (c : Channel) : Channel :=
  if c.currentIs x then
    { c with current := some y, alternate := some x, state := if c.state = .exhausted then .opened else c.state }
  else if s.targetHas (Channel.currentIs x) c && c.state == .exhausted then { c with state := .opened } else c

theorem State.rebind_chan (x y i : Nat) (s : State) : (s.rebind x y).chan i = s.reboundChan x y (s.chan i) :=
  State.chan_mapChans_of_fixed (f := fun _ => s.reboundChan x y) (fun _ => rfl) i s

theorem State.rebind_slot (x y z : Nat) (s : State) : (s.rebind x y).slot z
    = (s.addRefs y (s.countChans (Channel.currentIs x))).slot z := by
  simp only [State.rebind, State.addRefs, State.slot_updSlot, State.mapChans_reads]

theorem State.reboundChan_current {s : State} {x : Nat} {c : Channel} (y : Nat) (h : c.currentIs x = true) :
    s.reboundChan x y c =
      { c with current := some y, alternate := some x, state := if c.state = .exhausted then .opened else c.state } :=
  if_pos h

theorem State.reboundChan_alias {s : State} {x r : Nat} {c : Channel} (y : Nat) (hkind : c.kind = .aliased)
    (htarget : c.target = some r) (h : (s.chan r).currentIs x = true) :
    s.reboundChan x y c = { c with state := if c.state = .exhausted then .opened else c.state } := by
  have hown : c.currentIs x = false := by simp [Channel.currentIs, Channel.namesKey, hkind]
  have hhas : s.targetHas (Channel.currentIs x) c = true := by simp [State.targetHas, hkind, htarget, h]
  rw [State.reboundChan, if_neg (by rw [hown]; decide), hhas]
  by_cases hstate : c.state = .exhausted
  · simp [hstate]
  · simp [hstate]

theorem State.reboundChan_other {s : State} {x : Nat} {c : Channel} (y : Nat) (hown : c.currentIs x = false)
    (htarget : ∀ r, c.kind = .aliased → c.target = some r → (s.chan r).currentIs x = false) :
    s.reboundChan x y c = c := by
  have hhas : s.targetHas (Channel.currentIs x) c = false := by
    rw [State.targetHas]
    by_cases hkind : c.kind = .aliased
    · cases ht : c.target with
      | none => simp
      | some r => simp [htarget r hkind ht]
    · simp [hkind]
  rw [State.reboundChan, hown, hhas]
  rfl

/-! ### The switch (R29, R58) -/

/-- Slots x and y and the descriptors as the switch of R29 leaves them. -/
structure State.Switched (s t : State) (x y : Nat) : Prop where
  old : t.slot x = { s.slot x with state := .draining, drain := 32 }
  new : t.slot y = { s.slot y with
    state := .active, rate := (s.slot x).rate, used := 0, intervalCharge := 0, age := 0, requested := false
    refs := (s.slot y).refs + s.countChans (Channel.currentIs x) }
  slots : ∀ z, z ≠ x → z ≠ y → t.slot z = s.slot z
  chan : ∀ i, t.chan i = s.reboundChan x y (s.chan i)

theorem State.switchSlots_switched {s : State} {x y : Nat} (hx : 1 ≤ x ∧ x ≤ 23) (hy : 1 ≤ y ∧ y ≤ 23)
    (hactive : (s.slot x).state = .active) (hstaged : (s.slot y).state = .staged) :
    s.Switched (s.switchSlots x y) x y := by
  have hne : x ≠ y := fun h => by rw [h, hstaged] at hactive; exact nomatch hactive
  have hswitch : s.switchSlots x y = _ := if_pos ⟨hstaged, hactive⟩
  rw [hswitch]
  have hcount : ∀ f g : Slot → Slot, ((s.updSlot y f).updSlot x g).countChans (Channel.currentIs x)
      = s.countChans (Channel.currentIs x) := fun f g => by simp [State.countChans]
  constructor
  case old => simp [State.slot_updSlot, State.rebind_slot, State.addRefs, hne, hx]
  case new =>
    simp only [State.slot_updSlot, State.rebind_slot, State.addRefs, hcount]
    simp [Ne.symm hne, hy]
  case slots =>
    intro z hzx hzy
    simp [State.slot_updSlot, State.rebind_slot, State.addRefs, hzx, hzy]
  case chan =>
    intro i
    simp only [State.updSlot_reads, State.rebind_chan]
    rfl

/-! ### The end of a completed exchange -/

theorem State.finishContext_eq {s : State} {c e : Nat} (h : (s.ctx c).exchange = some e) :
    s.finishContext c = ((s.updMessenger fun m => { m with finished := addFinished e m.finished }).setCtx c {}).updRenewal
      fun n => { n with completed := satInc 65535 n.completed } := by
  rw [State.finishContext, State.freeContext_eq h]

theorem State.finishContext_ctx {s : State} {c e : Nat} (hc : c < 4) (h : (s.ctx c).exchange = some e) :
    (s.finishContext c).ctx c = {} ∧ ∀ d, d ≠ c → (s.finishContext c).ctx d = s.ctx d := by
  have hctx : ∀ d, (s.finishContext c).ctx d
      = ((s.updMessenger fun m => { m with finished := addFinished e m.finished }).setCtx c {}).ctx d := fun d => by
    rw [State.finishContext_eq h]
    rfl
  refine ⟨(hctx c).trans ?_, fun d hd => (hctx d).trans ?_⟩
  · rw [State.ctx_setCtx, if_pos ⟨rfl, hc⟩]
  · rw [State.ctx_setCtx, if_neg (by simp [hd])]
    rfl

theorem State.finishContext_finished {s : State} {c e : Nat} (h : (s.ctx c).exchange = some e) :
    (s.finishContext c).messenger.finished.getLast? = some e := by
  rw [State.finishContext_eq h]
  exact addFinished_getLast? ..

theorem State.takeCommit_of_first {s : State} {c e : Nat} (hc : c < 4) (hstate : (s.ctx c).state = .awaitCommit)
    (hexchange : (s.ctx c).exchange = some e) (hfirst : ∀ d, d < c → (s.ctx d).exchange ≠ some e) :
    s.takeMessage (.commit e) = s.commitContext c := by
  have hopen : (s.ctx c).isOpen = true := by simp [Context.isOpen, hstate]
  have hholder := State.holder_of_first (q := fun x => x.state == .awaitCommit) hc hopen hexchange (by simp [hstate]) hfirst
  rw [State.takeMessage, State.takeCommit, hholder]

/-! ### The commit of a RENEWAL (R141, R142) -/

/-- The faults a completed renewal clears. -/
def State.renewalCleared (x : Nat) (s : State) : State :=
  ((s.clearRenewalFaults (.slot x)).clearFault .keySpent (.slot x)).clearFault .keyAgeOver (.slot x)

theorem State.completeRenewal_eq {s : State} {c x y : Nat} (hx : (s.ctx c).subject = some x)
    (hy : (s.ctx c).successor = some y) : s.completeRenewal c
      = (((s.switchSlots x y).renewalCleared x).setBackoff x {}).finishContext c := by
  rw [State.completeRenewal, hx, hy]
  rfl

theorem State.clearRenewalFaults_same (x : Subject) (s : State) : s.sameButFaults (s.clearRenewalFaults x) :=
  (State.clearFault_same ..).trans (State.clearFault_same ..)

theorem State.renewalCleared_same (x : Nat) (s : State) : s.sameButFaults (s.renewalCleared x) :=
  ((State.clearRenewalFaults_same ..).trans (State.clearFault_same ..)).trans (State.clearFault_same ..)

/-! ### The binding of channel 0 (R21, R143, R179) -/

/-- The request list, the backoff and the relisting of BOOT as the end of the bootstrap request leaves them. -/
def State.bootEnded : State → State := State.updRenewal fun n =>
  { n with list := n.list.filter (fun e => e.slot != none), bootBackoff := {}, bootRelist := .idle }

/-- Another context than c that waits for the delivery of a BOOT exchange. -/
def State.waitsBoot (s : State) (c d : Nat) : Bool :=
  d != c && (s.ctx d).kind == some .boot && (s.ctx d).state == .awaitDelivery

theorem State.endBootRequest_of_some {s : State} {c d : Nat} (h : contextNumbers.find? (s.waitsBoot c) = some d) :
    s.endBootRequest c = s.bootEnded.freeContext d := by
  have hfind : contextNumbers.find? (fun d => d != c && (s.bootEnded.ctx d).kind == some .boot
      && (s.bootEnded.ctx d).state == .awaitDelivery) = some d := h
  unfold State.endBootRequest
  dsimp only
  split
  next d' h' => rw [← Option.some.inj (h'.symm.trans hfind)]; rfl
  next h' => exact nomatch h'.symm.trans hfind

theorem State.endBootRequest_of_none {s : State} {c : Nat} (h : contextNumbers.find? (s.waitsBoot c) = none) :
    s.endBootRequest c = s.bootEnded := by
  have hfind : contextNumbers.find? (fun d => d != c && (s.bootEnded.ctx d).kind == some .boot
      && (s.bootEnded.ctx d).state == .awaitDelivery) = none := h
  unfold State.endBootRequest
  dsimp only
  split
  next d' h' => exact nomatch h'.symm.trans hfind
  next h' => rfl

theorem State.freeContext_state (c : Nat) (s : State) : s.freeContext c = { s with
    messenger := { s.messenger with finished := (s.freeContext c).messenger.finished }
    renewal := { s.renewal with contexts := (s.freeContext c).renewal.contexts } } := by
  unfold State.freeContext
  cases (s.ctx c).exchange <;> rfl

theorem State.freeContext_ctx (c d : Nat) (s : State) : (s.freeContext c).ctx d = if d = c ∧ c < 4 then {} else s.ctx d := by
  unfold State.freeContext
  cases (s.ctx c).exchange with
  | none => exact State.ctx_setCtx ..
  | some e => exact (State.ctx_setCtx ..).trans rfl

theorem State.endBootRequest_state (c : Nat) (s : State) : s.endBootRequest c = { s with
    messenger := { s.messenger with finished := (s.endBootRequest c).messenger.finished }
    renewal := { s.renewal with
      list := s.renewal.list.filter (fun e => e.slot != none), bootBackoff := {}, bootRelist := .idle
      contexts := (s.endBootRequest c).renewal.contexts } } := by
  cases h : contextNumbers.find? (s.waitsBoot c) with
  | none =>
    rw [State.endBootRequest_of_none h]
    rfl
  | some d =>
    rw [State.endBootRequest_of_some h, State.freeContext_state]
    rfl

/-- The contexts after the end of the bootstrap request: the first waiting BOOT context beside c is FREE. -/
theorem State.endBootRequest_ctx (c d : Nat) (s : State) :
    (s.endBootRequest c).ctx d = if contextNumbers.find? (s.waitsBoot c) = some d then {} else s.ctx d := by
  cases h : contextNumbers.find? (s.waitsBoot c) with
  | none =>
    rw [State.endBootRequest_of_none h, if_neg nofun]
    rfl
  | some b =>
    have hb : b < 4 := List.mem_range.mp (List.mem_of_find?_eq_some h)
    rw [State.endBootRequest_of_some h, State.freeContext_ctx]
    by_cases hbd : d = b
    · simp [hbd, hb]
    · rw [if_neg (by simp [hbd]), if_neg (by simp [Ne.symm hbd])]
      rfl

theorem State.find_waitsBoot {s : State} {c d : Nat} (hd : d < 4) (hwaits : s.waitsBoot c d = true)
    (hfirst : ∀ b, b < d → s.waitsBoot c b = false) : contextNumbers.find? (s.waitsBoot c) = some d := by
  have hrange : contextNumbers = List.range 4 := rfl
  rw [hrange, List.find?_range_eq_some]
  exact ⟨hwaits, List.mem_range.mpr hd, fun b hb => by simp [hfirst b hb]⟩

theorem State.enterRun_of_bootstrap {s : State} (h : s.partState = .bootstrap) :
    s.enterRun = (s.setPartState .run).updLink fun l => { l with quiet := .running, quietRemaining := 15 } := if_pos h

theorem State.enterRun_of_not {s : State} (h : s.partState ≠ .bootstrap) : s.enterRun = s := if_neg h

theorem State.enterRun_state (s : State) : s.enterRun = { s with
    partState := s.enterRun.partState, link := s.enterRun.link } := by
  by_cases h : s.partState = .bootstrap
  · rw [State.enterRun_of_bootstrap h]
    rfl
  · rw [State.enterRun_of_not h]

/-- Channel 0 bound to slot y, without what ends with it. -/
def State.boundControl (y : Nat) (s : State) : State := (s.updChan 0 fun d => { d with current := some y }).addRefs y 1

theorem State.bindControl_of_unbound {s : State} (c y : Nat) (h : (s.chan 0).current = none) :
    s.bindControl c y = ((s.boundControl y).endBootRequest c).enterRun := if_pos h

theorem State.bindControl_of_bound {s : State} (c y : Nat) (h : (s.chan 0).current ≠ none) : s.bindControl c y = s := if_neg h

theorem State.bindControl_state (c y : Nat) (s : State) : s.bindControl c y = { s with
    partState := (s.bindControl c y).partState, chans := (s.bindControl c y).chans, slots := (s.bindControl c y).slots
    link := (s.bindControl c y).link
    messenger := { s.messenger with finished := (s.bindControl c y).messenger.finished }
    renewal := { s.renewal with
      list := (s.bindControl c y).renewal.list, contexts := (s.bindControl c y).renewal.contexts
      bootBackoff := (s.bindControl c y).renewal.bootBackoff, bootRelist := (s.bindControl c y).renewal.bootRelist } } := by
  by_cases h : (s.chan 0).current = none
  · rw [State.bindControl_of_unbound c y h, State.enterRun_state, State.endBootRequest_state]
    rfl
  · rw [State.bindControl_of_bound c y h]

/-- What the binding of channel 0 by the commit of context c does when channel 0 has no current slot. -/
structure State.Binds (s t : State) (c y : Nat) : Prop where
  slot : t.slot y = { s.slot y with refs := (s.slot y).refs + 1 }
  slots : ∀ z, z ≠ y → t.slot z = s.slot z
  chan : t.chan 0 = { s.chan 0 with current := some y }
  chans : ∀ j, j ≠ 0 → t.chan j = s.chan j
  list : t.renewal.list = s.renewal.list.filter fun e => e.slot != none
  boot : t.renewal.bootBackoff = {} ∧ t.renewal.bootRelist = .idle
  ctx : ∀ d, t.ctx d = if contextNumbers.find? (s.waitsBoot c) = some d then {} else s.ctx d
  enters : s.partState = .bootstrap →
    t.partState = .run ∧ t.link = { s.link with quiet := .running, quietRemaining := 15 }
  stays : s.partState ≠ .bootstrap → t.partState = s.partState ∧ t.link = s.link

theorem State.bindControl_binds {s : State} (c : Nat) {y : Nat} (hy : 1 ≤ y ∧ y ≤ 23) (h : (s.chan 0).current = none) :
    s.Binds (s.bindControl c y) c y := by
  rw [State.bindControl_of_unbound c y h]
  have hbound : ∀ d, (s.boundControl y).ctx d = s.ctx d := fun d => rfl
  have hslot : ∀ z, (s.boundControl y).slot z = if z = y then { s.slot z with refs := (s.slot z).refs + 1 } else s.slot z := by
    intro z
    simp only [State.boundControl, State.addRefs, State.slot_updSlot, State.updChan_reads]
    by_cases hz : z = y
    · subst hz
      simp [hy]
    · simp [hz]
  have hchan : ∀ j, (s.boundControl y).chan j = if j = 0 then { s.chan j with current := some y } else s.chan j := by
    intro j
    simp only [State.boundControl, State.addRefs, State.updSlot_reads, State.chan_updChan]
    by_cases hj : j = 0
    · subst hj
      rfl
    · simp [hj]
  have hctx := (s.boundControl y).endBootRequest_ctx c
  have hstate := (s.boundControl y).endBootRequest_state c
  have hrun := ((s.boundControl y).endBootRequest c).enterRun_state
  have hpart : ((s.boundControl y).endBootRequest c).partState = s.partState := by rw [hstate]; rfl
  have hlink : ((s.boundControl y).endBootRequest c).link = s.link := by rw [hstate]; rfl
  constructor
  case slot => rw [hrun, hstate]; exact (hslot y).trans (if_pos rfl)
  case slots => intro z hz; rw [hrun, hstate]; exact (hslot z).trans (if_neg hz)
  case chan => rw [hrun, hstate]; exact (hchan 0).trans (if_pos rfl)
  case chans => intro j hj; rw [hrun, hstate]; exact (hchan j).trans (if_neg hj)
  case list => rw [hrun, hstate]; rfl
  case boot => rw [hrun, hstate]; exact ⟨rfl, rfl⟩
  case ctx => intro d; rw [hrun]; exact hctx d
  case enters =>
    intro hb
    rw [State.enterRun_of_bootstrap (hpart.trans hb)]
    exact ⟨rfl, by rw [← hlink]; rfl⟩
  case stays =>
    intro hb
    rw [State.enterRun_of_not (by rwa [hpart])]
    exact ⟨hpart, hlink⟩

/-! ### The commit of a BOOT or INSTALL (R143) -/

/-- Slot y with the staged key made ACTIVE (R30, R58). -/
def State.activated (y : Nat) : State → State := State.updSlot y fun v =>
  { v with state := .active, predecessor := none, rate := 0, used := 0, intervalCharge := 0, age := 0 }

theorem State.activated_slot {s : State} {y : Nat} (hy : 1 ≤ y ∧ y ≤ 23) (z : Nat) : (s.activated y).slot z = if z = y then
    { s.slot z with state := .active, predecessor := none, rate := 0, used := 0, intervalCharge := 0, age := 0 }
    else s.slot z := by
  rw [State.activated, State.slot_updSlot]
  by_cases hz : z = y
  · subst hz
    rw [if_pos ⟨rfl, hy⟩, if_pos rfl]
  · rw [if_neg (by simp [hz]), if_neg hz]

theorem State.bindControl_ctx_self (c y : Nat) (s : State) : (s.bindControl c y).ctx c = s.ctx c := by
  by_cases h : (s.chan 0).current = none
  · rw [State.bindControl_of_unbound c y h, State.enterRun_state]
    refine ((s.boundControl y).endBootRequest_ctx c c).trans (if_neg fun hfind => ?_)
    have hwaits := List.find?_some hfind
    simp [State.waitsBoot] at hwaits
  · rw [State.bindControl_of_bound c y h]

theorem State.completeInstall_eq {s : State} {c y : Nat} (hy : (s.ctx c).successor = some y)
    (hstaged : (s.slot y).state = .staged) : s.completeInstall c
      = ((((s.activated y).bindControl c y).clearRenewalFaults (.slot 0)).finishContext c) := by
  rw [State.completeInstall, hy]
  exact congrArg (fun t : State => (t.clearRenewalFaults (.slot 0)).finishContext c) (if_pos hstaged)

/-- A clear makes no record ACTIVE. -/
theorem State.clearFault_active {s : State} {k : FaultKind} {x : Subject} {f : FaultRecord}
    (hf : f ∈ (s.clearFault k x).faults.records) (hactive : f.active = true) : f ∈ s.faults.records := by
  unfold State.clearFault at hf
  split at hf
  next r hfind =>
    split at hf
    next =>
      simp only [State.latchFault_frame, State.armOneShot_frame, State.updRecord, State.updFaults_faults] at hf
      obtain ⟨q, hq, rfl⟩ := List.mem_map.mp hf
      by_cases hhit : q.hits k x = true
      · rw [if_pos hhit] at hactive
        exact nomatch hactive
      · rwa [if_neg hhit]
    next => exact hf
  next => exact hf

/-- After the clears of a completed exchange no renewal record of its subject is ACTIVE (R143, R144). -/
theorem State.clearRenewalFaults_cleared {s : State} (hlaw : s.FaultListLaw) (x : Subject) :
    ∀ f ∈ (s.clearRenewalFaults x).faults.records, f.subject = x → (f.kind = .renewalFailed ∨ f.kind = .renewalRefused) →
      f.active = false := by
  rintro f hf hsubject (hkind | hkind)
  · by_contra hne
    rw [Bool.not_eq_false] at hne
    exact absurd (State.clearFault_cleared hlaw .renewalFailed x f (State.clearFault_active hf hne) hkind hsubject)
      (by rw [hne]; decide)
  · exact State.clearFault_cleared (hlaw.clearFault ..) .renewalRefused x f hf hkind hsubject

/-! ### The three commits -/

theorem State.completeRenewal_switched {s : State} {c e x y : Nat} (hc : c < 4) (hexchange : (s.ctx c).exchange = some e)
    (hsubject : (s.ctx c).subject = some x) (hsuccessor : (s.ctx c).successor = some y) (hx : 1 ≤ x ∧ x ≤ 23)
    (hy : 1 ≤ y ∧ y ≤ 23) (hactive : (s.slot x).state = .active) (hstaged : (s.slot y).state = .staged) :
    s.Switched (s.completeRenewal c) x y ∧ (s.completeRenewal c).ctx c = {}
      ∧ (∀ d, d ≠ c → (s.completeRenewal c).ctx d = s.ctx d)
      ∧ (s.completeRenewal c).messenger.finished.getLast? = some e ∧ (s.completeRenewal c).backoff x = {}
      ∧ (s.completeRenewal c).renewal.completed = min (s.renewal.completed + 1) 65535
      ∧ (s.completeRenewal c).root = s.root ∧ (s.completeRenewal c).pool = s.pool ∧ (s.completeRenewal c).ctrl = s.ctrl := by
  rw [State.completeRenewal_eq hsubject hsuccessor]
  have hswitched := State.switchSlots_switched hx hy hactive hstaged
  have hframe := s.switchSlots_frame x y
  have hctxs := (s.switchSlots_reads x y).1
  have hsame := (s.switchSlots x y).renewalCleared_same x
  generalize s.switchSlots x y = t at *
  generalize t.renewalCleared x = u at *
  have hslots : u.slots = t.slots ∧ u.chans = t.chans ∧ u.renewal = t.renewal ∧ u.root = t.root ∧ u.pool = t.pool
      ∧ u.ctrl = t.ctrl := by
    rw [State.sameButFaults] at hsame
    rw [hsame]
    exact ⟨rfl, rfl, rfl, rfl, rfl, rfl⟩
  obtain ⟨hslots, hchans, hrenewal, hroot, hpool, hctrl⟩ := hslots
  have hctx : ∀ d, (u.setBackoff x {}).ctx d = s.ctx d := fun d => by
    rw [← hctxs d, State.ctx, State.ctx, State.setBackoff_renewal, hrenewal]
  have hheld : ((u.setBackoff x {}).ctx c).exchange = some e := by rw [hctx, hexchange]
  obtain ⟨hself, hothers⟩ := State.finishContext_ctx hc hheld
  have hslot : ∀ z, ((u.setBackoff x {}).finishContext c).slot z = t.slot z := fun z => by simp [State.slot, hslots]
  have hchan : ∀ i, ((u.setBackoff x {}).finishContext c).chan i = t.chan i := fun i => by simp [State.chan, hchans]
  refine ⟨⟨(hslot x).trans hswitched.old, (hslot y).trans hswitched.new,
    fun z hzx hzy => (hslot z).trans (hswitched.slots z hzx hzy), fun i => (hchan i).trans (hswitched.chan i)⟩, hself,
    fun d hd => (hothers d hd).trans (hctx d), State.finishContext_finished hheld, ?backoff, ?completed, ?root, ?pool, ?ctrl⟩
  case backoff =>
    have hbackoff : (u.setBackoff x {}).backoff x = {} := by rw [State.backoff_setBackoff, if_pos ⟨rfl, hx⟩]
    rw [State.finishContext_eq hheld]
    exact hbackoff
  case completed =>
    have hcount : (u.setBackoff x {}).renewal.completed = s.renewal.completed := by
      rw [State.setBackoff_renewal, hrenewal]
      simp [hframe]
    rw [State.finishContext_eq hheld, ← hcount]
    rfl
  case root => simp [hroot, hframe]
  case pool => simp [hpool, hframe]
  case ctrl => simp [hctrl, hframe]

/-- Between b and t a commit of context c under exchange e has finished. -/
structure State.Finishes (b t : State) (c e : Nat) (x : Subject) : Prop where
  state : t = { b with
    messenger := { b.messenger with finished := t.messenger.finished }
    renewal := { b.renewal with contexts := t.renewal.contexts, completed := min (b.renewal.completed + 1) 65535 }
    faults := t.faults, beacon := t.beacon, sPort := { b.sPort with faultCause := t.sPort.faultCause }
    lPort := { b.lPort with faultCause := t.lPort.faultCause } }
  self : t.ctx c = {}
  others : ∀ d, d ≠ c → t.ctx d = b.ctx d
  finished : t.messenger.finished.getLast? = some e
  cleared : b.FaultListLaw → ∀ f ∈ t.faults.records, f.subject = x → (f.kind = .renewalFailed ∨ f.kind = .renewalRefused) →
    f.active = false

theorem State.finishContext_finishes {b : State} {c e : Nat} (hc : c < 4) (h : (b.ctx c).exchange = some e) (x : Subject) :
    b.Finishes ((b.clearRenewalFaults x).finishContext c) c e x := by
  have hsame := State.clearRenewalFaults_same x b
  have hcleared := fun h => State.clearRenewalFaults_cleared (s := b) h x
  generalize b.clearRenewalFaults x = u at *
  rw [State.sameButFaults] at hsame
  have hctx : ∀ d, u.ctx d = b.ctx d := fun d => by rw [hsame]; rfl
  have hheld : (u.ctx c).exchange = some e := by rw [hctx, h]
  obtain ⟨hself, hothers⟩ := State.finishContext_ctx hc hheld
  refine ⟨?_, hself, fun d hd => (hothers d hd).trans (hctx d), State.finishContext_finished hheld,
    fun hlaw f hf => hcleared hlaw f (by simpa using hf)⟩
  rw [State.finishContext_eq hheld, hsame]
  rfl

section
variable {b t : State} {c e : Nat} {x : Subject} (h : b.Finishes t c e x)
include h

theorem State.Finishes.slot (z : Nat) : t.slot z = b.slot z := by rw [h.state]; rfl

theorem State.Finishes.chan (j : Nat) : t.chan j = b.chan j := by rw [h.state]; rfl

theorem State.Finishes.chans : t.chans = b.chans := by rw [h.state]

theorem State.Finishes.part : t.partState = b.partState ∧ t.link = b.link := by rw [h.state]; exact ⟨rfl, rfl⟩

theorem State.Finishes.requests : t.renewal.list = b.renewal.list ∧ t.renewal.bootBackoff = b.renewal.bootBackoff
    ∧ t.renewal.bootRelist = b.renewal.bootRelist := by rw [h.state]; exact ⟨rfl, rfl, rfl⟩

end

theorem State.commitContext_install {s : State} {c : Nat} (h : (s.ctx c).kind = some .boot ∨ (s.ctx c).kind = some .install) :
    s.commitContext c = s.completeInstall c := by
  rcases h with h | h <;> rw [State.commitContext, h]

theorem State.completeRoot_eq {s : State} {c : Nat} {m : Block} (h : s.root.pendingRoot = some m) :
    s.completeRoot c = ((s.updRoot fun r =>
      { r with material := m, txCounter := 1, pendingRoot := none, unsavedCounter := none }).clearRenewalFaults
        (.slot 0)).finishContext c := by
  rw [State.completeRoot, h]

/-- Settles O33: the holder of the exchange is the context named; each kind of it has its own completion. -/
theorem keyCommitSwitchesKeys : Obligations.KeyCommitSwitchesKeys := by
  refine ⟨?renewal, ?install, ?root⟩
  case renewal =>
    intro s c e x y hc hstate hexchange hfirst hkind hsubject hsuccessor hxlow hxhigh hylow hyhigh hactive hstaged
    have hcommit : s.takeMessage (.commit e) = s.completeRenewal c := by
      rw [State.takeCommit_of_first hc hstate hexchange hfirst, State.commitContext, hkind]
    obtain ⟨hswitched, hself, hothers, hfinished, hbackoff, hcompleted, hroot, hpool, hctrl⟩ :=
      State.completeRenewal_switched hc hexchange hsubject hsuccessor ⟨hxlow, hxhigh⟩ ⟨hylow, hyhigh⟩ hactive hstaged
    rw [hcommit]
    refine ⟨hswitched.old, ?new, ?refs, hswitched.slots, fun i _ hi => ?current, fun i r hkind ht hr => ?aliased,
      fun i hown ht => ?other, hself, hothers, hfinished, hbackoff, hcompleted, hroot, hpool, hctrl⟩
    case new => rw [hswitched.new]
    case refs => rw [hswitched.new, State.countChans_eq]
    case current => exact (hswitched.chan i).trans (State.reboundChan_current y hi)
    case aliased => exact (hswitched.chan i).trans (State.reboundChan_alias y hkind ht hr)
    case other => exact (hswitched.chan i).trans (State.reboundChan_other y hown ht)
  case install =>
    intro s c e y hc hstate hexchange hfirst hkind hsuccessor hlow hhigh hstaged
    have hcommit : s.takeMessage (.commit e) = s.completeInstall c := by
      rw [State.takeCommit_of_first hc hstate hexchange hfirst, State.commitContext_install hkind]
    rw [hcommit, State.completeInstall_eq hsuccessor hstaged]
    have hslot : ∀ z, (s.activated y).slot z = if z = y then
        { s.slot z with state := .active, predecessor := none, rate := 0, used := 0, intervalCharge := 0, age := 0 }
        else s.slot z := State.activated_slot ⟨hlow, hhigh⟩
    have hbctx := State.bindControl_ctx_self c y (s.activated y)
    have hbstate := State.bindControl_state c y (s.activated y)
    have hbinds := State.bindControl_binds (s := s.activated y) c (y := y) ⟨hlow, hhigh⟩
    have hbound := State.bindControl_of_bound (s := s.activated y) c y
    generalize (s.activated y).bindControl c y = b at *
    have hlaw : s.FaultListLaw → b.FaultListLaw := fun h => h.congr (by rw [hbstate]; rfl) (by rw [hbstate]; rfl)
    have hfinish := State.finishContext_finishes (b := b) hc (by rw [hbctx]; exact hexchange) (.slot 0)
    generalize (b.clearRenewalFaults (.slot 0)).finishContext c = t at *
    obtain ⟨hpart, hlink⟩ := hfinish.part
    obtain ⟨hlist, hbackoff, hrelist⟩ := hfinish.requests
    refine ⟨?state, (hfinish.slot y).trans ?slot, fun z hz => (hfinish.slot z).trans ?slots,
      fun j hj => (hfinish.chan j).trans ?chans, hfinish.self, hfinish.finished, fun h => hfinish.cleared (hlaw h),
      fun h => ?binds, fun h => ?stays⟩
    case state =>
      rw [hfinish.state, hbstate]
      rfl
    case slot =>
      rw [hfinish.slot y]
      by_cases h : (s.chan 0).current = none
      · rw [(hbinds h).slot, hslot, if_pos rfl]
      · rw [hbound h, hslot, if_pos rfl]
    case slots =>
      by_cases h : (s.chan 0).current = none
      · rw [(hbinds h).slots z hz, hslot, if_neg hz]
      · rw [hbound h, hslot, if_neg hz]
    case chans =>
      by_cases h : (s.chan 0).current = none
      · exact (hbinds h).chans j hj
      · rw [hbound h]
        rfl
    case binds =>
      have hb := hbinds h
      have hnext : ∀ d, d ≠ c → t.ctx d = if contextNumbers.find? (s.waitsBoot c) = some d then {} else s.ctx d :=
        fun d hd => (hfinish.others d hd).trans (hb.ctx d)
      refine ⟨?_, (hfinish.chan 0).trans hb.chan, (hlist.trans hb.list).trans (List.filter_congr fun q _ => ?_),
        hbackoff.trans hb.boot.1, hrelist.trans hb.boot.2, fun d hd hd4 hkind hstate hfirst => ?_, fun d hd hnot => ?_,
        fun hp => ⟨hpart.trans (hb.enters hp).1, hlink.trans (hb.enters hp).2⟩,
        fun hp => ⟨hpart.trans (hb.stays hp).1, hlink.trans (hb.stays hp).2⟩⟩
      · rw [hfinish.slot y, hb.slot, hslot, if_pos rfl]
      · cases q.slot <;> rfl
      · rw [hnext d hd, if_pos (State.find_waitsBoot hd4 (by simp [State.waitsBoot, hd, hkind, hstate]) fun b hb => ?_)]
        have hno := hfirst b hb
        simp only [State.waitsBoot, Bool.and_eq_false_iff, bne_eq_false_iff_eq, beq_eq_false_iff_ne]
        tauto
      · refine (hnext d hd).trans (if_neg fun hfind => hnot ?_)
        have hwaits := List.find?_some hfind
        simp only [State.waitsBoot, Bool.and_eq_true, beq_iff_eq] at hwaits
        exact ⟨hwaits.1.2, hwaits.2⟩
    case stays =>
      have hb := hbound h
      subst hb
      refine ⟨?_, hfinish.chans, hpart, hlink, hlist, hbackoff, hrelist, hfinish.others⟩
      rw [hfinish.slot y, hslot, if_pos rfl]
  case root =>
    intro s c e m hc hstate hexchange hfirst hkind hpending
    have hcommit : s.takeMessage (.commit e) = s.completeRoot c := by
      rw [State.takeCommit_of_first hc hstate hexchange hfirst, State.commitContext, hkind]
    rw [hcommit, State.completeRoot_eq hpending]
    have hfinish := State.finishContext_finishes (b := s.updRoot fun r =>
      { r with material := m, txCounter := 1, pendingRoot := none, unsavedCounter := none }) hc hexchange (.slot 0)
    exact ⟨hfinish.state, hfinish.self, hfinish.others, hfinish.finished⟩

end Sys2Proof.Machine
end

section
/-! PROOFS. The refutation of O32. A delivery that finds no EMPTY slot raises NO_KEY_SLOT, and its KEY REJECT then raises
POOL_LOW when no buffer is free. The statement takes any fault list. In a full list whose identifiers repeat, the raise of
POOL_LOW removes the first CLEARED record and with it an ACTIVE NO_KEY_SLOT of the same identifier, so that none stands. -/

namespace Sys2Proof.Machine

/-- A full list whose only CLEARED record has the identifier of its record of NO_KEY_SLOT. -/
def doubledList : List FaultRecord :=
  { id := 1, kind := .noKeySlot, subject := .nothing, first := 0, last := 0, active := true }
    :: { id := 1, kind := .restarted, subject := .nothing, first := 0, last := 0, active := false }
    :: (List.range 14).map fun k => { id := k + 2, kind := .renewalFailed, subject := .slot k, first := 0, last := 0, active := true }

/-- The part in RUN with every working slot ACTIVE, no buffer free and that list. -/
def doubledState : State :=
  { State.reset with
    partState := .run, slots := Vector.replicate 23 { state := .active }, pool := { State.reset.pool with free := 0 }
    faults := { records := doubledList } }

/-- A delivery for any free slot that names neither an exchange nor a predecessor. -/
def anyFreeDelivery : Delivery :=
  { exchange := 0, target := .anyFree, targetCode := 255, predecessor := none, generation := 0, level := 0, hard := 0, soft := 0
    lead := 0, maxAge := 0, c1 := 0, c2 := 0 }

theorem doubledState_takeMessage :
    doubledState.takeMessage (.delivery anyFreeDelivery) = doubledState.rejectDelivery anyFreeDelivery .noSlot := rfl

theorem doubledState_noKeySlot :
    ¬ (doubledState.rejectDelivery anyFreeDelivery .noSlot).faultStands .noKeySlot .nothing := by
  unfold State.faultStands
  decide

theorem doubledState_ctx (c : Nat) : doubledState.ctx c = {} := State.ctx_reset c

theorem doubledState_slot {y : Nat} (hlow : 1 ≤ y) (hhigh : y ≤ 23) : (doubledState.slot y).state = .active := by
  interval_cases y <;> rfl

/-- Refutes O32: NO_KEY_SLOT does not stand after a rejection with reason 2 in `doubledState`. -/
theorem not_deliveryStagesKey : ¬ Obligations.DeliveryStagesKey := by
  intro h
  obtain ⟨-, -, hrejects⟩ := h
  have hclosed : ∀ c, (doubledState.ctx c).isOpen = false := fun c => by rw [doubledState_ctx]; rfl
  have hnoSlot : ∀ y, 1 ≤ y → y ≤ 23 → (doubledState.slot y).state ≠ .empty := fun y hlow hhigh => by
    rw [doubledState_slot hlow hhigh]
    decide
  obtain ⟨-, hstands, -⟩ := hrejects doubledState anyFreeDelivery 2
    { doubledState.messenger with
      rejectNoSlot := min (doubledState.messenger.rejectNoSlot + 1) 65535, noSlotMark := true }
    (fun c hopen => absurd hopen (by rw [hclosed c]; decide))
    (fun _ hexchange => absurd rfl hexchange)
    (.inr (.inl ⟨rfl, ⟨0, by decide, .inr ⟨rfl, rfl, hclosed 0⟩⟩, rfl, hnoSlot, rfl⟩))
  exact doubledState_noKeySlot (doubledState_takeMessage ▸ hstands rfl)

end Sys2Proof.Machine
end

section
/-! PROOFS. The start of inbound work (R88 to R95): what it takes, the key it finds, the window it moves. The rules that the
statements about accepted and discarded frames share. -/

namespace Sys2Proof.Machine

/-! ### The frame taken (R77 to R79, R88) -/

/-- The part as the inbound checks see it: the frame out of L-rx, a place of S-out set aside. -/
def State.frameTaken (s : State) (rest : List LineIn) : State :=
  ((s.updLRx fun _ => rest).setDirection .inbound).setAsidePlace true

theorem State.pick_of_inbound {s : State} {f : LineIn} {rest : List LineIn} (hidle : s.engine.work = none)
    (hstate : s.partState = .noRoot ∨ s.partState = .bootstrap ∨ s.partState = .run) (hlRx : s.lRx = f :: rest)
    (hcomplete : f.complete = true) (hplace : s.sOut.length + s.pool.setAside.toNat < 32)
    (hturn : s.outboundPick = none ∨ s.engine.lastDirection = .outbound) : s.pick = some .inbound := by
  have heligible : s.inboundEligible = true := by
    simp [State.inboundEligible, hlRx, hcomplete, State.sOutRoom, State.sOutTaken, queuePlaces, hplace]
  have hchoice : (match s.inboundEligible, s.outboundPick with
      | true, none => some Pick.inbound
      | true, some o => if s.engine.lastDirection = .outbound then some .inbound else some o
      | false, o => o) = some .inbound := by
    rw [heligible]
    cases hpick : s.outboundPick with
    | none => rfl
    | some o =>
      have hlast : s.engine.lastDirection = .outbound := hturn.resolve_left (by rw [hpick]; exact nofun)
      exact if_pos hlast
  unfold State.pick
  rw [if_neg (by rw [hidle]; decide)]
  rcases hstate with h | h | h <;> rw [h] <;> exact hchoice

theorem exec_inboundStart {s : State} {f : LineIn} {rest : List LineIn} (hidle : s.engine.work = none)
    (hstate : s.partState = .noRoot ∨ s.partState = .bootstrap ∨ s.partState = .run) (hlRx : s.lRx = f :: rest)
    (hcomplete : f.complete = true) (hplace : s.sOut.length + s.pool.setAside.toNat < 32)
    (hturn : s.outboundPick = none ∨ s.engine.lastDirection = .outbound) :
    exec .inboundStart s = .next ((s.frameTaken rest).checkInbound f) := by
  have hstart : s.startInbound = (s.frameTaken rest).checkInbound f := by
    rw [State.startInbound, if_pos (State.pick_of_inbound hidle hstate hlRx hcomplete hplace hturn), hlRx]
    rfl
  exact congrArg Host.Outcome.next hstart

/-! ### The first checks (R89) -/

section
variable {s : State} {f : LineIn}

theorem State.checkInbound_noRoot (h : s.partState = .noRoot) :
    s.checkInbound f = s.discardFrame .notReady f.parts.header.channel.toNat none := if_pos h

theorem State.checkInbound_malformed (h : s.partState ≠ .noRoot) (hformed : f.formed = false) :
    s.checkInbound f = s.discardFrame .malformed f.parts.header.channel.toNat none :=
  (if_neg h).trans (if_pos (by rw [hformed]; rfl))

theorem State.checkInbound_foreign (h : s.partState ≠ .noRoot) (hformed : f.formed = true)
    (htag : s.root.storeTag ≠ some f.parts.header.storeTag) :
    s.checkInbound f = s.discardFrame .foreign f.parts.header.channel.toNat none :=
  (if_neg h).trans ((if_neg (by rw [hformed]; decide)).trans (if_pos htag))

theorem State.checkInbound_tagged (h : s.partState ≠ .noRoot) (hformed : f.formed = true)
    (htag : s.root.storeTag = some f.parts.header.storeTag) : s.checkInbound f =
      if s.partState = .bootstrap ∧ f.parts.header.kind ≠ kindControl then
        s.discardFrame .notReady f.parts.header.channel.toNat none
      else if !(s.chan f.parts.header.channel.toNat).namesKey then
        s.discardFrame .noChannel f.parts.header.channel.toNat none
      else s.checkKey f f.parts.header.channel.toNat :=
  (if_neg h).trans ((if_neg (by rw [hformed]; decide)).trans (if_neg (by rw [htag]; exact fun h => h rfl)))

/-- A frame of the part's tag in a part that takes its kind reaches the search for its key. -/
theorem State.checkInbound_keyed (h : s.partState = .run ∨ s.partState = .bootstrap ∧ f.parts.header.kind = kindControl)
    (hformed : f.formed = true) (htag : s.root.storeTag = some f.parts.header.storeTag)
    (hnames : (s.chan f.parts.header.channel.toNat).namesKey = true) :
    s.checkInbound f = s.checkKey f f.parts.header.channel.toNat := by
  have hroot : s.partState ≠ .noRoot := by rcases h with h | ⟨h, -⟩ <;> rw [h] <;> decide
  have hkind : ¬ (s.partState = .bootstrap ∧ f.parts.header.kind ≠ kindControl) := by
    rintro ⟨hboot, hne⟩
    rcases h with h | ⟨-, h⟩
    · rw [h] at hboot
      exact nomatch hboot
    · exact hne h
  rw [State.checkInbound_tagged hroot hformed htag, if_neg hkind, if_neg (by rw [hnames]; decide)]

end

/-! ### The key found (R90) -/

section
variable {s : State} {i : Nat} {h : LineHeader}

theorem State.isKey_some {o : Option Nat} : s.isKey o h = true ↔
    ∃ x, o = some x ∧ h.slot.toNat = x ∧ (s.slot x).generation = h.generation := by
  cases o with
  | none => simp [State.isKey]
  | some x =>
    simp only [State.isKey, Bool.and_eq_true, beq_iff_eq]
    refine ⟨fun ⟨hslot, hgen⟩ => ⟨x, rfl, hslot, hgen⟩, ?_⟩
    rintro ⟨y, hy, hslot, hgen⟩
    cases hy
    exact ⟨hslot, hgen⟩

/-- The current or alternate slot of a descriptor is found by its index and generation. -/
theorem State.findKey_bound {x : Nat} (hx : (s.chan i).current = some x ∨ (s.chan i).alternate = some x)
    (hslot : h.slot.toNat = x) (hgen : (s.slot x).generation = h.generation) : s.findKey i h = some (.slot x) := by
  unfold State.findKey
  by_cases hcur : s.isKey (s.chan i).current h = true
  · obtain ⟨y, hy, hslot', -⟩ := State.isKey_some.mp hcur
    refine (if_pos hcur).trans ?_
    rw [hy, ← hslot', hslot]
    rfl
  · have halt : (s.chan i).alternate = some x := hx.resolve_left fun h' =>
      hcur (State.isKey_some.mpr ⟨x, h', hslot, hgen⟩)
    refine (if_neg hcur).trans ((if_pos (State.isKey_some.mpr ⟨x, halt, hslot, hgen⟩)).trans ?_)
    rw [halt]
    rfl

/-- Neither the current nor the alternate slot: what the staged successor and the root decide. -/
theorem State.findKey_unbound (hcur : s.isKey (s.chan i).current h = false) (halt : s.isKey (s.chan i).alternate h = false) :
    (∀ x y k, s.stagedSuccessor (s.chan i) = some (x, y, k) → s.isKey (some y) h = true →
        s.findKey i h = some (.successor x y k))
      ∧ ((∀ x y k, s.stagedSuccessor (s.chan i) = some (x, y, k) → s.isKey (some y) h = false) →
        s.findKey i h = if i = 0 ∧ s.rootAccepted ∧ h.slot = 0 ∧ h.generation = 0 then some .root else none) := by
  have hfind : s.findKey i h = match s.stagedSuccessor (s.chan i) with
      | some (x, y, k) =>
        if s.isKey (some y) h then some (.successor x y k)
        else if i = 0 ∧ s.rootAccepted ∧ h.slot = 0 ∧ h.generation = 0 then some .root
        else none
      | none => if i = 0 ∧ s.rootAccepted ∧ h.slot = 0 ∧ h.generation = 0 then some .root else none :=
    (if_neg (by rw [hcur]; decide)).trans (if_neg (by rw [halt]; decide))
  rw [hfind]
  refine ⟨fun x y k hstaged hkey => ?_, fun hno => ?_⟩
  · rw [hstaged]
    exact if_pos hkey
  · cases hstaged : s.stagedSuccessor (s.chan i) with
    | none => rfl
    | some r =>
      obtain ⟨x, y, k⟩ := r
      exact if_neg (by rw [hno x y k hstaged]; decide)

/-- What a staged successor found is: the STAGED successor of the current slot, with the context that staged it. -/
theorem State.stagedSuccessor_some {c : Channel} {x y k : Nat} (hs : s.stagedSuccessor c = some (x, y, k)) :
    c.current = some x ∧ (s.slot x).successor = some y ∧ (s.slot y).state = .staged
      ∧ s.findCtx (fun z => z.state == .awaitCommit && z.successor == some y) = some k := by
  unfold State.stagedSuccessor at hs
  cases hcur : c.current with
  | none => simp [hcur] at hs
  | some x' =>
    cases hsucc : (s.slot x').successor with
    | none => simp [hcur, hsucc] at hs
    | some y' =>
      by_cases hstate : (s.slot y').state = .staged
      · simp only [hcur, hsucc, hstate, if_true, Option.map_eq_some_iff, Prod.mk.injEq] at hs
        obtain ⟨k', hk, rfl, rfl, rfl⟩ := hs
        exact ⟨rfl, hsucc, hstate, hk⟩
      · simp [hcur, hsucc, hstate] at hs

theorem State.stagedSuccessor_of {c : Channel} {x y k : Nat} (hcur : c.current = some x)
    (hsucc : (s.slot x).successor = some y) (hstate : (s.slot y).state = .staged)
    (hk : s.findCtx (fun z => z.state == .awaitCommit && z.successor == some y) = some k) :
    s.stagedSuccessor c = some (x, y, k) := by
  simp only [State.stagedSuccessor, hcur, hsucc, hstate, if_true, hk, Option.map_some]

end

/-! ### The window (R91) -/

theorem isReplay_iff (n top : Nat) (seen : BitVec 64) : isReplay n top seen = true ↔
    n = 0 ∨ n + 64 ≤ top ∨ (n ≤ top ∧ seen.getLsbD (top - n) = true) := by
  simp [isReplay, or_assoc]

theorem nextWindow_top (n top : Nat) (seen : BitVec 64) : (nextWindow n top seen).1 = max top n := by
  unfold nextWindow
  split_ifs <;> simp only <;> omega

/-- The entries of the moved window: those of the old one, shifted to the new top, and the counter's own. -/
theorem nextWindow_seen {n top : Nat} (seen : BitVec 64) (hnew : top < n ∨ top < n + 64) {j : Nat} (hj : j < 64) :
    (nextWindow n top seen).2.getLsbD j =
      if top < n then decide (j = 0) || (decide (n - top ≤ j) && seen.getLsbD (j - (n - top)))
      else decide (j = top - n) || seen.getLsbD j := by
  unfold nextWindow
  by_cases htop : top < n
  · rw [if_pos htop, if_pos htop]
    by_cases hfar : n - top < 64
    · have hone : (1#64).getLsbD j = decide (j = 0) := by simp [BitVec.getLsbD_one]
      simp only [if_pos hfar, BitVec.getLsbD_or, BitVec.getLsbD_shiftLeft, hone, hj, decide_true, Bool.true_and]
      rw [Bool.or_comm]
      by_cases hlow : n - top ≤ j
      · simp [hlow, Nat.not_lt.mpr hlow]
      · simp [hlow, Nat.lt_of_not_le hlow]
    · have hnot : ¬ n - top ≤ j := by omega
      simp [hfar, hnot, BitVec.getLsbD_one]
  · have hclose : top - n < 64 := by omega
    rw [if_neg htop, if_neg htop, if_pos hclose, BitVec.getLsbD_or, BitVec.getLsbD_shiftLeft, Bool.or_comm]
    congr 1
    by_cases heq : j = top - n
    · simp [heq, hclose]
    · by_cases hlow : j < top - n
      · simp [heq, hlow]
      · have hne : j - (top - n) ≠ 0 := by omega
        simp [heq, hlow, hne, BitVec.getLsbD_one]

/-! ### A valid frame (R91, R92, R104) -/

/-- The part after the tag of a frame has passed: the window of its key moved, the Link Watch told. -/
def State.validated (k : FoundKey) (n : Nat) (s : State) : State := (s.updateWindow k n).reportValid

theorem State.reportValid_state (s : State) : s.reportValid = { s with
    link := { s.link with quietRemaining := 15, quietMark := false }, faults := s.reportValid.faults
    beacon := s.reportValid.beacon, sPort := { s.sPort with faultCause := s.reportValid.sPort.faultCause }
    lPort := { s.lPort with faultCause := s.reportValid.lPort.faultCause } } := by
  by_cases h : s.link.quietMark = true
  · have hvalid : s.reportValid = ((s.updLink fun l => { l with quietRemaining := 15 }).updLink
        fun l => { l with quietMark := false }).clearFault .linkQuiet .link := if_pos h
    have hsame := State.clearFault_same .linkQuiet .link
      ((s.updLink fun l => { l with quietRemaining := 15 }).updLink fun l => { l with quietMark := false })
    rw [← hvalid, State.sameButFaults] at hsame
    exact hsame
  · have hvalid : s.reportValid = s.updLink fun l => { l with quietRemaining := 15 } := if_neg h
    rw [hvalid, ← Bool.eq_false_iff.mpr h]
    rfl

theorem State.updateWindow_slot {k : FoundKey} {x : Nat} (hk : k.slot? = some x) (n : Nat) (s : State) :
    s.updateWindow k n = s.updSlot x fun v =>
      { v with top := (nextWindow n v.top v.seen).1, seen := (nextWindow n v.top v.seen).2 } := by
  rw [State.updateWindow, hk]

theorem State.updateWindow_root {k : FoundKey} (hk : k.slot? = none) (n : Nat) (s : State) : s.updateWindow k n = s := by
  rw [State.updateWindow, hk]

theorem State.validated_state (k : FoundKey) (n : Nat) (s : State) : s.validated k n = { s with
    slots := (s.validated k n).slots, link := { s.link with quietRemaining := 15, quietMark := false }
    faults := (s.validated k n).faults, beacon := (s.validated k n).beacon
    sPort := { s.sPort with faultCause := (s.validated k n).sPort.faultCause }
    lPort := { s.lPort with faultCause := (s.validated k n).lPort.faultCause } } := by
  cases hk : k.slot? with
  | none =>
    rw [State.validated, State.updateWindow_root hk]
    exact s.reportValid_state.trans (by rw [s.reportValid_state])
  | some x =>
    rw [State.validated, State.updateWindow_slot hk, State.reportValid_state]
    rfl

theorem State.validated_slots_root {k : FoundKey} (hk : k.slot? = none) (n : Nat) (s : State) :
    (s.validated k n).slots = s.slots := by
  rw [State.validated, State.updateWindow_root hk, State.reportValid_state]

theorem State.validated_slot {k : FoundKey} {x : Nat} (hk : k.slot? = some x) (hx : 1 ≤ x ∧ x ≤ 23) (n : Nat) (s : State)
    (y : Nat) : (s.validated k n).slot y = if y = x then
      { s.slot x with top := max (s.slot x).top n, seen := (nextWindow n (s.slot x).top (s.slot x).seen).2 }
      else s.slot y := by
  have hslots : (s.validated k n).slot y = (s.updateWindow k n).slot y := by
    rw [State.validated, State.reportValid_state]
    rfl
  rw [hslots, State.updateWindow_slot hk, State.slot_updSlot, nextWindow_top]
  by_cases hy : y = x
  · rw [if_pos ⟨hy, hx⟩, if_pos hy]
  · rw [if_neg (by simp [hy]), if_neg hy]

theorem State.validated_chan (k : FoundKey) (n j : Nat) (s : State) : (s.validated k n).chan j = s.chan j := by
  rw [State.validated_state]
  rfl

/-! ### Steps 4 to 8 (R89) -/

section
variable {s : State} {f : LineIn} {i : Nat} {k : FoundKey}

/-- What steps 7 and 8 of R89 make of a validated frame. -/
def State.lateOutcome (f : LineIn) (k : FoundKey) (i : Nat) (t : State) : State :=
  match t.lateCheck i f.parts.header with
  | some r => t.discardFrame r i (some k)
  | none => t.launchInbound f k i

theorem State.checkKey_unknown (hk : s.findKey i f.parts.header = none) :
    s.checkKey f i = s.discardFrame .unknownKey i none := by
  simp only [State.checkKey, hk]

theorem State.checkKey_found (hk : s.findKey i f.parts.header = some k) : s.checkKey f i =
    if s.foundSuspect k then s.discardFrame .suspect i (some k)
    else if s.foundReplay k f.parts.header.counter.toNat then s.discardFrame .replay i (some k)
    else if !f.tagPasses (s.foundWorkKey k).material then s.discardFrame .tagFail i (some k)
    else (s.validated k f.parts.header.counter.toNat).lateOutcome f k i := by
  unfold State.checkKey
  dsimp only
  rw [hk]
  rfl

theorem State.checkKey_suspect (hk : s.findKey i f.parts.header = some k) (hsuspect : s.foundSuspect k = true) :
    s.checkKey f i = s.discardFrame .suspect i (some k) := (State.checkKey_found hk).trans (if_pos hsuspect)

theorem State.checkKey_replay (hk : s.findKey i f.parts.header = some k) (hsuspect : s.foundSuspect k = false)
    (hreplay : s.foundReplay k f.parts.header.counter.toNat = true) :
    s.checkKey f i = s.discardFrame .replay i (some k) :=
  (State.checkKey_found hk).trans ((if_neg (by rw [hsuspect]; decide)).trans (if_pos hreplay))

theorem State.checkKey_tagFail (hk : s.findKey i f.parts.header = some k) (hsuspect : s.foundSuspect k = false)
    (hreplay : s.foundReplay k f.parts.header.counter.toNat = false)
    (htag : f.tagPasses (s.foundWorkKey k).material = false) : s.checkKey f i = s.discardFrame .tagFail i (some k) :=
  (State.checkKey_found hk).trans ((if_neg (by rw [hsuspect]; decide)).trans
    ((if_neg (by rw [hreplay]; decide)).trans (if_pos (by rw [htag]; rfl))))

theorem State.checkKey_late (hk : s.findKey i f.parts.header = some k) (hsuspect : s.foundSuspect k = false)
    (hreplay : s.foundReplay k f.parts.header.counter.toNat = false)
    (htag : f.tagPasses (s.foundWorkKey k).material = true) {r : Discard}
    (hlate : s.lateCheck i f.parts.header = some r) :
    s.checkKey f i = (s.validated k f.parts.header.counter.toNat).discardFrame r i (some k) := by
  have hlate' : (s.validated k f.parts.header.counter.toNat).lateCheck i f.parts.header = some r := by
    rw [State.lateCheck, State.validated_chan]
    exact hlate
  rw [State.checkKey_found hk, if_neg (by rw [hsuspect]; decide), if_neg (by rw [hreplay]; decide),
    if_neg (by rw [htag]; decide), State.lateOutcome, hlate']

theorem State.checkKey_launch (hk : s.findKey i f.parts.header = some k) (hsuspect : s.foundSuspect k = false)
    (hreplay : s.foundReplay k f.parts.header.counter.toNat = false)
    (htag : f.tagPasses (s.foundWorkKey k).material = true) (hlate : s.lateCheck i f.parts.header = none) :
    s.checkKey f i = (s.validated k f.parts.header.counter.toNat).launchInbound f k i := by
  have hlate' : (s.validated k f.parts.header.counter.toNat).lateCheck i f.parts.header = none := by
    rw [State.lateCheck, State.validated_chan]
    exact hlate
  rw [State.checkKey_found hk, if_neg (by rw [hsuspect]; decide), if_neg (by rw [hreplay]; decide),
    if_neg (by rw [htag]; decide), State.lateOutcome, hlate']

/-- The frame fits the kind of its descriptor (R89 step 7). -/
def State.fitsKind (s : State) (i : Nat) (h : LineHeader) : Prop :=
  ((s.chan i).kind = .data ∧ h.kind = kindData) ∨ (i = 0 ∧ h.kind = kindControl)

theorem State.lateCheck_unfit {h : LineHeader} (hfit : ¬ s.fitsKind i h) : s.lateCheck i h = some .noChannel := by
  refine if_pos ?_
  rw [State.fitsKind] at hfit
  simp only [Bool.not_eq_true', Bool.or_eq_false_iff, Bool.and_eq_false_iff, beq_eq_false_iff_ne]
  tauto

theorem State.lateCheck_fit {h : LineHeader} (hfit : s.fitsKind i h) :
    s.lateCheck i h = if (s.chan i).flags.hold then some .held else none := by
  refine if_neg ?_
  rw [State.fitsKind] at hfit
  simp only [Bool.not_eq_true', Bool.not_eq_false, Bool.or_eq_true, Bool.and_eq_true, beq_iff_eq]
  exact hfit

end

end Sys2Proof.Machine
end

section
/-! PROOFS. An inbound frame accepted (R88 to R91, R95, O27): under the current or alternate slot, under the root, and under the
staged successor with the switch of its exchange. -/

namespace Sys2Proof.Machine

/-! ### Into flight -/

/-- The marks and the work of an inbound frame in flight. -/
def State.inFlight (f : LineIn) (key : WorkKey) (x : Option Nat) (i : Nat) (s : State) : State :=
  ((match x with
    | some x => s.markSlot x
    | none => s).markChannel i).setWork (some (.inbound f key f.parts.header.counter.toNat i))

theorem State.launchInbound_slot (f : LineIn) (x i : Nat) (s : State) :
    s.launchInbound f (.slot x) i = s.inFlight f (s.slotKey x) (some x) i := rfl

theorem State.launchInbound_root (f : LineIn) (i : Nat) (s : State) :
    s.launchInbound f .root i = s.inFlight f s.rootKey none i := rfl

theorem State.launchInbound_successor (f : LineIn) (x y c i : Nat) (s : State) :
    s.launchInbound f (.successor x y c) i = (s.completeRenewal c).inFlight f (s.slotKey y) (some y) i := rfl

theorem State.inFlight_state (f : LineIn) (key : WorkKey) (x : Option Nat) (i : Nat) (s : State) :
    s.inFlight f key x i = { s with
      slots := (s.inFlight f key x i).slots, chans := (s.inFlight f key x i).chans
      engine := { s.engine with work := some (.inbound f key f.parts.header.counter.toNat i) } } := by
  cases x <;> rfl

theorem State.inFlight_slot (f : LineIn) (key : WorkKey) {x : Nat} (hx : 1 ≤ x ∧ x ≤ 23) (i y : Nat) (s : State) :
    (s.inFlight f key (some x) i).slot y = if y = x then { s.slot x with engineUse := true } else s.slot y := by
  have hslot : (s.inFlight f key (some x) i).slot y = (s.markSlot x).slot y := rfl
  rw [hslot, State.markSlot, State.slot_updSlot]
  by_cases hy : y = x
  · rw [if_pos ⟨hy, hx⟩, if_pos hy]
  · rw [if_neg (by simp [hy]), if_neg hy]

theorem State.inFlight_slots_root (f : LineIn) (key : WorkKey) (i : Nat) (s : State) :
    (s.inFlight f key none i).slots = s.slots := rfl

theorem State.inFlight_chan (f : LineIn) (key : WorkKey) (x : Option Nat) {i : Nat} (hi : i < 48) (j : Nat) (s : State) :
    (s.inFlight f key x i).chan j = if j = i then { s.chan i with inEngine := true } else s.chan j := by
  have hchan : (s.inFlight f key x i).chan j = (s.markChannel i).chan j := by cases x <;> rfl
  rw [hchan, State.markChannel, State.chan_updChan]
  by_cases hj : j = i
  · rw [if_pos ⟨hj, hi⟩, if_pos hj]
  · rw [if_neg (by simp [hj]), if_neg hj]

/-! ### Under the current or alternate slot, and under the root -/

section
variable {s : State} {f : LineIn} {rest : List LineIn} {i : Nat}

/-- A descriptor whose kind fits a frame names its key and stands in the table. -/
theorem State.namesKey_of_fits (h : ((s.chan i).kind = .data ∧ f.parts.header.kind = kindData)
    ∨ (i = 0 ∧ (s.chan i).kind = .control ∧ f.parts.header.kind = kindControl)) :
    (s.chan i).namesKey = true ∧ s.fitsKind i f.parts.header := by
  rcases h with ⟨hkind, hheader⟩ | ⟨hi, hkind, hheader⟩
  · exact ⟨by simp [Channel.namesKey, hkind], .inl ⟨hkind, hheader⟩⟩
  · exact ⟨by simp [Channel.namesKey, hkind], .inr ⟨hi, hheader⟩⟩

theorem State.lt_of_namesKey (h : (s.chan i).namesKey = true) : i < 48 := by
  by_contra hi
  rw [State.chan_out s i hi] at h
  exact nomatch h

theorem State.fitsKind_lateCheck {h : LineHeader} (hfit : s.fitsKind i h) (hhold : (s.chan i).flags.hold = false) :
    s.lateCheck i h = none := (State.lateCheck_fit hfit).trans (if_neg (by rw [hhold]; decide))

theorem State.slotKey_validated {k : FoundKey} {x : Nat} (hk : k.slot? = some x) (hx : 1 ≤ x ∧ x ≤ 23) (n : Nat) :
    (s.validated k n).slotKey x = s.slotKey x := by
  rw [State.slotKey, State.validated_slot hk hx, if_pos rfl]
  rfl

/-- A replay is excluded by a counter above 0 that is new to its window. -/
theorem isReplay_eq_false {n top : Nat} {seen : BitVec 64} (hn : n ≠ 0)
    (h : top < n ∨ (top < n + 64 ∧ seen.getLsbD (top - n) = false)) : isReplay n top seen = false := by
  rw [Bool.eq_false_iff]
  intro hreplay
  rw [isReplay_iff] at hreplay
  rcases h with h | ⟨h, hbit⟩
  · omega
  · rcases hreplay with h0 | hfar | ⟨-, hset⟩
    · exact hn h0
    · omega
    · rw [hbit] at hset
      exact nomatch hset

end

/-! ### Under the staged successor (R95) -/

/-- What the launch under the staged successor of slot x has done: its exchange is completed, its key is in use. -/
theorem State.launch_switched {s : State} {f : LineIn} {i x y c e : Nat} (hi : i < 48) (hc : c < 4)
    (hexchange : (s.ctx c).exchange = some e) (hsubject : (s.ctx c).subject = some x) (hsuccessor : (s.ctx c).successor = some y)
    (hx : 1 ≤ x ∧ x ≤ 23) (hy : 1 ≤ y ∧ y ≤ 23) (hactive : (s.slot x).state = .active) (hstaged : (s.slot y).state = .staged)
    (hcurrent : (s.chan i).currentIs x = true) (key : WorkKey) :
    let t := (s.completeRenewal c).inFlight f key (some y) i
    t.engine = { s.engine with work := some (.inbound f key f.parts.header.counter.toNat i) }
      ∧ t.lRx = s.lRx ∧ t.pool = s.pool ∧ t.root = s.root ∧ t.ctrl = s.ctrl ∧ t.link = s.link
      ∧ t.slot x = { s.slot x with state := .draining, drain := 32 }
      ∧ t.slot y = { s.slot y with
          state := .active, rate := (s.slot x).rate, used := 0, intervalCharge := 0, age := 0, requested := false
          engineUse := true, refs := (t.slot y).refs }
      ∧ (∀ z, z ≠ x → z ≠ y → t.slot z = s.slot z)
      ∧ t.chan i = { s.chan i with
          current := some y, alternate := some x, inEngine := true
          state := if (s.chan i).state = .exhausted then .opened else (s.chan i).state }
      ∧ t.ctx c = {} ∧ (∀ d, d ≠ c → t.ctx d = s.ctx d) ∧ t.backoff x = {} ∧ t.messenger.finished.getLast? = some e
      ∧ t.renewal.completed = min (s.renewal.completed + 1) 65535 := by
  obtain ⟨hswitched, hself, hothers, hfinished, hbackoff, hcompleted, hroot, hpool, hctrl⟩ :=
    State.completeRenewal_switched hc hexchange hsubject hsuccessor hx hy hactive hstaged
  have hne : x ≠ y := fun h => by rw [h, hstaged] at hactive; exact nomatch hactive
  obtain ⟨-, -, -, -, -, -, -, -, -, -, hlRx, -, -, hengine, hlink⟩ := s.completeRenewal_frame c
  generalize s.completeRenewal c = u at *
  have hslot := State.inFlight_slot f key hy i (s := u)
  have hchan := State.inFlight_chan f key (some y) hi (s := u)
  have hstate := State.inFlight_state f key (some y) i u
  generalize u.inFlight f key (some y) i = t at *
  refine ⟨?_, ?_, ?_, ?_, ?_, ?_, ?_, ?_, fun z hzx hzy => ?_, ?_, ?_, fun d hd => ?_, ?_, ?_, ?_⟩
  · rw [hstate, hengine]
  · rw [hstate]; exact hlRx
  · rw [hstate]; exact hpool
  · rw [hstate]; exact hroot
  · rw [hstate]; exact hctrl
  · rw [hstate]; exact hlink
  · rw [hslot x, if_neg hne, hswitched.old]
  · rw [hslot y, if_pos rfl, hswitched.new]
  · rw [hslot z, if_neg hzy, hswitched.slots z hzx hzy]
  · rw [hchan i, if_pos rfl, hswitched.chan i, State.reboundChan_current y hcurrent]
  · rw [hstate]; exact hself
  · rw [hstate]; exact hothers d hd
  · rw [hstate]; exact hbackoff
  · rw [hstate]; exact hfinished
  · rw [hstate]; exact hcompleted

/-! ### The acceptance (O27) -/

section
variable {s : State} {f : LineIn} {rest : List LineIn} {i x : Nat}

/-- A frame under the current or alternate slot that passes every check goes into flight under it. -/
theorem State.checkKey_accepts_slot (hfit : s.fitsKind i f.parts.header) (hhold : (s.chan i).flags.hold = false)
    (hx : (s.chan i).current = some x ∨ (s.chan i).alternate = some x) (hrange : 1 ≤ x ∧ x ≤ 23)
    (hslot : f.parts.header.slot.toNat = x) (hgen : (s.slot x).generation = f.parts.header.generation)
    (hsuspect : (s.slot x).suspect = false)
    (hreplay : isReplay f.parts.header.counter.toNat (s.slot x).top (s.slot x).seen = false)
    (htag : f.tagPasses (s.slot x).material = true) :
    s.checkKey f i = (s.validated (.slot x) f.parts.header.counter.toNat).inFlight f (s.slotKey x) (some x) i := by
  rw [State.checkKey_launch (State.findKey_bound hx hslot hgen) hsuspect hreplay htag (State.fitsKind_lateCheck hfit hhold),
    State.launchInbound_slot, State.slotKey_validated (k := .slot x) rfl hrange]

/-- A frame of slot 0 and generation 0 goes into flight under the root where the root is accepted. -/
theorem State.checkKey_accepts_root (hfit : s.fitsKind 0 f.parts.header) (hhold : (s.chan 0).flags.hold = false)
    (hslot : f.parts.header.slot = 0) (hgen : f.parts.header.generation = 0) (hcur : (s.chan 0).current ≠ some 0)
    (halt : (s.chan 0).alternate ≠ some 0) (hroot : ∀ x, (s.chan 0).current = some x → (s.slot x).suspect = true)
    (hn : f.parts.header.counter.toNat ≠ 0) (htag : f.tagPasses s.root.material = true) :
    s.checkKey f 0 = (s.validated .root f.parts.header.counter.toNat).inFlight f s.rootKey none 0 := by
  have hslot0 : f.parts.header.slot.toNat = 0 := by rw [hslot]; rfl
  have hnot : ∀ o : Option Nat, o ≠ some 0 → s.isKey o f.parts.header = false := fun o ho => by
    rw [Bool.eq_false_iff]
    intro hkey
    obtain ⟨y, hy, hy0, -⟩ := State.isKey_some.mp hkey
    exact ho (by rw [hy, ← hy0, hslot0])
  have haccepted : s.rootAccepted = true := by
    unfold State.rootAccepted
    cases hc : (s.chan 0).current with
    | none => rfl
    | some x => exact hroot x hc
  have hstaged : ∀ x y k, s.stagedSuccessor (s.chan 0) = some (x, y, k) → s.isKey (some y) f.parts.header = false := by
    intro x y k h
    refine hnot _ fun hy => ?_
    obtain ⟨-, -, hstate, -⟩ := State.stagedSuccessor_some h
    rw [Option.some.inj hy, State.slot_out s 0 (by omega)] at hstate
    exact nomatch hstate
  have hfind : s.findKey 0 f.parts.header = some .root :=
    ((State.findKey_unbound (hnot _ hcur) (hnot _ halt)).2 hstaged).trans (if_pos ⟨rfl, haccepted, hslot, hgen⟩)
  have hreplay : s.foundReplay .root f.parts.header.counter.toNat = false := beq_eq_false_iff_ne.mpr hn
  rw [State.checkKey_launch hfind rfl hreplay htag (State.fitsKind_lateCheck hfit hhold), State.launchInbound_root]
  congr 1
  rw [State.validated_state]
  rfl

/-- The key found for a frame under the staged successor of the current slot. -/
theorem State.findKey_staged {y c : Nat} {h : LineHeader} (hcur : (s.chan i).current = some x)
    (halt : (s.chan i).alternate ≠ some y) (hactive : (s.slot x).state = .active) (hsucc : (s.slot x).successor = some y)
    (hstaged : (s.slot y).state = .staged) (hc : c < 4) (hstate : (s.ctx c).state = .awaitCommit)
    (hsuccessor : (s.ctx c).successor = some y) (hfirst : ∀ d, d < c → (s.ctx d).successor ≠ some y)
    (hslot : h.slot.toNat = y) (hgen : (s.slot y).generation = h.generation) :
    s.findKey i h = some (.successor x y c) := by
  have hne : x ≠ y := fun h => by rw [h, hstaged] at hactive; exact nomatch hactive
  have hnot : ∀ o : Option Nat, o ≠ some y → s.isKey o h = false := fun o ho => by
    rw [Bool.eq_false_iff]
    intro hkey
    obtain ⟨z, hz, hzy, -⟩ := State.isKey_some.mp hkey
    exact ho (by rw [hz, ← hzy, hslot])
  have hctx : s.findCtx (fun z => z.state == .awaitCommit && z.successor == some y) = some c :=
    State.findCtx_of_first hc (by simp [hstate, hsuccessor]) fun d hd => by simp [hfirst d hd]
  exact (State.findKey_unbound (hnot _ (by rw [hcur]; exact fun h => hne (Option.some.inj h))) (hnot _ halt)).1 x y c
    (State.stagedSuccessor_of hcur hsucc hstaged hctx) (State.isKey_some.mpr ⟨y, rfl, hslot, hgen⟩)

end

/-- Settles O27: the key is found in the descriptor, for the root, or as the staged successor, whose exchange is completed. -/
theorem inboundStartAcceptsFrame : Obligations.InboundStartAcceptsFrame := by
  rintro s f rest _ _ hidle hpart hlRx hcomplete hplace hturn hformed htag rfl rfl hkind hhold hn0
  have hstate : s.partState = .noRoot ∨ s.partState = .bootstrap ∨ s.partState = .run := by tauto
  obtain ⟨hnames, hfit⟩ := State.namesKey_of_fits hkind
  have hi := State.lt_of_namesKey hnames
  have hchecked : exec .inboundStart s = .next ((s.frameTaken rest).checkKey f f.parts.header.channel.toNat) := by
    rw [exec_inboundStart hidle hstate hlRx hcomplete hplace hturn]
    exact congrArg Host.Outcome.next (State.checkInbound_keyed (s := s.frameTaken rest) hpart hformed htag hnames)
  rw [hchecked]
  generalize hchannel : f.parts.header.channel.toNat = i at *
  refine ⟨fun x hlow hhigh hx hslot hgen hsuspect hwindow htagOk => ?slot,
    fun hi0 hslot hgen hcur halt hroot htagOk => ?root,
    fun x y c e hxlow hxhigh hylow hyhigh hcur halt hactive hsucc hstaged hc hctx hctxKind hsubject hsuccessor hexchange hfirst
      hslot hgen hsuspect hwindow htagOk => ?staged⟩
  case slot =>
    have haccepts := State.checkKey_accepts_slot (s := s.frameTaken rest) hfit hhold hx ⟨hlow, hhigh⟩ hslot hgen hsuspect
      (isReplay_eq_false hn0 hwindow) htagOk
    have hvalid := State.validated_slot (k := .slot x) rfl ⟨hlow, hhigh⟩ f.parts.header.counter.toNat (s.frameTaken rest)
    have hvchan : ∀ j, _ = s.chan j := fun j => State.validated_chan (.slot x) f.parts.header.counter.toNat j (s.frameTaken rest)
    have hvstate := State.validated_state (.slot x) f.parts.header.counter.toNat (s.frameTaken rest)
    generalize (s.frameTaken rest).validated (.slot x) f.parts.header.counter.toNat = v at *
    have hfslot := State.inFlight_slot f (s.slotKey x) ⟨hlow, hhigh⟩ i (s := v)
    have hfchan := State.inFlight_chan f (s.slotKey x) (some x) hi (s := v)
    have hfstate := State.inFlight_state f (s.slotKey x) (some x) i v
    refine ⟨v.inFlight f (s.slotKey x) (some x) i, congrArg Host.Outcome.next haccepts, ?_, ?_, fun j hj => ?_,
      fun y hy => ?_, ?_, fun j hj => ?_⟩
    · rw [hfstate, hvstate]
      rfl
    · rw [hfslot x, if_pos rfl, hvalid x, if_pos rfl]
      rfl
    · rw [hfslot x, if_pos rfl, hvalid x, if_pos rfl]
      exact nextWindow_seen _ (hwindow.imp id And.left) hj
    · rw [hfslot y, if_neg hy, hvalid y, if_neg hy]
      rfl
    · rw [hfchan i, if_pos rfl, hvchan]
    · rw [hfchan j, if_neg hj, hvchan]
  case root =>
    subst hi0
    have haccepts := State.checkKey_accepts_root (s := s.frameTaken rest) hfit hhold hslot hgen hcur halt hroot hn0 htagOk
    have hvchan : ∀ j, _ = s.chan j := fun j => State.validated_chan .root f.parts.header.counter.toNat j (s.frameTaken rest)
    have hvstate := State.validated_state .root f.parts.header.counter.toNat (s.frameTaken rest)
    have hvslots := State.validated_slots_root (k := .root) rfl f.parts.header.counter.toNat (s.frameTaken rest)
    generalize (s.frameTaken rest).validated .root f.parts.header.counter.toNat = v at *
    have hfchan := State.inFlight_chan f s.rootKey none hi (s := v)
    have hfstate := State.inFlight_state f s.rootKey none 0 v
    have hfslots := State.inFlight_slots_root f s.rootKey 0 v
    refine ⟨v.inFlight f s.rootKey none 0, congrArg Host.Outcome.next haccepts, ?_, ?_, fun j hj => ?_⟩
    · rw [hfstate, hfslots, hvslots, hvstate]
      rfl
    · rw [hfchan 0, if_pos rfl, hvchan]
    · rw [hfchan j, if_neg hj, hvchan]
  case staged =>
    have hfind := State.findKey_staged (s := s.frameTaken rest) hcur halt hactive hsucc hstaged hc hctx hsuccessor hfirst hslot hgen
    have hlaunch := State.checkKey_launch hfind hsuspect (isReplay_eq_false hn0 hwindow) htagOk
      (State.fitsKind_lateCheck (s := s.frameTaken rest) hfit hhold)
    have hne : x ≠ y := fun h => by rw [h, hstaged] at hactive; exact nomatch hactive
    have hkey := State.slotKey_validated (s := s.frameTaken rest) (k := .successor x y c) rfl ⟨hylow, hyhigh⟩
      f.parts.header.counter.toNat
    rw [State.launchInbound_successor, hkey] at hlaunch
    have hvalid := State.validated_slot (k := .successor x y c) rfl ⟨hylow, hyhigh⟩ f.parts.header.counter.toNat
      (s.frameTaken rest)
    have hvchan : ∀ j, _ = s.chan j := fun j =>
      State.validated_chan (.successor x y c) f.parts.header.counter.toNat j (s.frameTaken rest)
    have hvstate := State.validated_state (.successor x y c) f.parts.header.counter.toNat (s.frameTaken rest)
    generalize (s.frameTaken rest).validated (.successor x y c) f.parts.header.counter.toNat = v at *
    have hvx : v.slot x = s.slot x := (hvalid x).trans (if_neg hne)
    have hvy : v.slot y = { s.slot y with
        top := max (s.slot y).top f.parts.header.counter.toNat, seen := (v.slot y).seen } := by
      rw [hvalid y, if_pos rfl]
      rfl
    have hvctx : ∀ d, v.ctx d = s.ctx d := fun d => by rw [hvstate]; rfl
    have hcurrent : (v.chan i).currentIs x = true := by rw [hvchan]; simp [Channel.currentIs, hnames, hcur]
    obtain ⟨hengine, hlRx', hpool, hroot, hctrl, hlink, hold, hnew, hslots, hchan, hself, hothers, hbackoff, hfinished,
      hcompleted⟩ := State.launch_switched (s := v) (f := f) hi hc (by rw [hvctx]; exact hexchange) (by rw [hvctx]; exact hsubject)
        (by rw [hvctx]; exact hsuccessor) ⟨hxlow, hxhigh⟩ ⟨hylow, hyhigh⟩ (by rw [hvx]; exact hactive)
        (by rw [hvy]; exact hstaged) hcurrent (s.slotKey y)
    refine ⟨_, congrArg Host.Outcome.next hlaunch, ?_⟩
    have hkeep : (s.frameTaken rest).slotKey y = s.slotKey y := rfl
    rw [hkeep]
    generalize (v.completeRenewal c).inFlight f (s.slotKey y) (some y) i = t at *
    refine ⟨?_, ?_, ?_, ?_, ?_, ?_, hold.trans (by rw [hvx]), ?_, fun z hzx hzy => ?_, ?_, hself, fun d hd => ?_, hbackoff,
      hfinished, ?_⟩
    · rw [hengine, hvstate]
      rfl
    · rw [hlRx', hvstate]
      rfl
    · rw [hpool, hvstate]
      rfl
    · rw [hroot, hvstate]
      rfl
    · rw [hctrl, hvstate]
      rfl
    · rw [hlink, hvstate]
      rfl
    · rw [hnew, hvx, hvy]
    · rw [hslots z hzx hzy, hvalid z, if_neg hzy]
      rfl
    · rw [hchan, hvchan]
    · rw [hothers d hd, hvctx]
    · rw [hcompleted, hvstate]
      rfl

end Sys2Proof.Machine
end

section
/-! PROOFS. An inbound frame discarded (R89, R92 to R94, R105 to R107, O28): what every discard does, and what its reason adds. -/

namespace Sys2Proof.Machine

/-! ### What every discard does (R92) -/

/-- The frame's buffer returned, its place released, the discard counted by the engine and the descriptor. -/
def State.discardBase (r : Discard) (i : Nat) (s : State) : State :=
  let t := ((s.returnBuffer).setAsidePlace false).updEngine fun e => { e with discards := e.discards.add r }
  if r.onChannel && s.isOpenIndex i then t.updChan i fun c => { c with discarded := satInc 4294967295 c.discarded } else t

theorem State.discardFrame_eq (r : Discard) (i : Nat) (k : Option FoundKey) (s : State) :
    s.discardFrame r i k = (s.discardBase r i).discardExtra r k := rfl

theorem State.discardBase_state (r : Discard) (i : Nat) (s : State) : s.discardBase r i = { s with
    pool := { s.pool with free := s.pool.free + 1, setAside := false, low := (s.discardBase r i).pool.low }
    engine := { s.engine with discards := s.engine.discards.add r }, chans := (s.discardBase r i).chans
    faults := s.returnBuffer.faults, beacon := s.returnBuffer.beacon
    sPort := { s.sPort with faultCause := s.returnBuffer.sPort.faultCause }
    lPort := { s.lPort with faultCause := s.returnBuffer.lPort.faultCause } } := by
  rw [State.discardBase]
  dsimp only
  split_ifs <;>
  · rw [State.returnBuffer_state]
    rfl

theorem State.discardBase_chan (r : Discard) (i j : Nat) (s : State) : (s.discardBase r i).chan j =
    if j = i ∧ r.onChannel = true ∧ s.isOpenIndex i = true then
      { s.chan i with discarded := min ((s.chan i).discarded + 1) 4294967295 }
    else s.chan j := by
  have hreturned : ∀ z, ((s.returnBuffer.setAsidePlace false).updEngine
      fun e => { e with discards := e.discards.add r }).chan z = s.chan z := fun z => by
    rw [s.returnBuffer_state]
    rfl
  rw [State.discardBase]
  by_cases hcount : (r.onChannel && s.isOpenIndex i) = true
  · obtain ⟨hon, hopen⟩ := Bool.and_eq_true_iff.mp hcount
    have hi : i < 48 := Nat.lt_succ_of_le ((s.isOpenIndex_iff i).mp hopen).1
    rw [if_pos hcount, State.chan_updChan, hreturned]
    by_cases hj : j = i
    · rw [if_pos ⟨hj, hi⟩, if_pos ⟨hj, hon, hopen⟩]
      rfl
    · rw [if_neg (by simp [hj]), if_neg (by simp [hj]), hreturned]
  · rw [if_neg hcount, hreturned, if_neg]
    rintro ⟨-, hon, hopen⟩
    exact hcount (by rw [hon, hopen]; rfl)

theorem State.discardBase_chans {r : Discard} (h : r.onChannel = false) (i : Nat) (s : State) :
    (s.discardBase r i).chans = s.chans := by
  have hbase : s.discardBase r i = ((s.returnBuffer).setAsidePlace false).updEngine
      fun e => { e with discards := e.discards.add r } := if_neg (by rw [h]; exact nofun)
  rw [hbase, State.returnBuffer_state]
  rfl

theorem State.discardBase_slot (r : Discard) (i x : Nat) (s : State) : (s.discardBase r i).slot x = s.slot x := by
  rw [State.discardBase_state]
  rfl

/-- What a reason may add: slots, the Link Watch, the burst marks, the Renewal Controller and a fault event. -/
def State.extraOnly (b t : State) : Prop :=
  t = { b with
    slots := t.slots, link := t.link, engine := { b.engine with burst := t.engine.burst }, renewal := t.renewal
    faults := t.faults, beacon := t.beacon, sPort := { b.sPort with faultCause := t.sPort.faultCause }
    lPort := { b.lPort with faultCause := t.lPort.faultCause } }

theorem State.extraOnly.refl (b : State) : b.extraOnly b := rfl

theorem State.extraOnly.trans {b t u : State} (h : b.extraOnly t) (k : t.extraOnly u) : b.extraOnly u := by
  rw [State.extraOnly] at *
  rw [k, h]

theorem State.extraOnly.of_faults {b t : State} (h : b.sameButFaults t) : b.extraOnly t := by
  rw [State.sameButFaults] at h
  rw [State.extraOnly, h]

/-! ### What the reason adds -/

/-- A reason that adds nothing. -/
theorem State.discardExtra_none {r : Discard} (hr : r ≠ .malformed ∧ r ≠ .foreign ∧ r ≠ .replay ∧ r ≠ .tagFail)
    (k : Option FoundKey) (s : State) : s.discardExtra r k = s := by
  obtain ⟨hm, hf, hre, ht⟩ := hr
  cases r with
  | malformed => exact absurd rfl hm
  | foreign => exact absurd rfl hf
  | replay => exact absurd rfl hre
  | tagFail => exact absurd rfl ht
  | notReady | unknownKey | suspect | noChannel | held => rfl

theorem State.countReplay_few {s : State} {x : Nat} (h : ¬ ((15 ≤ (s.slot x).replays) ∧ s.burst x = false)) :
    s.countReplay x = s.updSlot x fun v => { v with replays := satInc 255 (s.slot x).replays } := by
  refine if_neg fun hc => h ⟨?_, hc.2⟩
  have := hc.1
  simp only [satInc] at this
  omega

theorem State.countReplay_burst {s : State} {x : Nat} (h : 15 ≤ (s.slot x).replays) (hburst : s.burst x = false) :
    s.countReplay x = ((s.updSlot x fun v => { v with replays := satInc 255 (s.slot x).replays }).setBurst x true).raiseFault
      .replayBurst (.slot x) := by
  refine if_pos ⟨?_, hburst⟩
  simp only [satInc]
  omega

theorem State.countReplay_extra (x : Nat) (s : State) : s.extraOnly (s.countReplay x) := by
  by_cases h : 15 ≤ (s.slot x).replays ∧ s.burst x = false
  · rw [State.countReplay_burst h.1 h.2]
    exact .trans (t := (s.updSlot x fun v => { v with replays := satInc 255 (s.slot x).replays }).setBurst x true) rfl
      (.of_faults (State.raiseFault_same ..))
  · rw [State.countReplay_few h]
    rfl

theorem State.countTagFailure_few {s : State} {x : Nat} (h : (s.slot x).tagFailures < 7) :
    s.countTagFailure x = s.updSlot x fun v => { v with tagFailures := satInc 255 (s.slot x).tagFailures } := by
  refine if_neg fun hc => ?_
  have := hc.1
  simp only [satInc] at this
  omega

/-- Slot x made SUSPECT by its eighth tag failure, with TAG_FAILS raised. -/
def State.suspected (x : Nat) (s : State) : State :=
  ((s.updSlot x fun v => { v with tagFailures := satInc 255 (s.slot x).tagFailures }).updSlot x
    fun v => { v with suspect := true }).raiseFault .tagFails (.slot x)

theorem State.countTagFailure_many {s : State} {x : Nat} (h : 7 ≤ (s.slot x).tagFailures) (hsuspect : (s.slot x).suspect = false) :
    s.countTagFailure x =
      if (s.slot x).state = .active then (s.suspected x).sendTrigger x .suspect else s.suspected x := by
  refine if_pos ⟨?_, hsuspect⟩
  simp only [satInc]
  omega

theorem State.suspected_extra (x : Nat) (s : State) : s.extraOnly (s.suspected x) :=
  .trans (t := (s.updSlot x fun v => { v with tagFailures := satInc 255 (s.slot x).tagFailures }).updSlot x
    fun v => { v with suspect := true }) rfl (.of_faults (State.raiseFault_same ..))

theorem State.suspected_slot {x : Nat} (hx : 1 ≤ x ∧ x ≤ 23) (y : Nat) (s : State) : (s.suspected x).slot y = if y = x then
    { s.slot x with tagFailures := min ((s.slot x).tagFailures + 1) 255, suspect := true } else s.slot y := by
  simp only [State.suspected, State.raiseFault_reads, State.slot_updSlot]
  by_cases hy : y = x
  · simp [hy, hx, satInc]
  · simp [hy]

theorem State.sendTrigger_extra (x : Nat) (r : Reason) (s : State) : s.extraOnly (s.sendTrigger x r) := by
  have h := (State.sendTrigger_triggered x r s).slots_renewal
  rw [State.extraOnly, h]

theorem State.countTagFailure_extra {s : State} {x : Nat} (hsuspect : (s.slot x).suspect = false) :
    s.extraOnly (s.countTagFailure x) := by
  by_cases h : 7 ≤ (s.slot x).tagFailures
  · rw [State.countTagFailure_many h hsuspect]
    split_ifs
    · exact (s.suspected_extra x).trans (State.sendTrigger_extra ..)
    · exact s.suspected_extra x
  · rw [State.countTagFailure_few (by omega)]
    rfl

/-! ### The discard as the statement has it -/

/-- The state v that a discard meets, as the checks before it leave it: the frame taken from s, a window perhaps moved. -/
def State.takenFrom (v s : State) (rest : List LineIn) : Prop :=
  v = { s with
    lRx := rest, pool := { s.pool with setAside := true }, engine := { s.engine with lastDirection := .inbound }
    slots := v.slots, link := v.link, faults := v.faults, beacon := v.beacon
    sPort := { s.sPort with faultCause := v.sPort.faultCause }, lPort := { s.lPort with faultCause := v.lPort.faultCause } }

theorem State.frameTaken_takenFrom (s : State) (rest : List LineIn) : (s.frameTaken rest).takenFrom s rest := rfl

theorem State.validated_takenFrom (k : FoundKey) (n : Nat) (s : State) (rest : List LineIn) :
    ((s.frameTaken rest).validated k n).takenFrom s rest := by
  have h := State.validated_state k n (s.frameTaken rest)
  generalize (s.frameTaken rest).validated k n = v at *
  rw [State.takenFrom, h]
  rfl

/-- Every discard but those before the key's search is one of the statement's. -/
theorem State.discarded_of_extra {s v t : State} {rest : List LineIn} {r : Discard} {i : Nat} {counts : Bool}
    (hv : v.takenFrom s rest) (ht : (v.discardBase r i).extraOnly t)
    (hcounts : counts = (r.onChannel && s.isOpenIndex i)) : t.discarded s rest i counts (s.engine.discards.add r) := by
  have hvchan : ∀ j, v.chan j = s.chan j := fun j => by rw [hv]; rfl
  have hvopen : v.isOpenIndex i = s.isOpenIndex i := by rw [State.isOpenIndex, hvchan]; rfl
  have hbase := State.discardBase_state r i v
  have hbchan := fun j => State.discardBase_chan r i j v
  generalize v.discardBase r i = b at *
  have htchan : ∀ j, t.chan j = b.chan j := fun j => by rw [ht]; rfl
  refine ⟨?_, ?_, fun j hj => ?_⟩
  · rw [State.takenFrom] at hv
    rw [State.extraOnly] at ht
    rw [ht, hbase, hv]
  · rw [htchan, hbchan, hvopen, hvchan, hcounts]
    by_cases h : r.onChannel = true ∧ s.isOpenIndex i = true
    · rw [if_pos ⟨rfl, h⟩, h.1, h.2]
      rfl
    · have hfalse : (r.onChannel && s.isOpenIndex i) = false := by
        rw [Bool.eq_false_iff, Ne, Bool.and_eq_true]
        exact h
      rw [if_neg (fun hc => h hc.2), hfalse]
      rfl
  · rw [htchan, hbchan, if_neg (fun hc => hj hc.1), hvchan]

/-! ### Frames outside the part's service: NOT_READY, malformed, foreign -/

/-- What the raise of a fault makes of the fault list depends on the list and the tick count alone. -/
theorem State.raiseFault_faults_congr {s t : State} (k : FaultKind) (x : Subject) (h : t.faults = s.faults)
    (htick : t.tick = s.tick) : (t.raiseFault k x).faults = (s.raiseFault k x).faults := by
  have hcreate : ∀ u v : State, u.faults = v.faults → u.tick = v.tick →
      (u.createRecord k x true).faults = (v.createRecord k x true).faults := fun u v hf ht => by
    simp [State.createRecord, hf, ht]
  unfold State.raiseFault
  rw [h, htick]
  split
  · split
    · split <;> simp [State.updRecord, h]
    · simp [State.updRecord, h]
  · split
    · exact hcreate _ _ h htick
    · split
      · exact hcreate _ _ (by simp [State.removeRecord, h]) (by simp [htick])
      · unfold State.setOverflow
        rw [h]
        split
        · exact h
        · simp [h]

/-- The clear of POOL_LOW that a returned buffer sends, as the statement has it. -/
theorem State.returnBuffer_faults (s : State) : s.returnBuffer.faults
    = (if s.pool.low = true ∧ 16 ≤ s.pool.free + 1 then s.clearFault .poolLow .nothing else s).faults := by
  by_cases h : s.pool.low = true ∧ 16 ≤ s.pool.free + 1
  · rw [if_pos h, State.returnBuffer_of_low h.1 h.2]
  · have hhigh : s.pool.low = false ∨ s.pool.free + 1 < 16 := by
      rcases Bool.eq_false_or_eq_true s.pool.low with hlow | hlow
      · exact .inr (Nat.lt_of_not_le fun hge => h ⟨hlow, hge⟩)
      · exact .inl hlow
    rw [if_neg h, State.returnBuffer_of_high hhigh]
    rfl

theorem State.countMalformed_burst {s : State} (h : s.link.malformed = 15) (hmark : s.link.malformedMark = false) :
    s.countMalformed = (s.updLink fun l => { l with
      malformed := 16, totalMalformed := satInc 4294967295 l.totalMalformed, malformedMark := true }).raiseFault
        .malformedBurst .link := by
  have hn : satInc 255 s.link.malformed = 16 := by rw [h]; rfl
  refine (if_pos ⟨hn, by rw [h]; decide, hmark⟩).trans ?_
  rw [hn]
  rfl

theorem State.countMalformed_more {s : State} (h : ¬ (s.link.malformed = 15 ∧ s.link.malformedMark = false)) :
    s.countMalformed = s.updLink fun l => { l with
      malformed := satInc 255 l.malformed, totalMalformed := satInc 4294967295 l.totalMalformed } := by
  refine if_neg fun hc => h ⟨?_, hc.2.2⟩
  have := hc.1
  simp only [satInc] at this
  omega

/-- What a malformed frame adds: its counts, and at the sixteenth of an interval the raise with its mark. -/
theorem State.countMalformed_spec (s : State) :
    s.countMalformed.link = { s.link with
        malformed := min (s.link.malformed + 1) 255, totalMalformed := min (s.link.totalMalformed + 1) 4294967295
        malformedMark := s.link.malformedMark || decide (s.link.malformed = 15) }
      ∧ s.countMalformed.faults = (if s.link.malformed = 15 ∧ s.link.malformedMark = false then
          (s.raiseFault .malformedBurst .link).faults else s.faults) := by
  by_cases h : s.link.malformed = 15 ∧ s.link.malformedMark = false
  · rw [State.countMalformed_burst h.1 h.2, if_pos h]
    refine ⟨?_, State.raiseFault_faults_congr _ _ rfl rfl⟩
    simp [h.1, h.2, satInc]
  · rw [State.countMalformed_more h, if_neg h]
    refine ⟨?_, rfl⟩
    have hmark : (s.link.malformedMark || decide (s.link.malformed = 15)) = s.link.malformedMark := by
      cases hm : s.link.malformedMark with
      | true => rfl
      | false =>
        rw [Bool.false_or, decide_eq_false_iff_not]
        exact fun h15 => h ⟨h15, hm⟩
    rw [hmark]
    rfl

theorem State.countMalformed_extra (s : State) : s.extraOnly s.countMalformed := by
  by_cases h : s.link.malformed = 15 ∧ s.link.malformedMark = false
  · rw [State.countMalformed_burst h.1 h.2]
    exact .trans (t := s.updLink fun l => { l with
      malformed := 16, totalMalformed := satInc 4294967295 l.totalMalformed, malformedMark := true }) rfl
      (.of_faults (State.raiseFault_same ..))
  · rw [State.countMalformed_more h]
    rfl

/-- A frame turned away before a descriptor is charged with it: the buffer back, no place set aside, no work. -/
theorem State.turnedAway {s t : State} {rest : List LineIn} {r : Discard} {i : Nat} (hidle : s.engine.work = none)
    (hr : r.onChannel = false) (ht : ((s.frameTaken rest).discardBase r i).extraOnly t) (hslots : t.slots = s.slots) :
    t.lRx = rest ∧ t.pool.free = s.pool.free + 1 ∧ t.pool.setAside = false ∧ t.engine.work = none
      ∧ t.engine.lastDirection = .inbound ∧ t.chans = s.chans ∧ t.slots = s.slots ∧ t.root = s.root ∧ t.sOut = s.sOut
      ∧ t.engine.discards = s.engine.discards.add r := by
  have hchans := State.discardBase_chans hr i (s.frameTaken rest)
  have hbase := State.discardBase_state r i (s.frameTaken rest)
  generalize (s.frameTaken rest).discardBase r i = b at *
  rw [State.extraOnly] at ht
  refine ⟨?_, ?_, ?_, ?_, ?_, ?_, hslots, ?_, ?_, ?_⟩
  · rw [ht, hbase]; rfl
  · rw [ht, hbase]; rfl
  · rw [ht, hbase]
  · rw [ht, hbase]; exact hidle
  · rw [ht, hbase]; rfl
  · rw [ht]; exact hchans
  · rw [ht, hbase]; rfl
  · rw [ht, hbase]; rfl
  · rw [ht, hbase]; rfl

theorem State.discardBase_link (r : Discard) (i : Nat) (s : State) : (s.discardBase r i).link = s.link := by
  rw [State.discardBase_state]

theorem State.discardBase_slots (r : Discard) (i : Nat) (s : State) : (s.discardBase r i).slots = s.slots := by
  rw [State.discardBase_state]

/-- The fault list when a discard's own event is due: after the clear of POOL_LOW, if one is sent. -/
theorem State.discardBase_faults (r : Discard) (i : Nat) (s : State) (rest : List LineIn) :
    ((s.frameTaken rest).discardBase r i).faults
      = (if s.pool.low = true ∧ 16 ≤ s.pool.free + 1 then s.clearFault .poolLow .nothing else s).faults := by
  have hfaults : ((s.frameTaken rest).discardBase r i).faults = (s.frameTaken rest).returnBuffer.faults := by
    rw [State.discardBase_state]
  rw [hfaults, State.returnBuffer_faults]
  by_cases h : s.pool.low = true ∧ 16 ≤ s.pool.free + 1
  · rw [if_pos h]
    exact (congrArg State.faults (if_pos h)).trans (State.clearFault_faults_congr _ _ rfl)
  · rw [if_neg h]
    exact congrArg State.faults (a₂ := s.frameTaken rest) (if_neg h)

/-- NOT_READY in NO_ROOT, and for a data frame in BOOTSTRAP. -/
theorem State.checkInbound_notReady {s : State} {f : LineIn} (h : s.partState = .noRoot
    ∨ s.partState = .bootstrap ∧ f.formed = true ∧ s.root.storeTag = some f.parts.header.storeTag
      ∧ f.parts.header.kind = kindData) :
    s.checkInbound f = s.discardBase .notReady f.parts.header.channel.toNat := by
  have hdiscard : s.checkInbound f = s.discardFrame .notReady f.parts.header.channel.toNat none := by
    rcases h with h | ⟨h, hformed, htag, hkind⟩
    · exact State.checkInbound_noRoot h
    · rw [State.checkInbound_tagged (by rw [h]; decide) hformed htag]
      exact if_pos ⟨h, by rw [hkind]; decide⟩
  rw [hdiscard, State.discardFrame_eq, State.discardExtra_none (by decide)]

/-! ### Frames that name a descriptor -/

section
variable {s : State} {f : LineIn} {rest : List LineIn}

/-- A frame of the part's tag, in RUN. -/
theorem State.checkInbound_run (h : s.partState = .run) (hformed : f.formed = true)
    (htag : s.root.storeTag = some f.parts.header.storeTag) : s.checkInbound f =
      if !(s.chan f.parts.header.channel.toNat).namesKey then
        s.discardFrame .noChannel f.parts.header.channel.toNat none
      else s.checkKey f f.parts.header.channel.toNat := by
  rw [State.checkInbound_tagged (by rw [h]; decide) hformed htag, if_neg (by rw [h]; exact fun hc => nomatch hc.1)]

theorem State.isOpenIndex_of_namesKey {i : Nat} (h : (s.chan i).namesKey = true) : s.isOpenIndex i = true := by
  rw [State.isOpenIndex_iff]
  refine ⟨Nat.le_of_lt_succ (State.lt_of_namesKey h), fun hkind => ?_⟩
  simp [Channel.namesKey, hkind] at h

/-- No key of a descriptor answers to a header. -/
theorem State.findKey_none {i : Nat} {h : LineHeader}
    (hbound : ∀ x, ((s.chan i).current = some x ∨ (s.chan i).alternate = some x) →
      ¬ (h.slot.toNat = x ∧ (s.slot x).generation = h.generation))
    (hstaged : ∀ x y, (s.chan i).current = some x → (s.slot x).successor = some y →
      ¬ (h.slot.toNat = y ∧ (s.slot y).generation = h.generation))
    (hroot : ¬ (i = 0 ∧ h.slot = 0 ∧ h.generation = 0)) : s.findKey i h = none := by
  have hnot : ∀ o, ((s.chan i).current = o ∨ (s.chan i).alternate = o) → s.isKey o h = false := fun o ho => by
    rw [Bool.eq_false_iff]
    intro hkey
    obtain ⟨x, rfl, hx⟩ := State.isKey_some.mp hkey
    exact hbound x ho hx
  refine ((State.findKey_unbound (hnot _ (.inl rfl)) (hnot _ (.inr rfl))).2 fun x y k hk => ?_).trans (if_neg ?_)
  · obtain ⟨hcur, hsucc, -, -⟩ := State.stagedSuccessor_some hk
    rw [Bool.eq_false_iff]
    intro hkey
    obtain ⟨z, hz, hkey⟩ := State.isKey_some.mp hkey
    exact hstaged x y hcur hsucc (Option.some.inj hz ▸ hkey)
  · rintro ⟨hi, -, hslot, hgen⟩
    exact hroot ⟨hi, hslot, hgen⟩

end

theorem State.slots_toList (s : State) : s.slots.toList = (List.range 23).map fun j => s.slot (j + 1) := by
  refine List.ext_getElem (by simp) fun j h1 h2 => ?_
  have hj : j < 23 := by simpa using h2
  simp [State.slot, slotEntry, hj]

end Sys2Proof.Machine
end

section
/-! PROOFS. O28: each discard of an inbound frame. -/

namespace Sys2Proof.Machine

section
variable {s : State} {f : LineIn} {rest : List LineIn} {i x : Nat}

/-- A discard that adds nothing but its counts. -/
theorem State.discarded_plain {v : State} {r : Discard} {counts : Bool} {k : Option FoundKey} (hv : v.takenFrom s rest)
    (hr : r ≠ .malformed ∧ r ≠ .foreign ∧ r ≠ .replay ∧ r ≠ .tagFail) (hcounts : counts = (r.onChannel && s.isOpenIndex i)) :
    (v.discardFrame r i k).discarded s rest i counts (s.engine.discards.add r)
      ∧ (v.discardFrame r i k).slots = v.slots ∧ (v.discardFrame r i k).link = v.link
      ∧ (v.discardFrame r i k).renewal = s.renewal := by
  rw [State.discardFrame_eq, State.discardExtra_none hr]
  refine ⟨State.discarded_of_extra hv (.refl _) hcounts, State.discardBase_slots .., State.discardBase_link .., ?_⟩
  rw [State.discardBase_state]
  rw [State.takenFrom] at hv
  rw [hv]

/-- A replay: counted in its slot, and at the sixteenth of an interval a burst. -/
theorem State.discarded_replay (hx : 1 ≤ x ∧ x ≤ 23) (hopen : s.isOpenIndex i = true) :
    let t := (s.frameTaken rest).discardFrame .replay i (some (.slot x))
    t.discarded s rest i true (s.engine.discards.add .replay)
      ∧ t.slot x = { s.slot x with replays := min ((s.slot x).replays + 1) 255 }
      ∧ (∀ y, y ≠ x → t.slot y = s.slot y) ∧ t.link = s.link ∧ t.renewal = s.renewal
      ∧ t.burst x = (s.burst x || decide (15 ≤ (s.slot x).replays))
      ∧ (s.burst x = false → 15 ≤ (s.slot x).replays → t.faultStands .replayBurst (.slot x)) := by
  intro t
  have ht : t = ((s.frameTaken rest).discardBase .replay i).countReplay x := rfl
  have hextra := State.countReplay_extra x ((s.frameTaken rest).discardBase .replay i)
  have hdiscarded := State.discarded_of_extra (counts := true) (s.frameTaken_takenFrom rest) hextra
    (by rw [hopen]; rfl)
  rw [← ht] at hdiscarded
  have hbase := State.discardBase_state .replay i (s.frameTaken rest)
  have hslot : ∀ y, ((s.frameTaken rest).discardBase .replay i).slot y = s.slot y := fun y =>
    State.discardBase_slot .replay i y (s.frameTaken rest)
  have hburst : ((s.frameTaken rest).discardBase .replay i).burst x = s.burst x := by rw [hbase]; rfl
  have hlink : ((s.frameTaken rest).discardBase .replay i).link = s.link := State.discardBase_link ..
  have hrenewal : ((s.frameTaken rest).discardBase .replay i).renewal = s.renewal := by rw [hbase]; rfl
  clear_value t
  generalize (s.frameTaken rest).discardBase .replay i = b at *
  refine ⟨hdiscarded, ?_⟩
  rw [ht]
  by_cases h : 15 ≤ (b.slot x).replays ∧ b.burst x = false
  · rw [State.countReplay_burst h.1 h.2]
    have hdecide : decide (15 ≤ (s.slot x).replays) = true := by rw [← hslot]; exact decide_eq_true h.1
    refine ⟨?_, fun y hy => ?_, ?_, ?_, ?_, fun _ _ => State.raiseFault_stands ..⟩
    · simp [State.slot_updSlot, hx, hslot, satInc]
    · simp [State.slot_updSlot, hy, hslot]
    · simp [hlink]
    · simp [hrenewal]
    · rw [hdecide, Bool.or_true]
      simp [State.burst_setBurst, hx]
  · rw [State.countReplay_few h]
    refine ⟨?_, fun y hy => ?_, hlink, hrenewal, ?_, fun hnot hmany => absurd ⟨hslot x ▸ hmany, hburst.trans hnot⟩ h⟩
    · simp [State.slot_updSlot, hx, hslot, satInc]
    · simp [State.slot_updSlot, hy, hslot]
    · rw [hslot, hburst] at h
      have hsame : (b.updSlot x fun v => { v with replays := satInc 255 (b.slot x).replays }).burst x = s.burst x := hburst
      rw [hsame]
      cases hb : s.burst x with
      | true => rfl
      | false => simpa [hb] using h

/-- A tag failure: counted in its slot, which at the eighth of an interval becomes SUSPECT. -/
theorem State.discarded_tagFail (hx : 1 ≤ x ∧ x ≤ 23) (hopen : s.isOpenIndex i = true) (hsuspect : (s.slot x).suspect = false) :
    let t := (s.frameTaken rest).discardFrame .tagFail i (some (.slot x))
    t.discarded s rest i true (s.engine.discards.add .tagFail) ∧ t.link = s.link
      ∧ t.slot x = { s.slot x with
          tagFailures := min ((s.slot x).tagFailures + 1) 255, suspect := decide (7 ≤ (s.slot x).tagFailures)
          requested := (t.slot x).requested }
      ∧ (∀ y, y ≠ x → t.slot y = { s.slot y with requested := (t.slot y).requested })
      ∧ ((s.slot x).tagFailures < 7 → t.slots.toList.map (·.requested) = s.slots.toList.map (·.requested)
          ∧ t.renewal = s.renewal)
      ∧ (7 ≤ (s.slot x).tagFailures → t.faultStands .tagFails (.slot x)
          ∧ ((s.slot x).state = .active → t.renewal.received = min (s.renewal.received + 1) 65535)
          ∧ ((s.slot x).state ≠ .active → t.renewal = s.renewal)) := by
  intro t
  have ht : t = ((s.frameTaken rest).discardBase .tagFail i).countTagFailure x := rfl
  have hslot : ∀ y, ((s.frameTaken rest).discardBase .tagFail i).slot y = s.slot y := fun y =>
    State.discardBase_slot .tagFail i y (s.frameTaken rest)
  have hextra := State.countTagFailure_extra (s := (s.frameTaken rest).discardBase .tagFail i) (x := x) (by rw [hslot]; exact hsuspect)
  have hdiscarded := State.discarded_of_extra (counts := true) (s.frameTaken_takenFrom rest) hextra
    (by rw [hopen]; rfl)
  rw [← ht] at hdiscarded
  have hlink : ((s.frameTaken rest).discardBase .tagFail i).link = s.link := State.discardBase_link ..
  have hrenewal : ((s.frameTaken rest).discardBase .tagFail i).renewal = s.renewal := by
    rw [State.discardBase_state]
    rfl
  clear_value t
  generalize (s.frameTaken rest).discardBase .tagFail i = b at *
  refine ⟨hdiscarded, ?_⟩
  by_cases hmany : 7 ≤ (s.slot x).tagFailures
  case neg =>
    rw [State.countTagFailure_few (by rw [hslot]; omega)] at ht
    have htslot : ∀ y, t.slot y = if y = x then
        { s.slot x with tagFailures := min ((s.slot x).tagFailures + 1) 255 } else s.slot y := fun y => by
      rw [ht, State.slot_updSlot, hslot]
      by_cases hy : y = x
      · rw [if_pos ⟨hy, hx⟩, if_pos hy]
        rfl
      · rw [if_neg (by simp [hy]), if_neg hy, hslot]
    have hrequested : ∀ y, (t.slot y).requested = (s.slot y).requested := fun y => by
      rw [htslot]
      by_cases hy : y = x
      · rw [if_pos hy, hy]
      · rw [if_neg hy]
    refine ⟨by rw [ht]; exact hlink, ?_, fun y hy => ?_, fun _ => ⟨?_, by rw [ht]; exact hrenewal⟩, fun h => absurd h hmany⟩
    · rw [htslot, if_pos rfl, decide_eq_false hmany, ← hsuspect]
    · rw [htslot, if_neg hy]
    · rw [State.slots_toList, State.slots_toList, List.map_map, List.map_map]
      exact List.map_congr_left fun j _ => hrequested (j + 1)
  case pos =>
    rw [State.countTagFailure_many (by rw [hslot]; exact hmany) (by rw [hslot]; exact hsuspect), hslot] at ht
    have hsuspected : ∀ y, (b.suspected x).slot y = if y = x then
        { s.slot x with tagFailures := min ((s.slot x).tagFailures + 1) 255, suspect := true } else s.slot y := fun y => by
      rw [State.suspected_slot hx, hslot, hslot]
    have hstands : (b.suspected x).faultStands .tagFails (.slot x) := State.raiseFault_stands ..
    have hsame : (b.suspected x).link = s.link ∧ (b.suspected x).renewal = s.renewal := by simp [State.suspected, hlink, hrenewal]
    generalize b.suspected x = w at *
    by_cases hactive : (s.slot x).state = .active
    · rw [if_pos hactive] at ht
      have hsent := State.sendTrigger_triggered x .suspect w
      rw [← ht] at hsent
      have hshape := hsent.slots_renewal
      refine ⟨by rw [hshape]; exact hsame.1, ?_, fun y hy => ?_, fun h => absurd h (Nat.not_lt.mpr hmany), fun _ => ⟨?_, fun _ => ?_,
        fun h => absurd hactive h⟩⟩
      · rw [hsent.slot x, hsuspected, if_pos rfl, decide_eq_true hmany]
      · rw [hsent.slot y, hsuspected, if_neg hy]
      · exact State.faultStands_congr (by rw [hshape]) hstands
      · rw [hsent.received, hsame.2]
    · rw [if_neg hactive] at ht
      rw [ht]
      refine ⟨hsame.1, ?_, fun y hy => ?_, fun h => absurd h (Nat.not_lt.mpr hmany), fun _ => ⟨hstands, fun h => absurd h hactive,
        fun _ => hsame.2⟩⟩
      · rw [hsuspected, if_pos rfl, decide_eq_true hmany]
      · rw [hsuspected, if_neg hy]

end

/-! ### The turned-away frames -/

/-- A malformed frame in RUN. -/
theorem State.checkInbound_malformed_spec {s : State} {f : LineIn} {rest : List LineIn} (hrun : s.partState = .run)
    (hformed : f.formed = false) :
    let t := (s.frameTaken rest).checkInbound f
    ((s.frameTaken rest).discardBase .malformed f.parts.header.channel.toNat).extraOnly t ∧ t.slots = s.slots
      ∧ t.link = { s.link with
          malformed := min (s.link.malformed + 1) 255, totalMalformed := min (s.link.totalMalformed + 1) 4294967295
          malformedMark := s.link.malformedMark || decide (s.link.malformed = 15) }
      ∧ (s.link.malformed = 15 → s.link.malformedMark = false → t.faultStands .malformedBurst .link)
      ∧ ∀ c, (c = if s.pool.low = true ∧ 16 ≤ s.pool.free + 1 then s.clearFault .poolLow .nothing else s) →
          t.faults = if s.link.malformed = 15 ∧ s.link.malformedMark = false then
            (c.raiseFault .malformedBurst .link).faults else c.faults := by
  intro t
  have ht : t = ((s.frameTaken rest).discardBase .malformed f.parts.header.channel.toNat).countMalformed :=
    State.checkInbound_malformed (s := s.frameTaken rest) (by rw [show (s.frameTaken rest).partState = .run from hrun]; decide)
      hformed
  have hlink := State.discardBase_link .malformed f.parts.header.channel.toNat (s.frameTaken rest)
  have hslots := State.discardBase_slots .malformed f.parts.header.channel.toNat (s.frameTaken rest)
  have hfaults := State.discardBase_faults .malformed f.parts.header.channel.toNat s rest
  have htick : ((s.frameTaken rest).discardBase .malformed f.parts.header.channel.toNat).tick = s.tick := by
    rw [State.discardBase_state]
    rfl
  clear_value t
  generalize (s.frameTaken rest).discardBase .malformed f.parts.header.channel.toNat = b at *
  have hlink' : b.link = s.link := hlink
  obtain ⟨hcounted, hraised⟩ := b.countMalformed_spec
  rw [hlink'] at hcounted hraised
  have hexact : ∀ c, (c = if s.pool.low = true ∧ 16 ≤ s.pool.free + 1 then s.clearFault .poolLow .nothing else s) →
      t.faults = if s.link.malformed = 15 ∧ s.link.malformedMark = false then
        (c.raiseFault .malformedBurst .link).faults else c.faults := by
    intro c hc
    have hctick : c.tick = s.tick := by rw [hc]; split <;> simp
    rw [ht, hraised]
    rw [← hc] at hfaults
    by_cases h : s.link.malformed = 15 ∧ s.link.malformedMark = false
    · rw [if_pos h, if_pos h]
      exact State.raiseFault_faults_congr _ _ hfaults (htick.trans hctick.symm)
    · rw [if_neg h, if_neg h, hfaults]
  refine ⟨by rw [ht]; exact b.countMalformed_extra, ?_, by rw [ht]; exact hcounted, fun h15 hmark => ?_, hexact⟩
  · have hkept : b.countMalformed.slots = b.slots := by
      unfold State.countMalformed
      dsimp only
      split_ifs <;> simp
    rw [ht, hkept]
    exact hslots
  · refine State.faultStands_congr (s := b.raiseFault .malformedBurst .link) ?_ (State.raiseFault_stands ..)
    rw [ht, hraised, if_pos ⟨h15, hmark⟩]

/-- Settles O28: every discard is `discardBase` and what its reason adds. -/
theorem inboundStartDiscards : Obligations.InboundStartDiscards := by
  intro s f rest hidle hlRx hcomplete hplace hturn
  dsimp only
  have hexec := fun hstate => exec_inboundStart hidle hstate hlRx hcomplete hplace hturn
  refine ⟨fun hcase => ?turned, fun hrun hformed htag => ?named⟩
  case turned =>
    have hstate : s.partState = .noRoot ∨ s.partState = .bootstrap ∨ s.partState = .run := by tauto
    have hready : (s.partState = .noRoot ∨ (s.partState = .bootstrap ∧ f.formed = true
          ∧ s.root.storeTag = some f.parts.header.storeTag ∧ f.parts.header.kind = kindData))
        ∨ s.partState = .run ∧ f.formed = false
        ∨ s.partState = .run ∧ f.formed = true ∧ s.root.storeTag ≠ some f.parts.header.storeTag := by tauto
    refine ⟨_, hexec hstate, ?_⟩
    rcases hready with hnot | ⟨hrun, hformed⟩ | ⟨hrun, hformed, htag⟩
    case inl =>
      have hcheck := State.checkInbound_notReady (s := s.frameTaken rest) (f := f) hnot
      obtain ⟨h1, h2, h3, h4, h5, h6, h7, h8, h9, hcounts⟩ := State.turnedAway (i := f.parts.header.channel.toNat) hidle
        (r := .notReady) rfl (.refl ((s.frameTaken rest).discardBase .notReady f.parts.header.channel.toNat))
        (State.discardBase_slots ..)
      have hlink : ((s.frameTaken rest).discardBase .notReady f.parts.header.channel.toNat).link = s.link :=
        State.discardBase_link ..
      have hnotRun : s.partState ≠ .run := by rcases hnot with h | ⟨h, -⟩ <;> rw [h] <;> decide
      rw [hcheck]
      exact ⟨h1, h2, h3, h4, h5, h6, h7, h8, h9, by rw [hlink], fun _ => ⟨hlink, hcounts⟩, fun h => absurd h hnotRun,
        fun h => absurd h hnotRun, fun h => absurd h hnotRun⟩
    case inr.inl =>
      obtain ⟨hextra, hslots, hlink, hstands, hfaults⟩ := State.checkInbound_malformed_spec (rest := rest) hrun hformed
      obtain ⟨h1, h2, h3, h4, h5, h6, h7, h8, h9, hcounts⟩ := State.turnedAway hidle rfl hextra hslots
      exact ⟨h1, h2, h3, h4, h5, h6, h7, h8, h9, by rw [hlink], fun h => absurd hrun (by rcases h with h | h <;> rw [h] <;> decide),
        fun _ => hcounts, fun _ _ => ⟨hlink, hstands, hfaults⟩, fun _ h => absurd h (by rw [hformed]; decide)⟩
    case inr.inr =>
      have hcheck : (s.frameTaken rest).checkInbound f
          = ((s.frameTaken rest).discardBase .foreign f.parts.header.channel.toNat).countForeign :=
        State.checkInbound_foreign (s := s.frameTaken rest)
          (by rw [show (s.frameTaken rest).partState = .run from hrun]; decide) hformed htag
      have hlink : ((s.frameTaken rest).discardBase .foreign f.parts.header.channel.toNat).countForeign.link
          = { s.link with foreign := min (s.link.foreign + 1) 65535, totalForeign := min (s.link.totalForeign + 1) 4294967295 } :=
        congrArg (fun l : LinkWatch =>
          ({ l with foreign := satInc 65535 l.foreign, totalForeign := satInc 4294967295 l.totalForeign } : LinkWatch))
          (State.discardBase_link .foreign f.parts.header.channel.toNat (s.frameTaken rest))
      obtain ⟨h1, h2, h3, h4, h5, h6, h7, h8, h9, hcounts⟩ := State.turnedAway
        (t := ((s.frameTaken rest).discardBase .foreign f.parts.header.channel.toNat).countForeign) hidle rfl rfl
        (State.discardBase_slots ..)
      rw [hcheck]
      exact ⟨h1, h2, h3, h4, h5, h6, h7, h8, h9, by rw [hlink], fun h => absurd hrun (by rcases h with h | h <;> rw [h] <;> decide),
        fun _ => hcounts, fun _ h => absurd hformed (by rw [h]; decide), fun _ _ => hlink⟩
  case named =>
    have hcheck := State.checkInbound_run (s := s.frameTaken rest) hrun hformed htag
    have hrunning := hexec (.inr (.inr hrun))
    rw [hcheck] at hrunning
    generalize f.parts.header.channel.toNat = i at *
    have htaken := s.frameTaken_takenFrom rest
    refine ⟨fun hnames => ?noChannel, fun hnames hbound hstaged hroot => ?unknown,
      fun x hnames hx hlow hhigh hslot hgen => ?found⟩
    case noChannel =>
      rw [if_pos (by rw [show (s.frameTaken rest).chan i = s.chan i from rfl, hnames]; rfl)] at hrunning
      exact ⟨_, hrunning, State.discarded_plain htaken (by decide) rfl⟩
    all_goals
      rw [if_neg (by rw [show (s.frameTaken rest).chan i = s.chan i from rfl, hnames]; decide)] at hrunning
      have hopen := State.isOpenIndex_of_namesKey hnames
    case unknown =>
      rw [State.checkKey_unknown (s := s.frameTaken rest) (State.findKey_none (s := s.frameTaken rest) hbound hstaged hroot)] at hrunning
      exact ⟨_, hrunning, State.discarded_plain htaken (by decide) (by rw [hopen]; rfl)⟩
    case found =>
      have hfind := State.findKey_bound (s := s.frameTaken rest) hx hslot hgen
      have hreplayIff := isReplay_iff f.parts.header.counter.toNat (s.slot x).top (s.slot x).seen
      refine ⟨fun hsuspect => ?suspect, fun hsuspect hreplay => ?replay, fun hsuspect hreplay htagFails => ?tagFail,
        fun hsuspect hreplay htagPasses hlate => ?late⟩
      case suspect =>
        rw [State.checkKey_suspect hfind hsuspect] at hrunning
        exact ⟨_, hrunning, State.discarded_plain htaken (by decide) (by rw [hopen]; rfl)⟩
      case replay =>
        rw [State.checkKey_replay hfind hsuspect (hreplayIff.mpr hreplay)] at hrunning
        exact ⟨_, hrunning, State.discarded_replay ⟨hlow, hhigh⟩ hopen⟩
      all_goals
        have hfresh : (s.frameTaken rest).foundReplay (.slot x) f.parts.header.counter.toNat = false :=
          Bool.eq_false_iff.mpr fun h => hreplay (hreplayIff.mp h)
      case tagFail =>
        rw [State.checkKey_tagFail hfind hsuspect hfresh htagFails] at hrunning
        exact ⟨_, hrunning, State.discarded_tagFail ⟨hlow, hhigh⟩ hopen hsuspect⟩
      case late =>
        have hvalidated := State.validated_takenFrom (.slot x) f.parts.header.counter.toNat s rest
        have hvslot := State.validated_slot (k := .slot x) rfl ⟨hlow, hhigh⟩ f.parts.header.counter.toNat (s.frameTaken rest)
        have hvlink : ((s.frameTaken rest).validated (.slot x) f.parts.header.counter.toNat).link
            = { s.link with quietRemaining := 15, quietMark := false } := by
          rw [State.validated_state]
          rfl
        obtain ⟨r, hr, hplain, hunfit, hheld⟩ : ∃ r, (s.frameTaken rest).lateCheck i f.parts.header = some r
            ∧ (r ≠ .malformed ∧ r ≠ .foreign ∧ r ≠ .replay ∧ r ≠ .tagFail)
            ∧ (¬ s.fitsKind i f.parts.header → r = .noChannel) ∧ (s.fitsKind i f.parts.header → r = .held) := by
          by_cases hfit : s.fitsKind i f.parts.header
          · refine ⟨.held, ?_, by decide, fun h => absurd hfit h, fun _ => rfl⟩
            exact (State.lateCheck_fit (s := s.frameTaken rest) hfit).trans (if_pos (hlate.resolve_left fun h => h hfit))
          · exact ⟨.noChannel, State.lateCheck_unfit (s := s.frameTaken rest) hfit, by decide, fun _ => rfl, fun h => absurd h hfit⟩
        rw [State.checkKey_late hfind hsuspect hfresh htagPasses hr] at hrunning
        obtain ⟨hdiscarded, hslots, hlink, hrenewal⟩ := State.discarded_plain (i := i) (r := r) (k := some (.slot x)) hvalidated hplain rfl
        generalize (s.frameTaken rest).validated (.slot x) f.parts.header.counter.toNat = v at *
        have htslot : ∀ y, (v.discardFrame r i (some (.slot x))).slot y = v.slot y := State.slot_congr hslots
        refine ⟨_, hrunning, fun h => ?_, fun h => ?_, ?_, fun y hy => ?_, hrenewal, hlink.trans hvlink⟩
        · rw [hunfit h] at hdiscarded ⊢
          exact hdiscarded
        · rw [hheld h] at hdiscarded ⊢
          rw [hopen] at hdiscarded
          exact hdiscarded
        · rw [htslot, hvslot, if_pos rfl]
          rfl
        · rw [htslot, hvslot, if_neg hy]
          rfl

end Sys2Proof.Machine
end

section
/-! PROOFS. Inbound control messages (R119, R189): the parse of each type. -/

namespace Sys2Proof.Machine

/-! ### Fields of a payload (R183) -/

theorem fieldAt_byte (b : Byte) (bs : List Byte) : fieldAt (b :: bs) 0 1 = b.toNat := by
  simp [fieldAt, bytesNat]

/-- A field after a run of bytes is a field of what follows the run. -/
theorem fieldAt_append {as : List Byte} {m : Nat} (h : as.length = m) (bs : List Byte) (k n : Nat) :
    fieldAt (as ++ bs) (m + k) n = fieldAt bs k n := by
  rw [fieldAt, ← h, List.drop_length_add_append, fieldAt]

theorem fieldAt_natBytes {n v : Nat} (h : v < 256 ^ n) (bs : List Byte) : fieldAt (natBytes n v ++ bs) 0 n = v := by
  rw [fieldAt, List.drop_zero, List.take_left' (natBytes_length n v), bytesNat_natBytes, Nat.mod_eq_of_lt h]

/-! ### The short messages -/

theorem parseMessage_commit (e : Byte) : parseMessage [0x22, e] = some (.commit e.toNat) := by
  rw [← fieldAt_byte e []]
  rfl

theorem parseMessage_refuse (e r : Byte) : parseMessage [0x23, e, r] = some (.refuse e.toNat r.toNat) := by
  rw [← fieldAt_byte e [r], ← fieldAt_byte r []]
  rfl

theorem parseMessage_renew (x : Byte) : parseMessage [0x24, x] = some (.renew x.toNat) := by
  rw [← fieldAt_byte x []]
  rfl

theorem flagsOf_toNat (f : Byte) :
    flagsOf f.toNat = { hold := f.getLsbD 0, notify := f.getLsbD 1, urgent := f.getLsbD 2 } := rfl

theorem parseMessage_order (action i kind level ref f : Byte) (h : action = 1 ∨ action = 2) :
    parseMessage [0x25, action, i, kind, level, ref, f] = some (.order (decide (action = 1))
      { index := i.toNat, kind := kind.toNat, level := level.toNat, ref := ref.toNat
        flags := { hold := f.getLsbD 0, notify := f.getLsbD 1, urgent := f.getLsbD 2 } }) := by
  rw [← flagsOf_toNat, ← fieldAt_byte i [kind, level, ref, f], ← fieldAt_byte kind [level, ref, f],
    ← fieldAt_byte level [ref, f], ← fieldAt_byte ref [f], ← fieldAt_byte f []]
  rcases h with rfl | rfl <;> rfl

/-! ### REPORT ACK -/

theorem ackPairs_flatMap (ps : List (Byte × Byte)) :
    ackPairs ps.length (ps.flatMap fun q => [q.1, q.2]) = ps.map fun q => (q.1.toNat, q.2.toNat) := by
  induction ps with
  | nil => rfl
  | cons q ps ih =>
    rw [List.map_cons, ← ih, ← fieldAt_byte q.1 [], ← fieldAt_byte q.2 []]
    rfl

theorem length_flatMap_pairs (ps : List (Byte × Byte)) : (ps.flatMap fun q => [q.1, q.2]).length = 2 * ps.length := by
  induction ps with
  | nil => rfl
  | cons q ps ih => simp only [List.flatMap_cons, List.length_append, List.length_cons, List.length_nil, ih]; omega

theorem parseMessage_ack (report : Byte) (ps : List (Byte × Byte)) (h : ps.length ≤ 8) :
    parseMessage (0x26 :: report :: BitVec.ofNat 8 ps.length :: ps.flatMap fun q => [q.1, q.2]) =
      some (.ack report.toNat (ps.map fun q => (q.1.toNat, q.2.toNat))) := by
  have hcount : (BitVec.ofNat 8 ps.length).toNat = ps.length := by rw [BitVec.toNat_ofNat]; omega
  have hpairs := ackPairs_flatMap ps
  have hlength := length_flatMap_pairs ps
  generalize (ps.flatMap fun q => [q.1, q.2]) = bs at *
  have hp : fieldAt (0x26 :: report :: BitVec.ofNat 8 ps.length :: bs) 2 1 = ps.length :=
    (fieldAt_byte (BitVec.ofNat 8 ps.length) bs).trans hcount
  have hnumber : fieldAt (0x26 :: report :: BitVec.ofNat 8 ps.length :: bs) 1 1 = report.toNat :=
    fieldAt_byte report (BitVec.ofNat 8 ps.length :: bs)
  have hack : parseMessage (0x26 :: report :: BitVec.ofNat 8 ps.length :: bs) =
      parseAck (0x26 :: report :: BitVec.ofNat 8 ps.length :: bs) := rfl
  have hrest : (0x26 :: report :: BitVec.ofNat 8 ps.length :: bs).drop 3 = bs := rfl
  rw [hack, parseAck]
  rw [hp, hnumber, hrest, hpairs, if_neg]
  simp only [List.length_cons]
  omega

/-! ### LOOPBACK PROBE -/

theorem parseMessage_probe {number field : Nat} (bs : List Byte) (hnumber : number < 65536) (hfield : field < 65536) :
    parseMessage (0x27 :: (natBytes 2 number ++ natBytes 2 field ++ bs)) =
      if 256 < field then some (.probe number field [])
      else if bs.length = field then some (.probe number field bs) else none := by
  have hprobe : ∀ rest : List Byte, parseMessage (0x27 :: rest) = parseProbe (0x27 :: rest) := fun _ => rfl
  have hf : fieldAt (0x27 :: (natBytes 2 number ++ natBytes 2 field ++ bs)) 3 2 = field := by
    rw [List.append_assoc]
    exact (fieldAt_append (natBytes_length 2 number) _ 0 2).trans (fieldAt_natBytes hfield bs)
  have hn : fieldAt (0x27 :: (natBytes 2 number ++ natBytes 2 field ++ bs)) 1 2 = number := by
    rw [List.append_assoc]
    exact fieldAt_natBytes hnumber _
  have hrest : (0x27 :: (natBytes 2 number ++ natBytes 2 field ++ bs)).drop 5 = bs := rfl
  have hlength : (0x27 :: (natBytes 2 number ++ natBytes 2 field ++ bs)).length = 5 + bs.length := by
    simp only [List.length_cons, List.length_append, natBytes_length]
    omega
  rw [hprobe, parseProbe]
  rw [hf, hn, hrest, hlength, if_neg (by omega)]
  by_cases hlong : 256 < field
  · rw [if_pos hlong, if_pos hlong]
  · rw [if_neg hlong, if_neg hlong]
    by_cases hfits : bs.length = field
    · rw [if_pos hfits, if_neg (by omega)]
    · rw [if_neg hfits, if_pos (by omega)]

/-! ### KEY DELIVERY -/

theorem byte_eq_ff (b : Byte) : b = 0xFF ↔ b.toNat = 0xFF := by
  rw [← BitVec.toNat_inj]
  rfl

theorem targetOf_eq (b : Byte) : targetOf b.toNat =
    if b.toNat ≤ 23 ∨ b = 0xFF then some (if b = 0xFF then .anyFree else .slot b.toNat) else none := by
  simp only [byte_eq_ff, targetOf]
  by_cases hlow : b.toNat ≤ 23
  · rw [if_pos hlow, if_pos (.inl hlow), if_neg (by omega)]
  · by_cases hfree : b.toNat = 0xFF
    · rw [if_neg hlow, if_pos hfree, if_pos (.inr hfree), if_pos hfree]
    · rw [if_neg hlow, if_neg hfree, if_neg (by omega)]

theorem predecessorOf_eq (b : Byte) : predecessorOf b.toNat =
    if 1 ≤ b.toNat ∧ b.toNat ≤ 23 ∨ b = 0xFF then some (if b = 0xFF then none else some b.toNat) else none := by
  simp only [byte_eq_ff, predecessorOf]
  by_cases hlow : 1 ≤ b.toNat ∧ b.toNat ≤ 23
  · rw [if_pos hlow, if_pos (.inl hlow), if_neg (by omega)]
  · by_cases hnone : b.toNat = 0xFF
    · rw [if_neg hlow, if_pos hnone, if_pos (.inr hnone), if_pos hnone]
    · rw [if_neg hlow, if_neg hnone, if_neg (by omega)]

/-- A delivery of the right length, by what its target and its predecessor name. -/
theorem parseDelivery_of_length {bs : List Byte} (hlength : bs.length = 52) :
    parseDelivery bs = (targetOf (fieldAt bs 2 1)).bind fun t => (predecessorOf (fieldAt bs 3 1)).bind fun p =>
      if 3 < fieldAt bs 5 1 then none
      else some (.delivery
        { exchange := fieldAt bs 1 1, target := t, targetCode := bs.getD 2 0, predecessor := p
          generation := bs.getD 4 0, level := fieldAt bs 5 1, hard := fieldAt bs 6 4, soft := fieldAt bs 10 4
          lead := fieldAt bs 14 2, maxAge := fieldAt bs 16 4, c1 := blockOfBytes ((bs.drop 20).take 16)
          c2 := blockOfBytes ((bs.drop 36).take 16) }) := by
  unfold parseDelivery
  rw [if_neg (fun h => h hlength)]
  cases targetOf (fieldAt bs 2 1)
  · rfl
  · cases predecessorOf (fieldAt bs 3 1) <;> rfl

theorem parseMessage_delivery (e target pred gen level : Byte) {hard soft lead age : Nat} {c1 c2 : List Byte}
    (hhard : hard < 2 ^ 32) (hsoft : soft < 2 ^ 32) (hlead : lead < 2 ^ 16) (hage : age < 2 ^ 32) (h1 : c1.length = 16)
    (h2 : c2.length = 16) :
    parseMessage (0x21 :: e :: target :: pred :: gen :: level :: (natBytes 4 hard ++ natBytes 4 soft ++ natBytes 2 lead
        ++ natBytes 4 age ++ c1 ++ c2)) =
      if (target.toNat ≤ 23 ∨ target = 0xFF) ∧ (1 ≤ pred.toNat ∧ pred.toNat ≤ 23 ∨ pred = 0xFF) ∧ level.toNat ≤ 3 then
        some (.delivery
          { exchange := e.toNat, target := if target = 0xFF then .anyFree else .slot target.toNat, targetCode := target
            predecessor := if pred = 0xFF then none else some pred.toNat, generation := gen, level := level.toNat
            hard := hard, soft := soft, lead := lead, maxAge := age, c1 := blockOfBytes c1, c2 := blockOfBytes c2 })
      else none := by
  have hparse : ∀ rest, parseMessage (0x21 :: rest) = parseDelivery (0x21 :: rest) := fun _ => rfl
  rw [hparse]
  simp only [List.append_assoc]
  obtain ⟨limits, hlimits⟩ : ∃ limits, natBytes 4 hard ++ (natBytes 4 soft ++ (natBytes 2 lead ++ (natBytes 4 age
      ++ (c1 ++ c2)))) = limits := ⟨_, rfl⟩
  have hlength : limits.length = 46 := by
    rw [← hlimits]
    simp only [List.length_append, natBytes_length, h1, h2]
  have hhardAt : fieldAt limits 0 4 = hard := by rw [← hlimits]; exact fieldAt_natBytes hhard _
  have hsoftAt : fieldAt limits 4 4 = soft := by
    rw [← hlimits]
    exact (fieldAt_append (natBytes_length 4 hard) _ 0 4).trans (fieldAt_natBytes hsoft _)
  have hleadAt : fieldAt limits 8 2 = lead := by
    rw [← hlimits]
    exact (fieldAt_append (natBytes_length 4 hard) _ 4 2).trans
      ((fieldAt_append (natBytes_length 4 soft) _ 0 2).trans (fieldAt_natBytes hlead _))
  have hageAt : fieldAt limits 10 4 = age := by
    rw [← hlimits]
    exact (fieldAt_append (natBytes_length 4 hard) _ 6 4).trans
      ((fieldAt_append (natBytes_length 4 soft) _ 2 4).trans
        ((fieldAt_append (natBytes_length 2 lead) _ 0 4).trans (fieldAt_natBytes hage _)))
  have hc1 : (limits.drop 14).take 16 = c1 := by
    rw [← hlimits]
    exact List.take_left' h1
  have hc2 : (limits.drop 30).take 16 = c2 := by
    rw [← hlimits]
    have hdrop : (natBytes 4 hard ++ (natBytes 4 soft ++ (natBytes 2 lead ++ (natBytes 4 age ++ (c1 ++ c2))))).drop 30
        = (c1 ++ c2).drop 16 := rfl
    rw [hdrop, List.drop_left' h1, List.take_of_length_le h2.le]
  have htarget : fieldAt (0x21 :: e :: target :: pred :: gen :: level :: limits) 2 1 = target.toNat := fieldAt_byte target _
  have hpred : fieldAt (0x21 :: e :: target :: pred :: gen :: level :: limits) 3 1 = pred.toNat := fieldAt_byte pred _
  have hlevel : fieldAt (0x21 :: e :: target :: pred :: gen :: level :: limits) 5 1 = level.toNat := fieldAt_byte level _
  have hexchange : fieldAt (0x21 :: e :: target :: pred :: gen :: level :: limits) 1 1 = e.toNat := fieldAt_byte e _
  rw [hlimits, parseDelivery_of_length (by simp only [List.length_cons, hlength]), htarget, hpred, hlevel, hexchange,
    targetOf_eq, predecessorOf_eq]
  generalize (if target = 0xFF then Target.anyFree else Target.slot target.toNat) = t
  generalize (if pred = 0xFF then none else some pred.toNat : Option Nat) = p
  by_cases ht : target.toNat ≤ 23 ∨ target = 0xFF
  · by_cases hp : 1 ≤ pred.toNat ∧ pred.toNat ≤ 23 ∨ pred = 0xFF
    · by_cases hl : level.toNat ≤ 3
      · rw [if_pos ht, if_pos hp, if_pos ⟨ht, hp, hl⟩, ← hhardAt, ← hsoftAt, ← hleadAt, ← hageAt, ← hc1, ← hc2]
        exact if_neg (by omega)
      · rw [if_pos ht, if_pos hp, if_neg fun h => hl h.2.2]
        exact if_pos (by omega)
    · rw [if_pos ht, if_neg hp, if_neg fun h => hp h.2.1]
      rfl
  · rw [if_neg ht]
    exact (if_neg fun h => ht h.1).symm

end Sys2Proof.Machine
end

section
/-! PROOFS. Inbound control frames (R97, R109, R119): the composition that falls together with a completion, the completion of
a control frame, and the statement about both and the parse (O31). -/

namespace Sys2Proof.Machine

/-! ### The event that falls together with a step (R109) -/

theorem State.takeComposition_of_none {s : State} (h : ∀ i ∈ s.pending.head?, s.asksComposition i = false) :
    s.takeComposition = s := by
  obtain ⟨i, hi, hasks, -⟩ | ⟨-, hsame⟩ := s.takeComposition_cases
  · exact absurd (h i hi) (by rw [hasks]; decide)
  · exact hsame

theorem State.takeComposition_of_asks {s : State} {i : Instr} (hi : s.pending.head? = some i)
    (hasks : s.asksComposition i = true) : s.takeComposition = s.compositionEvent i := by
  unfold State.takeComposition
  rw [hi]
  exact if_pos hasks

theorem isContext_iff (c : Nat) : isContext c = true ↔ c < 4 := by
  simp [isContext]

/-- The event is what the command that waits answers. -/
theorem exec_of_asksComposition {s : State} {i : Instr} (hasks : s.asksComposition i = true) :
    exec i s = .next (s.compositionEvent i) := by
  have hcontext : ∀ c t, (s.ctx c).isOpen = true → onContext c t = .next t := fun c t hopen =>
    onContext_of_wf ((isContext_iff c).mpr (State.isOpen_lt hopen)) t
  cases i
  case exchangeStart => rfl
  case beaconCycleEnd => rfl
  case contextComposeRetry c =>
    have hopen : (s.ctx c).isOpen = true := by
      have hdue : s.retryDue c = true := hasks
      simp only [State.retryDue, Bool.and_eq_true] at hdue
      exact hdue.1.1
    exact hcontext c _ hopen
  case replyTimerExpiry c =>
    have hopen : (s.ctx c).isOpen = true := by
      have hdue : (s.replyDue c && decide ((s.ctx c).attempt < 3)) = true := hasks
      simp only [State.replyDue, Bool.and_eq_true] at hdue
      exact hdue.1.1.1.1
    exact hcontext c _ hopen
  all_goals exact nomatch hasks

theorem takeEligible_isSome (q : Entry → Bool) (l : List Entry) : (takeEligible q l).isSome = l.any q := by
  induction l with
  | nil => rfl
  | cons e l ih =>
    rw [takeEligible, List.any_cons, ← ih]
    cases q e <;> simp

/-- What a composition that found no buffer leaves. -/
structure State.FoundNoBuffer (s t : State) : Prop where
  pool : t.pool = { s.pool with low := true }
  ctrl : t.ctrl = s.ctrl
  handed : t.messenger.handedProbe = s.messenger.handedProbe
  stands : t.faultStands .poolLow .nothing

theorem State.composeContext_foundNone {s : State} {c : Nat} (hc : c < 4) (hp : s.partState.composes = true)
    (hf : s.pool.free = 0) : s.FoundNoBuffer (s.composeContext c) := by
  obtain ⟨t, ht, hstate, -, -, hstands⟩ := State.composeContext_noBuffer hc hp hf
  rw [ht]
  exact ⟨by rw [hstate], by rw [hstate], by rw [hstate], hstands⟩

theorem State.openContext_handed (c : Nat) (x : Context) (s : State) :
    (s.openContext c x).messenger.handedProbe = s.messenger.handedProbe := by
  rw [State.openContext, State.assignExchange_state]
  rfl

/-- The event finds no buffer. -/
theorem State.compositionEvent_foundNone {s : State} {i : Instr} (hasks : s.asksComposition i = true)
    (hp : s.partState.composes = true) (hf : s.pool.free = 0) : s.FoundNoBuffer (s.compositionEvent i) := by
  cases i
  case exchangeStart =>
    have hstart : (s.findCtx fun x => !x.isOpen).isSome = true ∧ s.renewal.list.any s.eligible = true :=
      (Bool.and_eq_true _ _).mp hasks
    obtain ⟨c, hfind⟩ := Option.isSome_iff_exists.mp hstart.1
    obtain ⟨⟨e, rest⟩, htake⟩ := Option.isSome_iff_exists.mp ((takeEligible_isSome ..).trans hstart.2)
    have hevent : s.startExchange = ((s.updRenewal fun n => { n with list := rest }).openContext c e.context).composeContext c := by
      simp only [State.startExchange, hfind, htake]
      rfl
    have hopened : ((s.updRenewal fun n => { n with list := rest }).openContext c e.context).partState = s.partState
        ∧ ((s.updRenewal fun n => { n with list := rest }).openContext c e.context).pool = s.pool
        ∧ ((s.updRenewal fun n => { n with list := rest }).openContext c e.context).ctrl = s.ctrl
        ∧ ((s.updRenewal fun n => { n with list := rest }).openContext c e.context).messenger.handedProbe
          = s.messenger.handedProbe := ⟨by simp, by simp, by simp, State.openContext_handed ..⟩
    generalize (s.updRenewal fun n => { n with list := rest }).openContext c e.context = u at *
    obtain ⟨hpart, hpool, hctrl, hhanded⟩ := hopened
    have hfound := State.composeContext_foundNone (s := u) (State.findCtx_some hfind).1 (by rw [hpart]; exact hp)
      (by rw [hpool]; exact hf)
    rw [show s.compositionEvent .exchangeStart = s.startExchange from rfl, hevent]
    exact ⟨hfound.pool.trans (by rw [hpool]), hfound.ctrl.trans hctrl, hfound.handed.trans hhanded, hfound.stands⟩
  case contextComposeRetry c =>
    have hdue : s.retryDue c = true := hasks
    have hopen := hdue
    simp only [State.retryDue, Bool.and_eq_true] at hopen
    rw [show s.compositionEvent (.contextComposeRetry c) = s.composeContext c from if_pos hdue]
    exact State.composeContext_foundNone (State.isOpen_lt hopen.1.1) hp hf
  case replyTimerExpiry c =>
    have hdue : s.replyDue c = true ∧ decide ((s.ctx c).attempt < 3) = true := (Bool.and_eq_true _ _).mp hasks
    have hopen := hdue.1
    simp only [State.replyDue, Bool.and_eq_true] at hopen
    have hfound := State.composeContext_foundNone (s := s.askAgain c) (State.isOpen_lt hopen.1.1.1) hp hf
    rw [show s.compositionEvent (.replyTimerExpiry c) = (s.askAgain c).composeContext c from
      (if_pos hdue.1).trans (if_pos (of_decide_eq_true hdue.2))]
    exact ⟨hfound.pool, hfound.ctrl, hfound.handed, hfound.stands⟩
  case beaconCycleEnd =>
    have hdue : s.cycleDue = true ∧ s.asksReport = true := (Bool.and_eq_true _ _).mp hasks
    have hask : s.askReport = ((s.updPool fun q => { q with low := true }).raiseFault .poolLow .nothing, false) := by
      simp only [State.askReport, State.compose_noBuffer _ s hp hf, Bool.false_eq_true, if_false]
    have hreport : s.cycleReport = (s.updPool fun q => { q with low := true }).raiseFault .poolLow .nothing := by
      simp only [State.cycleReport, hdue.2, hask, if_true, Bool.false_eq_true, and_false, if_false]
    rw [show s.compositionEvent .beaconCycleEnd = s.cycleReport.updBeacon Beacon.ended from State.endCycle_eq hdue.1, hreport]
    exact ⟨by simp, by simp, by simp, State.faultStands_congr rfl (State.raiseFault_stands _ _ _)⟩
  all_goals exact nomatch hasks

/-! ### The completion of a control frame (R97) -/

/-- What follows the message's own effect: the buffer returns, the place is released, the frame is counted, the flight ends. -/
def State.handedOver (k : KeyRef) (w : State) : State :=
  ((w.returnBuffer.setAsidePlace false).updChan 0 fun d => { d with received := satInc 4294967295 d.received }).endFlight 0 k

/-- The end of a control frame whose slot's drain end does not wait. -/
theorem State.handedOver_spec {w : State} {k : KeyRef} (hopen : (w.chan 0).state ≠ .closing)
    (hkey : k = .root ∨ ∃ x, k = .slot x ∧ 1 ≤ x ∧ x ≤ 23 ∧ ¬ ((w.slot x).state = .draining ∧ (w.slot x).drain = 0)) :
    ∃ t, w.handedOver k = t
      ∧ t = { w with engine := { w.engine with work := none }, chans := t.chans, slots := t.slots, root := t.root
                     pool := { w.pool with free := w.pool.free + 1, setAside := false, low := w.returnBuffer.pool.low }
                     faults := w.returnBuffer.faults, beacon := t.beacon
                     sPort := { w.sPort with faultCause := t.sPort.faultCause }
                     lPort := { w.lPort with faultCause := t.lPort.faultCause } }
      ∧ t.chan 0 = { w.chan 0 with inEngine := false, received := min ((w.chan 0).received + 1) 4294967295 }
      ∧ (∀ j, j ≠ 0 → t.chan j = w.chan j)
      ∧ (k = .root → t.slots = w.slots ∧ t.root = { w.root with unsavedCounter := none })
      ∧ ∀ x, k = .slot x → t.root = w.root ∧ t.slot x = { w.slot x with engineUse := false }
        ∧ ∀ y, y ≠ x → t.slot y = w.slot y := by
  obtain ⟨u, hu⟩ : ∃ u, (w.returnBuffer.setAsidePlace false).updChan 0
      (fun d => { d with received := satInc 4294967295 d.received }) = u := ⟨_, rfl⟩
  have hustate : u = { w with
      chans := u.chans
      pool := { w.pool with free := w.pool.free + 1, setAside := false, low := w.returnBuffer.pool.low }
      faults := w.returnBuffer.faults, beacon := u.beacon
      sPort := { w.sPort with faultCause := u.sPort.faultCause }
      lPort := { w.lPort with faultCause := u.lPort.faultCause } } := by
    rw [← hu, w.returnBuffer_state]
    rfl
  have huchan : ∀ j, u.chan j =
      if j = 0 then { w.chan 0 with received := min ((w.chan 0).received + 1) 4294967295 } else w.chan j := fun j => by
    have hreturned : ∀ i, (w.returnBuffer.setAsidePlace false).chan i = w.chan i := State.chan_congr (by simp [State.setAsidePlace])
    rw [← hu, State.chan_updChan, hreturned, hreturned]
    by_cases hj : j = 0
    · rw [if_pos hj, if_pos ⟨hj, by decide⟩]
      rfl
    · rw [if_neg hj, if_neg fun h => hj h.1]
  have huslots : u.slots = w.slots := by rw [hustate]
  have huslot : ∀ x, u.slot x = w.slot x := State.slot_congr huslots
  have huopen : (u.chan 0).state ≠ .closing := by rw [huchan, if_pos rfl]; exact hopen
  rw [State.handedOver, hu]
  rcases hkey with rfl | ⟨x, rfl, hlow, hhigh, hstays⟩
  · obtain ⟨t, ht, hstate, hchan, hothers⟩ := State.endFlight_root_spec huopen
    refine ⟨t, ht, ?_, ?_, fun j hj => ?_, fun _ => ⟨?_, ?_⟩, fun x hx => nomatch hx⟩
    · rw [hstate, hustate]
    · rw [hchan, huchan, if_pos rfl]
    · rw [hothers j hj, huchan, if_neg hj]
    · rw [hstate]; exact huslots
    · rw [hstate, hustate]
  · obtain ⟨t, ht, hstate, hslot, hslots, -, hchan, hothers⟩ := State.endFlight_slot_spec (s := u) (i := 0) (by decide)
      ⟨hlow, hhigh⟩ (by rw [huslot]; exact hstays)
    refine ⟨t, ht, ?_, ?_, fun j hj => ?_, nofun, fun y hy => ?_⟩
    · rw [hstate, hustate]
    · rw [hchan huopen, huchan, if_pos rfl]
    · rw [hothers j hj, huchan, if_neg hj]
    · obtain rfl : x = y := KeyRef.slot.inj hy
      exact ⟨by rw [hstate, hustate], by rw [hslot, huslot], fun z hz => by rw [hslots z hz, huslot]⟩

/-- The completion, by the state the message left, and what fell together with it. -/
theorem State.completeInbound_handed {s w : State} {f : LineIn} {k : WorkKey} {n : Nat}
    (hwork : s.engine.work = some (.inbound f k n 0)) (hkind : f.parts.header.kind = kindControl)
    (hw : w = if s.echoTookLast (parseMessage (f.payload k.material)) (s.handleControl (f.payload k.material)) then
      (s.handleControl (f.payload k.material)).takeComposition else s.handleControl (f.payload k.material)) :
    exec .inboundCompletion s = .next (w.handedOver k.ref) := by
  subst hw
  exact congrArg Host.Outcome.next (State.completeInbound_control hwork hkind)

theorem State.handleControl_message {bs : List Byte} {m : Message} (h : parseMessage bs = some m) (s : State) :
    s.handleControl bs = ({ s with messenger := s.messenger.countHanded m } : State).takeMessage m := by
  simp only [State.handleControl, h]
  rfl

theorem State.handleControl_unparseable {bs : List Byte} (h : parseMessage bs = none) (s : State) :
    s.handleControl bs = { s with messenger := { s.messenger with unparseable := min (s.messenger.unparseable + 1) 65535 } } := by
  simp only [State.handleControl, h]
  rfl

theorem State.echoTookLast_iff (m : Message) (s t : State) :
    s.echoTookLast (some m) t = true ↔ m.isProbe = true ∧ s.pool.free = 1 ∧ t.pool.free = 0 := by
  simp [State.echoTookLast, and_assoc]

/-! ### A LOOPBACK PROBE (R108, R109) -/

/-- The part once it has answered a probe with its echo. -/
def State.echoed (number : Nat) (bs : List Byte) (s : State) : State :=
  { s with
    messenger := { s.messenger with handedProbe := min (s.messenger.handedProbe + 1) 65535 }
    pool := { s.pool with free := s.pool.free - 1 }
    ctrl := s.ctrl ++ [{ payload := echoBytes number bs, serial := s.renewal.nextSerial }]
    renewal := { s.renewal with nextSerial := s.renewal.nextSerial + 1 }
    link := { s.link with probesAnswered := min (s.link.probesAnswered + 1) 4294967295 } }

theorem State.takeMessage_probe {s : State} {number field : Nat} (bs : List Byte) (hfield : field ≤ 256)
    (hp : s.partState.composes = true) (hf : 0 < s.pool.free) (hl : s.ctrl.length < 8) :
    ({ s with messenger := s.messenger.countHanded (.probe number field bs) } : State).takeMessage (.probe number field bs)
      = s.echoed number bs := by
  have htake : ∀ t : State, t.takeMessage (.probe number field bs) = t.takeProbe number field bs := fun _ => rfl
  have hcomposed := State.compose_success (echoBytes number bs)
    ({ s with messenger := s.messenger.countHanded (.probe number field bs) } : State) hp hf hl
  rw [htake, State.takeProbe, if_neg (by omega), hcomposed]
  rfl

theorem State.echoed_asks (number : Nat) (bs : List Byte) (s : State) (i : Instr) :
    (s.echoed number bs).asksComposition i = s.asksComposition i := by
  cases i <;> rfl

/-! ### The statement (O31) -/

/-- An unparseable message is counted alone. -/
theorem State.completeInbound_unparseable {s : State} {f : LineIn} {k : WorkKey} {n : Nat}
    (hwork : s.engine.work = some (.inbound f k n 0)) (hkind : f.parts.header.kind = kindControl) (hroot : k.ref = .root)
    (hopen : (s.chan 0).state ≠ .closing) (hparse : parseMessage (f.payload k.material) = none) :
    ∃ t, exec .inboundCompletion s = .next t
      ∧ t.messenger = { s.messenger with unparseable := min (s.messenger.unparseable + 1) 65535 }
      ∧ t.ctrl = s.ctrl ∧ t.slots = s.slots ∧ t.renewal = s.renewal ∧ t.link = s.link ∧ t.engine.work = none
      ∧ t.pool.free = s.pool.free + 1 ∧ t.pool.setAside = false
      ∧ t.chan 0 = { s.chan 0 with inEngine := false, received := min ((s.chan 0).received + 1) 4294967295 }
      ∧ (∀ j, j ≠ 0 → t.chan j = s.chan j) := by
  have hw : ({ s with messenger := { s.messenger with unparseable := min (s.messenger.unparseable + 1) 65535 } } : State)
      = if s.echoTookLast (parseMessage (f.payload k.material)) (s.handleControl (f.payload k.material)) then
        (s.handleControl (f.payload k.material)).takeComposition else s.handleControl (f.payload k.material) := by
    rw [if_neg (by rw [hparse]; exact Bool.false_ne_true), State.handleControl_unparseable hparse]
  have hrun := State.completeInbound_handed hwork hkind hw
  obtain ⟨t, ht, hstate, hchan, hothers, hslots, -⟩ := State.handedOver_spec (k := k.ref)
    (w := { s with messenger := { s.messenger with unparseable := min (s.messenger.unparseable + 1) 65535 } }) hopen (.inl hroot)
  exact ⟨t, hrun.trans (congrArg Host.Outcome.next ht), by rw [hstate], by rw [hstate], (hslots hroot).1, by rw [hstate],
    by rw [hstate], by rw [hstate], by rw [hstate], by rw [hstate], hchan, hothers⟩

/-- A probe is answered by its echo. -/
theorem State.completeInbound_probe {s : State} {f : LineIn} {k : WorkKey} {n number field : Nat} {bs : List Byte}
    (hwork : s.engine.work = some (.inbound f k n 0)) (hkind : f.parts.header.kind = kindControl) (hroot : k.ref = .root)
    (hopen : (s.chan 0).state ≠ .closing) (hparse : parseMessage (f.payload k.material) = some (.probe number field bs))
    (hfield : field ≤ 256) (hp : s.partState.composes = true) (hf : 0 < s.pool.free) (hl : s.ctrl.length < 8) :
    ∃ t, exec .inboundCompletion s = .next t
      ∧ t.ctrl = s.ctrl ++ [{ payload := echoBytes number bs, serial := s.renewal.nextSerial }]
      ∧ t.link = { s.link with probesAnswered := min (s.link.probesAnswered + 1) 4294967295 }
      ∧ t.messenger.handedProbe = min (s.messenger.handedProbe + 1) 65535
      ∧ (2 ≤ s.pool.free ∨ (∀ i ∈ s.pending.head?, s.asksComposition i = false) →
          t.messenger = { s.messenger with handedProbe := t.messenger.handedProbe })
      ∧ (∀ i, s.pool.free = 1 → s.pending.head? = some i → s.asksComposition i = true →
          t.pool.low = true ∧ t.faultStands .poolLow .nothing)
      ∧ t.pool.free = s.pool.free ∧ t.pool.setAside = false ∧ t.engine.work = none ∧ t.slots = s.slots
      ∧ t.chan 0 = { s.chan 0 with inEngine := false, received := min ((s.chan 0).received + 1) 4294967295 }
      ∧ (∀ j, j ≠ 0 → t.chan j = s.chan j) := by
  have hacted : s.handleControl (f.payload k.material) = s.echoed number bs :=
    (State.handleControl_message hparse s).trans (State.takeMessage_probe bs hfield hp hf hl)
  have hrun := State.completeInbound_handed hwork hkind rfl
  rw [hparse, hacted] at hrun
  have htook : s.echoTookLast (some (.probe number field bs)) (s.echoed number bs) = true ↔ s.pool.free = 1 := by
    rw [State.echoTookLast_iff]
    refine ⟨fun h => h.2.1, fun h => ⟨rfl, h, ?_⟩⟩
    show s.pool.free - 1 = 0
    omega
  obtain ⟨w, hw⟩ : ∃ w, (if s.echoTookLast (some (.probe number field bs)) (s.echoed number bs) then
      (s.echoed number bs).takeComposition else s.echoed number bs) = w := ⟨_, rfl⟩
  rw [hw] at hrun
  have hcase : (w = s.echoed number bs ∧ (s.pool.free = 1 → ∀ i ∈ s.pending.head?, s.asksComposition i = false))
      ∨ ∃ i, s.pool.free = 1 ∧ s.pending.head? = some i ∧ s.asksComposition i = true ∧ w = (s.echoed number bs).takeComposition
        ∧ (s.echoed number bs).FoundNoBuffer w := by
    by_cases hone : s.pool.free = 1
    · rw [if_pos (htook.mpr hone)] at hw
      obtain ⟨i, hi, hasks, htaken⟩ | ⟨hnone, hsame⟩ := (s.echoed number bs).takeComposition_cases
      · refine .inr ⟨i, hone, hi, (State.echoed_asks number bs s i).symm.trans hasks, hw.symm, ?_⟩
        rw [← hw, htaken]
        exact State.compositionEvent_foundNone hasks hp (show s.pool.free - 1 = 0 by omega)
      · refine .inl ⟨hw.symm.trans hsame, fun _ i hi => (State.echoed_asks number bs s i).symm.trans (hnone i hi)⟩
    · rw [if_neg fun h => hone (htook.mp h)] at hw
      exact .inl ⟨hw.symm, fun h => absurd h hone⟩
  have hkept : w.chans = s.chans ∧ w.slots = s.slots ∧ w.link = (s.echoed number bs).link
      ∧ w.ctrl = (s.echoed number bs).ctrl ∧ w.pool.free = s.pool.free - 1
      ∧ w.messenger.handedProbe = (s.echoed number bs).messenger.handedProbe := by
    rcases hcase with ⟨hsame, -⟩ | ⟨i, -, -, -, htaken, hfound⟩
    · rw [hsame]
      exact ⟨rfl, rfl, rfl, rfl, rfl, rfl⟩
    · refine ⟨?_, ?_, ?_, hfound.ctrl, by rw [hfound.pool]; rfl, hfound.handed⟩ <;> rw [htaken] <;> simp [State.echoed]
  obtain ⟨hchans, hslots, hlink, hctrl, hfree, hhanded⟩ := hkept
  have hchan : ∀ j, w.chan j = s.chan j := State.chan_congr hchans
  obtain ⟨t, ht, hstate, htchan, hothers, htslots, -⟩ := State.handedOver_spec (k := k.ref) (w := w)
    (by rw [hchan]; exact hopen) (.inl hroot)
  refine ⟨t, hrun.trans (congrArg Host.Outcome.next ht), ?_, ?_, ?_, fun hplain => ?_, fun i hone hi hasks => ?_, ?_, ?_, ?_,
    (htslots hroot).1.trans hslots, by rw [htchan, hchan], fun j hj => (hothers j hj).trans (hchan j)⟩
  · rw [hstate]; exact hctrl
  · rw [hstate]; exact hlink
  · rw [hstate]; exact hhanded
  · have hmessenger : w.messenger = (s.echoed number bs).messenger := by
      rcases hcase with ⟨hsame, -⟩ | ⟨i, hone, hi, hasks, -⟩
      · rw [hsame]
      · rcases hplain with h | h
        · omega
        · exact absurd (h i hi) (by rw [hasks]; decide)
    have htmessenger : t.messenger = (s.echoed number bs).messenger := by rw [hstate]; exact hmessenger
    rw [htmessenger]
    rfl
  · rcases hcase with ⟨-, hnone⟩ | ⟨-, -, -, -, -, hfound⟩
    · exact absurd (hnone hone i hi) (by rw [hasks]; decide)
    · have hreturned := State.returnBuffer_of_high (s := w) (.inr (by omega))
      have hlow : t.pool.low = w.pool.low := by rw [hstate, hreturned]; rfl
      refine ⟨hlow.trans (by rw [hfound.pool]), State.faultStands_congr (s := w) ?_ hfound.stands⟩
      rw [hstate, hreturned]
      rfl
  · rw [hstate]
    show w.pool.free + 1 = s.pool.free
    omega
  · rw [hstate]
  · rw [hstate]

/-- Any message: the completion is the end of the flight of what the message, and what fell together with it, left. -/
theorem State.completeInbound_message {s u v : State} {f : LineIn} {k : WorkKey} {n : Nat} {m : Message}
    (hwork : s.engine.work = some (.inbound f k n 0)) (hkind : f.parts.header.kind = kindControl)
    (hparse : parseMessage (f.payload k.material) = some m)
    (hu : u = ({ s with messenger := s.messenger.countHanded m } : State).takeMessage m)
    (hv : v = if m.isProbe = true ∧ s.pool.free = 1 ∧ u.pool.free = 0 then u.takeComposition else u) :
    exec .inboundCompletion s = .next (v.handedOver k.ref) := by
  have hacted := (State.handleControl_message hparse s).trans hu.symm
  refine State.completeInbound_handed hwork hkind ?_
  rw [hparse, hacted, hv]
  by_cases htook : m.isProbe = true ∧ s.pool.free = 1 ∧ u.pool.free = 0
  · rw [if_pos htook, if_pos ((State.echoTookLast_iff ..).mpr htook)]
  · rw [if_neg htook, if_neg fun h => htook ((State.echoTookLast_iff ..).mp h)]

/-- Settles O31: an unparseable payload, a probe and any message, what falls together with a completion, and the parses. -/
theorem inboundControlActs : Obligations.InboundControlActs := by
  unfold Obligations.InboundControlActs
  refine ⟨fun s f k n hwork hkind hroot hopen => ⟨State.completeInbound_unparseable hwork hkind hroot hopen,
      fun number field bs hparse hfield hpart => ?_⟩,
    fun s u f k n m hwork hkind hparse hu hopen hkey v hv => ?_, fun u => ⟨State.takeComposition_of_none, fun i hi hasks => ?_⟩,
    fun e x r => ⟨parseMessage_commit e, parseMessage_refuse e r, parseMessage_renew x⟩, parseMessage_order, parseMessage_ack,
    fun number field bs => parseMessage_probe bs,
    fun e target pred gen level _ _ _ _ _ _ => parseMessage_delivery e target pred gen level⟩
  · exact State.completeInbound_probe hwork hkind hroot hopen hparse hfield (by rcases hpart with h | h <;> rw [h] <;> rfl)
  · have hrun := State.completeInbound_message hwork hkind hparse hu hv
    obtain ⟨hchans, hslots, hroot, hengine⟩ : v.chans = u.chans ∧ v.slots = u.slots ∧ v.root = u.root ∧ v.engine = u.engine := by
      rw [hv]
      split <;> simp
    have hchan : ∀ j, v.chan j = u.chan j := State.chan_congr hchans
    have hslot : ∀ x, v.slot x = u.slot x := State.slot_congr hslots
    obtain ⟨t, ht, hstate, htchan, hothers, hunderRoot, hunderSlot⟩ := State.handedOver_spec (k := k.ref) (w := v)
      (by rw [hchan]; exact hopen) (by simp only [hslot]; exact hkey)
    refine ⟨t, hrun.trans (congrArg Host.Outcome.next ht), ?_, by rw [htchan, hchan], fun j hj => (hothers j hj).trans (hchan j),
      fun h => ⟨(hunderRoot h).1.trans hslots, by rw [(hunderRoot h).2, hroot]⟩, fun x hx => ?_⟩
    · rw [hstate, hengine]
    · obtain ⟨htroot, htslot, htslots⟩ := hunderSlot x hx
      exact ⟨htroot.trans hroot, by rw [htslot, hslot], fun y hy => (htslots y hy).trans (hslot y)⟩
  · have htaken := State.takeComposition_of_asks hi hasks
    rw [htaken]
    refine ⟨exec_of_asksComposition hasks, fun hpart hfree => ?_⟩
    have hfound := State.compositionEvent_foundNone hasks (by rcases hpart with h | h | h <;> rw [h] <;> rfl) hfree
    exact ⟨hfound.pool, hfound.ctrl, hfound.stands⟩

end Sys2Proof.Machine
end

section
/-! PROOFS. What a run of fault events leaves of the records it does not name (R150 to R152). -/

namespace Sys2Proof.Machine

/-- Between s and t the Fault Monitor has taken events of the kinds and subjects of P alone: a lawful list is lawful still, no
record of another kind and subject is new, none that was ACTIVE is gone or changed, and an overflow stands. -/
structure State.Touches (P : FaultKind → Subject → Prop) (s t : State) : Prop where
  law : s.FaultListLaw → t.FaultListLaw
  former : s.FaultListLaw → ∀ r ∈ t.faults.records, ¬ P r.kind r.subject → r ∈ s.faults.records
  kept : s.FaultListLaw → ∀ r ∈ s.faults.records, ¬ P r.kind r.subject → r.active = true → r ∈ t.faults.records
  overflow : s.faults.overflow = true → t.faults.overflow = true

section
variable {P Q : FaultKind → Subject → Prop} {s t u : State}

theorem State.Touches.of_faults (h : t.faults = s.faults) : s.Touches P t where
  law hlaw := hlaw.congr (by rw [h]) (by rw [h])
  former _ r hr _ := by rwa [h] at hr
  kept _ r hr _ _ := by rwa [h]
  overflow ho := by rwa [h]

theorem State.Touches.trans (h : s.Touches P t) (k : t.Touches P u) : s.Touches P u where
  law hlaw := k.law (h.law hlaw)
  former hlaw r hr hP := h.former hlaw r (k.former (h.law hlaw) r hr hP) hP
  kept hlaw r hr hP ha := k.kept (h.law hlaw) r (h.kept hlaw r hr hP ha) hP ha
  overflow ho := k.overflow (h.overflow ho)

theorem State.Touches.mono (h : s.Touches P t) (hPQ : ∀ k x, P k x → Q k x) : s.Touches Q t where
  law := h.law
  former hlaw r hr hQ := h.former hlaw r hr fun hP => hQ (hPQ _ _ hP)
  kept hlaw r hr hQ := h.kept hlaw r hr fun hP => hQ (hPQ _ _ hP)
  overflow := h.overflow

/-- A fault of another kind or subject that stood stands still. -/
theorem State.Touches.stands (h : s.Touches P t) (hlaw : s.FaultListLaw) {k : FaultKind} {x : Subject} (hP : ¬ P k x)
    (hs : s.faultStands k x) : t.faultStands k x := by
  rcases hs with ⟨r, hr, rfl, rfl, ha⟩ | ho
  · exact .inl ⟨r, h.kept hlaw r hr hP ha, rfl, rfl, ha⟩
  · exact .inr (h.overflow ho)

theorem State.Touches.ite {c : Prop} [Decidable c] {v : State} (ht : c → s.Touches P t) (hv : ¬ c → s.Touches P v) :
    s.Touches P (if c then t else v) := by
  split
  next h => exact ht h
  next h => exact hv h

end

/-- The kind and the subject are these. -/
def isFault (k : FaultKind) (x : Subject) (k' : FaultKind) (x' : Subject) : Prop := k' = k ∧ x' = x

/-- A new image of the record of one kind and subject. -/
theorem State.updRecord_touches (k : FaultKind) (x : Subject) {g : FaultRecord → FaultRecord}
    (hg : ∀ r, (g r).id = r.id ∧ (g r).kind = r.kind ∧ (g r).subject = r.subject) (s : State) :
    s.Touches (isFault k x) (s.updRecord k x g) where
  law hlaw := hlaw.updRecord k x hg
  former _ r hr hP := by
    obtain ⟨q, hq, rfl⟩ := List.mem_map.mp hr
    by_cases hhit : q.hits k x = true
    · rw [if_pos hhit] at hP
      obtain ⟨-, hkind, hsubject⟩ := hg q
      rw [hkind, hsubject] at hP
      exact absurd ((FaultRecord.hits_iff k x q).mp hhit) hP
    · rwa [if_neg hhit]
  kept _ r hr hP _ := List.mem_map.mpr ⟨r, hr, if_neg fun h => hP ((FaultRecord.hits_iff k x r).mp h)⟩
  overflow h := h

theorem State.createRecord_former {k : FaultKind} {x : Subject} {a : Bool} {s : State} {r : FaultRecord}
    (hr : r ∈ (s.createRecord k x a).faults.records) (hP : ¬ isFault k x r.kind r.subject) : r ∈ s.faults.records := by
  rw [State.createRecord_faults] at hr
  rcases List.mem_append.mp hr with h | h
  · exact h
  · rw [List.mem_singleton.mp h] at hP
    exact absurd ⟨rfl, rfl⟩ hP

theorem State.createRecord_kept {k : FaultKind} {x : Subject} {a : Bool} {s : State} {r : FaultRecord}
    (hr : r ∈ s.faults.records) : r ∈ (s.createRecord k x a).faults.records := by
  rw [State.createRecord_faults]
  exact List.mem_append_left _ hr

/-- A clear is an event of its kind and subject. -/
theorem State.clearFault_touches (k : FaultKind) (x : Subject) (s : State) : s.Touches (isFault k x) (s.clearFault k x) := by
  have hcleared : s.Touches (isFault k x) ((s.updRecord k x (·.clear)).armOneShot.latchFault) :=
    (State.updRecord_touches k x (g := (·.clear)) (fun _ => ⟨rfl, rfl, rfl⟩) s).trans (.of_faults rfl)
  unfold State.clearFault
  split
  · exact .ite (fun _ => hcleared) fun _ => .of_faults rfl
  · exact .of_faults rfl

/-- What a raise makes of the list: a new image of the record it hits, or a new record in a place of its own or in that of a
CLEARED one, or no place. -/
theorem State.raiseFault_cases (k : FaultKind) (x : Subject) (s : State) :
    (∃ g : FaultRecord → FaultRecord, (∀ r, (g r).id = r.id ∧ (g r).kind = r.kind ∧ (g r).subject = r.subject)
        ∧ (s.raiseFault k x).faults = (s.updRecord k x g).faults)
      ∨ (s.raiseFault k x).faults = (s.createRecord k x true).faults
      ∨ (∃ old ∈ s.faults.records, old.active = false
        ∧ (s.raiseFault k x).faults = ((s.removeRecord old.id).createRecord k x true).faults)
      ∨ (s.raiseFault k x).faults = s.setOverflow.faults := by
  unfold State.raiseFault
  split
  next r hfind =>
    refine .inl ?_
    split
    · refine ⟨_, FaultRecord.raiseAgain_names s.tick, ?_⟩
      dsimp only
      split <;> rfl
    · exact ⟨(·.reactivate s.tick), fun r => ⟨rfl, rfl, rfl⟩, rfl⟩
  next hfind =>
    refine .inr ?_
    split
    · exact .inl rfl
    · refine .inr ?_
      split
      next old hold => exact .inl ⟨old, List.mem_of_find?_eq_some hold, by simpa using List.find?_some hold, rfl⟩
      next => exact .inr rfl

theorem State.setOverflow_records (s : State) : s.setOverflow.faults.records = s.faults.records ∧ s.setOverflow.faults.overflow = true := by
  unfold State.setOverflow
  split
  next h => exact ⟨rfl, h⟩
  next => exact ⟨rfl, rfl⟩

/-- A raise is an event of its kind and subject: the record it replaces was CLEARED. -/
theorem State.raiseFault_touches (k : FaultKind) (x : Subject) (s : State) : s.Touches (isFault k x) (s.raiseFault k x) := by
  have hlawful := fun hlaw : s.FaultListLaw => hlaw.raiseFault k x
  obtain ⟨g, hg, h⟩ | h | ⟨old, hmem, hcleared, h⟩ | h := s.raiseFault_cases k x
  · exact (State.updRecord_touches k x hg s).trans (.of_faults h)
  · refine ⟨hlawful, fun _ r hr hP => ?_, fun _ r hr _ _ => ?_, fun ho => ?_⟩
    · rw [h] at hr
      exact State.createRecord_former hr hP
    · rw [h]
      exact State.createRecord_kept hr
    · rw [h]
      exact ho
  · refine ⟨hlawful, fun _ r hr hP => ?_, fun hlaw r hr _ hactive => ?_, fun ho => ?_⟩
    · rw [h] at hr
      have hremoved := State.createRecord_former hr hP
      rw [State.removeRecord_records] at hremoved
      exact List.mem_of_mem_filter hremoved
    · rw [h]
      refine State.createRecord_kept ?_
      rw [State.removeRecord_records]
      refine List.mem_filter.mpr ⟨hr, bne_iff_ne.mpr fun hid => ?_⟩
      obtain ⟨-, -, hids, -⟩ := hlaw
      rw [List.inj_on_of_nodup_map hids hr hmem hid, hcleared] at hactive
      exact Bool.false_ne_true hactive
    · rw [h]
      exact ho
  · obtain ⟨hrecords, hoverflow⟩ := s.setOverflow_records
    refine ⟨hlawful, fun _ r hr _ => ?_, fun _ r hr _ _ => ?_, fun _ => ?_⟩
    · rwa [h, hrecords] at hr
    · rwa [h, hrecords]
    · rw [h, hoverflow]

/-- A raise counts the ACTIVE record of its kind and subject once more. -/
theorem State.raiseFault_counts {k : FaultKind} {x : Subject} {s : State} (hlaw : s.FaultListLaw) {r : FaultRecord}
    (hr : r ∈ s.faults.records) (hk : r.kind = k) (hx : r.subject = x) (hactive : r.active = true) :
    ∃ q ∈ (s.raiseFault k x).faults.records, q.id = r.id ∧ q.last = s.tick
      ∧ (q.count = if r.count < 255 then r.count + 1 else r.count) ∧ q.kind = k ∧ q.subject = x ∧ q.active = true := by
  obtain ⟨-, hkinds, -⟩ := hlaw
  have hhit := (FaultRecord.hits_iff k x r).mpr ⟨hk, hx⟩
  have hfind : s.faults.records.find? (·.hits k x) = some r := by
    obtain ⟨q, hq⟩ := Option.isSome_iff_exists.mp (List.find?_isSome.mpr ⟨r, hr, hhit⟩)
    obtain ⟨hqk, hqx⟩ := (FaultRecord.hits_iff k x q).mp (List.find?_some hq)
    rw [hq, List.inj_on_of_nodup_map hkinds (List.mem_of_find?_eq_some hq) hr (by rw [hqk, hqx, hk, hx])]
  have hraised : (s.raiseFault k x).faults = (s.updRecord k x (·.raiseAgain s.tick)).faults := by
    simp only [State.raiseFault, hfind, hactive, if_true]
    split <;> rfl
  refine ⟨r.raiseAgain s.tick, ?_, ?_⟩
  · rw [hraised]
    exact List.mem_map.mpr ⟨r, hr, if_pos hhit⟩
  · unfold FaultRecord.raiseAgain
    split <;> exact ⟨rfl, rfl, rfl, hk, hx, hactive⟩

end Sys2Proof.Machine
end

section
/-! PROOFS. The end of an account interval (R51 to R54, R71, R94, R105, R106): what each of its parts does. -/

namespace Sys2Proof.Machine

/-! ### The visits (R51, R52) -/

/-- The slot after its rate update (R52). -/
def Slot.rated (v : Slot) : Slot := { v with rate := nextRate v.rate v.intervalCharge, intervalCharge := 0 }

/-- Between s and t the slots of l have been visited: rates, REQUESTED and the request list alone have changed. -/
structure State.Visited (l : List Nat) (s t : State) : Prop where
  state : t = { s with slots := t.slots, renewal := { s.renewal with
    list := t.renewal.list, received := t.renewal.received, notListed := t.renewal.notListed
    replaced := t.renewal.replaced } }
  slot : ∀ x, t.slot x = { (if x ∈ l ∧ (s.slot x).state = .active then (s.slot x).rated else s.slot x) with
    requested := (t.slot x).requested }

theorem State.rateUpdate_slot (x y : Nat) (s : State) :
    (s.rateUpdate x).slot y = if y = x ∧ 1 ≤ x ∧ x ≤ 23 then (s.slot x).rated else s.slot y := State.slot_updSlot ..

/-- A visit is the rate update and at most one trigger, of a reason that leaves backoffs. -/
theorem State.visitSlot_cases {s : State} {x : Nat} (h : (s.slot x).state = .active) :
    s.visitSlot x = s.rateUpdate x ∨ ∃ r : Reason, r.endsBackoff = false ∧ s.visitSlot x = (s.rateUpdate x).sendTrigger x r := by
  rw [State.visitSlot, if_pos h]
  dsimp only
  split
  · exact .inr ⟨.projected, rfl, rfl⟩
  · unfold State.reevaluateSlot
    dsimp only
    split
    · split
      · exact .inr ⟨.spent, rfl, rfl⟩
      · split
        · exact .inr ⟨.suspect, rfl, rfl⟩
        · split
          · exact .inr ⟨.soft, rfl, rfl⟩
          · exact .inl rfl
    · exact .inl rfl

theorem State.visitSlot_visited (s : State) (x : Nat) : s.Visited [x] (s.visitSlot x) := by
  by_cases hactive : (s.slot x).state = .active
  · have hx : 1 ≤ x ∧ x ≤ 23 := by
      by_contra hout
      rw [State.slot_out s x hout] at hactive
      exact absurd hactive (by decide)
    have hrated : ∀ y, (s.rateUpdate x).slot y =
        if y ∈ [x] ∧ (s.slot y).state = .active then (s.slot y).rated else s.slot y := fun y => by
      rw [State.rateUpdate_slot]
      by_cases hy : y = x
      · rw [if_pos ⟨hy, hx⟩, if_pos ⟨by simp [hy], by rw [hy]; exact hactive⟩, hy]
      · rw [if_neg fun h => hy h.1, if_neg fun h => hy (List.mem_singleton.mp h.1)]
    obtain hv | ⟨r, hr, hv⟩ := State.visitSlot_cases hactive
    · rw [hv]
      exact ⟨rfl, fun y => by rw [hrated]⟩
    · have hsent := State.sendTrigger_triggered x r (s.rateUpdate x)
      have hstate := State.sendTrigger_state x hr (s.rateUpdate x)
      have hreceived := hsent.received
      rw [hv]
      generalize (s.rateUpdate x).sendTrigger x r = t at *
      refine ⟨?_, fun y => ?_⟩
      · rw [hreceived]
        exact hstate
      · rw [hsent.slot y, hrated]
  · have hv : s.visitSlot x = s := if_neg hactive
    rw [hv]
    refine ⟨rfl, fun y => ?_⟩
    rw [if_neg fun h => hactive (by rw [← List.mem_singleton.mp h.1]; exact h.2)]

theorem State.foldl_visitSlot {l : List Nat} (hl : l.Nodup) (s : State) : s.Visited l (l.foldl State.visitSlot s) := by
  induction l generalizing s with
  | nil => exact ⟨rfl, fun y => by rw [if_neg fun h => List.not_mem_nil h.1]; rfl⟩
  | cons x l ih =>
    obtain ⟨hx, hl⟩ := List.nodup_cons.mp hl
    have hhead := s.visitSlot_visited x
    have htail := ih hl (s.visitSlot x)
    rw [List.foldl_cons]
    generalize s.visitSlot x = u at *
    generalize l.foldl State.visitSlot u = t at *
    refine ⟨by rw [htail.state, hhead.state], fun y => ?_⟩
    have hy := hhead.slot y
    have hstate : (u.slot y).state = (s.slot y).state := by
      rw [hy]
      split <;> rfl
    rw [htail.slot y, hstate]
    by_cases hactive : (s.slot y).state = .active
    · by_cases hyx : y = x
      · rw [if_neg fun h => hx (hyx ▸ h.1), if_pos ⟨by simp [hyx], hactive⟩, hy, if_pos ⟨by simp [hyx], hactive⟩]
      · have hyu : u.slot y = { s.slot y with requested := (u.slot y).requested } := by
          rw [if_neg fun h => hyx (List.mem_singleton.mp h.1)] at hy
          exact hy
        by_cases hmem : y ∈ l
        · rw [if_pos ⟨hmem, hactive⟩, if_pos ⟨List.mem_cons_of_mem _ hmem, hactive⟩, hyu]
          rfl
        · rw [if_neg fun h => hmem h.1, if_neg fun h => (List.mem_cons.mp h.1).elim hyx hmem, hyu]
    · rw [if_neg fun h => hactive h.2] at hy
      rw [if_neg fun h => hactive h.2, if_neg fun h => hactive h.2, hy]

/-- Where one slot alone is ACTIVE, its visit is all that is done. -/
theorem State.foldl_visitSlot_alone {l : List Nat} (hl : l.Nodup) {s : State} {x : Nat} (hx : x ∈ l)
    (halone : ∀ y, y ≠ x → (s.slot y).state ≠ .active) : l.foldl State.visitSlot s = s.visitSlot x := by
  have hidle : ∀ (m : List Nat) (t : State), x ∉ m → (∀ y, y ≠ x → (t.slot y).state ≠ .active) →
      m.foldl State.visitSlot t = t := fun m t hm ht => by
    induction m with
    | nil => rfl
    | cons y m ih =>
      have hy : t.visitSlot y = t := if_neg (ht y fun h => hm (h ▸ List.mem_cons_self))
      rw [List.foldl_cons, hy, ih fun h => hm (List.mem_cons_of_mem _ h)]
  induction l with
  | nil => exact absurd hx List.not_mem_nil
  | cons z l ih =>
    obtain ⟨hz, hl⟩ := List.nodup_cons.mp hl
    rw [List.foldl_cons]
    by_cases hzx : z = x
    · subst hzx
      refine hidle l _ hz fun y hy => ?_
      have hslot := (s.visitSlot_visited z).slot y
      rw [if_neg fun h => hy (List.mem_singleton.mp h.1)] at hslot
      rw [hslot]
      exact halone y hy
    · rw [show s.visitSlot z = s from if_neg (halone z hzx)]
      exact ih hl ((List.mem_cons.mp hx).resolve_left fun h => hzx h.symm)

end Sys2Proof.Machine
end

section
/-! PROOFS. The end of an account interval: the blocks that clear their counts (R71, R94, R105, R106), and the statement about
the whole of it (O15). -/

namespace Sys2Proof.Machine

/-! ### Replay burst marks (R94) -/

/-- A held replay burst mark ends with this interval. -/
def State.burstEnds (s : State) (x : Nat) : Prop := s.burst x = true ∧ (s.slot x).replays = 0

/-- Between s and t the burst marks of the slots of l have been evaluated. -/
structure State.BurstsEnded (l : List Nat) (s t : State) : Prop where
  state : t = { s with
    engine := { s.engine with burst := t.engine.burst }, faults := t.faults, beacon := t.beacon
    sPort := { s.sPort with faultCause := t.sPort.faultCause }
    lPort := { s.lPort with faultCause := t.lPort.faultCause } }
  burst : ∀ x, t.burst x = if x ∈ l then s.burst x && decide (0 < (s.slot x).replays) else s.burst x
  touches : s.Touches (fun k u => k = .replayBurst ∧ ∃ x, u = .slot x ∧ s.burstEnds x) t
  cleared : s.FaultListLaw → ∀ x ∈ l, s.burstEnds x → ∀ r ∈ t.faults.records, r.kind = .replayBurst → r.subject = .slot x →
    r.active = false

theorem State.endBurst_ended (s : State) (x : Nat) : s.BurstsEnded [x] (s.endBurst x) := by
  by_cases hends : s.burstEnds x
  · have hx : 1 ≤ x ∧ x ≤ 23 := by
      by_contra hout
      exact absurd (hends.1.symm.trans (State.burst_out s x hout)) (by decide)
    have hend : s.endBurst x = (s.setBurst x false).clearFault .replayBurst (.slot x) := if_pos hends
    have hsame := State.clearFault_same .replayBurst (.slot x) (s.setBurst x false)
    have hsetFaults : (s.setBurst x false).faults = s.faults := rfl
    rw [hend]
    refine ⟨?_, fun y => ?_, ?_, fun hlaw y hy _ => ?_⟩
    · rw [State.sameButFaults] at hsame
      rw [hsame]
      rfl
    · have hkept : ((s.setBurst x false).clearFault .replayBurst (.slot x)).burst y = (s.setBurst x false).burst y := by simp
      rw [hkept, State.burst_setBurst]
      by_cases hy : y = x
      · rw [if_pos ⟨hy, hx⟩, if_pos (List.mem_singleton.mpr hy), hy, hends.2]
        simp
      · rw [if_neg fun h => hy h.1, if_neg fun h => hy (List.mem_singleton.mp h)]
    · exact (State.Touches.of_faults hsetFaults).trans
        ((State.clearFault_touches ..).mono fun k u hku => ⟨hku.1, x, hku.2, hends⟩)
    · rw [List.mem_singleton.mp hy]
      exact State.clearFault_cleared (hlaw.congr (by rw [hsetFaults]) (by rw [hsetFaults])) _ _
  · have hend : s.endBurst x = s := if_neg hends
    rw [hend]
    refine ⟨rfl, fun y => ?_, .of_faults rfl, fun _ y hy hy' => absurd (List.mem_singleton.mp hy ▸ hy') hends⟩
    by_cases hy : y = x
    · rw [if_pos (List.mem_singleton.mpr hy), hy]
      cases hb : s.burst x
      · rfl
      · have hcount : (s.slot x).replays ≠ 0 := fun h => hends ⟨hb, h⟩
        simp [Nat.pos_of_ne_zero hcount]
    · rw [if_neg fun h => hy (List.mem_singleton.mp h)]

theorem State.foldl_endBurst (l : List Nat) (s : State) : s.BurstsEnded l (l.foldl State.endBurst s) := by
  induction l generalizing s with
  | nil => exact ⟨rfl, fun x => (if_neg List.not_mem_nil).symm, .of_faults rfl, fun _ x hx => absurd hx List.not_mem_nil⟩
  | cons x l ih =>
    have hhead := s.endBurst_ended x
    have htail := ih (s.endBurst x)
    rw [List.foldl_cons]
    generalize s.endBurst x = u at *
    generalize l.foldl State.endBurst u = t at *
    have hslot : ∀ y, u.slot y = s.slot y := State.slot_congr (by rw [hhead.state])
    have hburst : ∀ y, u.burst y = true → s.burst y = true := fun y hy => by
      rw [hhead.burst y] at hy
      split at hy
      · exact ((Bool.and_eq_true _ _).mp hy).1
      · exact hy
    have hends : ∀ y, u.burstEnds y → s.burstEnds y := fun y hy => ⟨hburst y hy.1, by rw [← hslot]; exact hy.2⟩
    have htailTouches := htail.touches.mono (Q := fun k v => k = .replayBurst ∧ ∃ y, v = .slot y ∧ s.burstEnds y)
      fun k v ⟨hk, y, hv, hy⟩ => ⟨hk, y, hv, hends y hy⟩
    refine ⟨by rw [htail.state, hhead.state], fun y => ?_, hhead.touches.trans htailTouches, fun hlaw y hy hyends r hr hk hv => ?_⟩
    · rw [htail.burst, hhead.burst, hslot]
      by_cases hyx : y = x
      · rw [if_pos (List.mem_singleton.mpr hyx), if_pos (List.mem_cons.mpr (.inl hyx))]
        split
        · rw [Bool.and_assoc, Bool.and_self]
        · rfl
      · rw [if_neg fun h => hyx (List.mem_singleton.mp h)]
        by_cases hmem : y ∈ l
        · rw [if_pos hmem, if_pos (List.mem_cons_of_mem _ hmem)]
        · rw [if_neg hmem, if_neg fun h => (List.mem_cons.mp h).elim hyx hmem]
    · by_contra hactive
      rw [Bool.not_eq_false] at hactive
      have hulaw := hhead.touches.law hlaw
      by_cases hstill : u.burstEnds y
      · rcases List.mem_cons.mp hy with hyx | hmem
        · rw [State.burstEnds, hhead.burst, if_pos (List.mem_singleton.mpr hyx), hyends.2] at hstill
          simp at hstill
        · exact absurd (htail.cleared hulaw y hmem hstill r hr hk hv) (by rw [hactive]; decide)
      · have hformer := htail.touches.former hulaw r hr fun ⟨_, z, hz, hzends⟩ => by
          rw [hv] at hz
          exact hstill (Subject.slot.inj hz ▸ hzends)
        by_cases hyx : y = x
        · exact absurd (hhead.cleared hlaw y (List.mem_singleton.mpr hyx) hyends r hformer hk hv) (by rw [hactive]; decide)
        · refine hstill ⟨?_, by rw [hslot]; exact hyends.2⟩
          rw [hhead.burst, if_neg fun h => hyx (List.mem_singleton.mp h)]
          exact hyends.1

/-! ### Overruns (R71) -/

/-- The pool's record of a port at an interval end. -/
def PoolPort.ended (q : PoolPort) : PoolPort := { q with overrun := 0, raised := decide (0 < q.overrun) }

theorem PoolPort.ended_of_idle {q : PoolPort} (hcount : q.overrun = 0) (hraised : q.raised = false) : q.ended = q := by
  have hfields : q.ended = { q with overrun := 0, raised := false } := by rw [PoolPort.ended, hcount]; rfl
  rw [hfields, ← hcount, ← hraised]

/-- Between s and t the overrun count of port p has been evaluated. -/
structure State.OverrunEnded (p : Port) (s t : State) : Prop where
  state : t = { s with
    pool := (s.updPoolPort p PoolPort.ended).pool, faults := t.faults, beacon := t.beacon
    sPort := { s.sPort with faultCause := t.sPort.faultCause }
    lPort := { s.lPort with faultCause := t.lPort.faultCause } }
  touches : s.Touches (fun k u => (0 < (s.pool.port p).overrun ∨ (s.pool.port p).raised = true) ∧ isFault .portOverrun (.port p) k u) t
  raised : 0 < (s.pool.port p).overrun → t.faultStands .portOverrun (.port p) ∧ (s.FaultListLaw →
    ∀ r ∈ s.faults.records, r.kind = .portOverrun → r.subject = .port p → r.active = true →
      ∃ q ∈ t.faults.records, q.id = r.id ∧ q.last = s.tick ∧ (q.count = if r.count < 255 then r.count + 1 else r.count)
        ∧ q.kind = .portOverrun ∧ q.subject = .port p ∧ q.active = true)
  cleared : (s.pool.port p).overrun = 0 → (s.pool.port p).raised = true → s.FaultListLaw →
    ∀ r ∈ t.faults.records, r.kind = .portOverrun → r.subject = .port p → r.active = false

theorem State.endOverrun_ended (s : State) (p : Port) : s.OverrunEnded p (s.endOverrun p) := by
  have hpool : ∀ f : PoolPort → PoolPort, f (s.pool.port p) = (s.pool.port p).ended →
      (s.updPoolPort p f).pool = (s.updPoolPort p PoolPort.ended).pool := fun f hf => by
    cases p
    · exact congrArg (fun q => { s.pool with sPort := q }) hf
    · exact congrArg (fun q => { s.pool with lPort := q }) hf
  by_cases hcount : 0 < (s.pool.port p).overrun
  · have hend : s.endOverrun p =
        (s.updPoolPort p fun r => { r with overrun := 0, raised := true }).raiseFault .portOverrun (.port p) := if_pos hcount
    have hended := hpool (fun r => { r with overrun := 0, raised := true }) (by simp [PoolPort.ended, hcount])
    have hfaults : (s.updPoolPort p fun r => { r with overrun := 0, raised := true }).faults = s.faults := by cases p <;> rfl
    have htick : (s.updPoolPort p fun r => { r with overrun := 0, raised := true }).tick = s.tick := by cases p <;> rfl
    have hstate : (s.updPoolPort p fun r => { r with overrun := 0, raised := true })
        = { s with pool := (s.updPoolPort p PoolPort.ended).pool } := by rw [← hended]; cases p <;> rfl
    rw [hend]
    generalize (s.updPoolPort p fun r => { r with overrun := 0, raised := true }) = u at *
    have hsame := State.raiseFault_same .portOverrun (.port p) u
    refine ⟨?_, (State.Touches.of_faults hfaults).trans ((State.raiseFault_touches ..).mono fun k v h => ⟨.inl hcount, h⟩),
      fun _ => ⟨State.raiseFault_stands .., fun hlaw r hr hk hv ha => ?_⟩, fun h => absurd hcount (by omega)⟩
    · rw [State.sameButFaults] at hsame
      rw [hsame, hstate]
    · rw [← htick]
      exact State.raiseFault_counts (hlaw.congr (by rw [hfaults]) (by rw [hfaults])) (by rwa [hfaults]) hk hv ha
  · have hzero : (s.pool.port p).overrun = 0 := by omega
    by_cases hraised : (s.pool.port p).raised = true
    · have hend : s.endOverrun p = (s.updPoolPort p fun r => { r with raised := false }).clearFault .portOverrun (.port p) :=
        (if_neg hcount).trans (if_pos hraised)
      have hended := hpool (fun r => { r with raised := false }) (by simp [PoolPort.ended, hzero])
      have hfaults : (s.updPoolPort p fun r => { r with raised := false }).faults = s.faults := by cases p <;> rfl
      have hstate : (s.updPoolPort p fun r => { r with raised := false })
          = { s with pool := (s.updPoolPort p PoolPort.ended).pool } := by rw [← hended]; cases p <;> rfl
      rw [hend]
      generalize (s.updPoolPort p fun r => { r with raised := false }) = u at *
      have hsame := State.clearFault_same .portOverrun (.port p) u
      refine ⟨?_, (State.Touches.of_faults hfaults).trans ((State.clearFault_touches ..).mono fun k v h => ⟨.inr hraised, h⟩),
        fun h => absurd h hcount, fun _ _ hlaw => ?_⟩
      · rw [State.sameButFaults] at hsame
        rw [hsame, hstate]
      · exact State.clearFault_cleared (hlaw.congr (by rw [hfaults]) (by rw [hfaults])) _ _
    · have hend : s.endOverrun p = s := (if_neg hcount).trans (if_neg hraised)
      rw [hend]
      refine ⟨?_, .of_faults rfl, fun h => absurd h hcount, fun _ h => absurd h hraised⟩
      have hfixed : (s.updPoolPort p PoolPort.ended).pool = s.pool := by
        rw [← hpool id (PoolPort.ended_of_idle hzero (Bool.eq_false_iff.mpr hraised)).symm]
        cases p <;> rfl
      rw [hfixed]

/-! ### The Link Watch (R105, R106) -/

/-- The Link Watch at an interval end. -/
def LinkWatch.ended (l : LinkWatch) : LinkWatch :=
  { l with lastMalformed := l.malformed, lastForeign := l.foreign, lastOverrun := l.overrun
           malformed := 0, foreign := 0, overrun := 0, malformedMark := l.malformedMark && decide (0 < l.malformed) }

/-- A held malformed mark ends with this interval. -/
def State.malformedEnds (s : State) : Prop := s.link.malformedMark = true ∧ s.link.malformed = 0

/-- Between s and t the Link Watch has ended its interval. -/
structure State.LinkEnded (s t : State) : Prop where
  state : t = { s with
    link := s.link.ended, faults := t.faults, beacon := t.beacon
    sPort := { s.sPort with faultCause := t.sPort.faultCause }
    lPort := { s.lPort with faultCause := t.lPort.faultCause } }
  touches : s.Touches (fun k u => s.malformedEnds ∧ isFault .malformedBurst .link k u) t
  cleared : s.malformedEnds → s.FaultListLaw → ∀ r ∈ t.faults.records, r.kind = .malformedBurst → r.subject = .link →
    r.active = false

/-- The rollover of the interval counts. -/
def LinkWatch.rolled (l : LinkWatch) : LinkWatch :=
  { l with lastMalformed := l.malformed, lastForeign := l.foreign, lastOverrun := l.overrun
           malformed := 0, foreign := 0, overrun := 0 }

/-- The part once the held malformed mark is released. -/
def State.malformedReleased (s : State) : State :=
  (s.updLink fun l => { l with malformedMark := false }).clearFault .malformedBurst .link

theorem State.endLink_ended (s : State) : s.LinkEnded s.endLink := by
  by_cases hends : s.malformedEnds
  · have hend : s.endLink = s.malformedReleased.updLink LinkWatch.rolled := by
      unfold State.endLink
      rw [if_pos (c := s.link.malformedMark = true ∧ s.link.malformed = 0) hends]
      rfl
    have hsame := State.clearFault_same .malformedBurst .link (s.updLink fun l => { l with malformedMark := false })
    have hcleared := State.clearFault_touches .malformedBurst .link (s.updLink fun l => { l with malformedMark := false })
    have hmark : s.link.ended = { s.link.rolled with malformedMark := false } := by
      rw [LinkWatch.ended, hends.2]
      simp [LinkWatch.rolled, hends.2]
    rw [hend]
    refine ⟨?_, ?_, fun _ hlaw => ?_⟩
    · rw [State.sameButFaults] at hsame
      rw [State.malformedReleased, hsame, hmark]
      rfl
    · exact .trans (t := s.updLink fun l => { l with malformedMark := false }) (.of_faults rfl)
        ((hcleared.mono fun k u h => ⟨hends, h⟩).trans (.of_faults rfl))
    · exact State.clearFault_cleared (s := s.updLink fun l => { l with malformedMark := false }) (hlaw.congr rfl rfl) _ _
  · have hend : s.endLink = s.updLink LinkWatch.rolled := by
      unfold State.endLink
      rw [if_neg (c := s.link.malformedMark = true ∧ s.link.malformed = 0) hends]
      rfl
    have hmark : s.link.ended = s.link.rolled := by
      have hkept : (s.link.malformedMark && decide (0 < s.link.malformed)) = s.link.malformedMark := by
        cases hm : s.link.malformedMark
        · rfl
        · have hcount : s.link.malformed ≠ 0 := fun h => hends ⟨hm, h⟩
          simp [Nat.pos_of_ne_zero hcount]
      rw [LinkWatch.ended, hkept]
      rfl
    rw [hend]
    refine ⟨?_, .of_faults rfl, fun h => absurd h hends⟩
    rw [hmark]
    rfl

end Sys2Proof.Machine
end

section
/-! PROOFS. The end of an account interval: its parts put together, and the statement about it (O15). -/

namespace Sys2Proof.Machine

/-- The states that the end of an interval goes through from s to t: the slots visited, the burst marks, the ports and the Link
Watch evaluated. -/
structure State.IntervalParts (s v b p q t : State) : Prop where
  visits : State.Visited workingSlots { s with intervalTicks := s.intervalTicks - 8 } v
  bursts : v.BurstsEnded workingSlots b
  shop : b.clearIntervalCounts.OverrunEnded .s p
  line : p.OverrunEnded .l q
  link : q.LinkEnded t

theorem workingSlots_nodup : workingSlots.Nodup := by decide

theorem State.endInterval_parts {s : State} (h : 8 ≤ s.intervalTicks) :
    ∃ v b p q t, s.endInterval = t ∧ s.IntervalParts v b p q t
      ∧ v = workingSlots.foldl State.visitSlot { s with intervalTicks := s.intervalTicks - 8 } :=
  ⟨_, _, _, _, _, if_pos h, ⟨State.foldl_visitSlot workingSlots_nodup _, State.foldl_endBurst .., State.endOverrun_ended ..,
    State.endOverrun_ended .., State.endLink_ended _⟩, rfl⟩

/-- A fault that an interval end raises (R71). -/
def State.intervalRaises (s : State) (k : FaultKind) (u : Subject) : Prop :=
  k = .portOverrun ∧ ∃ p, u = .port p ∧ 0 < (s.pool.port p).overrun

/-- A fault that an interval end clears (R71, R94, R106). -/
def State.intervalClears (s : State) (k : FaultKind) (u : Subject) : Prop :=
  (k = .portOverrun ∧ ∃ p, u = .port p ∧ (s.pool.port p).overrun = 0 ∧ (s.pool.port p).raised = true)
    ∨ (k = .malformedBurst ∧ u = .link ∧ s.link.malformedMark = true ∧ s.link.malformed = 0)
    ∨ (k = .replayBurst ∧ ∃ x, 1 ≤ x ∧ x ≤ 23 ∧ u = .slot x ∧ s.burst x = true ∧ (s.slot x).replays = 0)

theorem State.clearIntervalCounts_slot (x : Nat) (s : State) :
    s.clearIntervalCounts.slot x = { s.slot x with tagFailures := 0, replays := 0 } :=
  State.slot_mapSlots_of_fixed (f := fun _ v => { v with tagFailures := 0, replays := 0 }) (fun _ => rfl) x s

section
variable {s v b p q t : State}

theorem State.IntervalParts.visited_slot (h : s.IntervalParts v b p q t) (x : Nat) :
    v.slot x = { (if (s.slot x).state = .active then (s.slot x).rated else s.slot x) with requested := (v.slot x).requested } := by
  have hslot := h.visits.slot x
  have hsame : State.slot { s with intervalTicks := s.intervalTicks - 8 } x = s.slot x := rfl
  rw [hsame] at hslot
  by_cases hactive : (s.slot x).state = .active
  · have hx : x ∈ workingSlots := (mem_workingSlots x).mpr (by
      by_contra hout
      rw [State.slot_out s x hout] at hactive
      exact absurd hactive (by decide))
    rw [if_pos ⟨hx, hactive⟩] at hslot
    rw [if_pos hactive]
    exact hslot
  · rw [if_neg fun h => hactive h.2] at hslot
    rw [if_neg hactive]
    exact hslot

/-- The slots stand after the clear of their counts, the renewal state after the visits. -/
theorem State.IntervalParts.slot (h : s.IntervalParts v b p q t) (x : Nat) :
    t.slot x = { v.slot x with tagFailures := 0, replays := 0 } := by
  have hslots : t.slots = b.clearIntervalCounts.slots := by rw [h.link.state, h.line.state, h.shop.state]
  rw [State.slot_congr hslots, State.clearIntervalCounts_slot, State.slot_congr (s := v) (by rw [h.bursts.state])]

theorem State.IntervalParts.renewal (h : s.IntervalParts v b p q t) : t.renewal = v.renewal := by
  have hcounts : b.clearIntervalCounts.renewal = b.renewal := rfl
  rw [h.link.state, h.line.state, h.shop.state, hcounts, h.bursts.state]

theorem State.IntervalParts.start (h : s.IntervalParts v b p q t) : b.clearIntervalCounts.pool = s.pool
    ∧ b.clearIntervalCounts.link = s.link ∧ b.clearIntervalCounts.tick = s.tick ∧ v.faults = s.faults := by
  have hb : b.clearIntervalCounts.pool = b.pool ∧ b.clearIntervalCounts.link = b.link ∧ b.clearIntervalCounts.tick = b.tick :=
    ⟨rfl, rfl, rfl⟩
  obtain ⟨hpool, hlink, htick⟩ := hb
  refine ⟨?_, ?_, ?_, ?_⟩
  · rw [hpool, h.bursts.state, h.visits.state]
  · rw [hlink, h.bursts.state, h.visits.state]
  · rw [htick, h.bursts.state, h.visits.state]
  · rw [h.visits.state]

theorem State.IntervalParts.linePool (h : s.IntervalParts v b p q t) :
    p.pool = { s.pool with sPort := s.pool.sPort.ended } ∧ p.pool.port .l = s.pool.port .l := by
  have hpool : p.pool = { s.pool with sPort := s.pool.sPort.ended } := by
    rw [h.shop.state]
    exact congrArg (fun r : Pool => { r with sPort := r.sPort.ended }) h.start.1
  exact ⟨hpool, by rw [hpool]; rfl⟩

theorem State.IntervalParts.pool (h : s.IntervalParts v b p q t) :
    t.pool = { s.pool with sPort := s.pool.sPort.ended, lPort := s.pool.lPort.ended } := by
  have hpool : t.pool = { p.pool with lPort := p.pool.lPort.ended } := by
    rw [h.link.state, h.line.state]
    rfl
  rw [hpool, h.linePool.1]

theorem State.IntervalParts.lineLink (h : s.IntervalParts v b p q t) : q.link = s.link := by
  rw [h.line.state, h.shop.state]
  exact h.start.2.1

theorem State.IntervalParts.burstEnds_iff (h : s.IntervalParts v b p q t) (x : Nat) :
    v.burstEnds x ↔ s.burst x = true ∧ (s.slot x).replays = 0 := by
  have hburst : v.burst x = s.burst x := by
    rw [State.burst, h.visits.state]
    rfl
  have hreplays : (v.slot x).replays = (s.slot x).replays := by
    rw [h.visited_slot x]
    split <;> rfl
  rw [State.burstEnds, hburst, hreplays]

theorem State.IntervalParts.burst (h : s.IntervalParts v b p q t) (x : Nat) :
    t.burst x = (s.burst x && decide (0 < (s.slot x).replays)) := by
  have hengine : t.engine = b.engine := by
    rw [h.link.state, h.line.state, h.shop.state]
    rfl
  have hburst : v.burst x = s.burst x := by
    rw [State.burst, h.visits.state]
    rfl
  have hreplays : (v.slot x).replays = (s.slot x).replays := by
    rw [h.visited_slot x]
    split <;> rfl
  have hended := h.bursts.burst x
  rw [hburst, hreplays] at hended
  rw [show t.burst x = b.burst x by rw [State.burst, hengine]; rfl, hended]
  by_cases hx : x ∈ workingSlots
  · rw [if_pos hx]
  · rw [if_neg hx, State.burst_out s x fun hx' => hx ((mem_workingSlots x).mpr hx')]
    rfl

/-! ### The fault events -/

theorem State.IntervalParts.before (h : s.IntervalParts v b p q t) :
    s.Touches (fun k u => k = .replayBurst ∧ ∃ x, u = .slot x ∧ v.burstEnds x) b.clearIntervalCounts :=
  .trans (.of_faults h.start.2.2.2) (h.bursts.touches.trans (.of_faults rfl))

/-- Every fault event of an interval end is a raise or a clear of those named. -/
theorem State.IntervalParts.touches (h : s.IntervalParts v b p q t) :
    s.Touches (fun k u => s.intervalRaises k u ∨ s.intervalClears k u) t := by
  have hport : ∀ (k : FaultKind) (u : Subject) (r : Port), 0 < (s.pool.port r).overrun ∨ (s.pool.port r).raised = true →
      isFault .portOverrun (.port r) k u → s.intervalRaises k u ∨ s.intervalClears k u := by
    rintro k u r hr ⟨rfl, rfl⟩
    by_cases hcount : 0 < (s.pool.port r).overrun
    · exact .inl ⟨rfl, r, rfl, hcount⟩
    · exact .inr (.inl ⟨rfl, r, rfl, by omega, hr.resolve_left hcount⟩)
  obtain ⟨hpool, -⟩ := h.start
  refine (h.before.mono ?_).trans ((h.shop.touches.mono ?_).trans ((h.line.touches.mono ?_).trans (h.link.touches.mono ?_)))
  · rintro k u ⟨hk, x, hu, hx⟩
    have hends := (h.burstEnds_iff x).mp hx
    have hrange : 1 ≤ x ∧ x ≤ 23 := by
      by_contra hout
      exact absurd (hends.1.symm.trans (State.burst_out s x hout)) (by decide)
    exact .inr (.inr (.inr ⟨hk, x, hrange.1, hrange.2, hu, hends⟩))
  · rintro k u ⟨hr, hku⟩
    rw [hpool] at hr
    exact hport k u .s hr hku
  · rintro k u ⟨hr, hku⟩
    rw [h.linePool.2] at hr
    exact hport k u .l hr hku
  · rintro k u ⟨⟨hmark, hcount⟩, hk, hu⟩
    rw [h.lineLink] at hmark hcount
    exact .inr (.inr (.inl ⟨hk, hu, hmark, hcount⟩))

/-- A fault raised stands, its ACTIVE record counted once more. -/
theorem State.IntervalParts.raised (h : s.IntervalParts v b p q t) (hlaw : s.FaultListLaw) {r : Port}
    (hcount : 0 < (s.pool.port r).overrun) : t.faultStands .portOverrun (.port r)
      ∧ ∀ f ∈ s.faults.records, f.kind = .portOverrun → f.subject = .port r → f.active = true →
        ∃ g ∈ t.faults.records, g.id = f.id ∧ g.last = s.tick ∧ g.count = if f.count < 255 then f.count + 1 else f.count := by
  have hlawC := h.before.law hlaw
  have hlawP := h.shop.touches.law hlawC
  have hlawQ := h.line.touches.law hlawP
  have hbefore : ¬ (FaultKind.portOverrun = .replayBurst ∧ ∃ x, Subject.port r = .slot x ∧ v.burstEnds x) :=
    fun hf => nomatch hf.1
  have hlink : ¬ (q.malformedEnds ∧ isFault .malformedBurst .link .portOverrun (.port r)) := fun hf => nomatch hf.2.1
  obtain ⟨hpool, -, htick, -⟩ := h.start
  cases r
  case s =>
    obtain ⟨hstands, hcounts⟩ := h.shop.raised (by rw [hpool]; exact hcount)
    have hline : ¬ ((0 < (p.pool.port .l).overrun ∨ (p.pool.port .l).raised = true)
        ∧ isFault .portOverrun (.port .l) .portOverrun (.port .s)) := fun hf => nomatch hf.2.2
    refine ⟨h.link.touches.stands hlawQ hlink (h.line.touches.stands hlawP hline hstands), fun f hf hk hu ha => ?_⟩
    have hkept := h.before.kept hlaw f hf (by rw [hk, hu]; exact hbefore) ha
    obtain ⟨g, hg, hid, hlast, hcount, hgk, hgu, hga⟩ := hcounts hlawC f hkept hk hu ha
    rw [htick] at hlast
    have hgQ := h.line.touches.kept hlawP g hg (by rw [hgk, hgu]; exact hline) hga
    exact ⟨g, h.link.touches.kept hlawQ g hgQ (by rw [hgk, hgu]; exact hlink) hga, hid, hlast, hcount⟩
  case l =>
    obtain ⟨hstands, hcounts⟩ := h.line.raised (by rw [h.linePool.2]; exact hcount)
    have htickP : p.tick = s.tick := by rw [h.shop.state]; exact htick
    have hshop : ¬ ((0 < (b.clearIntervalCounts.pool.port .s).overrun ∨ (b.clearIntervalCounts.pool.port .s).raised = true)
        ∧ isFault .portOverrun (.port .s) .portOverrun (.port .l)) := fun hf => nomatch hf.2.2
    refine ⟨h.link.touches.stands hlawQ hlink hstands, fun f hf hk hu ha => ?_⟩
    have hkept := h.before.kept hlaw f hf (by rw [hk, hu]; exact hbefore) ha
    have hkeptP := h.shop.touches.kept hlawC f hkept (by rw [hk, hu]; exact hshop) ha
    obtain ⟨g, hg, hid, hlast, hcount, hgk, hgu, hga⟩ := hcounts hlawP f hkeptP hk hu ha
    rw [htickP] at hlast
    exact ⟨g, h.link.touches.kept hlawQ g hg (by rw [hgk, hgu]; exact hlink) hga, hid, hlast, hcount⟩

/-- A fault that no record holds ACTIVE. -/
def State.quiet (k : FaultKind) (u : Subject) (s : State) : Prop :=
  ∀ r ∈ s.faults.records, r.kind = k → r.subject = u → r.active = false

/-- Events of other kinds and subjects make no record of it ACTIVE. -/
theorem State.Touches.quiet {P : FaultKind → Subject → Prop} {s t : State} (h : s.Touches P t) (hlaw : s.FaultListLaw)
    {k : FaultKind} {u : Subject} (hP : ¬ P k u) (hs : s.quiet k u) : t.quiet k u := fun r hr hk hu =>
  hs r (h.former hlaw r hr (by rw [hk, hu]; exact hP)) hk hu

/-- A fault cleared stands in no record as ACTIVE. -/
theorem State.IntervalParts.cleared (h : s.IntervalParts v b p q t) (hlaw : s.FaultListLaw) {k : FaultKind} {u : Subject}
    (hclears : s.intervalClears k u) : t.quiet k u := by
  have hlawC := h.before.law hlaw
  have hlawP := h.shop.touches.law hlawC
  have hlawQ := h.line.touches.law hlawP
  have hlink : k ≠ .malformedBurst → ¬ (q.malformedEnds ∧ isFault .malformedBurst .link k u) := fun hk hf => hk hf.2.1
  rcases hclears with ⟨rfl, r, rfl, hcount, hraised⟩ | ⟨rfl, rfl, hmark, hcount⟩ | ⟨rfl, x, hlow, hhigh, rfl, hends⟩
  · obtain ⟨hpool, -⟩ := h.start
    refine h.link.touches.quiet hlawQ (hlink (by decide)) ?_
    cases r
    case s =>
      refine h.line.touches.quiet hlawP (fun hf => nomatch hf.2.2) ?_
      exact h.shop.cleared (by rw [hpool]; exact hcount) (by rw [hpool]; exact hraised) hlawC
    case l =>
      exact h.line.cleared (by rw [h.linePool.2]; exact hcount) (by rw [h.linePool.2]; exact hraised) hlawP
  · exact h.link.cleared ⟨by rw [h.lineLink]; exact hmark, by rw [h.lineLink]; exact hcount⟩ hlawQ
  · refine h.link.touches.quiet hlawQ (hlink (by decide)) (h.line.touches.quiet hlawP (fun hf => nomatch hf.2.1)
      (h.shop.touches.quiet hlawC (fun hf => nomatch hf.2.1) ?_))
    have hlawV : v.FaultListLaw := hlaw.congr (by rw [h.start.2.2.2]) (by rw [h.start.2.2.2])
    exact h.bursts.cleared hlawV x ((mem_workingSlots x).mpr ⟨hlow, hhigh⟩) ((h.burstEnds_iff x).mpr hends)

end

/-! ### The trigger of a visited slot (R53, R54) -/

/-- The reason with which a visited slot sends a trigger, if it sends one. -/
def Slot.trigger (v : Slot) : Option Reason :=
  if v.requested = true ∨ v.successor ≠ none then none
  else if v.spent = true then some .spent
  else if projection v ≤ v.lead then some .projected
  else if v.suspect = true then some .suspect
  else if v.soft ≤ v.used then some .soft
  else none

theorem Slot.trigger_urgency {v : Slot} {r : Reason} (h : v.trigger = some r) :
    r.urgency = if r = .spent ∨ r = .suspect then 2 else 0 := by
  unfold Slot.trigger at h
  split_ifs at h <;> cases h <;> rfl

theorem State.visitSlot_trigger {s w : State} {x : Nat} (h : (s.slot x).state = .active) (hw : w = s.rateUpdate x) :
    s.visitSlot x = (w.slot x).trigger.elim w (w.sendTrigger x) := by
  have hvisit : s.visitSlot x = if w.projects x then w.sendTrigger x .projected else w.reevaluateSlot x := by
    rw [hw]
    exact if_pos h
  rw [hvisit]
  by_cases hidle : (w.slot x).requested = true ∨ (w.slot x).successor ≠ none
  · rcases hidle with hrequested | hsuccessor
    · simp [State.projects, State.reevaluateSlot, Slot.trigger, hrequested]
    · simp [State.projects, State.reevaluateSlot, Slot.trigger, hsuccessor]
  · obtain ⟨hrequested, hsuccessor⟩ := not_or.mp hidle
    rw [not_not] at hsuccessor
    by_cases hspent : (w.slot x).spent = true
    · simp [State.projects, State.reevaluateSlot, Slot.trigger, hrequested, hsuccessor, hspent]
    · by_cases hprojected : projection (w.slot x) ≤ (w.slot x).lead
      · simp [State.projects, Slot.trigger, hrequested, hsuccessor, hspent, hprojected]
      · by_cases hsuspect : (w.slot x).suspect = true
        · simp [State.projects, State.reevaluateSlot, Slot.trigger, hrequested, hsuccessor, hspent, hprojected, hsuspect]
        · by_cases hsoft : (w.slot x).soft ≤ (w.slot x).used <;>
            simp [State.projects, State.reevaluateSlot, Slot.trigger, hrequested, hsuccessor, hspent, hprojected, hsuspect,
              hsoft]

/-- A trigger that meets a list full of entries at least as urgent is not listed, and REQUESTED is clear. -/
theorem State.sendTrigger_of_full {s : State} {x : Nat} {r : Reason}
    (hopen : ∀ c, (s.ctx c).isOpen = true → (s.ctx c).subject ≠ some x) (hactive : (s.slot x).state = .active)
    (hbackoff : s.backoff x = {}) (hlist : ∀ e ∈ s.renewal.list, e.slot ≠ some x) (hfull : 8 ≤ s.renewal.list.length)
    (hurgent : ∀ e ∈ s.renewal.list, r.urgency ≤ e.urgency) :
    s.sendTrigger x r = ((s.setRequested (some x) true).updRenewal fun n =>
      { n with received := satInc 65535 n.received, notListed := satInc 65535 n.notListed }).setRequested (some x) false := by
  obtain ⟨pre, e, hs⟩ : ∃ pre e, s.renewal.list = pre ++ [e] := by
    rcases List.eq_nil_or_concat s.renewal.list with h | ⟨pre, e, h⟩
    · rw [h] at hfull
      exact absurd hfull (by decide)
    · exact ⟨pre, e, by rw [h, List.concat_eq_append]⟩
  have hstate : ((s.setRequested (some x) true).slot x).state = .active := by rw [State.setRequested_slot]; exact hactive
  have hheld : ((s.setRequested (some x) true).backoff x).holds = false := by
    rw [show (s.setRequested (some x) true).backoff x = s.backoff x from rfl, hbackoff]; rfl
  have hsent : s.sendTrigger x r = ((s.setRequested (some x) true).countTrigger.listNew (some x) r).1 := by
    rw [State.sendTrigger, State.receiveTrigger_of_listing (s := s.setRequested (some x) true) hopen hstate hheld,
      State.listTrigger_of_new (s := (s.setRequested (some x) true).countTrigger) hlist]
  rw [hsent, State.listNew_of_full (s := (s.setRequested (some x) true).countTrigger) hfull hs
    (hurgent e (by rw [hs]; exact List.mem_append_right _ List.mem_cons_self))]
  rfl

theorem projection_eq {v : Slot} {rate left : Nat} (hrate : rate = v.rate)
    (hleft : left = if v.hard ≤ v.used then 0 else if rate = 0 then 65535 else min 65535 ((v.hard - v.used) / rate)) :
    projection v = left := by
  rw [hleft, hrate, projection]
  by_cases h : v.hard ≤ v.used
  · rw [if_pos h, if_pos (by omega)]
  · rw [if_neg h, if_neg (by omega)]

/-- Where one slot alone is ACTIVE, its trigger is the one of the interval. -/
theorem State.visited_alone {s v : State}
    (hv : v = workingSlots.foldl State.visitSlot { s with intervalTicks := s.intervalTicks - 8 }) {x : Nat}
    (hactive : (s.slot x).state = .active) (halone : ∀ y, y ≠ x → (s.slot y).state ≠ .active) :
    ∃ w : State, w.slot x = (s.slot x).rated ∧ w.renewal = s.renewal ∧ v = (w.slot x).trigger.elim w (w.sendTrigger x) := by
  have hx : 1 ≤ x ∧ x ≤ 23 := by
    by_contra hout
    rw [State.slot_out s x hout] at hactive
    exact absurd hactive (by decide)
  refine ⟨State.rateUpdate x { s with intervalTicks := s.intervalTicks - 8 }, ?_, rfl, ?_⟩
  · exact (State.rateUpdate_slot ..).trans (if_pos ⟨rfl, hx⟩)
  · rw [hv, State.foldl_visitSlot_alone (s := { s with intervalTicks := s.intervalTicks - 8 }) workingSlots_nodup ((mem_workingSlots x).mpr hx) halone]
    exact State.visitSlot_trigger hactive rfl

/-- Settles O15: the parts of an interval end, its fault events, and the trigger of a lone ACTIVE slot. -/
theorem intervalEndAverages : Obligations.IntervalEndAverages := by
  unfold Obligations.IntervalEndAverages
  intro s hdue
  obtain ⟨v, b, p, q, t, ht, h, hv⟩ := State.endInterval_parts hdue
  refine ⟨t, congrArg Host.Outcome.next ht, ?state, fun x hx => ?active, fun x hx => ?other, h.pool, ?link, h.burst,
    fun hlaw k u => ⟨?raised, fun hclears => h.cleared hlaw hclears, fun hraised hcleared => ⟨?former, ?kept⟩⟩,
    fun x rate left reason hactive halone hrate hleft hreason => ?trigger⟩
  case state =>
    have hcounts : b.clearIntervalCounts = { b with slots := b.clearIntervalCounts.slots } := rfl
    rw [h.link.state, h.line.state, h.shop.state, hcounts, h.bursts.state, h.visits.state]
  case active =>
    have hslot := h.visited_slot x
    rw [if_pos hx] at hslot
    rw [h.slot x, hslot]
    rfl
  case other =>
    have hslot := h.visited_slot x
    rw [if_neg hx] at hslot
    rw [h.slot x, hslot]
  case link =>
    rw [h.link.state, ← h.lineLink]
    rfl
  case raised =>
    rintro ⟨rfl, r, rfl, hcount⟩
    exact h.raised hlaw hcount
  case former =>
    exact fun r hr hk hu => h.touches.former hlaw r hr (by rw [hk, hu]; exact fun hf => hf.elim hraised hcleared)
  case kept =>
    exact fun r hr hk hu ha => h.touches.kept hlaw r hr (by rw [hk, hu]; exact fun hf => hf.elim hraised hcleared) ha
  case trigger =>
    obtain ⟨w, hself, hrenewal, hvisit⟩ := State.visited_alone hv hactive halone
    have htslot := h.slot x
    have hrated : (t.slot x).rate = (s.slot x).rated.rate := by
      rw [htslot, h.visited_slot x, if_pos hactive]
    have hproject := projection_eq (v := (s.slot x).rated) (hrate.trans hrated) hleft
    have htrigger : (w.slot x).trigger = reason := by
      rw [hreason, hself, Slot.trigger, hproject]
      rfl
    rw [htrigger] at hvisit
    refine ⟨fun hnone => ?none, fun r hr => ?some⟩
    case none =>
      rw [h.renewal, hvisit, hnone]
      exact hrenewal
    case some =>
      rw [hr] at hvisit htrigger
      have hsent : v = w.sendTrigger x r := hvisit
      have hreceived := (State.sendTrigger_triggered x r w).received
      have hurgency := Slot.trigger_urgency htrigger
      have htr : t.renewal = (w.sendTrigger x r).renewal := h.renewal.trans (by rw [hsent])
      have hrequested : (t.slot x).requested = ((w.sendTrigger x r).slot x).requested := by rw [htslot, hsent]
      rw [htr, hrequested, ← hrenewal]
      refine ⟨hreceived, fun hopen hbackoff hlist => ?_⟩
      have hctx : ∀ c, w.ctx c = s.ctx c := State.ctx_congr (by rw [hrenewal])
      have hwopen : ∀ c, (w.ctx c).isOpen = true → (w.ctx c).subject ≠ some x := fun c => by rw [hctx]; exact hopen c
      have hwactive : (w.slot x).state = .active := by rw [hself]; exact hactive
      have hwbackoff : w.backoff x = {} := (State.backoff_congr (s := s) (by rw [hrenewal]) x).trans hbackoff
      have hx : 1 ≤ x ∧ x ≤ 23 := by
        by_contra hout
        rw [State.slot_out s x hout] at hactive
        exact absurd hactive (by decide)
      refine ⟨fun hroom => ?room, fun hfull hurgent => ?full⟩
      case room =>
        have hlisted := State.sendTrigger_of_room (r := r) hwopen hwactive hwbackoff hlist hroom
        refine ⟨?_, ?_⟩
        · rw [hlisted]
          refine (congrArg Slot.requested (State.setRequested_slot (some x) true w x)).trans ?_
          exact if_pos ⟨rfl, hx⟩
        · rw [hlisted, ← hurgency]
          exact insertEntry_perm ..
      case full =>
        have hmost : r.urgency ≤ 2 := by rw [hurgency]; split <;> omega
        rw [State.sendTrigger_of_full hwopen hwactive hwbackoff hlist hfull fun e he => hmost.trans (hurgent e he)]
        exact ⟨rfl, (congrArg Slot.requested (State.setRequested_slot ..)).trans (if_pos ⟨rfl, hx⟩)⟩

end Sys2Proof.Machine
end

section
/-! PROOFS. The triggers that PART RESET sends anew (R44, R181): what a run of triggers of urgency 2 makes of an empty list. -/

namespace Sys2Proof.Machine

/-- The entry that the trigger of place k in a run makes, counted from the triggers received before. -/
def anewEntry (received k : Nat) (q : Option Nat × Reason) : Entry :=
  { slot := q.1, urgency := 2, reason := q.2, arrival := min (received + k + 1) 65535 }

/-- A run of triggers meets no context, no backoff and no entry of before. -/
structure State.Unhindered (s : State) : Prop where
  closed : ∀ c, (s.ctx c).isOpen = false
  backoff : ∀ x, s.backoff x = {}
  boot : s.renewal.bootBackoff = {}
  list : s.renewal.list = []

/-- Between s and t the triggers of l were sent. -/
structure State.Resent (s : State) (l : List (Option Nat × Reason)) (t : State) : Prop where
  renewal : t.renewal = { s.renewal with
    list := (l.take 8).mapIdx (anewEntry s.renewal.received), received := t.renewal.received
    notListed := t.renewal.notListed, replaced := t.renewal.replaced, bootRelist := t.renewal.bootRelist }
  received : t.renewal.received = if l = [] then s.renewal.received else min (s.renewal.received + l.length) 65535
  listed : l.length ≤ 8 → t.renewal.notListed = s.renewal.notListed ∧ t.renewal.replaced = s.renewal.replaced
    ∧ t.renewal.bootRelist = s.renewal.bootRelist
  requested : l.length ≤ 8 → ∀ x, (∃ r, (some x, r) ∈ l) → (t.slot x).requested = true
  slot : ∀ x, t.slot x = { s.slot x with requested := (t.slot x).requested }
  others : ∀ x, (∀ r, (some x, r) ∉ l) → t.slot x = s.slot x

theorem State.Resent.congr {s t u : State} {l : List (Option Nat × Reason)} (h : s.Resent l t) (hr : u.renewal = t.renewal)
    (hs : u.slots = t.slots) : s.Resent l u := by
  have hslot : ∀ x, u.slot x = t.slot x := State.slot_congr hs
  exact ⟨by rw [hr]; exact h.renewal, by rw [hr]; exact h.received, by rw [hr]; exact h.listed,
    fun hl x hx => by rw [hslot]; exact h.requested hl x hx, fun x => by rw [hslot]; exact h.slot x,
    fun x hx => by rw [hslot]; exact h.others x hx⟩

theorem State.Resent.nil {s : State} (h : s.Unhindered) : s.Resent [] s :=
  ⟨by rw [List.take_nil, List.mapIdx_nil, ← h.list], (if_pos rfl).symm, fun _ => ⟨rfl, rfl, rfl⟩,
    fun _ _ ⟨_, hr⟩ => (List.not_mem_nil hr).elim, fun _ => rfl, fun _ _ => rfl⟩

theorem insertEntry_last {f : Entry} {l : List Entry} (h : ∀ e ∈ l, f.before e = true) : insertEntry f l = l ++ [f] := by
  induction l with
  | nil => rfl
  | cons e l ih =>
    rw [List.forall_mem_cons] at h
    rw [insertEntry, if_pos h.1, ih h.2, List.cons_append]

section
variable {s t : State} {l : List (Option Nat × Reason)} {q : Option Nat × Reason}

/-- A run has left no context, backoff or entry in the way of a trigger of its own. -/
theorem State.Resent.clear (h : s.Resent l t) (hs : s.Unhindered) (hnew : ∀ r, (q.1, r) ∉ l) :
    (∀ c, (t.ctx c).isOpen = false) ∧ (∀ x, t.backoff x = {}) ∧ t.renewal.bootBackoff = {}
      ∧ (∀ e ∈ t.renewal.list, e.slot ≠ q.1) := by
  refine ⟨fun c => ?_, fun x => ?_, ?_, fun e he hslot => ?_⟩
  · rw [State.ctx_congr (s := s) (by rw [h.renewal])]
    exact hs.closed c
  · rw [State.backoff_congr (s := s) (by rw [h.renewal])]
    exact hs.backoff x
  · rw [h.renewal]
    exact hs.boot
  · rw [h.renewal] at he
    obtain ⟨k, hk, rfl⟩ := List.mem_mapIdx.mp he
    have hmem := List.mem_of_mem_take (List.getElem_mem hk)
    have hsame : (List.take 8 l)[k].1 = q.1 := hslot
    exact hnew (List.take 8 l)[k].2 (by rw [← hsame]; exact hmem)

theorem State.Resent.list_length (h : s.Resent l t) : t.renewal.list.length = min 8 l.length := by
  rw [h.renewal]
  simp

theorem State.Resent.urgent (h : s.Resent l t) : ∀ e ∈ t.renewal.list, e.urgency = 2 := by
  intro e he
  rw [h.renewal] at he
  obtain ⟨k, hk, rfl⟩ := List.mem_mapIdx.mp he
  rfl

/-- The next arrival number, and that it follows those of the run. -/
theorem State.Resent.next (h : s.Resent l t) :
    satInc 65535 t.renewal.received = min (s.renewal.received + l.length + 1) 65535 := by
  rw [h.received, satInc]
  by_cases hl : l = []
  · rw [if_pos hl, hl]
    rfl
  · rw [if_neg hl]
    omega

/-- The new entry stands last. -/
theorem State.Resent.insert (h : s.Resent l t) (hroom : l.length < 8) :
    insertEntry (anewEntry s.renewal.received l.length q) t.renewal.list =
      ((l ++ [q]).take 8).mapIdx (anewEntry s.renewal.received) := by
  have hlist : t.renewal.list = l.mapIdx (anewEntry s.renewal.received) := by
    rw [h.renewal, List.take_of_length_le (by omega)]
  rw [insertEntry_last, hlist, List.take_of_length_le (by simp; omega), List.mapIdx_concat]
  intro e he
  rw [hlist] at he
  obtain ⟨k, hk, rfl⟩ := List.mem_mapIdx.mp he
  simp only [Entry.before, anewEntry, Bool.or_eq_true, Bool.and_eq_true, beq_self_eq_true, true_and]
  exact .inr (decide_eq_true (by omega))

theorem satInc_notNil (h : s.Resent l t) :
    satInc 65535 t.renewal.received =
      if l ++ [q] = [] then s.renewal.received else min (s.renewal.received + (l ++ [q]).length) 65535 := by
  rw [if_neg (by simp), h.next, List.length_append]
  rfl

/-- One trigger more: an entry of its own while there is a place for it. -/
theorem State.Resent.snoc {u : State} (h : s.Resent l t)
    (hrenewal : u.renewal = { t.renewal with
      list := if l.length < 8 then insertEntry (anewEntry s.renewal.received l.length q) t.renewal.list else t.renewal.list
      received := satInc 65535 t.renewal.received, notListed := u.renewal.notListed, bootRelist := u.renewal.bootRelist })
    (hlisted : l.length < 8 → u.renewal.notListed = t.renewal.notListed ∧ u.renewal.bootRelist = t.renewal.bootRelist)
    (hrequested : l.length < 8 → ∀ x, q.1 = some x → (u.slot x).requested = true)
    (hslot : ∀ x, u.slot x = { t.slot x with requested := (u.slot x).requested })
    (hothers : ∀ x, q.1 ≠ some x → u.slot x = t.slot x) : s.Resent (l ++ [q]) u := by
  have hlength : (l ++ [q]).length = l.length + 1 := by simp
  refine ⟨?_, ?_, fun hl => ?_, fun hl x hx => ?_, fun x => by rw [hslot, h.slot], fun x hx => ?_⟩
  · have hlist : (if l.length < 8 then insertEntry (anewEntry s.renewal.received l.length q) t.renewal.list else t.renewal.list)
        = ((l ++ [q]).take 8).mapIdx (anewEntry s.renewal.received) := by
      by_cases hroom : l.length < 8
      · rw [if_pos hroom, h.insert hroom]
      · rw [if_neg hroom, List.take_append_of_le_length (by omega), h.renewal]
    rw [hlist] at hrenewal
    rw [hrenewal, h.renewal]
  · rw [hrenewal]
    exact satInc_notNil h
  · obtain ⟨hnot, hrelist⟩ := hlisted (by omega)
    obtain ⟨hnot', hreplaced, hrelist'⟩ := h.listed (by omega)
    refine ⟨hnot.trans hnot', ?_, hrelist.trans hrelist'⟩
    rw [hrenewal]
    exact hreplaced
  · obtain ⟨r, hr⟩ := hx
    by_cases hq : q.1 = some x
    · exact hrequested (by omega) x hq
    · rw [hothers x hq]
      refine h.requested (by omega) x ⟨r, (List.mem_append.mp hr).resolve_right fun hlast => hq ?_⟩
      rw [← List.mem_singleton.mp hlast]
  · rw [hothers x fun hq => hx q.2 (List.mem_append_right _ (List.mem_singleton.mpr (by rw [← hq]))),
      h.others x fun r hr => hx r (List.mem_append_left _ hr)]

/-- One trigger more, of an ACTIVE slot. -/
theorem State.Resent.sendTrigger {x : Nat} {r : Reason} (h : s.Resent l t) (hs : s.Unhindered) (hnew : ∀ r, (some x, r) ∉ l)
    (hactive : (s.slot x).state = .active) (hr : r.urgency = 2) :
    s.Resent (l ++ [(some x, r)]) (t.sendTrigger x r) := by
  have hx : 1 ≤ x ∧ x ≤ 23 := by
    by_contra hout
    rw [State.slot_out s x hout] at hactive
    exact absurd hactive (by decide)
  obtain ⟨hclosed, hbackoff, -, hunlisted⟩ := h.clear (q := (some x, r)) hs hnew
  have hopen : ∀ c, (t.ctx c).isOpen = true → (t.ctx c).subject ≠ some x := fun c hc =>
    absurd ((hclosed c).symm.trans hc) (by decide)
  have hactiveT : (t.slot x).state = .active := by rw [h.slot]; exact hactive
  have hslot := (State.sendTrigger_triggered x r t).slot
  by_cases hroom : l.length < 8
  · have hsends := State.sendTrigger_of_room hopen hactiveT (hbackoff x) hunlisted (r := r) (by rw [h.list_length]; omega)
    have hentry : ({ slot := some x, urgency := r.urgency, reason := r, arrival := satInc 65535 t.renewal.received } : Entry)
        = anewEntry s.renewal.received l.length (some x, r) := by rw [hr, h.next, anewEntry]
    have hset : ∀ y, (t.sendTrigger x r).slot y = (t.setRequested (some x) true).slot y := fun y => by rw [hsends]; rfl
    refine h.snoc ?_ (fun _ => ?_) (fun _ y hy => ?_) hslot fun y hy => ?_
    · rw [if_pos hroom, ← hentry, hsends]
      rfl
    · rw [hsends]
      exact ⟨rfl, rfl⟩
    · obtain rfl : x = y := Option.some.inj hy
      rw [hset, State.setRequested_slot]
      exact if_pos ⟨rfl, hx⟩
    · rw [hset, State.setRequested_slot, if_neg fun hxy => hy hxy.1]
  · have hsends := State.sendTrigger_of_full (r := r) hopen hactiveT (hbackoff x) hunlisted (by rw [h.list_length]; omega)
      fun e he => by rw [h.urgent e he, hr]
    refine h.snoc ?_ (fun hl => absurd hl hroom) (fun hl => absurd hl hroom) hslot fun y hy => ?_
    · rw [if_neg hroom, hsends]
      rfl
    · have hset : ∀ u : State, (u.setRequested (some x) false).slot y = u.slot y := fun u => by
        rw [State.setRequested_slot, if_neg fun hxy => hy hxy.1]
      rw [hsends, hset]
      refine (State.setRequested_slot (some x) true t y).trans ?_
      rw [if_neg fun hxy => hy hxy.1]

/-- The BOOT trigger at the end of a run. -/
theorem State.Resent.sendBoot (h : s.Resent l t) (hs : s.Unhindered) (hnew : ∀ r, (none, r) ∉ l) :
    s.Resent (l ++ [(none, .boot)]) t.sendBoot := by
  obtain ⟨hclosed, -, hboot, hunlisted⟩ := h.clear (q := (none, .boot)) hs hnew
  have hslot := t.sendBoot_triggered.slot
  by_cases hroom : l.length < 8
  · have hsends := State.sendBoot_of_room (s := t) (fun c hc => absurd ((hclosed c).symm.trans hc) (by decide)) hboot hunlisted
      (by rw [h.list_length]; omega)
    have hentry : ({ slot := none, urgency := 2, reason := .boot, arrival := satInc 65535 t.renewal.received } : Entry)
        = anewEntry s.renewal.received l.length (none, .boot) := by rw [h.next, anewEntry]
    refine h.snoc ?_ (fun _ => ?_) (fun _ y hy => nomatch hy) hslot fun y _ => ?_
    · rw [if_pos hroom, ← hentry, hsends]
      rfl
    · rw [hsends]
      exact ⟨rfl, rfl⟩
    · rw [hsends]
      rfl
  · obtain ⟨pre, e, hlast⟩ : ∃ pre e, t.renewal.list = pre ++ [e] := by
      rcases List.eq_nil_or_concat t.renewal.list with hnil | ⟨pre, e, hlast⟩
      · have hlength := h.list_length
        rw [hnil, List.length_nil] at hlength
        omega
      · exact ⟨pre, e, by rw [hlast, List.concat_eq_append]⟩
    have hurgent := h.urgent e (by rw [hlast]; exact List.mem_append_right _ List.mem_cons_self)
    have hserved : ¬ (t.countTrigger.findCtx (Context.serves none)).isSome = true := by
      rw [State.countTrigger_findCtx, State.findCtx_eq_none]
      · decide
      · exact fun c => by simp [Context.serves, hclosed c]
    have hheld : ¬ t.countTrigger.renewal.bootBackoff.holds = true := by
      rw [show t.countTrigger.renewal.bootBackoff = t.renewal.bootBackoff from rfl, hboot]; decide
    have hreceive : t.receiveTrigger none .boot = t.countTrigger.listTrigger none .boot :=
      (if_neg hserved).trans (if_neg hheld)
    have hsends : t.sendBoot = (t.countTrigger.listNew none .boot).1 := by
      rw [State.sendBoot, hreceive, State.listTrigger_of_new (s := t.countTrigger) hunlisted]
    have hlength : 8 ≤ t.renewal.list.length := by rw [h.list_length]; omega
    rw [State.listNew_of_full (s := t.countTrigger) hlength hlast (by rw [hurgent]; decide)] at hsends
    refine h.snoc ?_ (fun hl => absurd hl hroom) (fun hl => absurd hl hroom) hslot fun y _ => ?_
    · rw [if_neg hroom, hsends]
      rfl
    · rw [hsends]
      rfl

/-- A visit of slots, each of which sends a trigger when it asks for one. -/
theorem State.Resent.foldl (hs : s.Unhindered) {p : Slot → Prop} [DecidablePred p] {r : Reason} (hr : r.urgency = 2)
    (hp : ∀ v b, p { v with requested := b } ↔ p v) (hactive : ∀ v, p v → v.state = .active) {xs : List Nat} (hxs : xs.Nodup)
    (h : s.Resent l t) (hnew : ∀ x ∈ xs, p (s.slot x) → ∀ r, (some x, r) ∉ l) :
    s.Resent (l ++ (xs.filter fun x => decide (p (s.slot x))).map fun x => (some x, r))
      (xs.foldl (fun t x => if p (t.slot x) then t.sendTrigger x r else t) t) := by
  induction xs generalizing l t with
  | nil => simpa using h
  | cons x xs ih =>
    obtain ⟨hx, hxs⟩ := List.nodup_cons.mp hxs
    rw [List.forall_mem_cons] at hnew
    have hasks : p (t.slot x) ↔ p (s.slot x) := by rw [h.slot]; exact hp ..
    rw [List.foldl_cons]
    by_cases hask : p (s.slot x)
    · rw [if_pos (hasks.mpr hask), List.filter_cons_of_pos (by simpa using hask), List.map_cons, List.append_cons]
      refine ih hxs (h.sendTrigger hs (hnew.1 hask) (hactive _ hask) hr) fun y hy hay r' hmem => ?_
      rcases List.mem_append.mp hmem with hold | hlast
      · exact hnew.2 y hy hay r' hold
      · obtain rfl : y = x := Option.some.inj (congrArg Prod.fst (List.mem_singleton.mp hlast))
        exact hx hy
    · rw [if_neg fun hn => hask (hasks.mp hn), List.filter_cons_of_neg (by simpa using hask)]
      exact ih hxs h hnew.2

end

/-- The slots that ask for a SPENT trigger, and those that ask for a SUSPECT one (R44). -/
def State.spentSlots (s : State) : List Nat :=
  workingSlots.filter fun x => decide ((s.slot x).state = .active ∧ (s.slot x).spent = true)

def State.suspectSlots (s : State) : List Nat :=
  workingSlots.filter fun x => decide ((s.slot x).state = .active ∧ (s.slot x).suspect = true ∧ (s.slot x).spent = false)

/-- The triggers of the kept slots. -/
def State.slotTriggers (s : State) : List (Option Nat × Reason) :=
  s.spentSlots.map (fun x => (some x, .spent)) ++ s.suspectSlots.map fun x => (some x, .suspect)

theorem State.resendTriggers_resent {s : State} (hs : s.Unhindered) : s.Resent s.slotTriggers s.resendTriggers := by
  have hspent := State.Resent.foldl hs (p := fun v => v.state = .active ∧ v.spent = true) (r := .spent) rfl
    (fun _ _ => Iff.rfl) (fun _ h => h.1) workingSlots_nodup (.nil hs) fun _ _ _ _ h => List.not_mem_nil h
  rw [List.nil_append] at hspent
  have hsuspect := State.Resent.foldl hs (p := fun v => v.state = .active ∧ v.suspect = true ∧ v.spent = false) (r := .suspect)
    rfl (fun _ _ => Iff.rfl) (fun _ h => h.1) workingSlots_nodup hspent fun x _ hx r h => by
      obtain ⟨y, hy, hyx⟩ := List.mem_map.mp h
      obtain rfl : y = x := Option.some.inj (congrArg Prod.fst hyx)
      have hspent := (of_decide_eq_true (List.mem_filter.mp hy).2).2
      exact Bool.false_ne_true (hx.2.2.symm.trans hspent)
  exact hsuspect

theorem State.foldl_slots_renewal {f : State → Nat → State} (hf : ∀ t x, f t x = { t with
    slots := (f t x).slots, renewal := (f t x).renewal }) (xs : List Nat) (s : State) :
    xs.foldl f s = { s with slots := (xs.foldl f s).slots, renewal := (xs.foldl f s).renewal } := by
  induction xs generalizing s with
  | nil => rfl
  | cons x xs ih =>
    have hhead := hf s x
    have htail := ih (f s x)
    rw [List.foldl_cons]
    generalize f s x = u at *
    generalize xs.foldl f u = t at *
    rw [htail, hhead]

/-- Of everything but slots and the Renewal Controller a run of triggers changes nothing. -/
theorem State.resendTriggers_state (s : State) :
    s.resendTriggers = { s with slots := s.resendTriggers.slots, renewal := s.resendTriggers.renewal } := by
  have hsend : ∀ (c : Prop) [Decidable c] (t : State) (x : Nat) (r : Reason), (if c then t.sendTrigger x r else t) = { t with
      slots := (if c then t.sendTrigger x r else t).slots, renewal := (if c then t.sendTrigger x r else t).renewal } :=
    fun c _ t x r => by
      split
      · exact (State.sendTrigger_triggered x r t).slots_renewal
      · rfl
  have hfirst := State.foldl_slots_renewal
    (f := fun t x => if (t.slot x).state = .active ∧ (t.slot x).spent = true then t.sendTrigger x .spent else t)
    (fun t x => hsend _ t x .spent) workingSlots s
  have hsecond := State.foldl_slots_renewal
    (f := fun t x => if (t.slot x).state = .active ∧ (t.slot x).suspect = true ∧ (t.slot x).spent = false then
      t.sendTrigger x .suspect else t)
    (fun t x => hsend _ t x .suspect) workingSlots (workingSlots.foldl
      (fun t x => if (t.slot x).state = .active ∧ (t.slot x).spent = true then t.sendTrigger x .spent else t) s)
  unfold State.resendTriggers
  dsimp only
  generalize workingSlots.foldl
    (fun t x => if (t.slot x).state = .active ∧ (t.slot x).spent = true then t.sendTrigger x .spent else t) s = u at *
  rw [hsecond, hfirst]

end Sys2Proof.Machine
end

section
/-! PROOFS. The faults that PART RESET raises anew (R44, R163): what a run of raises of different faults makes of the list that
RESTARTED alone stands in. -/

namespace Sys2Proof.Machine

/-- The Fault Monitor, the beacon and the FAULT causes as a reset leaves them, with n the identifier of RESTARTED (R163). -/
structure State.JustRestarted (s : State) (n : Nat) : Prop where
  faults : s.faults = { records := [resetRecord .restarted n s.tick], nextId := if 255 ≤ n then 1 else n + 1 }
  armed : s.beacon.oneShot = s.beacon.working.repeats + 1
  marker : s.beacon.marker = none
  shop : s.sPort.faultCause = true
  line : s.lPort.faultCause = true

/-- The record of the fault of place k in a run, where n is the identifier of RESTARTED. -/
def anewRecord (n tick k : Nat) (q : FaultKind × Subject) : FaultRecord :=
  { id := (n + k) % 255 + 1, kind := q.1, subject := q.2, count := 1, first := tick, last := tick, active := true
    acked := 0, reported := false }

/-- A record's kind, subject and state. -/
def FaultRecord.named (r : FaultRecord) : (FaultKind × Subject) × Bool := ((r.kind, r.subject), r.active)

/-- Between s and t the faults of d, all different, were raised. -/
structure State.Reraised (s : State) (n : Nat) (d : List (FaultKind × Subject)) (t : State) : Prop where
  state : t = { s with faults := t.faults }
  named : t.faults.records.map FaultRecord.named =
    if d.length ≤ 15 then ((.restarted, .nothing), false) :: d.map (·, true) else (d.take 16).map (·, true)
  ids : (t.faults.records.map (·.id)).Nodup
  next : 1 ≤ t.faults.nextId ∧ t.faults.nextId ≤ 255
  overflow : t.faults.overflow = decide (16 < d.length)
  reports : t.faults.overflowReports = []
  head : d.length ≤ 15 → ∃ rs, t.faults.records = resetRecord .restarted n s.tick :: rs
  exact : 1 ≤ n → n ≤ 255 → d.length ≤ 15 → t.faults =
    { records := resetRecord .restarted n s.tick :: d.mapIdx (anewRecord n s.tick), nextId := (n + d.length) % 255 + 1 }

theorem nextNumber_within (n : Nat) : 1 ≤ nextNumber n ∧ nextNumber n ≤ 255 := by
  unfold nextNumber
  split <;> omega

theorem State.Reraised.nil {s : State} {n : Nat} (h : s.JustRestarted n) : s.Reraised n [] s := by
  refine ⟨rfl, ?_, ?_, ?_, ?_, ?_, fun _ => ⟨[], by rw [h.faults]⟩, fun hlow hhigh _ => ?_⟩
  · rw [h.faults]
    rfl
  · rw [h.faults]
    simp
  · rw [h.faults]
    exact nextNumber_within n
  · rw [h.faults]
    rfl
  · rw [h.faults]
  · have hnext : (if 255 ≤ n then 1 else n + 1) = n % 255 + 1 := by split <;> omega
    rw [h.faults, hnext]
    rfl

/-- A record created where the reports are armed and FAULT is latched changes the list alone. -/
theorem State.createRecord_armed {s : State} (harmed : s.beacon.oneShot = s.beacon.working.repeats + 1)
    (hshop : s.sPort.faultCause = true) (hline : s.lPort.faultCause = true) (k : FaultKind) (x : Subject) (a : Bool) :
    s.createRecord k x a = { s with faults := (s.createRecord k x a).faults } := by
  have hbeacon : ({ s.beacon with oneShot := s.beacon.working.repeats + 1 } : Beacon) = s.beacon := by rw [← harmed]
  have hs : ({ s.sPort with faultCause := true } : PortState) = s.sPort := by rw [← hshop]
  have hl : ({ s.lPort with faultCause := true } : PortState) = s.lPort := by rw [← hline]
  apply State.ext_fields
  case h20 => rfl
  case h21 => exact hbeacon
  case h22 => exact hs
  case h23 => exact hl
  all_goals rfl

theorem State.setOverflow_armed {s : State} (harmed : s.beacon.oneShot = s.beacon.working.repeats + 1)
    (hshop : s.sPort.faultCause = true) (hline : s.lPort.faultCause = true) (hreports : s.faults.overflowReports = []) :
    s.setOverflow = { s with faults := { s.faults with overflow := true } } := by
  unfold State.setOverflow
  split
  next h => rw [← h]
  next =>
    have hbeacon : ({ s.beacon with oneShot := s.beacon.working.repeats + 1 } : Beacon) = s.beacon := by rw [← harmed]
    have hs : ({ s.sPort with faultCause := true } : PortState) = s.sPort := by rw [← hshop]
    have hl : ({ s.lPort with faultCause := true } : PortState) = s.lPort := by rw [← hline]
    apply State.ext_fields
    case h20 => rw [← hreports]; rfl
    case h21 => exact hbeacon
    case h22 => exact hs
    case h23 => exact hl
    all_goals rfl

section
variable {s t : State} {n : Nat} {d : List (FaultKind × Subject)} {q : FaultKind × Subject}

theorem State.Reraised.kept (h : s.Reraised n d t) : t.beacon = s.beacon ∧ t.sPort = s.sPort ∧ t.lPort = s.lPort
    ∧ t.tick = s.tick := by
  rw [h.state]
  exact ⟨rfl, rfl, rfl, rfl⟩

theorem State.Reraised.records_length (h : s.Reraised n d t) : t.faults.records.length = min (d.length + 1) 16 := by
  have hlength := congrArg List.length h.named
  rw [List.length_map] at hlength
  split at hlength
  · rw [hlength, List.length_cons, List.length_map]
    omega
  · rw [hlength, List.length_map, List.length_take]
    omega

/-- A fault that the run has not raised stands in no record. -/
theorem State.Reraised.fresh (h : s.Reraised n d t) (hq : q ∉ d) (hkind : q.1 ≠ .restarted) :
    ∀ r ∈ t.faults.records, ¬ (r.kind = q.1 ∧ r.subject = q.2) := by
  rintro r hr ⟨hk, hu⟩
  have hname : r.named = (q, r.active) := by rw [FaultRecord.named, hk, hu]
  have hmem : (q, r.active) ∈ t.faults.records.map FaultRecord.named := hname ▸ List.mem_map_of_mem hr
  rw [h.named] at hmem
  split at hmem
  · rcases List.mem_cons.mp hmem with hhead | htail
    · exact hkind (congrArg (·.1.1) hhead)
    · obtain ⟨p, hp, hpq⟩ := List.mem_map.mp htail
      exact hq ((Prod.mk.inj hpq).1 ▸ hp)
  · obtain ⟨p, hp, hpq⟩ := List.mem_map.mp hmem
    exact hq ((Prod.mk.inj hpq).1 ▸ List.mem_of_mem_take hp)

/-- A record created in a list with a place free keeps the identifiers different. -/
theorem State.createRecord_ids {u : State} (hids : (u.faults.records.map (·.id)).Nodup) (h1 : 1 ≤ u.faults.nextId)
    (h255 : u.faults.nextId ≤ 255) (hlen : u.faults.records.length ≤ 15) (k : FaultKind) (x : Subject) (a : Bool) :
    ((u.createRecord k x a).faults.records.map (·.id)).Nodup := by
  obtain ⟨m, id, -, -, heq, hnew, -⟩ := newId_spec h1 h255 hlen
  rw [State.createRecord_records, List.map_append, heq]
  refine List.nodup_append.mpr ⟨hids, List.nodup_singleton _, fun i hi j hj hij => ?_⟩
  obtain ⟨r, hr, hri⟩ := List.mem_map.mp hi
  rw [List.map_singleton, List.mem_singleton] at hj
  exact hnew r hr (hri.trans (hij.trans hj))

theorem State.createRecord_named (u : State) (k : FaultKind) (x : Subject) :
    (u.createRecord k x true).faults.records.map FaultRecord.named = u.faults.records.map FaultRecord.named ++ [((k, x), true)] := by
  rw [State.createRecord_records, List.map_append]
  rfl

theorem firstUnused_of_fresh {k n : Nat} {used : List Nat} (h : n ∉ used) : firstUnused (k + 1) used n = n := if_neg h

/-- The faults of a lawful list after one record more. -/
theorem State.Reraised.exact_snoc (h : s.Reraised n d t) (hlow : 1 ≤ n) (hhigh : n ≤ 255) (hlen : d.length ≤ 14) :
    (t.createRecord q.1 q.2 true).faults =
      { records := resetRecord .restarted n s.tick :: (d ++ [q]).mapIdx (anewRecord n s.tick)
        nextId := (n + (d ++ [q]).length) % 255 + 1 } := by
  have hexact := h.exact hlow hhigh (by omega)
  obtain ⟨-, -, -, htick⟩ := h.kept
  have hfresh : (n + d.length) % 255 + 1 ∉
      (resetRecord .restarted n s.tick :: d.mapIdx (anewRecord n s.tick)).map (·.id) := by
    rw [List.map_cons, List.mem_cons]
    rintro (hid | hid)
    · have hn : (resetRecord .restarted n s.tick).id = n := rfl
      rw [hn] at hid
      omega
    · obtain ⟨r, hr, hrid⟩ := List.mem_map.mp hid
      obtain ⟨k, hk, rfl⟩ := List.mem_mapIdx.mp hr
      have hk' : (anewRecord n s.tick k d[k]).id = (n + k) % 255 + 1 := rfl
      rw [hk'] at hrid
      omega
  have hid : firstUnused 17 (t.faults.records.map (·.id)) t.faults.nextId = (n + d.length) % 255 + 1 := by
    rw [hexact]
    exact firstUnused_of_fresh hfresh
  have hnext : nextNumber ((n + d.length) % 255 + 1) = (n + (d ++ [q]).length) % 255 + 1 := by
    rw [List.length_append, List.length_singleton, nextNumber]
    split <;> omega
  rw [State.createRecord_faults, hid, hnext, htick, hexact, List.mapIdx_concat]
  rfl

/-- One fault more. -/
theorem State.Reraised.snoc (hs : s.JustRestarted n) (h : s.Reraised n d t) (hq : q ∉ d) (hkind : q.1 ≠ .restarted) :
    s.Reraised n (d ++ [q]) (t.raiseFault q.1 q.2) := by
  have hfresh := h.fresh hq hkind
  have hcount := h.records_length
  obtain ⟨hbeacon, hsPort, hlPort, -⟩ := h.kept
  have harmed : t.beacon.oneShot = t.beacon.working.repeats + 1 := by rw [hbeacon]; exact hs.armed
  have hshop : t.sPort.faultCause = true := by rw [hsPort]; exact hs.shop
  have hline : t.lPort.faultCause = true := by rw [hlPort]; exact hs.line
  have hlength : (d ++ [q]).length = d.length + 1 := by simp
  by_cases hroom : d.length ≤ 14
  · have hplace : t.faults.records.length < 16 := by omega
    rw [State.raiseFault_of_room hfresh hplace]
    obtain ⟨rs, hrs⟩ := h.head (by omega)
    refine ⟨?_, ?_, ?_, ?_, ?_, ?_, fun _ => ⟨_, by rw [State.createRecord_records, hrs, List.cons_append]⟩,
      fun hlow hhigh _ => h.exact_snoc hlow hhigh hroom⟩
    · rw [State.createRecord_armed harmed hshop hline, h.state]
    · rw [State.createRecord_named, h.named, if_pos (by omega), if_pos (by omega), List.map_append]
      rfl
    · exact State.createRecord_ids h.ids h.next.1 h.next.2 (by omega) ..
    · exact nextNumber_within _
    · rw [State.createRecord_faults]
      refine h.overflow.trans ?_
      rw [decide_eq_false (by omega), decide_eq_false (by omega)]
    · exact h.reports
  by_cases hlast : d.length = 15
  · have hnamed := h.named
    rw [if_pos (by omega)] at hnamed
    obtain ⟨old, rest, hrecords, hold, hrest⟩ := List.map_eq_cons_iff.mp hnamed
    have hcleared : old.active = false := (Prod.mk.inj hold).2
    have hids := h.ids
    rw [hrecords, List.map_cons, List.nodup_cons] at hids
    have hremoved := State.removeRecord_of_split (s := t) (pre := []) (post := rest) hrecords rfl fun r hr hid =>
      hids.1 (List.mem_map.mpr ⟨r, hr, hid⟩)
    have hmarker : t.beacon.marker = none := by rw [hbeacon]; exact hs.marker
    rw [if_neg (by rw [hmarker]; nofun)] at hremoved
    have hrestLength : rest.length = 15 := by
      have := congrArg List.length hrest
      simp only [List.length_map] at this
      omega
    have hraised := State.raiseFault_of_replaced hfresh (by omega) (pre := []) (post := rest) hrecords
      (fun _ hr => (List.not_mem_nil hr).elim) hcleared
    rw [hremoved] at hraised
    rw [hraised]
    refine ⟨?_, ?_, ?_, ?_, ?_, ?_, fun hl => absurd hl (by omega), fun _ _ hl => absurd hl (by omega)⟩
    · rw [State.createRecord_armed (s := { t with faults := { t.faults with records := [] ++ rest } }) harmed hshop hline,
        h.state]
    · rw [State.createRecord_named, if_neg (by omega), List.take_of_length_le (by omega), List.map_append, hrest, List.map_append]
      rfl
    · exact State.createRecord_ids (u := { t with faults := { t.faults with records := [] ++ rest } }) hids.2 h.next.1 h.next.2
        (by simp [hrestLength]) ..
    · exact nextNumber_within _
    · rw [State.createRecord_faults]
      refine h.overflow.trans ?_
      rw [decide_eq_false (by omega), decide_eq_false (by omega)]
    · exact h.reports
  · have hnamed := h.named
    rw [if_neg (by omega)] at hnamed
    have hactive : ∀ r ∈ t.faults.records, r.active = true := fun r hr => by
      have hmem : r.named ∈ t.faults.records.map FaultRecord.named := List.mem_map_of_mem hr
      rw [hnamed] at hmem
      obtain ⟨p, -, hp⟩ := List.mem_map.mp hmem
      exact (Prod.mk.inj hp).2.symm
    rw [State.raiseFault_of_full (fun r hr => ⟨hactive r hr, hfresh r hr⟩) (by omega),
      State.setOverflow_armed harmed hshop hline h.reports]
    refine ⟨by rw [h.state], ?_, h.ids, h.next, ?_, h.reports, fun hl => absurd hl (by omega),
      fun _ _ hl => absurd hl (by omega)⟩
    · rw [if_neg (by omega), List.take_append_of_le_length (by omega)]
      exact hnamed
    · exact (decide_eq_true (by omega)).symm

end

/-- A run of raises. -/
def State.raiseAll (l : List (FaultKind × Subject)) (s : State) : State := l.foldl (fun t q => t.raiseFault q.1 q.2) s

theorem State.raiseAll_reraised {s : State} {n : Nat} (hs : s.JustRestarted n) {l : List (FaultKind × Subject)} (hl : l.Nodup)
    (hkinds : ∀ q ∈ l, q.1 ≠ .restarted) : s.Reraised n l (s.raiseAll l) := by
  induction l using List.reverseRecOn with
  | nil => exact .nil hs
  | append_singleton l q ih =>
    rw [List.nodup_append] at hl
    obtain ⟨hl, -, hdisjoint⟩ := hl
    rw [State.raiseAll, List.foldl_append]
    refine State.Reraised.snoc hs (ih hl fun p hp => hkinds p (List.mem_append_left _ hp))
      (fun hq => hdisjoint q hq q (List.mem_singleton_self q) rfl) (hkinds q (List.mem_append_right _ (List.mem_singleton_self q)))

/-! ### The faults in which kept slots still stand (R44) -/

/-- The faults of slot x that are raised anew. -/
def Slot.anew (x : Nat) (v : Slot) : List (FaultKind × Subject) :=
  (if v.state = .active ∧ v.spent = true then
    [(if v.maxAge + 256 ≤ v.age then .keyAgeOver else .keySpent, .slot x)] else [])
  ++ if (v.state = .active ∨ v.state = .draining) ∧ v.suspect = true then [(.tagFails, .slot x)] else []

theorem State.reraiseSlot_eq (s : State) (x : Nat) : s.reraiseSlot x = s.raiseAll ((s.slot x).anew x) := by
  unfold State.reraiseSlot Slot.anew State.raiseAll
  dsimp only
  by_cases hspent : (s.slot x).state = .active ∧ (s.slot x).spent = true
  · by_cases hsuspect : ((s.slot x).state = .active ∨ (s.slot x).state = .draining) ∧ (s.slot x).suspect = true
    · by_cases hage : (s.slot x).maxAge + 256 ≤ (s.slot x).age <;> simp [hspent, hsuspect, hage]
    · by_cases hage : (s.slot x).maxAge + 256 ≤ (s.slot x).age <;> simp [if_pos hspent, if_neg hsuspect, hage]
  · by_cases hsuspect : ((s.slot x).state = .active ∨ (s.slot x).state = .draining) ∧ (s.slot x).suspect = true
    · simp [if_neg hspent, if_pos hsuspect]
    · simp [if_neg hspent, if_neg hsuspect]

theorem State.raiseAll_slots (l : List (FaultKind × Subject)) (s : State) : (s.raiseAll l).slots = s.slots := by
  induction l generalizing s with
  | nil => rfl
  | cons q l ih => exact (ih _).trans (by simp)

/-- All faults that are raised anew, in ascending order of slot. -/
def State.anewFaults (s : State) : List (FaultKind × Subject) := workingSlots.flatMap fun x => (s.slot x).anew x

theorem State.foldl_reraiseSlot (xs : List Nat) (s : State) :
    xs.foldl State.reraiseSlot s = s.raiseAll (xs.flatMap fun x => (s.slot x).anew x) := by
  induction xs generalizing s with
  | nil => rfl
  | cons x xs ih =>
    have hslot : ∀ y, (s.reraiseSlot x).slot y = s.slot y := fun y => by
      rw [State.reraiseSlot_eq]
      exact State.slot_congr (State.raiseAll_slots ..) y
    rw [List.foldl_cons, ih, List.flatMap_cons, State.raiseAll, State.raiseAll, List.foldl_append, State.reraiseSlot_eq]
    simp only [← State.reraiseSlot_eq, hslot]
    rw [State.reraiseSlot_eq, State.raiseAll]

theorem Slot.anew_subject {v : Slot} {x : Nat} {q : FaultKind × Subject} (h : q ∈ v.anew x) :
    q.2 = .slot x ∧ q.1 ≠ .restarted := by
  unfold Slot.anew at h
  rcases List.mem_append.mp h with h | h
  · split at h
    · rw [List.mem_singleton.mp h]
      dsimp only
      split <;> exact ⟨rfl, nofun⟩
    · nomatch h
  · split at h
    · rw [List.mem_singleton.mp h]
      exact ⟨rfl, nofun⟩
    · nomatch h

theorem Slot.anew_nodup (v : Slot) (x : Nat) : (v.anew x).Nodup := by
  unfold Slot.anew
  by_cases hspent : v.state = .active ∧ v.spent = true
  · rw [if_pos hspent]
    by_cases hage : v.maxAge + 256 ≤ v.age
    · rw [if_pos hage]
      split <;> simp
    · rw [if_neg hage]
      split <;> simp
  · rw [if_neg hspent]
    split <;> simp

theorem State.anewFaults_nodup (s : State) : s.anewFaults.Nodup := by
  refine List.nodup_flatMap.mpr ⟨fun x _ => Slot.anew_nodup .., workingSlots_nodup.imp fun {x y} hxy q hx hy => hxy ?_⟩
  exact Subject.slot.inj ((Slot.anew_subject hx).1.symm.trans (Slot.anew_subject hy).1)

/-- The run of raises of a PART RESET. -/
theorem State.reraiseSlots_reraised {s : State} {n : Nat} (hs : s.JustRestarted n) :
    s.Reraised n s.anewFaults (workingSlots.foldl State.reraiseSlot s) := by
  rw [State.foldl_reraiseSlot]
  refine State.raiseAll_reraised hs s.anewFaults_nodup fun q hq => ?_
  obtain ⟨x, -, hx⟩ := List.mem_flatMap.mp hq
  exact (Slot.anew_subject hx).2

end Sys2Proof.Machine
end

section
/-! PROOFS. What PART RESET discards (R44, R146): the staged keys with the links that name them, and the open contexts. -/

namespace Sys2Proof.Machine

/-! ### Discarded slots (R31, R33) -/

/-- A link of s once those that name slots discarded until t have gone. -/
def State.keepsLink (s t : State) (o : Option Nat) : Option Nat :=
  o.filter fun y => decide (¬ ((s.slot y).state = .staged ∧ (t.slot y).state ≠ .staged))

/-- Between s and t STAGED slots were emptied, pending roots dropped, contexts ended, with what goes with them. -/
structure State.Discards (s t : State) : Prop where
  state : t = { s with
    slots := t.slots, root := { s.root with pendingRoot := t.root.pendingRoot }
    engine := { s.engine with burst := t.engine.burst }
    messenger := { s.messenger with finished := t.messenger.finished }, renewal := t.renewal, faults := t.faults
    beacon := t.beacon
    sPort := { s.sPort with faultCause := t.sPort.faultCause }
    lPort := { s.lPort with faultCause := t.lPort.faultCause } }
  nextId : t.faults.nextId = s.faults.nextId
  nextReport : t.beacon.nextReport = s.beacon.nextReport
  burst : ∀ x, s.burst x = false → t.burst x = false
  kept : ∀ x, (s.slot x).state ≠ .staged → t.slot x = { s.slot x with
    predecessor := s.keepsLink t (s.slot x).predecessor, successor := s.keepsLink t (s.slot x).successor }
  emptied : ∀ x, (s.slot x).state = .staged → (t.slot x).state ≠ .staged → t.slot x = {}

theorem State.keepsLink_of_slots {s t : State} (h : ∀ x, t.slot x = s.slot x) (o : Option Nat) : s.keepsLink t o = o := by
  cases o with
  | none => rfl
  | some y => exact if_pos (by simp [h])

/-- The pending root, the finished list and the Renewal Controller alone. -/
theorem State.Discards.of_slots {s t : State} (hstate : t = { s with
    root := { s.root with pendingRoot := t.root.pendingRoot }
    messenger := { s.messenger with finished := t.messenger.finished }, renewal := t.renewal }) : s.Discards t := by
  have hslot : ∀ x, t.slot x = s.slot x := State.slot_congr (by rw [hstate])
  refine ⟨by rw [hstate], by rw [hstate], by rw [hstate], fun x hx => ?_, fun x _ => ?_, fun x hx hx' => ?_⟩
  · rw [State.burst, hstate]
    exact hx
  · rw [State.keepsLink_of_slots hslot, State.keepsLink_of_slots hslot, hslot]
  · rw [hslot] at hx'
    exact absurd hx hx'

theorem State.Discards.refl (s : State) : s.Discards s := .of_slots rfl

theorem State.Discards.state_of_kept {s t : State} (h : s.Discards t) {x : Nat} (hx : (s.slot x).state ≠ .staged) :
    (t.slot x).state = (s.slot x).state := by rw [h.kept x hx]

theorem State.Discards.keepsLink {s t u : State} (h : s.Discards t) (k : t.Discards u) (o : Option Nat) :
    t.keepsLink u (s.keepsLink t o) = s.keepsLink u o := by
  cases o with
  | none => rfl
  | some y =>
    by_cases hs : (s.slot y).state = .staged
    · by_cases ht : (t.slot y).state = .staged
      · simp [State.keepsLink, Option.filter, hs, ht]
      · have hu : (u.slot y).state ≠ .staged := by rw [k.state_of_kept ht]; exact ht
        simp [State.keepsLink, Option.filter, hs, ht, hu]
    · have ht : (t.slot y).state ≠ .staged := by rw [h.state_of_kept hs]; exact hs
      simp [State.keepsLink, Option.filter, hs, ht]

theorem State.Discards.trans {s t u : State} (h : s.Discards t) (k : t.Discards u) : s.Discards u := by
  refine ⟨by rw [k.state, h.state], k.nextId.trans h.nextId, k.nextReport.trans h.nextReport,
    fun x hx => k.burst x (h.burst x hx), fun x hx => ?_, fun x hx hx' => ?_⟩
  · have ht : (t.slot x).state ≠ .staged := by rw [h.state_of_kept hx]; exact hx
    rw [k.kept x ht, h.kept x hx]
    dsimp only
    rw [h.keepsLink k, h.keepsLink k]
  · by_cases ht : (t.slot x).state = .staged
    · exact k.emptied x ht hx'
    · have hempty := h.emptied x hx ht
      rw [k.kept x ht, hempty]
      rfl

theorem State.Discards.foldl {f : State → Nat → State} (hf : ∀ (t : State) x, t.Discards (f t x)) (xs : List Nat) (s : State) :
    s.Discards (xs.foldl f s) := by
  induction xs generalizing s with
  | nil => exact .refl s
  | cons x xs ih => exact (hf s x).trans (ih _)

theorem State.clearFault_nextId (k : FaultKind) (x : Subject) (s : State) :
    (s.clearFault k x).faults.nextId = s.faults.nextId ∧ (s.clearFault k x).beacon.nextReport = s.beacon.nextReport := by
  unfold State.clearFault
  split
  · split <;> exact ⟨rfl, rfl⟩
  · exact ⟨rfl, rfl⟩

theorem State.emptySlot_nextId (x : Nat) (s : State) :
    (s.emptySlot x).faults.nextId = s.faults.nextId ∧ (s.emptySlot x).beacon.nextReport = s.beacon.nextReport := by
  have hclear : ∀ (b : Bool) (k : FaultKind) (t : State),
      (if b then t.clearFault k (.slot x) else t).faults.nextId = t.faults.nextId
        ∧ (if b then t.clearFault k (.slot x) else t).beacon.nextReport = t.beacon.nextReport := fun b k t => by
    cases b
    · exact ⟨rfl, rfl⟩
    · exact State.clearFault_nextId ..
  have hburst : ∀ t : State, (if s.burst x then (t.setBurst x false).clearFault .replayBurst (.slot x) else t).faults.nextId
      = t.faults.nextId ∧ (if s.burst x then (t.setBurst x false).clearFault .replayBurst (.slot x) else t).beacon.nextReport
      = t.beacon.nextReport := fun t => by
    cases s.burst x
    · exact ⟨rfl, rfl⟩
    · exact State.clearFault_nextId .replayBurst (.slot x) (t.setBurst x false)
  unfold State.emptySlot
  dsimp only
  exact ⟨(hburst _).1.trans (hclear ..).1, (hburst _).2.trans (hclear ..).2⟩

theorem State.discardSlot_discards (s : State) (y : Nat) : s.Discards (s.discardSlot y) := by
  by_cases hstaged : (s.slot y).state = .staged
  · have hy : 1 ≤ y ∧ y ≤ 23 := by
      by_contra hout
      rw [State.slot_out s y hout] at hstaged
      nomatch hstaged
    have hslot := fun x => State.emptySlot_slot y x s hy
    rw [State.discardSlot, if_pos hstaged]
    have hsame := s.emptySlot_same y
    obtain ⟨hid, hreport⟩ := s.emptySlot_nextId y
    have hburst : ∀ x, s.burst x = false → (s.emptySlot y).burst x = false := fun x hx => by
      rw [State.emptySlot_burst]
      split
      · rfl
      · exact hx
    generalize s.emptySlot y = t at *
    have hlink : ∀ o : Option Nat, s.keepsLink t o = if o = some y then none else o := fun o => by
      cases o with
      | none => rfl
      | some z =>
        by_cases hz : z = y
        · subst hz
          have hempty : (t.slot z).state = .empty := by rw [hslot, if_pos rfl]
          simp [State.keepsLink, Option.filter, hstaged, hempty]
        · have hkept : (t.slot z).state = (s.slot z).state := by rw [hslot, if_neg hz]
          simp [State.keepsLink, Option.filter, hkept, hz]
    refine ⟨by rw [hsame], hid, hreport, hburst, fun x hx => ?_, fun x hx hx' => ?_⟩
    · rw [hlink, hlink, hslot, if_neg fun h => hx (by rw [h]; exact hstaged)]
    · rw [hslot] at hx' ⊢
      by_cases hxy : x = y
      · rw [if_pos hxy]
      · rw [if_neg hxy] at hx'
        exact absurd hx hx'
  · rw [State.discardSlot, if_neg hstaged]
    exact .refl s

theorem State.foldl_discardSlot_notStaged {xs : List Nat} {x : Nat} (hx : x ∈ xs) (s : State) :
    ((xs.foldl (fun t x => t.discardSlot x) s).slot x).state ≠ .staged := by
  induction xs generalizing s with
  | nil => exact absurd hx List.not_mem_nil
  | cons y xs ih =>
    by_cases hmem : x ∈ xs
    · exact ih hmem _
    · obtain rfl : x = y := (List.mem_cons.mp hx).resolve_right hmem
      have hhead : ((s.discardSlot x).slot x).state ≠ .staged := by
        by_cases hstaged : (s.slot x).state = .staged
        · have hy : 1 ≤ x ∧ x ≤ 23 := by
            by_contra hout
            rw [State.slot_out s x hout] at hstaged
            nomatch hstaged
          rw [State.discardSlot, if_pos hstaged, State.emptySlot_slot x x s hy, if_pos rfl]
          nofun
        · rwa [State.discardSlot, if_neg hstaged]
      have hrest := State.Discards.foldl (f := fun t x => t.discardSlot x) State.discardSlot_discards xs (s.discardSlot x)
      rw [List.foldl_cons, hrest.state_of_kept hhead]
      exact hhead

/-! ### Ended contexts (R146) -/

/-- The end of a context at PART RESET. -/
def State.endOpen (s : State) (c : Nat) : State := if (s.ctx c).isOpen then (s.discardSuccessor c).freeContext c else s

theorem State.endContexts_eq (s : State) : s.endContexts = contextNumbers.foldl State.endOpen s := rfl

theorem State.discardSuccessor_discards (c : Nat) (s : State) : s.Discards (s.discardSuccessor c) := by
  unfold State.discardSuccessor
  split
  · split
    · exact .of_slots rfl
    · exact s.discardSlot_discards _
  · exact .refl s

theorem State.endOpen_discards (s : State) (c : Nat) : s.Discards (s.endOpen c) := by
  unfold State.endOpen
  split
  · refine (s.discardSuccessor_discards c).trans (.of_slots ?_)
    rw [State.freeContext_state]
  · exact .refl s

theorem State.endOpen_ctx (s : State) (c d : Nat) :
    (s.endOpen c).ctx d = if d = c ∧ (s.ctx d).isOpen = true then {} else s.ctx d := by
  have hdiscarded : (s.discardSuccessor c).ctx d = s.ctx d := by simp
  unfold State.endOpen
  by_cases hd : d = c
  · subst hd
    by_cases hopen : (s.ctx d).isOpen = true
    · rw [if_pos hopen, if_pos ⟨rfl, hopen⟩, State.freeContext_ctx, if_pos ⟨rfl, State.isOpen_lt hopen⟩]
    · rw [if_neg hopen, if_neg fun h => hopen h.2]
  · have hother : (if d = c ∧ (s.ctx d).isOpen = true then {} else s.ctx d) = s.ctx d := if_neg fun h => hd h.1
    rw [hother]
    split
    · rw [State.freeContext_ctx, if_neg fun h => hd h.1, hdiscarded]
    · rfl

theorem State.endOpen_finished (s : State) (c : Nat) : (s.endOpen c).messenger.finished =
    ((if (s.ctx c).isOpen = true then (s.ctx c).exchange else none).elim s.messenger.finished
      fun e => addFinished e s.messenger.finished) := by
  have hctx : (s.discardSuccessor c).ctx c = s.ctx c := by simp
  have hmessenger : (s.discardSuccessor c).messenger = s.messenger := by simp
  unfold State.endOpen
  by_cases hopen : (s.ctx c).isOpen = true
  · rw [if_pos hopen, if_pos hopen, State.freeContext, hctx]
    cases (s.ctx c).exchange with
    | none => exact congrArg Messenger.finished hmessenger
    | some e => exact congrArg (fun m : Messenger => addFinished e m.finished) hmessenger
  · rw [if_neg hopen, if_neg hopen]
    rfl

/-- The exchange numbers of the open contexts, in ascending order of context. -/
def State.endedExchanges (s : State) (cs : List Nat) : List Nat :=
  (cs.filter fun c => (s.ctx c).isOpen).filterMap fun c => (s.ctx c).exchange

theorem State.foldl_endOpen {cs : List Nat} (hcs : cs.Nodup) (s : State) :
    (∀ d, (cs.foldl State.endOpen s).ctx d = if d ∈ cs ∧ (s.ctx d).isOpen = true then {} else s.ctx d)
      ∧ (cs.foldl State.endOpen s).messenger.finished =
        (s.endedExchanges cs).foldl (fun l e => addFinished e l) s.messenger.finished := by
  induction cs generalizing s with
  | nil => exact ⟨fun d => (if_neg fun h => List.not_mem_nil h.1).symm, rfl⟩
  | cons c cs ih =>
    obtain ⟨hc, hcs⟩ := List.nodup_cons.mp hcs
    obtain ⟨hctx, hfinished⟩ := ih hcs (s.endOpen c)
    have hhead := s.endOpen_ctx c
    have hheadFinished := s.endOpen_finished c
    rw [List.foldl_cons]
    generalize s.endOpen c = u at *
    generalize cs.foldl State.endOpen u = t at *
    have hother : ∀ d, d ≠ c → u.ctx d = s.ctx d := fun d hd => (hhead d).trans (if_neg fun h => hd h.1)
    have hsame : ∀ d ∈ cs, u.ctx d = s.ctx d := fun d hd => hother d fun h => hc (h ▸ hd)
    have hrest : u.endedExchanges cs = s.endedExchanges cs := by
      unfold State.endedExchanges
      rw [List.filter_congr fun d hd => by rw [hsame d hd]]
      exact List.filterMap_congr fun d hd => by rw [hsame d (List.mem_of_mem_filter hd)]
    refine ⟨fun d => ?_, ?_⟩
    · rw [hctx]
      by_cases hdc : d = c
      · rw [if_neg fun h => hc (hdc ▸ h.1), hhead]
        by_cases hopen : (s.ctx d).isOpen = true
        · rw [if_pos ⟨hdc, hopen⟩, if_pos ⟨List.mem_cons.mpr (.inl hdc), hopen⟩]
        · rw [if_neg fun h => hopen h.2, if_neg fun h => hopen h.2]
      · rw [hother d hdc]
        by_cases hmem : d ∈ cs ∧ (s.ctx d).isOpen = true
        · rw [if_pos hmem, if_pos ⟨List.mem_cons_of_mem _ hmem.1, hmem.2⟩]
        · rw [if_neg hmem, if_neg fun h => hmem ⟨(List.mem_cons.mp h.1).resolve_left hdc, h.2⟩]
    · rw [hfinished, hrest, hheadFinished, State.endedExchanges, State.endedExchanges]
      by_cases hopen : (s.ctx c).isOpen = true
      · rw [if_pos hopen, List.filter_cons_of_pos (p := fun c => (s.ctx c).isOpen) hopen, List.filterMap_cons]
        cases (s.ctx c).exchange <;> rfl
      · rw [if_neg hopen, List.filter_cons_of_neg (p := fun c => (s.ctx c).isOpen) hopen]
        rfl

theorem State.endOpen_renewal (s : State) (c : Nat) :
    (s.endOpen c).renewal = { s.renewal with contexts := (s.endOpen c).renewal.contexts } := by
  have hrenewal : (s.discardSuccessor c).renewal = s.renewal := by simp
  unfold State.endOpen
  split
  · rw [State.freeContext_state, hrenewal]
  · rfl

theorem State.foldl_endOpen_renewal (cs : List Nat) (s : State) : (cs.foldl State.endOpen s).renewal =
    { s.renewal with contexts := (cs.foldl State.endOpen s).renewal.contexts } := by
  induction cs generalizing s with
  | nil => rfl
  | cons c cs ih =>
    have hhead := s.endOpen_renewal c
    rw [List.foldl_cons, ih, hhead]

/-- The Renewal Controller at PART RESET: every open context FREE, its number in the finished list, all else as at reset. -/
theorem State.resetRenewal_spec (s : State) : s.Discards s.resetRenewal
    ∧ (∀ c, s.resetRenewal.ctx c = if (s.ctx c).isOpen = true then {} else s.ctx c)
    ∧ s.resetRenewal.messenger = { s.messenger with
        finished := (s.endedExchanges [0, 1, 2, 3]).foldl (fun l e => addFinished e l) s.messenger.finished }
    ∧ s.resetRenewal.renewal = { s.renewal with
        list := [], contexts := s.resetRenewal.renewal.contexts, backoff := Vector.replicate 23 {}, bootBackoff := {}
        bootRelist := .idle } := by
  have hnumbers : contextNumbers = [0, 1, 2, 3] := rfl
  obtain ⟨hctx, hfinished⟩ := State.foldl_endOpen (cs := [0, 1, 2, 3]) (by decide) s
  have hended := State.Discards.foldl State.endOpen_discards [0, 1, 2, 3] s
  have hrenewal := State.foldl_endOpen_renewal [0, 1, 2, 3] s
  rw [State.resetRenewal, State.endContexts_eq, hnumbers]
  generalize [0, 1, 2, 3].foldl State.endOpen s = u at *
  refine ⟨hended.trans (.of_slots rfl), fun c => ?_, ?_, ?_⟩
  · refine (hctx c).trans ?_
    by_cases hopen : (s.ctx c).isOpen = true
    · have hc := State.isOpen_lt hopen
      rw [if_pos ⟨by interval_cases c <;> decide, hopen⟩, if_pos hopen]
    · rw [if_neg fun h => hopen h.2, if_neg hopen]
  · rw [← hfinished]
    exact congrArg State.messenger hended.state
  · rw [State.updRenewal_renewal, hrenewal]

/-- Every STAGED slot at PART RESET. -/
theorem State.discardStaged_spec (s : State) : s.Discards s.discardStaged
    ∧ (∀ x, (s.discardStaged.slot x).state ≠ .staged) ∧ s.discardStaged.root = { s.root with pendingRoot := none }
    ∧ s.discardStaged.messenger = s.messenger ∧ s.discardStaged.renewal = s.renewal := by
  have hkept : ∀ xs : List Nat, (xs.foldl (fun t x => t.discardSlot x) s).root = s.root
      ∧ (xs.foldl (fun t x => t.discardSlot x) s).messenger = s.messenger
      ∧ (xs.foldl (fun t x => t.discardSlot x) s).renewal = s.renewal := fun xs => by
    induction xs using List.reverseRecOn with
    | nil => exact ⟨rfl, rfl, rfl⟩
    | append_singleton xs x ih =>
      obtain ⟨hroot, hmessenger, hrenewal⟩ := ih
      simp only [List.foldl_append, List.foldl_cons, List.foldl_nil, State.discardSlot_frame]
      exact ⟨hroot, hmessenger, hrenewal⟩
  have hdiscards := State.Discards.foldl (f := fun t x => t.discardSlot x) State.discardSlot_discards workingSlots s
  have hstaged : ∀ x, ((workingSlots.foldl (fun t x => t.discardSlot x) s).slot x).state ≠ .staged := fun x => by
    by_cases hx : x ∈ workingSlots
    · exact State.foldl_discardSlot_notStaged hx _
    · rw [State.slot_out _ x fun h => hx ((mem_workingSlots x).mpr h)]
      nofun
  obtain ⟨hroot, hmessenger, hrenewal⟩ := hkept workingSlots
  rw [State.discardStaged]
  generalize workingSlots.foldl (fun t x => t.discardSlot x) s = u at *
  exact ⟨hdiscards.trans (.of_slots rfl), hstaged, by rw [← hroot]; rfl, hmessenger, hrenewal⟩

end Sys2Proof.Machine
end

section
/-! PROOFS. PART RESET (R181): the part before faults and triggers are sent anew, and the statement about the whole of it
(O56). -/

namespace Sys2Proof.Machine

/-- The part at PART RESET, before the faults and triggers of kept slots. -/
def State.cutOffPart (s : State) : State :=
  ((((((((s.abandonWork).resetRenewal).discardStaged).resetPool).restartDrains).updMessenger
    fun m => { m with noSlotMark := false }).setWindow none).resetPorts).resetFaults .restarted

/-- A link once those that name STAGED slots have gone. -/
def State.unstagedLink (s : State) (o : Option Nat) : Option Nat := o.filter fun y => decide ((s.slot y).state ≠ .staged)

/-- The kept slot as PART RESET leaves it before triggers are sent anew. -/
def State.keptSlot (s : State) (x : Nat) : Slot :=
  { s.slot x with
    engineUse := false, requested := false, drain := if (s.slot x).state = .draining then 32 else (s.slot x).drain
    predecessor := s.unstagedLink (s.slot x).predecessor, successor := s.unstagedLink (s.slot x).successor }

/-- Between s and t PART RESET has cut off the part's work. -/
structure State.CutOff (s t : State) : Prop where
  queues : t.pool = {} ∧ t.sIn = [] ∧ t.sOut = [] ∧ t.lRx = [] ∧ t.lTx = [] ∧ t.ctrl = [] ∧ t.eraseWindow = none
  engine : t.engine = { s.engine with work := none, lastDirection := .outbound, burst := t.engine.burst }
  burst : ∀ x, t.burst x = false
  chan : ∀ i, t.chan i = if (s.chan i).state = .closing then {} else { s.chan i with inEngine := false }
  slot : ∀ x, t.slot x = if (s.slot x).state = .staged then {} else s.keptSlot x
  link : t.link = s.link
  root : t.root = { s.root with pendingRoot := none, unsavedCounter := none }
  ctx : ∀ c, t.ctx c = if (s.ctx c).isOpen = true then {} else s.ctx c
  ticks : t.tick = s.tick ∧ t.intervalTicks = s.intervalTicks
  messenger : t.messenger = { s.messenger with
    noSlotMark := false
    finished := (s.endedExchanges [0, 1, 2, 3]).foldl (fun l e => addFinished e l) s.messenger.finished }
  renewal : t.renewal = { s.renewal with
    list := [], contexts := t.renewal.contexts, backoff := Vector.replicate 23 {}, bootBackoff := {}, bootRelist := .idle }
  faults : t.faults = { records := [resetRecord .restarted s.faults.nextId s.tick]
                        nextId := if 255 ≤ s.faults.nextId then 1 else s.faults.nextId + 1 }
  beacon : t.beacon = { nextReport := s.beacon.nextReport, oneShot := 1 }
  shop : t.sPort = { s.sPort.cutOff with faultCause := true }
  line : t.lPort = { s.lPort.cutOff with faultCause := true }

theorem State.abandonWork_slot (x : Nat) (s : State) : s.abandonWork.slot x = { s.slot x with engineUse := false } :=
  State.slot_mapSlots_of_fixed (f := fun _ v => { v with engineUse := false }) (fun _ => rfl) x s

theorem State.restartDrains_slot (x : Nat) (s : State) : s.restartDrains.slot x = { s.slot x with
    requested := false, drain := if (s.slot x).state = .draining then 32 else (s.slot x).drain } :=
  State.slot_mapSlots_of_fixed
    (f := fun _ v => { v with requested := false, drain := if v.state = .draining then 32 else v.drain }) (fun _ => rfl) x s

theorem PortState.cutOff_cause (q : PortState) (b : Bool) :
    ({ ({ q with faultCause := b } : PortState).cutOff with faultCause := true } : PortState)
      = { q.cutOff with faultCause := true } := by
  unfold PortState.cutOff
  dsimp only
  rw [PortState.afterReset_eq, PortState.afterReset_eq]
  split <;> rfl

theorem slotEntry_replicate {α : Type} (a : α) (x : Nat) : slotEntry a (Vector.replicate 23 a) x = a := by
  unfold slotEntry
  split
  · rfl
  · rw [Vector.getElem?_replicate]
    split <;> rfl

/-- The Key Store's and the Renewal Controller's part: the engine abandons its work, contexts and STAGED keys go. -/
theorem State.discarded_spec (s : State) :
    ∃ d : State, d = ((s.abandonWork).resetRenewal).discardStaged ∧ s.abandonWork.Discards d
      ∧ (∀ x, (d.slot x).state ≠ .staged) ∧ d.root = { s.root with pendingRoot := none, unsavedCounter := none }
      ∧ (∀ c, d.ctx c = if (s.ctx c).isOpen = true then {} else s.ctx c)
      ∧ d.messenger = { s.messenger with
          finished := (s.endedExchanges [0, 1, 2, 3]).foldl (fun l e => addFinished e l) s.messenger.finished }
      ∧ d.renewal = { s.renewal with
          list := [], contexts := d.renewal.contexts, backoff := Vector.replicate 23 {}, bootBackoff := {}
          bootRelist := .idle } := by
  obtain ⟨hdiscards, hctx, hmessenger, hrenewal⟩ := s.abandonWork.resetRenewal_spec
  generalize s.abandonWork.resetRenewal = r at *
  have hroot : r.root = { s.root with pendingRoot := r.root.pendingRoot, unsavedCounter := none } :=
    congrArg State.root hdiscards.state
  obtain ⟨hdiscards', hstaged, hroot', hmessenger', hrenewal'⟩ := r.discardStaged_spec
  refine ⟨_, rfl, hdiscards.trans hdiscards', hstaged, ?_, fun c => ?_, hmessenger'.trans hmessenger, ?_⟩
  · rw [hroot', hroot]
  · exact (State.ctx_congr (by rw [hrenewal']) c).trans (hctx c)
  · rw [hrenewal', hrenewal]
    rfl

theorem State.cutOffPart_cutOff (s : State) : s.CutOff s.cutOffPart := by
  obtain ⟨d, hd, hdiscards, hstaged, hroot, hctx, hmessenger, hrenewal⟩ := s.discarded_spec
  have heq : s.cutOffPart = (((((d.resetPool).restartDrains).updMessenger fun m => { m with noSlotMark := false }).setWindow
      none).resetPorts).resetFaults .restarted := by rw [hd]; rfl
  rw [State.resetPorts_eq, State.resetFaults_eq] at heq
  have hstate := hdiscards.state
  have hburst : ∀ x, d.burst x = false := fun x => hdiscards.burst x (slotEntry_replicate false x)
  have hslot : ∀ x, s.cutOffPart.slot x = d.restartDrains.slot x := State.slot_congr (by rw [heq]; rfl)
  have hlink : ∀ o, s.abandonWork.keepsLink d o = s.unstagedLink o := fun o => by
    refine congrArg (o.filter ·) (funext fun y => decide_eq_decide.mpr ?_)
    rw [State.abandonWork_slot]
    exact ⟨fun h hs => h ⟨hs, hstaged y⟩, fun h hs => h hs.1⟩
  have htick : d.tick = s.abandonWork.tick := by rw [hstate]
  have hinterval : d.intervalTicks = s.abandonWork.intervalTicks := by rw [hstate]
  have hshop : d.sPort = { s.abandonWork.sPort with faultCause := d.sPort.faultCause } := by rw [hstate]
  have hline : d.lPort = { s.abandonWork.lPort with faultCause := d.lPort.faultCause } := by rw [hstate]
  refine ⟨?queues, ?engine, fun x => ?burst, fun i => ?chan, fun x => ?slot, ?link, ?root, fun c => ?ctx, ?ticks, ?messenger,
    ?renewal, ?faults, ?beacon, ?shop, ?line⟩
  case queues =>
    rw [heq]
    exact ⟨rfl, rfl, rfl, rfl, rfl, rfl, rfl⟩
  case engine =>
    have hengine : s.cutOffPart.engine = d.engine := by rw [heq]; rfl
    rw [hengine, hstate]
    rfl
  case burst =>
    have hsame : s.cutOffPart.burst x = d.burst x := by rw [heq]; rfl
    rw [hsame, hburst]
  case chan =>
    have hchans : s.cutOffPart.chans = d.chans := by rw [heq]; rfl
    rw [State.chan_congr (hchans.trans (congrArg State.chans hstate))]
    exact State.chan_mapChans_of_fixed
      (f := fun _ c => if c.state = .closing then {} else { c with inEngine := false }) (fun _ => rfl) i s
  case slot =>
    rw [hslot, State.restartDrains_slot]
    by_cases hs : (s.slot x).state = .staged
    · have hempty := hdiscards.emptied x (by rw [State.abandonWork_slot]; exact hs) (hstaged x)
      rw [if_pos hs, hempty]
      rfl
    · have hkept := hdiscards.kept x (by rw [State.abandonWork_slot]; exact hs)
      rw [hlink, hlink, State.abandonWork_slot] at hkept
      rw [if_neg hs, hkept]
      rfl
  case link =>
    have hsame : s.cutOffPart.link = d.link := by rw [heq]; rfl
    have hkept : d.link = s.abandonWork.link := by rw [hstate]
    exact hsame.trans hkept
  case root =>
    rw [heq]
    exact hroot
  case ctx =>
    have hsame : s.cutOffPart.ctx c = d.ctx c := by rw [heq]; rfl
    rw [hsame, hctx]
  case ticks =>
    have hsame : s.cutOffPart.tick = d.tick ∧ s.cutOffPart.intervalTicks = d.intervalTicks := by rw [heq]; exact ⟨rfl, rfl⟩
    exact ⟨hsame.1.trans htick, hsame.2.trans hinterval⟩
  case messenger =>
    rw [heq]
    exact congrArg (fun m : Messenger => { m with noSlotMark := false }) hmessenger
  case renewal =>
    have hsame : s.cutOffPart.renewal = d.renewal := by rw [heq]; rfl
    rw [hsame]
    exact hrenewal
  case faults =>
    have hid : d.faults.nextId = s.faults.nextId := hdiscards.nextId
    rw [heq, ← hid, show s.tick = s.abandonWork.tick from rfl, ← htick]
    rfl
  case beacon =>
    have hreport : d.beacon.nextReport = s.beacon.nextReport := hdiscards.nextReport
    rw [heq, ← hreport]
    rfl
  case shop =>
    have hcut : s.cutOffPart.sPort = { d.sPort.cutOff with faultCause := true } := by rw [heq]; rfl
    rw [hcut, hshop, PortState.cutOff_cause]
    rfl
  case line =>
    have hcut : s.cutOffPart.lPort = { d.lPort.cutOff with faultCause := true } := by rw [heq]; rfl
    rw [hcut, hline, PortState.cutOff_cause]
    rfl

/-! ### Faults and triggers sent anew -/

theorem State.CutOff.justRestarted {s c : State} (h : s.CutOff c) : c.JustRestarted s.faults.nextId := by
  refine ⟨by rw [h.ticks.1]; exact h.faults, ?_, ?_, ?_, ?_⟩
  · rw [h.beacon]
  · rw [h.beacon]
  · rw [h.shop]
  · rw [h.line]

theorem State.CutOff.closed {s c : State} (h : s.CutOff c) (d : Nat) : (c.ctx d).isOpen = false := by
  rw [h.ctx]
  by_cases hopen : (s.ctx d).isOpen = true
  · rw [if_pos hopen]
    rfl
  · rw [if_neg hopen]
    exact Bool.eq_false_iff.mpr hopen

theorem State.CutOff.unhindered {s c u : State} (h : s.CutOff c) (hu : u.renewal = c.renewal) : u.Unhindered := by
  refine ⟨fun d => ?_, fun x => ?_, ?_, ?_⟩
  · rw [State.ctx_congr (s := c) (by rw [hu])]
    exact h.closed d
  · rw [State.backoff_congr (s := c) (by rw [hu]), State.backoff, h.renewal]
    exact slotEntry_replicate ..
  · rw [hu, h.renewal]
  · rw [hu, h.renewal]

/-- The triggers that PART RESET sends anew. -/
def State.anewTriggers (u : State) (after : PartState) : List (Option Nat × Reason) :=
  u.slotTriggers ++ if after = .bootstrap then [(none, .boot)] else []

/-- PART RESET but for its response leads from s to t: over c with the work cut off, and u with the faults raised anew. -/
structure State.PartReset (s c u t : State) : Prop where
  cut : s.CutOff c
  raised : c.Reraised s.faults.nextId c.anewFaults u
  sent : u.Resent (u.anewTriggers t.partState) t
  shape : t = { u with slots := t.slots, renewal := t.renewal, partState := t.partState
                       link := LinkWatch.afterReset (t.partState == .run) u.link }
  part : t.partState = if (c.chan 0).current ≠ none then .run else if c.root.active then .bootstrap else .noRoot

theorem State.partResetBlocks_partReset (s : State) : ∃ c u, s.PartReset c u s.partResetBlocks := by
  have hcut := s.cutOffPart_cutOff
  obtain ⟨c, hc⟩ : ∃ c, c = s.cutOffPart := ⟨_, rfl⟩
  rw [← hc] at hcut
  have hraised := State.reraiseSlots_reraised hcut.justRestarted
  obtain ⟨u, hu⟩ : ∃ u, u = workingSlots.foldl State.reraiseSlot c := ⟨_, rfl⟩
  rw [← hu] at hraised
  have hready : u.Unhindered := hcut.unhindered (by rw [hraised.state])
  have hresent := State.resendTriggers_resent hready
  have hstate := u.resendTriggers_state
  obtain ⟨w, hw⟩ : ∃ w, w = u.resendTriggers := ⟨_, rfl⟩
  rw [← hw] at hresent hstate
  obtain ⟨after, hafter⟩ : ∃ after, after = w.stateAfterReset := ⟨_, rfl⟩
  have hwhole : s.partResetBlocks =
      if after = .bootstrap then ((w.updLink (LinkWatch.afterReset (after == .run))).setPartState after).sendBoot
      else (w.updLink (LinkWatch.afterReset (after == .run))).setPartState after := by
    rw [hafter, hw, hu, hc]
    rfl
  have hchosen : after = if (c.chan 0).current ≠ none then .run else if c.root.active then .bootstrap else .noRoot := by
    have hchan : w.chan 0 = c.chan 0 := State.chan_congr (by rw [hstate, hraised.state]) 0
    have hroot : w.root = c.root := by rw [hstate, hraised.state]
    rw [hafter, State.stateAfterReset, hchan, hroot]
  have hlinked : u.Resent u.slotTriggers ((w.updLink (LinkWatch.afterReset (after == .run))).setPartState after) :=
    hresent.congr rfl rfl
  have hlinkedState : (w.updLink (LinkWatch.afterReset (after == .run))).setPartState after = { u with
      slots := w.slots, renewal := w.renewal, partState := after, link := LinkWatch.afterReset (after == .run) u.link } := by
    rw [hstate]
    rfl
  have hpart : ((w.updLink (LinkWatch.afterReset (after == .run))).setPartState after).partState = after := rfl
  generalize (w.updLink (LinkWatch.afterReset (after == .run))).setPartState after = v at *
  by_cases hboot : after = .bootstrap
  · rw [if_pos hboot] at hwhole
    have hsent := v.sendBoot_triggered.slots_renewal
    have hpartT : v.sendBoot.partState = after := by rw [hsent, hpart]
    rw [hwhole]
    refine ⟨c, u, hcut, hraised, ?_, ?_, hpartT.trans hchosen⟩
    · rw [State.anewTriggers, hpartT, if_pos hboot]
      refine hlinked.sendBoot hready fun r hmem => ?_
      rcases List.mem_append.mp hmem with h | h
      · obtain ⟨x, -, hx⟩ := List.mem_map.mp h
        nomatch hx
      · obtain ⟨x, -, hx⟩ := List.mem_map.mp h
        nomatch hx
    · rw [hpartT, hsent, hlinkedState]
  · rw [if_neg hboot] at hwhole
    rw [hwhole]
    refine ⟨c, u, hcut, hraised, ?_, ?_, hpart.trans hchosen⟩
    · rw [State.anewTriggers, hpart, if_neg hboot, List.append_nil]
      exact hlinked
    · rw [hpart, hlinkedState]

/-! ### In the words of the statement -/

/-- The slots with a SPENT, and those with a SUSPECT trigger, over the slots before the reset. -/
def State.spentBefore (s : State) : List Nat :=
  (List.range 24).filter fun x => (s.slot x).state == .active && (s.slot x).spent

def State.suspectBefore (s : State) : List Nat :=
  (List.range 24).filter fun x => (s.slot x).state == .active && (s.slot x).suspect && !(s.slot x).spent

/-- The faults raised anew, over the slots before the reset. -/
def State.anewBefore (s : State) : List (FaultKind × Subject) := (List.range 24).flatMap fun x => (s.slot x).anew x

theorem range_slots : List.range 24 = 0 :: workingSlots := rfl

section
variable {s c : State}

/-- A kept slot is as it was in all that a trigger or a fault asks for. -/
theorem State.CutOff.asks (h : s.CutOff c) {p : Slot → Bool} (hp : ∀ x, p (s.keptSlot x) = p (s.slot x))
    (hactive : ∀ v : Slot, v.state = .staged ∨ v.state = .empty → p v = false) (x : Nat) : p (c.slot x) = p (s.slot x) := by
  rw [h.slot]
  by_cases hs : (s.slot x).state = .staged
  · rw [if_pos hs, hactive _ (.inl hs)]
    exact hactive _ (.inr rfl)
  · rw [if_neg hs, hp]

theorem filter_slots {p q : Nat → Bool} (h0 : q 0 = false) (h : ∀ x, p x = q x) :
    workingSlots.filter p = (List.range 24).filter q := by
  rw [range_slots, List.filter_cons_of_neg (by rw [h0]; exact Bool.false_ne_true)]
  exact List.filter_congr fun x _ => h x

theorem State.slot_zero (s : State) : s.slot 0 = {} := State.slot_out s 0 (by omega)

theorem State.CutOff.spentSlots (h : s.CutOff c) : c.spentSlots = s.spentBefore := by
  refine filter_slots (by rw [State.slot_zero]; rfl) fun x => ?_
  have hasks := h.asks (p := fun v => v.state == .active && v.spent) (fun _ => rfl)
    (fun v hv => by rcases hv with hv | hv <;> rw [hv] <;> rfl) x
  rw [← hasks, Bool.decide_and]
  simp [beq_eq_decide]

theorem State.CutOff.suspectSlots (h : s.CutOff c) : c.suspectSlots = s.suspectBefore := by
  refine filter_slots (by rw [State.slot_zero]; rfl) fun x => ?_
  have hasks := h.asks (p := fun v => v.state == .active && v.suspect && !v.spent) (fun _ => rfl)
    (fun v hv => by rcases hv with hv | hv <;> rw [hv] <;> rfl) x
  rw [← hasks]
  simp [beq_eq_decide, Bool.decide_and, Bool.and_assoc]

theorem State.CutOff.anewFaults (h : s.CutOff c) : c.anewFaults = s.anewBefore := by
  have hslot : ∀ x, (c.slot x).anew x = (s.slot x).anew x := fun x => by
    rw [h.slot]
    by_cases hs : (s.slot x).state = .staged
    · rw [if_pos hs]
      simp [Slot.anew, hs]
    · rw [if_neg hs]
      rfl
  rw [State.anewFaults, State.anewBefore, range_slots, List.flatMap_cons, State.slot_zero]
  simp only [hslot]
  rfl

end

end Sys2Proof.Machine
end

section
/-! PROOFS. PART RESET field by field: what it leaves, over the part before it (O56). -/

namespace Sys2Proof.Machine

/-- The triggers that PART RESET sends anew, over the slots before it. -/
def State.sentBefore (s : State) (after : PartState) : List (Option Nat × Reason) :=
  s.spentBefore.map (fun x => (some x, .spent)) ++ s.suspectBefore.map (fun x => (some x, .suspect))
    ++ if after = .bootstrap then [(none, .boot)] else []

/-- The finished list takes one number more, in the words of the statement. -/
def joinFinished (l : List Nat) (e : Nat) : List Nat :=
  if 8 < (l.filter (· ≠ e)).length + 1 then (l.filter (· ≠ e) ++ [e]).tail else l.filter (· ≠ e) ++ [e]

theorem addFinished_eq (e : Nat) (l : List Nat) : addFinished e l = joinFinished l e := by
  have hfilter : l.filter (· != e) = l.filter (· ≠ e) := List.filter_congr fun a _ => by simp [bne, beq_eq_decide]
  unfold addFinished joinFinished
  dsimp only
  rw [hfilter, List.length_append, List.length_singleton]

theorem State.unstagedLink_some (s : State) (y : Nat) :
    s.unstagedLink (some y) = if (s.slot y).state = .staged then none else some y := by
  by_cases hy : (s.slot y).state = .staged <;> simp [State.unstagedLink, Option.filter, hy]

theorem State.mem_spentBefore {s : State} {x : Nat} :
    x ∈ s.spentBefore ↔ x < 24 ∧ (s.slot x).state = .active ∧ (s.slot x).spent = true := by
  simp [State.spentBefore]

theorem State.mem_suspectBefore {s : State} {x : Nat} : x ∈ s.suspectBefore ↔
    x < 24 ∧ ((s.slot x).state = .active ∧ (s.slot x).suspect = true) ∧ (s.slot x).spent = false := by
  simp [State.suspectBefore]

theorem State.mem_sentBefore {s : State} {after : PartState} {x : Nat} :
    (∃ r, (some x, r) ∈ s.sentBefore after) ↔ x ∈ s.spentBefore ∨ x ∈ s.suspectBefore := by
  constructor
  · rintro ⟨r, hr⟩
    rcases List.mem_append.mp hr with hr | hr
    · rcases List.mem_append.mp hr with hr | hr
      · obtain ⟨y, hy, hyx⟩ := List.mem_map.mp hr
        obtain rfl : y = x := Option.some.inj (congrArg Prod.fst hyx)
        exact .inl hy
      · obtain ⟨y, hy, hyx⟩ := List.mem_map.mp hr
        obtain rfl : y = x := Option.some.inj (congrArg Prod.fst hyx)
        exact .inr hy
    · split at hr
      · nomatch congrArg Prod.fst (List.mem_singleton.mp hr)
      · nomatch hr
  · rintro (hx | hx)
    · exact ⟨.spent, List.mem_append_left _ (List.mem_append_left _ (List.mem_map_of_mem hx))⟩
    · exact ⟨.suspect, List.mem_append_left _ (List.mem_append_right _ (List.mem_map_of_mem hx))⟩

/-- A slot whose key is not ACTIVE sends no trigger anew. -/
theorem State.not_mem_sentBefore {s : State} {after : PartState} {x : Nat} (h : (s.slot x).state ≠ .active) (r : Reason) :
    (some x, r) ∉ s.sentBefore after := fun hr => by
  rcases State.mem_sentBefore.mp ⟨r, hr⟩ with hx | hx
  · exact h (State.mem_spentBefore.mp hx).2.1
  · exact h (State.mem_suspectBefore.mp hx).2.1.1

theorem LinkWatch.afterReset_run (p : PartState) (l : LinkWatch) : LinkWatch.afterReset (p == .run) l =
    { l with quiet := if p = .run then .running else .stopped, quietRemaining := 15, quietMark := false, malformed := 0
             foreign := 0, overrun := 0, malformedMark := false, test := none, selfCheckMark := false } := by
  cases p <;> rfl

section
variable {s c u t : State}

theorem State.PartReset.slot_raised (h : s.PartReset c u t) (x : Nat) :
    u.slot x = if (s.slot x).state = .staged then {} else s.keptSlot x :=
  (State.slot_congr (by rw [h.raised.state]) x).trans (h.cut.slot x)

theorem State.PartReset.resent (h : s.PartReset c u t) : u.Resent (s.sentBefore t.partState) t := by
  have hslots : u.slots = c.slots := by rw [h.raised.state]
  have hspent : u.spentSlots = c.spentSlots := by simp only [State.spentSlots, State.slot_congr hslots]
  have hsuspect : u.suspectSlots = c.suspectSlots := by simp only [State.suspectSlots, State.slot_congr hslots]
  have hsent := h.sent
  rw [State.anewTriggers, State.slotTriggers, hspent, hsuspect, h.cut.spentSlots, h.cut.suspectSlots] at hsent
  exact hsent

theorem State.PartReset.partState (h : s.PartReset c u t) :
    t.partState = if (s.chan 0).state = .closing ∨ (s.chan 0).current = none then
      (if s.root.active then .bootstrap else .noRoot) else .run := by
  have hroot : c.root.active = s.root.active := by rw [h.cut.root]
  have hcurrent : (c.chan 0).current = none ↔ (s.chan 0).state = .closing ∨ (s.chan 0).current = none := by
    rw [h.cut.chan]
    by_cases hclosing : (s.chan 0).state = .closing
    · rw [if_pos hclosing]
      exact iff_of_true rfl (.inl hclosing)
    · rw [if_neg hclosing]
      exact (or_iff_right hclosing).symm
  rw [h.part, hroot, ite_not]
  exact if_congr hcurrent rfl rfl

theorem State.PartReset.queues (h : s.PartReset c u t) : t.pool = {} ∧ t.sIn = [] ∧ t.sOut = [] ∧ t.lRx = [] ∧ t.lTx = []
    ∧ t.ctrl = [] ∧ t.eraseWindow = none := by
  rw [h.shape, h.raised.state]
  exact h.cut.queues

theorem State.PartReset.engine (h : s.PartReset c u t) :
    t.engine = { s.engine with work := none, lastDirection := .outbound, burst := t.engine.burst } := by
  rw [h.shape, h.raised.state]
  exact h.cut.engine

theorem State.PartReset.burst (h : s.PartReset c u t) (x : Nat) : t.burst x = false := by
  rw [h.shape, h.raised.state]
  exact h.cut.burst x

theorem State.PartReset.chan (h : s.PartReset c u t) (i : Nat) :
    t.chan i = if (s.chan i).state = .closing then {} else { s.chan i with inEngine := false } :=
  (State.chan_congr (by rw [h.shape, h.raised.state]) i).trans (h.cut.chan i)

theorem State.PartReset.slot_staged (h : s.PartReset c u t) {x : Nat} (hs : (s.slot x).state = .staged) : t.slot x = {} := by
  rw [h.resent.others x (State.not_mem_sentBefore (by rw [hs]; nofun)), h.slot_raised, if_pos hs]

theorem State.PartReset.slot_kept (h : s.PartReset c u t) {x : Nat} (hs : (s.slot x).state ≠ .staged) :
    t.slot x = { s.keptSlot x with requested := (t.slot x).requested } := by
  have hslot := h.resent.slot x
  rw [h.slot_raised, if_neg hs] at hslot
  exact hslot

theorem State.PartReset.links (h : s.PartReset c u t) {x : Nat} (hs : (s.slot x).state ≠ .staged) :
    (t.slot x).successor = s.unstagedLink (s.slot x).successor
      ∧ (t.slot x).predecessor = s.unstagedLink (s.slot x).predecessor := by
  rw [h.slot_kept hs]
  exact ⟨rfl, rfl⟩

theorem State.PartReset.slot_links (h : s.PartReset c u t) {x : Nat} (hs : (s.slot x).state ≠ .staged) : t.slot x =
    { s.slot x with
      engineUse := false, requested := (t.slot x).requested
      drain := if (s.slot x).state = .draining then 32 else (s.slot x).drain
      predecessor := (t.slot x).predecessor, successor := (t.slot x).successor } := by
  obtain ⟨hsuccessor, hpredecessor⟩ := h.links hs
  rw [hsuccessor, hpredecessor]
  exact h.slot_kept hs

theorem State.PartReset.link (h : s.PartReset c u t) : t.link = LinkWatch.afterReset (t.partState == .run) s.link := by
  have hlink : u.link = s.link := by rw [h.raised.state]; exact h.cut.link
  have hkept : t.link = LinkWatch.afterReset (t.partState == .run) u.link := by rw [h.shape]
  rw [hkept, hlink]

theorem State.PartReset.root (h : s.PartReset c u t) : t.root = { s.root with pendingRoot := none, unsavedCounter := none } := by
  rw [h.shape, h.raised.state]
  exact h.cut.root

theorem State.PartReset.renewal_raised (h : s.PartReset c u t) : u.renewal = { s.renewal with
    list := [], contexts := c.renewal.contexts, backoff := Vector.replicate 23 {}, bootBackoff := {}, bootRelist := .idle } := by
  rw [h.raised.state]
  exact h.cut.renewal

theorem State.PartReset.renewal (h : s.PartReset c u t) : t.renewal = { s.renewal with
    list := t.renewal.list, contexts := t.renewal.contexts, backoff := t.renewal.backoff, bootBackoff := {}
    bootRelist := t.renewal.bootRelist, received := t.renewal.received, notListed := t.renewal.notListed
    replaced := t.renewal.replaced } := by
  rw [h.resent.renewal, h.renewal_raised]

theorem State.PartReset.ctx (h : s.PartReset c u t) (d : Nat) :
    t.ctx d = if (s.ctx d).isOpen = true then {} else s.ctx d := by
  rw [← h.cut.ctx]
  exact State.ctx_congr (by rw [h.resent.renewal, h.raised.state]) d

theorem State.PartReset.backoff (h : s.PartReset c u t) (x : Nat) : t.backoff x = {} := by
  rw [State.backoff_congr (s := u) (by rw [h.resent.renewal]), State.backoff, h.renewal_raised]
  exact slotEntry_replicate ..

theorem State.PartReset.ticks (h : s.PartReset c u t) : t.tick = s.tick ∧ t.intervalTicks = s.intervalTicks := by
  rw [h.shape, h.raised.state]
  exact h.cut.ticks

theorem State.PartReset.messenger (h : s.PartReset c u t) : t.messenger = { s.messenger with
    noSlotMark := false, finished := (s.endedExchanges [0, 1, 2, 3]).foldl joinFinished s.messenger.finished } := by
  have hjoin : (fun (l : List Nat) e => addFinished e l) = joinFinished := funext fun l => funext fun e => addFinished_eq e l
  rw [h.shape, h.raised.state, ← hjoin]
  exact h.cut.messenger

theorem State.PartReset.received (h : s.PartReset c u t) : t.renewal.received =
    if s.sentBefore t.partState = [] then s.renewal.received
    else min (s.renewal.received + (s.sentBefore t.partState).length) 65535 := by
  have hreceived : u.renewal.received = s.renewal.received := by rw [h.renewal_raised]
  rw [h.resent.received, hreceived]

theorem State.PartReset.counts (h : s.PartReset c u t) (hl : (s.sentBefore t.partState).length ≤ 8) :
    t.renewal.notListed = s.renewal.notListed ∧ t.renewal.replaced = s.renewal.replaced ∧ t.renewal.bootRelist = .idle := by
  have hlisted := h.resent.listed hl
  rw [h.renewal_raised] at hlisted
  exact hlisted

theorem State.PartReset.requested (h : s.PartReset c u t) (hl : (s.sentBefore t.partState).length ≤ 8) (x : Nat) :
    (t.slot x).requested = true ↔ x ∈ s.spentBefore ∨ x ∈ s.suspectBefore := by
  refine ⟨fun hx => ?_, fun hx => h.resent.requested hl x (State.mem_sentBefore.mpr hx)⟩
  by_contra hout
  have hclear : (u.slot x).requested = false := by
    rw [h.slot_raised]
    split <;> rfl
  rw [h.resent.others x fun r hr => hout (State.mem_sentBefore.mp ⟨r, hr⟩)] at hx
  exact Bool.false_ne_true (hclear.symm.trans hx)

theorem State.PartReset.list (h : s.PartReset c u t) (hl : (s.sentBefore t.partState).length ≤ 8) :
    t.renewal.list = (s.sentBefore t.partState).mapIdx (anewEntry s.renewal.received) := by
  have hlist : t.renewal.list = ((s.sentBefore t.partState).take 8).mapIdx (anewEntry u.renewal.received) := by
    rw [h.resent.renewal]
  have hreceived : u.renewal.received = s.renewal.received := by rw [h.renewal_raised]
  rw [hlist, hreceived, List.take_of_length_le hl]

theorem map_anewEntry (n : Nat) (l : List (Option Nat × Reason)) :
    (l.mapIdx (anewEntry n)).map (fun e => (e.slot, e.reason)) = l := by
  refine List.ext_getElem (by simp) fun k _ _ => ?_
  rw [List.getElem_map, List.getElem_mapIdx]
  rfl

theorem State.PartReset.raised_anew (h : s.PartReset c u t) : c.Reraised s.faults.nextId s.anewBefore u := by
  have hraised := h.raised
  rwa [h.cut.anewFaults] at hraised

theorem State.PartReset.faults (h : s.PartReset c u t) : t.faults = u.faults := by rw [h.shape]

/-- RESTARTED is the first record until the faults raised anew push it out. -/
theorem State.PartReset.restarted (h : s.PartReset c u t) (hlen : t.faults.records.length < 16) :
    ∃ r rs, t.faults.records = r :: rs ∧ r.kind = .restarted ∧ r.active = false ∧ r.first = s.tick := by
  have hlength := h.raised_anew.records_length
  rw [h.faults] at hlen ⊢
  obtain ⟨rs, hrs⟩ := h.raised_anew.head (by omega)
  exact ⟨_, rs, hrs, rfl, rfl, h.cut.ticks.1⟩

theorem State.PartReset.exact (h : s.PartReset c u t) (hlow : 1 ≤ s.faults.nextId) (hhigh : s.faults.nextId ≤ 255)
    (hlen : s.anewBefore.length ≤ 15) : t.faults =
      { records := resetRecord .restarted s.faults.nextId s.tick
          :: s.anewBefore.mapIdx (anewRecord s.faults.nextId s.tick)
        nextId := (s.faults.nextId + s.anewBefore.length) % 255 + 1 } := by
  have hfaults := h.raised_anew.exact hlow hhigh hlen
  rw [h.cut.ticks.1] at hfaults
  exact h.faults.trans hfaults

theorem State.anewBefore_of_sound (hsound : ∀ x, (s.slot x).spent = false ∧ (s.slot x).suspect = false) :
    s.anewBefore = [] := by
  refine List.flatMap_eq_nil_iff.mpr fun x _ => ?_
  obtain ⟨hspent, hsuspect⟩ := hsound x
  simp [Slot.anew, hspent, hsuspect]

theorem State.PartReset.beacon (h : s.PartReset c u t) : t.beacon = { nextReport := s.beacon.nextReport, oneShot := 1 } := by
  rw [h.shape, h.raised.state]
  exact h.cut.beacon

theorem State.PartReset.shop (h : s.PartReset c u t) : t.sPort = { s.sPort.cutOff with faultCause := true } := by
  rw [h.shape, h.raised.state]
  exact h.cut.shop

theorem State.PartReset.line (h : s.PartReset c u t) : t.lPort = { s.lPort.cutOff with faultCause := true } := by
  rw [h.shape, h.raised.state]
  exact h.cut.line

/-- The L-port: a busy one has been answered, the response of an idle one stands. -/
theorem State.PartReset.line_answer (h : s.PartReset c u t) :
    (s.lPort.cmd.busy = true → t.lPort.answered .refusedState [])
      ∧ (s.lPort.cmd.busy = false →
        t.lPort.response = s.lPort.response ∧ t.lPort.responseCause = s.lPort.responseCause) := by
  rw [h.line]
  refine ⟨fun hbusy => ?_, fun hbusy => ?_⟩
  · rw [PortState.cutOff, if_pos hbusy]
    exact ⟨rfl, rfl, rfl, rfl⟩
  · rw [PortState.cutOff, if_neg (by simp [hbusy]), PortState.afterReset_eq]
    exact ⟨rfl, rfl⟩

theorem State.PartReset.portReset (h : s.PartReset c u t) (p : Port) :
    (t.updPort .s (.withAnswer .done [])).portReset s p := by
  rw [State.portReset_iff]
  cases p with
  | s =>
    have hport : (t.updPort .s (.withAnswer .done [])).port .s = t.sPort.withAnswer .done [] := rfl
    rw [hport, h.shop]
    exact (PortState.cutOff_resetTo _).withAnswer ..
  | l =>
    have hport : (t.updPort .s (.withAnswer .done [])).port .l = t.lPort := rfl
    rw [hport, h.line]
    exact PortState.cutOff_resetTo _

end

/-- Settles O56: the two refusals, then what the reset cuts off, keeps and sends anew, field by field. -/
theorem partResetCutsOffWork : Obligations.PartResetCutsOffWork := by
  unfold Obligations.PartResetCutsOffWork
  have hexec : ∀ s : State, s.sPort.cmd = .idle → exec (.partReset .s) s = .next (partReset .s s) := fun s hidle =>
    congrArg Host.Outcome.next (State.writeCommandWords_permitted (args := []) .partReset hidle rfl rfl)
  refine ⟨fun s hidle hstate => ?_, fun s hidle hstate => ?_⟩
  · rw [hexec s hidle, partReset, if_pos hstate, State.refuse_eq]
    rfl
  have hreset : partReset .s s = s.partResetBlocks.respond .s .done [] := if_neg (by
    rcases hstate with h | h | h | h <;> rw [h] <;> decide)
  obtain ⟨c, u, h⟩ := s.partResetBlocks_partReset
  rw [hexec s hidle, hreset, State.respond_eq]
  generalize s.partResetBlocks = t at h
  obtain ⟨hpool, hsIn, hsOut, hlRx, hlTx, hctrl, hwindow⟩ := h.queues
  have hraised := h.raised_anew
  refine ⟨_, rfl, h.partState, hpool, hsIn, hsOut, hlRx, hlTx, hctrl, hwindow, h.engine, h.burst, h.chan,
    fun x hs => h.slot_staged hs, fun x hs => h.slot_links hs, fun x y hs hy => ?successor, fun x y hs hy => ?predecessor,
    fun x hs => ?unlinked, h.link.trans (LinkWatch.afterReset_run ..), h.root, h.ctx, h.ticks.1, h.ticks.2, h.messenger, h.renewal, h.backoff,
    ⟨h.received, fun hl => ?listed⟩, h.restarted, ⟨?reports, ?count, ?overflow, fun hlow hhigh hlen => h.exact hlow hhigh hlen⟩,
    fun hsound => ?sound, h.beacon, ⟨rfl, rfl, rfl, rfl⟩, h.line_answer.1, h.line_answer.2, h.portReset⟩
  case successor => exact (h.links hs).1.trans (by rw [hy, State.unstagedLink_some])
  case predecessor => exact (h.links hs).2.trans (by rw [hy, State.unstagedLink_some])
  case unlinked => exact ⟨fun hn => (h.links hs).1.trans (by rw [hn]; rfl), fun hn => (h.links hs).2.trans (by rw [hn]; rfl)⟩
  case listed =>
    obtain ⟨hnot, hreplaced, hrelist⟩ := h.counts hl
    exact ⟨hnot, hreplaced, hrelist, h.requested hl, .of_eq (h.list hl), fun _ => (congrArg _ (h.list hl)).trans (map_anewEntry ..)⟩
  case reports =>
    have hreports := hraised.reports
    rwa [← h.faults] at hreports
  case count =>
    have hlength := hraised.records_length
    rwa [← h.faults] at hlength
  case overflow =>
    have hover := hraised.overflow
    rw [← h.faults] at hover
    exact (Bool.eq_iff_iff.mp hover).trans decide_eq_true_iff
  case sound =>
    have hlength := hraised.records_length
    rw [State.anewBefore_of_sound hsound, ← h.faults] at hlength
    exact hlength

end Sys2Proof.Machine
end

section
/-! PROOFS. The law of references, aliases, key links and exchanges (R4, R5, R12, R20 to R22, R28, R115, R132): its clauses by
name, what follows from them together, and the relation of two states of which the law says the same. -/

namespace Sys2Proof.Machine

/-! ### The clauses by name -/

section
variable {s : State}

theorem State.ReferenceLaw.counts (h : s.ReferenceLaw) {x : Nat} (hx : 1 ≤ x ∧ x ≤ 23) : (s.slot x).refs =
    s.countChans (fun c => c.current == some x) + s.countChans (fun c => c.alternate == some x) := by
  obtain ⟨hcounts, -⟩ := h
  exact hcounts x hx.1 hx.2

theorem State.ReferenceLaw.current (h : s.ReferenceLaw) {i x : Nat} (hi : (s.chan i).current = some x) :
    (s.chan i).namesKey = true ∧ (s.slot x).state = .active
      ∧ (s.chan i).state = (if (s.slot x).spent then .exhausted else .opened) ∧ (s.slot x).level = (s.chan i).level := by
  obtain ⟨-, hcurrent, -⟩ := h
  exact hcurrent i x hi

theorem State.ReferenceLaw.alternate (h : s.ReferenceLaw) {i x : Nat} (hi : (s.chan i).alternate = some x) :
    ∃ y, (s.chan i).current = some y ∧ (s.slot y).predecessor = some x := by
  obtain ⟨-, -, halternate, -⟩ := h
  exact halternate i x hi

theorem State.ReferenceLaw.unbound (h : s.ReferenceLaw) {i : Nat} (hkind : (s.chan i).kind = .data)
    (hi : (s.chan i).current = none) : (s.chan i).state = .closing := by
  obtain ⟨-, -, -, hunbound, -⟩ := h
  exact hunbound i hkind hi

theorem State.ReferenceLaw.control (h : s.ReferenceLaw) : (∀ i, i ≠ 0 → (s.chan i).kind ≠ .control)
    ∧ (s.chan 0).kind = .control ∧ (s.chan 0).level = 0 ∧ ((s.chan 0).current = none → (s.chan 0).state = .opened) := by
  obtain ⟨-, -, -, -, hcontrol⟩ := h
  exact hcontrol

theorem State.AliasLaw.target (h : s.AliasLaw) {i : Nat} (hi : (s.chan i).kind = .aliased) :
    ∃ g, (s.chan i).target = some g ∧ (s.chan g).kind = .data ∧ (s.chan g).state = (s.chan i).state
      ∧ (s.chan i).state ≠ .closing := by
  obtain ⟨htarget, -⟩ := h
  exact htarget i hi

theorem State.AliasLaw.count (h : s.AliasLaw) {g : Nat} (hg : (s.chan g).namesKey = true) :
    (s.chan g).aliasCount = s.countChans (Channel.aliasTo g) := by
  obtain ⟨-, hcount⟩ := h
  exact hcount g hg

theorem State.LinkLaw.mutual (h : s.LinkLaw) (x y : Nat) :
    (s.slot x).successor = some y ↔ (s.slot y).predecessor = some x := by
  obtain ⟨hmutual, -⟩ := h
  exact hmutual x y

theorem State.LinkLaw.states (h : s.LinkLaw) {x y : Nat} (hxy : (s.slot x).successor = some y) :
    ((s.slot x).state = .active ∧ (s.slot y).state = .staged)
      ∨ ((s.slot x).state = .draining ∧ (s.slot y).state = .active) := by
  obtain ⟨-, hstates, -⟩ := h
  exact hstates x y hxy

theorem State.LinkLaw.level (h : s.LinkLaw) {x y : Nat} (hxy : (s.slot x).successor = some y) :
    (s.slot y).level = (s.slot x).level := by
  obtain ⟨-, -, hlevel, -⟩ := h
  exact hlevel x y hxy

theorem State.LinkLaw.unspent (h : s.LinkLaw) {x : Nat} (hx : (s.slot x).state = .staged) : (s.slot x).spent = false := by
  obtain ⟨-, -, -, hunspent, -⟩ := h
  exact hunspent x hx

theorem State.LinkLaw.empty (h : s.LinkLaw) {x : Nat} (hx : (s.slot x).state = .empty) : s.slot x = {} := by
  obtain ⟨-, -, -, -, hempty⟩ := h
  exact hempty x hx

theorem State.ExchangeLaw.free (h : s.ExchangeLaw) {c : Nat} (hc : (s.ctx c).isOpen = false) : s.ctx c = {} := by
  obtain ⟨-, hfree, -⟩ := h
  exact hfree c hc

theorem State.ExchangeLaw.agrees (h : s.ExchangeLaw) {c : Nat} (hc : (s.ctx c).isOpen = true) :
    s.contextAgrees (s.ctx c) := by
  obtain ⟨-, -, hopen, -⟩ := h
  exact (hopen c hc).1

theorem State.ExchangeLaw.exchange (h : s.ExchangeLaw) {c : Nat} (hc : (s.ctx c).isOpen = true) :
    ∃ e, (s.ctx c).exchange = some e ∧ 1 ≤ e ∧ e ≤ 255 := by
  obtain ⟨-, -, hopen, -⟩ := h
  obtain ⟨-, hexchange, -⟩ := hopen c hc
  exact hexchange

theorem State.ExchangeLaw.bounds (h : s.ExchangeLaw) {c : Nat} (hc : (s.ctx c).isOpen = true) :
    1 ≤ (s.ctx c).attempt ∧ (s.ctx c).attempt ≤ 3 ∧ (s.ctx c).reply ≤ 16 := by
  obtain ⟨-, -, hopen, -⟩ := h
  obtain ⟨-, -, hbounds⟩ := hopen c hc
  exact hbounds

theorem State.ExchangeLaw.different (h : s.ExchangeLaw) {c d : Nat} (hcd : c ≠ d) (hc : (s.ctx c).isOpen = true)
    (hd : (s.ctx d).isOpen = true) : (s.ctx c).exchange ≠ (s.ctx d).exchange
      ∧ ((s.ctx c).subject ≠ none → (s.ctx c).subject ≠ (s.ctx d).subject)
      ∧ ∀ y, 1 ≤ y → (s.ctx c).successor = some y → (s.ctx d).successor ≠ some y := by
  obtain ⟨-, -, -, hdifferent, -⟩ := h
  exact hdifferent c d hcd hc hd

theorem State.ExchangeLaw.staged (h : s.ExchangeLaw) {y : Nat} (hy : (s.slot y).state = .staged) :
    ∃ c, (s.ctx c).isOpen = true ∧ (s.ctx c).successor = some y := by
  obtain ⟨-, -, -, -, hstaged, -⟩ := h
  exact hstaged y hy

theorem State.ExchangeLaw.next (h : s.ExchangeLaw) : 1 ≤ s.messenger.nextExchange ∧ s.messenger.nextExchange ≤ 255 := by
  obtain ⟨hnext, -⟩ := h
  exact hnext

theorem State.ExchangeLaw.nodup (h : s.ExchangeLaw) : (s.renewal.list.map (·.slot)).Nodup := by
  obtain ⟨-, -, -, -, -, hnodup, -⟩ := h
  exact hnodup

theorem State.ExchangeLaw.listed (h : s.ExchangeLaw) {e : Entry} (he : e ∈ s.renewal.list) {x : Nat} (hx : e.slot = some x) :
    (s.slot x).state = .active ∧ ∀ c, (s.ctx c).isOpen = true → (s.ctx c).subject ≠ some x := by
  obtain ⟨-, -, -, -, -, -, hlisted⟩ := h
  exact hlisted e he x hx

theorem State.KeyLaw.references (h : s.KeyLaw) : s.ReferenceLaw := by
  obtain ⟨hreferences, -⟩ := h
  exact hreferences

theorem State.KeyLaw.aliases (h : s.KeyLaw) : s.AliasLaw := by
  obtain ⟨-, haliases, -⟩ := h
  exact haliases

theorem State.KeyLaw.links (h : s.KeyLaw) : s.LinkLaw := by
  obtain ⟨-, -, hlinks, -⟩ := h
  exact hlinks

theorem State.KeyLaw.exchanges (h : s.KeyLaw) : s.ExchangeLaw := by
  obtain ⟨-, -, -, hexchanges⟩ := h
  exact hexchanges

end

/-! ### What an open context can be (R132, R139) -/

/-- A slot says the same of its links. -/
def Slot.LinksAs (v w : Slot) : Prop :=
  w.state = v.state ∧ w.level = v.level ∧ w.predecessor = v.predecessor ∧ w.successor = v.successor

theorem Slot.LinksAs.refl (v : Slot) : v.LinksAs v := ⟨rfl, rfl, rfl, rfl⟩

/-- A context says the same, or has been left as it was by being FREE. -/
structure Context.Alike (c d : Context) : Prop where
  tells : d.state = c.state ∧ d.exchange = c.exchange ∧ d.kind = c.kind ∧ d.subject = c.subject ∧ d.successor = c.successor
  free : c = {} → d = {}
  bounds : 1 ≤ c.attempt ∧ c.attempt ≤ 3 ∧ c.reply ≤ 16 → 1 ≤ d.attempt ∧ d.attempt ≤ 3 ∧ d.reply ≤ 16

theorem Context.Alike.refl (c : Context) : c.Alike c := ⟨⟨rfl, rfl, rfl, rfl, rfl⟩, id, id⟩

theorem Context.Alike.trans {c d e : Context} (h : c.Alike d) (k : d.Alike e) : c.Alike e := by
  obtain ⟨hstate, hexchange, hkind, hsubject, hsuccessor⟩ := h.tells
  obtain ⟨kstate, kexchange, kkind, ksubject, ksuccessor⟩ := k.tells
  exact ⟨⟨kstate.trans hstate, kexchange.trans hexchange, kkind.trans hkind, ksubject.trans hsubject,
    ksuccessor.trans hsuccessor⟩, k.free ∘ h.free, k.bounds ∘ h.bounds⟩

theorem Context.Alike.isOpen {c d : Context} (h : c.Alike d) : d.isOpen = c.isOpen := by
  obtain ⟨hstate, -⟩ := h.tells
  rw [Context.isOpen, hstate, Context.isOpen]

/-- The kinds of open contexts, one constructor each. -/
inductive State.ContextIs (s : State) (c : Context) : Prop where
  | asking (x : Nat) (kind : c.kind = some .renewal) (state : c.state = .awaitDelivery) (subject : c.subject = some x)
      (active : (s.slot x).state = .active) (first : (s.slot x).predecessor = none) (last : (s.slot x).successor = none)
      (successor : c.successor = none)
  | renewing (x y : Nat) (kind : c.kind = some .renewal) (state : c.state = .awaitCommit) (subject : c.subject = some x)
      (active : (s.slot x).state = .active) (first : (s.slot x).predecessor = none) (link : (s.slot x).successor = some y)
      (successor : c.successor = some y)
  | booting (kind : c.kind = some .boot) (state : c.state = .awaitDelivery) (subject : c.subject = none)
      (successor : c.successor = none)
  | installing (y : Nat) (kind : c.kind = some .boot ∨ c.kind = some .install) (state : c.state = .awaitCommit)
      (subject : c.subject = none) (successor : c.successor = some y) (staged : (s.slot y).state = .staged)
      (unlinked : (s.slot y).predecessor = none) (level : (s.chan 0).current = none → (s.slot y).level = 0)
  | root (kind : c.kind = some .root) (state : c.state = .awaitCommit) (subject : c.subject = none)
      (successor : c.successor = some 0)

theorem State.contextAgrees_iff (s : State) (c : Context) : s.contextAgrees c ↔ s.ContextIs c := by
  constructor
  · intro h
    unfold State.contextAgrees at h
    split at h
    next hkind hstate =>
      obtain ⟨x, hsubject, hactive, hfirst, hlast, hsuccessor⟩ := h
      exact .asking x hkind hstate hsubject hactive hfirst hlast hsuccessor
    next hkind hstate =>
      obtain ⟨x, y, hsubject, hactive, hfirst, hlink, hsuccessor⟩ := h
      exact .renewing x y hkind hstate hsubject hactive hfirst hlink hsuccessor
    next hkind hstate =>
      obtain ⟨hsubject, hsuccessor⟩ := h
      exact .booting hkind hstate hsubject hsuccessor
    next hkind hstate =>
      obtain ⟨hsubject, y, hsuccessor, hstaged, hunlinked, hlevel⟩ := h
      exact .installing y (.inl hkind) hstate hsubject hsuccessor hstaged hunlinked hlevel
    next hkind hstate =>
      obtain ⟨hsubject, y, hsuccessor, hstaged, hunlinked, hlevel⟩ := h
      exact .installing y (.inr hkind) hstate hsubject hsuccessor hstaged hunlinked hlevel
    next hkind hstate =>
      obtain ⟨hsubject, hsuccessor⟩ := h
      exact .root hkind hstate hsubject hsuccessor
    next => exact h.elim
  · intro h
    unfold State.contextAgrees
    cases h with
    | asking x hkind hstate hsubject hactive hfirst hlast hsuccessor =>
      rw [hkind, hstate]
      exact ⟨x, hsubject, hactive, hfirst, hlast, hsuccessor⟩
    | renewing x y hkind hstate hsubject hactive hfirst hlink hsuccessor =>
      rw [hkind, hstate]
      exact ⟨x, y, hsubject, hactive, hfirst, hlink, hsuccessor⟩
    | booting hkind hstate hsubject hsuccessor =>
      rw [hkind, hstate]
      exact ⟨hsubject, hsuccessor⟩
    | installing y hkind hstate hsubject hsuccessor hstaged hunlinked hlevel =>
      rw [hstate]
      rcases hkind with hkind | hkind <;> rw [hkind] <;> exact ⟨hsubject, y, hsuccessor, hstaged, hunlinked, hlevel⟩
    | root hkind hstate hsubject hsuccessor =>
      rw [hkind, hstate]
      exact ⟨hsubject, hsuccessor⟩

theorem State.KeyLaw.contextIs {s : State} (h : s.KeyLaw) {c : Nat} (hc : (s.ctx c).isOpen = true) : s.ContextIs (s.ctx c) :=
  (State.contextAgrees_iff ..).mp (h.exchanges.agrees hc)

/-- A context that says the same agrees with slots that say the same of those it names. -/
theorem State.ContextIs.congr {s t : State} {c d : Context} (h : s.ContextIs c) (hcd : c.Alike d)
    (hslot : ∀ x, c.subject = some x ∨ c.successor = some x → (s.slot x).LinksAs (t.slot x))
    (hbound : (t.chan 0).current = none → (s.chan 0).current = none) : t.contextAgrees d := by
  obtain ⟨dstate, -, dkind, dsubject, dsuccessor⟩ := hcd.tells
  rw [State.contextAgrees_iff]
  cases h with
  | asking x hkind hstate hsubject hactive hfirst hlast hsuccessor =>
    obtain ⟨kstate, -, kfirst, klast⟩ := hslot x (.inl hsubject)
    exact .asking x (dkind.trans hkind) (dstate.trans hstate) (dsubject.trans hsubject) (kstate.trans hactive)
      (kfirst.trans hfirst) (klast.trans hlast) (dsuccessor.trans hsuccessor)
  | renewing x y hkind hstate hsubject hactive hfirst hlink hsuccessor =>
    obtain ⟨kstate, -, kfirst, klast⟩ := hslot x (.inl hsubject)
    exact .renewing x y (dkind.trans hkind) (dstate.trans hstate) (dsubject.trans hsubject) (kstate.trans hactive)
      (kfirst.trans hfirst) (klast.trans hlink) (dsuccessor.trans hsuccessor)
  | booting hkind hstate hsubject hsuccessor =>
    exact .booting (dkind.trans hkind) (dstate.trans hstate) (dsubject.trans hsubject) (dsuccessor.trans hsuccessor)
  | installing y hkind hstate hsubject hsuccessor hstaged hunlinked hlevel =>
    obtain ⟨kstate, klevel, kfirst, -⟩ := hslot y (.inr hsuccessor)
    exact .installing y (by rwa [dkind]) (dstate.trans hstate) (dsubject.trans hsubject) (dsuccessor.trans hsuccessor)
      (kstate.trans hstaged) (kfirst.trans hunlinked) fun hnone => klevel.trans (hlevel (hbound hnone))
  | root hkind hstate hsubject hsuccessor =>
    exact .root (dkind.trans hkind) (dstate.trans hstate) (dsubject.trans hsubject) (dsuccessor.trans hsuccessor)

/-! ### What the laws say together -/

section
variable {s : State}

theorem State.KeyLaw.current_active (h : s.KeyLaw) {i x : Nat} (hi : (s.chan i).current = some x) :
    (s.slot x).state = .active := by
  obtain ⟨-, hactive, -⟩ := h.references.current hi
  exact hactive

/-- An alternate slot is DRAINING. -/
theorem State.KeyLaw.alternate_draining (h : s.KeyLaw) {i x : Nat} (hi : (s.chan i).alternate = some x) :
    (s.slot x).state = .draining := by
  obtain ⟨y, hy, hxy⟩ := h.references.alternate hi
  have hactive := h.current_active hy
  rcases h.links.states ((h.links.mutual x y).mpr hxy) with ⟨-, hstaged⟩ | ⟨hdraining, -⟩
  · nomatch hactive.symm.trans hstaged
  · exact hdraining

/-- A channel that names no key names no slot. -/
theorem State.KeyLaw.unnamed (h : s.KeyLaw) {i : Nat} (hi : (s.chan i).namesKey = false) :
    (s.chan i).current = none ∧ (s.chan i).alternate = none := by
  have hcurrent : (s.chan i).current = none := by
    by_contra hsome
    obtain ⟨x, hx⟩ := Option.ne_none_iff_exists'.mp hsome
    obtain ⟨hnames, -⟩ := h.references.current hx
    exact Bool.false_ne_true (hi.symm.trans hnames)
  refine ⟨hcurrent, ?_⟩
  by_contra hsome
  obtain ⟨x, hx⟩ := Option.ne_none_iff_exists'.mp hsome
  obtain ⟨y, hy, -⟩ := h.references.alternate hx
  nomatch hcurrent.symm.trans hy

theorem State.KeyLaw.alternate_of_unbound (h : s.KeyLaw) {i : Nat} (hi : (s.chan i).current = none) :
    (s.chan i).alternate = none := by
  by_contra hsome
  obtain ⟨x, hx⟩ := Option.ne_none_iff_exists'.mp hsome
  obtain ⟨y, hy, -⟩ := h.references.alternate hx
  nomatch hi.symm.trans hy

/-- No channel names a slot that is neither ACTIVE nor DRAINING. -/
theorem State.KeyLaw.unreferenced (h : s.KeyLaw) {x : Nat} (hactive : (s.slot x).state ≠ .active)
    (hdraining : (s.slot x).state ≠ .draining) (i : Nat) : (s.chan i).current ≠ some x ∧ (s.chan i).alternate ≠ some x :=
  ⟨fun hi => hactive (h.current_active hi), fun hi => hdraining (h.alternate_draining hi)⟩

theorem State.slot_bounds {x : Nat} (hx : (s.slot x).state ≠ .empty) : 1 ≤ x ∧ x ≤ 23 := by
  by_contra hout
  exact hx (by rw [State.slot_out s x hout])

/-- A CLOSING descriptor is DATA and names no slot. -/
theorem State.KeyLaw.closing (h : s.KeyLaw) {i : Nat} (hi : (s.chan i).state = .closing) :
    i ≠ 0 ∧ (s.chan i).current = none ∧ (s.chan i).alternate = none ∧ (s.chan i).kind ≠ .aliased := by
  have hcurrent : (s.chan i).current = none := by
    by_contra hsome
    obtain ⟨x, hx⟩ := Option.ne_none_iff_exists'.mp hsome
    obtain ⟨-, -, hstate, -⟩ := h.references.current hx
    rw [hi] at hstate
    split at hstate <;> nomatch hstate
  refine ⟨fun h0 => ?_, hcurrent, h.alternate_of_unbound hcurrent, fun hkind => ?_⟩
  · subst h0
    obtain ⟨-, -, -, hopened⟩ := h.references.control
    nomatch hi.symm.trans (hopened hcurrent)
  · obtain ⟨g, -, -, -, hclosing⟩ := h.aliases.target hkind
    exact hclosing hi

/-- An EMPTY slot says nothing, and none says anything of it. -/
theorem State.LinkLaw.unlinked (h : s.LinkLaw) {x : Nat} (hx : (s.slot x).state = .empty) (z : Nat) :
    (s.slot z).successor ≠ some x ∧ (s.slot z).predecessor ≠ some x := by
  have hempty := h.empty hx
  refine ⟨fun hz => ?_, fun hz => ?_⟩
  · have hback := (h.mutual z x).mp hz
    rw [hempty] at hback
    nomatch hback
  · have hback := (h.mutual x z).mpr hz
    rw [hempty] at hback
    nomatch hback

/-- A STAGED key with a predecessor is the successor of a RENEWAL context, whose subject that predecessor is. -/
theorem State.KeyLaw.renewing_of_link (h : s.KeyLaw) {x y : Nat} (hxy : (s.slot x).successor = some y)
    (hy : (s.slot y).state = .staged) : ∃ c, (s.ctx c).isOpen = true ∧ (s.ctx c).kind = some .renewal
      ∧ (s.ctx c).state = .awaitCommit ∧ (s.ctx c).subject = some x ∧ (s.ctx c).successor = some y := by
  obtain ⟨c, hopen, hsuccessor⟩ := h.exchanges.staged hy
  have hpredecessor := (h.links.mutual x y).mp hxy
  cases h.contextIs hopen with
  | asking _ _ _ _ _ _ _ hnone => nomatch hnone.symm.trans hsuccessor
  | renewing z w hkind hstate hsubject _ _ hlink hw =>
    obtain rfl : w = y := Option.some.inj (hw.symm.trans hsuccessor)
    obtain rfl : z = x := Option.some.inj (((h.links.mutual z w).mp hlink).symm.trans hpredecessor)
    exact ⟨c, hopen, hkind, hstate, hsubject, hsuccessor⟩
  | booting _ _ _ hnone => nomatch hnone.symm.trans hsuccessor
  | installing w _ _ _ hw _ hunlinked =>
    obtain rfl : w = y := Option.some.inj (hw.symm.trans hsuccessor)
    nomatch hunlinked.symm.trans hpredecessor
  | root _ _ _ hw =>
    obtain rfl : 0 = y := Option.some.inj (hw.symm.trans hsuccessor)
    rw [State.slot_zero] at hy
    nomatch hy

/-- The subject of an open context is ACTIVE. -/
theorem State.KeyLaw.subject_active (h : s.KeyLaw) {c x : Nat} (hc : (s.ctx c).isOpen = true)
    (hx : (s.ctx c).subject = some x) : (s.slot x).state = .active := by
  cases h.contextIs hc with
  | asking y _ _ hy hactive => rwa [← Option.some.inj (hy.symm.trans hx)]
  | renewing y _ _ _ hy hactive => rwa [← Option.some.inj (hy.symm.trans hx)]
  | booting _ _ hnone => nomatch hnone.symm.trans hx
  | installing _ _ _ hnone => nomatch hnone.symm.trans hx
  | root _ _ hnone => nomatch hnone.symm.trans hx

/-- The successor of an open context is STAGED, or it is the root. -/
theorem State.KeyLaw.successor_staged (h : s.KeyLaw) {c y : Nat} (hc : (s.ctx c).isOpen = true)
    (hy : (s.ctx c).successor = some y) : y = 0 ∨ (s.slot y).state = .staged := by
  cases h.contextIs hc with
  | asking _ _ _ _ _ _ _ hnone => nomatch hnone.symm.trans hy
  | renewing x z _ _ _ hactive _ hlink hz =>
    obtain rfl : z = y := Option.some.inj (hz.symm.trans hy)
    rcases h.links.states hlink with ⟨-, hstaged⟩ | ⟨hdraining, -⟩
    · exact .inr hstaged
    · nomatch hdraining.symm.trans hactive
  | booting _ _ _ hnone => nomatch hnone.symm.trans hy
  | installing z _ _ _ hz hstaged => exact .inr (by rwa [← Option.some.inj (hz.symm.trans hy)])
  | root _ _ _ hz => exact .inl (Option.some.inj (hz.symm.trans hy)).symm

end

/-! ### Counting descriptors -/

theorem State.countChans_congr {s t : State} {p q : Channel → Bool} (h : ∀ i, p (t.chan i) = q (s.chan i)) :
    t.countChans p = s.countChans q := by
  rw [State.countChans_eq, State.countChans_eq]
  exact List.countP_congr fun i _ => by rw [h]

theorem countP_update {p q : Nat → Bool} {i : Nat} {l : List Nat} (hl : l.Nodup) (hi : i ∈ l) (h : ∀ j, j ≠ i → p j = q j) :
    l.countP p + (q i).toNat = l.countP q + (p i).toNat := by
  induction l with
  | nil => exact absurd hi List.not_mem_nil
  | cons j l ih =>
    obtain ⟨hj, hl⟩ := List.nodup_cons.mp hl
    rw [List.countP_cons, List.countP_cons]
    by_cases hji : j = i
    · subst hji
      have hrest : l.countP p = l.countP q := List.countP_congr fun k hk => by rw [h k fun hkj => hj (hkj ▸ hk)]
      rw [hrest]
      cases p j <;> cases q j <;> simp
    · have htail := ih hl ((List.mem_cons.mp hi).resolve_left (Ne.symm hji))
      rw [h j hji]
      omega

/-- The count of descriptors when one of them changes. -/
theorem State.countChans_update {s t : State} {q : Channel → Bool} {i : Nat} (hi : i < 48)
    (h : ∀ j, j ≠ i → q (t.chan j) = q (s.chan j)) :
    t.countChans q + (q (s.chan i)).toNat = s.countChans q + (q (t.chan i)).toNat := by
  rw [State.countChans_eq, State.countChans_eq]
  exact countP_update (p := fun j => q (t.chan j)) (q := fun j => q (s.chan j)) List.nodup_range (List.mem_range.mpr hi) h

/-! ### States of which the law says the same -/

/-- What the law reads of a slot and of a descriptor. -/
def Slot.tells (v : Slot) : Slot :=
  { state := v.state, level := v.level, predecessor := v.predecessor, successor := v.successor, refs := v.refs
    spent := v.spent }

def Channel.tells (c : Channel) : Channel :=
  { kind := c.kind, level := c.level, state := c.state, current := c.current, alternate := c.alternate, target := c.target
    aliasCount := c.aliasCount }

/-- Between s and t the request list has kept its part of the law: an entry is of before, or of an ACTIVE slot that no open
context serves. -/
structure State.ListAlike (s t : State) : Prop where
  nodup : (s.renewal.list.map (·.slot)).Nodup → (t.renewal.list.map (·.slot)).Nodup
  listed : ∀ e ∈ t.renewal.list, ∀ x, e.slot = some x → (∃ d ∈ s.renewal.list, d.slot = some x)
    ∨ (s.slot x).state = .active ∧ ∀ c, (s.ctx c).isOpen = true → (s.ctx c).subject ≠ some x

theorem State.ListAlike.same {s t : State} (h : t.renewal.list = s.renewal.list) : s.ListAlike t :=
  ⟨by rw [h]; exact id, fun e he x hx => .inl ⟨e, by rwa [← h], hx⟩⟩

/-- Between s and t nothing has changed that the law reads, but for entries of the list. -/
structure State.Alike (s t : State) : Prop where
  chan : ∀ i, (t.chan i).tells = (s.chan i).tells
  slot : ∀ x, (t.slot x).tells = (s.slot x).tells
  empty : ∀ x, s.slot x = {} → t.slot x = {}
  ctx : ∀ c, (s.ctx c).Alike (t.ctx c)
  next : t.messenger.nextExchange = s.messenger.nextExchange
  list : s.ListAlike t

section
variable {s t u : State}

theorem Slot.tells_eq {v w : Slot} (h : w.tells = v.tells) : w.state = v.state ∧ w.level = v.level
    ∧ w.predecessor = v.predecessor ∧ w.successor = v.successor ∧ w.refs = v.refs ∧ w.spent = v.spent := by
  simpa [Slot.tells] using h

theorem Channel.tells_eq {c d : Channel} (h : d.tells = c.tells) : d.kind = c.kind ∧ d.level = c.level ∧ d.state = c.state
    ∧ d.current = c.current ∧ d.alternate = c.alternate ∧ d.target = c.target ∧ d.aliasCount = c.aliasCount := by
  simpa [Channel.tells] using h

theorem State.Alike.links (h : s.Alike t) (x : Nat) : (s.slot x).LinksAs (t.slot x) := by
  obtain ⟨hstate, hlevel, hfirst, hlast, -⟩ := Slot.tells_eq (h.slot x)
  exact ⟨hstate, hlevel, hfirst, hlast⟩

theorem State.Alike.slot_state (h : s.Alike t) (x : Nat) : (t.slot x).state = (s.slot x).state := by
  obtain ⟨hstate, -⟩ := h.links x
  exact hstate

theorem State.Alike.refs (h : s.Alike t) (x : Nat) : (t.slot x).refs = (s.slot x).refs := by
  obtain ⟨-, -, -, -, hrefs, -⟩ := Slot.tells_eq (h.slot x)
  exact hrefs

theorem State.Alike.spent (h : s.Alike t) (x : Nat) : (t.slot x).spent = (s.slot x).spent := by
  obtain ⟨-, -, -, -, -, hspent⟩ := Slot.tells_eq (h.slot x)
  exact hspent

theorem State.Alike.kind (h : s.Alike t) (i : Nat) : (t.chan i).kind = (s.chan i).kind := by
  obtain ⟨hi, -⟩ := Channel.tells_eq (h.chan i)
  exact hi

theorem State.Alike.level (h : s.Alike t) (i : Nat) : (t.chan i).level = (s.chan i).level := by
  obtain ⟨-, hi, -⟩ := Channel.tells_eq (h.chan i)
  exact hi

theorem State.Alike.chan_state (h : s.Alike t) (i : Nat) : (t.chan i).state = (s.chan i).state := by
  obtain ⟨-, -, hi, -⟩ := Channel.tells_eq (h.chan i)
  exact hi

theorem State.Alike.current (h : s.Alike t) (i : Nat) : (t.chan i).current = (s.chan i).current := by
  obtain ⟨-, -, -, hi, -⟩ := Channel.tells_eq (h.chan i)
  exact hi

theorem State.Alike.alternate (h : s.Alike t) (i : Nat) : (t.chan i).alternate = (s.chan i).alternate := by
  obtain ⟨-, -, -, -, hi, -⟩ := Channel.tells_eq (h.chan i)
  exact hi

theorem State.Alike.target (h : s.Alike t) (i : Nat) : (t.chan i).target = (s.chan i).target := by
  obtain ⟨-, -, -, -, -, hi, -⟩ := Channel.tells_eq (h.chan i)
  exact hi

theorem State.Alike.aliasCount (h : s.Alike t) (i : Nat) : (t.chan i).aliasCount = (s.chan i).aliasCount := by
  obtain ⟨-, -, -, -, -, -, hi⟩ := Channel.tells_eq (h.chan i)
  exact hi

theorem State.Alike.namesKey (h : s.Alike t) (i : Nat) : (t.chan i).namesKey = (s.chan i).namesKey := by
  rw [Channel.namesKey, h.kind, Channel.namesKey]

theorem State.Alike.refl (s : State) : s.Alike s :=
  ⟨fun _ => rfl, fun _ => rfl, fun _ => id, fun _ => .refl _, rfl, .same rfl⟩

theorem State.Alike.trans (h : s.Alike t) (k : t.Alike u) : s.Alike u := by
  refine ⟨fun i => (k.chan i).trans (h.chan i), fun x => (k.slot x).trans (h.slot x), fun x => k.empty x ∘ h.empty x,
    fun c => (h.ctx c).trans (k.ctx c), k.next.trans h.next, k.list.nodup ∘ h.list.nodup, fun e he x hx => ?_⟩
  rcases k.list.listed e he x hx with ⟨d, hd, hdx⟩ | ⟨hactive, hserved⟩
  · exact h.list.listed d hd x hdx
  · refine .inr ⟨(h.slot_state x).symm.trans hactive, fun c hc => ?_⟩
    obtain ⟨-, -, -, hsubject, -⟩ := (h.ctx c).tells
    rw [← hsubject]
    exact hserved c ((h.ctx c).isOpen.trans hc)

theorem State.Alike.ite {c : Prop} [Decidable c] (ht : c → s.Alike t) (hu : ¬ c → s.Alike u) :
    s.Alike (if c then t else u) := by
  split
  next h => exact ht h
  next h => exact hu h

theorem State.Alike.foldl {α : Type} {f : State → α → State} (h : ∀ (s : State) a, s.Alike (f s a)) (l : List α) (s : State) :
    s.Alike (l.foldl f s) := by
  induction l generalizing s with
  | nil => exact .refl s
  | cons a l ih => exact (h s a).trans (ih _)

/-! ### The laws over alike states -/

theorem State.ReferenceLaw.alike (h : s.ReferenceLaw) (k : s.Alike t) : t.ReferenceLaw := by
  obtain ⟨hothers, hkind, hlevel, hopened⟩ := h.control
  refine ⟨fun x h1 h23 => ?_, fun i x hi => ?_, fun i x hi => ?_, fun i hdata hi => ?_, fun i hi => ?_, ?_, ?_, fun h0 => ?_⟩
  · have hcurrent : t.countChans (fun c => c.current == some x) = s.countChans fun c => c.current == some x :=
      State.countChans_congr fun i => by rw [k.current]
    have halternate : t.countChans (fun c => c.alternate == some x) = s.countChans fun c => c.alternate == some x :=
      State.countChans_congr fun i => by rw [k.alternate]
    rw [k.refs, hcurrent, halternate]
    exact h.counts ⟨h1, h23⟩
  · obtain ⟨kstate, klevel, -, -⟩ := k.links x
    rw [k.current] at hi
    rw [k.namesKey, kstate, k.chan_state, k.spent, klevel, k.level]
    exact h.current hi
  · rw [k.alternate] at hi
    obtain ⟨y, hy, hxy⟩ := h.alternate hi
    obtain ⟨-, -, kfirst, -⟩ := k.links y
    exact ⟨y, (k.current i).trans hy, kfirst.trans hxy⟩
  · rw [k.kind] at hdata
    rw [k.current] at hi
    exact (k.chan_state i).trans (h.unbound hdata hi)
  · rw [k.kind]
    exact hothers i hi
  · exact (k.kind 0).trans hkind
  · exact (k.level 0).trans hlevel
  · rw [k.current] at h0
    exact (k.chan_state 0).trans (hopened h0)

theorem State.AliasLaw.alike (h : s.AliasLaw) (k : s.Alike t) : t.AliasLaw := by
  refine ⟨fun i hi => ?_, fun g hg => ?_⟩
  · rw [k.kind] at hi
    obtain ⟨g, htarget, hkind, hstate, hclosing⟩ := h.target hi
    exact ⟨g, (k.target i).trans htarget, (k.kind g).trans hkind, by rw [k.chan_state, k.chan_state, hstate],
      by rwa [k.chan_state]⟩
  · rw [k.namesKey] at hg
    rw [k.aliasCount, State.countChans_congr (s := s) (q := Channel.aliasTo g) fun i => by
      rw [Channel.aliasTo, k.kind, k.target, Channel.aliasTo]]
    exact h.count hg

/-- Links stand where every slot says the same of its own. -/
theorem State.LinkLaw.congr (h : s.LinkLaw) (k : ∀ x, (s.slot x).LinksAs (t.slot x))
    (hspent : ∀ x, (s.slot x).state = .staged → (s.slot x).spent = false → (t.slot x).spent = false)
    (hempty : ∀ x, s.slot x = {} → t.slot x = {}) : t.LinkLaw := by
  refine ⟨fun x y => ?_, fun x y hxy => ?_, fun x y hxy => ?_, fun x hx => ?_, fun x hx => ?_⟩
  · obtain ⟨-, -, -, klast⟩ := k x
    obtain ⟨-, -, kfirst, -⟩ := k y
    rw [klast, kfirst]
    exact h.mutual x y
  · obtain ⟨kx, -, -, klast⟩ := k x
    obtain ⟨ky, -, -, -⟩ := k y
    rw [klast] at hxy
    rw [kx, ky]
    exact h.states hxy
  · obtain ⟨-, kx, -, klast⟩ := k x
    obtain ⟨-, ky, -, -⟩ := k y
    rw [klast] at hxy
    rw [kx, ky]
    exact h.level hxy
  · obtain ⟨kx, -⟩ := k x
    rw [kx] at hx
    exact hspent x hx (h.unspent hx)
  · obtain ⟨kx, -⟩ := k x
    rw [kx] at hx
    exact hempty x (h.empty hx)

/-- Exchanges stand where contexts that stay open and the slots they name say the same, and every STAGED key was one before
and has kept its context; other contexts have become FREE. -/
theorem State.ExchangeLaw.freed (h : s.ExchangeLaw) (hctx : ∀ c, (s.ctx c).Alike (t.ctx c) ∨ t.ctx c = {})
    (hslot : ∀ c x, (s.ctx c).isOpen = true → (t.ctx c).isOpen = true →
      (s.ctx c).subject = some x ∨ (s.ctx c).successor = some x → (s.slot x).LinksAs (t.slot x))
    (hbound : (t.chan 0).current = none → (s.chan 0).current = none)
    (hnext : t.messenger.nextExchange = s.messenger.nextExchange)
    (hstaged : ∀ y, (t.slot y).state = .staged → (s.slot y).state = .staged
      ∧ ∀ c, (s.ctx c).isOpen = true → (s.ctx c).successor = some y → (s.ctx c).Alike (t.ctx c))
    (hactive : ∀ x, (s.slot x).state = .active → (∀ c, (s.ctx c).isOpen = true → (s.ctx c).subject ≠ some x) →
      (t.slot x).state = .active)
    (hlist : s.ListAlike t) : t.ExchangeLaw := by
  have hopen : ∀ {c}, (t.ctx c).isOpen = true → (s.ctx c).Alike (t.ctx c) ∧ (s.ctx c).isOpen = true := fun {c} hc => by
    have halike := (hctx c).resolve_right fun hfree => by rw [hfree] at hc; nomatch hc
    exact ⟨halike, halike.isOpen.symm.trans hc⟩
  refine ⟨by rw [hnext]; exact h.next, fun c hc => ?_, fun c hc => ?_, fun c d hcd hc hd => ?_, fun y hy => ?_,
    hlist.nodup h.nodup, fun e he x hx => ?_⟩
  · rcases hctx c with halike | hfree
    · exact halike.free (h.free (halike.isOpen.symm.trans hc))
    · exact hfree
  · obtain ⟨halike, hcs⟩ := hopen hc
    obtain ⟨-, hexchange, -⟩ := halike.tells
    exact ⟨State.ContextIs.congr ((State.contextAgrees_iff ..).mp (h.agrees hcs)) halike (fun x hx => hslot c x hcs hc hx) hbound,
      by rw [hexchange]; exact h.exchange hcs, halike.bounds (h.bounds hcs)⟩
  · obtain ⟨calike, hcs⟩ := hopen hc
    obtain ⟨dalike, hds⟩ := hopen hd
    obtain ⟨-, cexchange, -, csubject, csuccessor⟩ := calike.tells
    obtain ⟨-, dexchange, -, dsubject, dsuccessor⟩ := dalike.tells
    rw [cexchange, dexchange, csubject, dsubject, csuccessor, dsuccessor]
    exact h.different hcd hcs hds
  · obtain ⟨hys, hkept⟩ := hstaged y hy
    obtain ⟨c, hc, hsuccessor⟩ := h.staged hys
    have halike := hkept c hc hsuccessor
    obtain ⟨-, -, -, -, csuccessor⟩ := halike.tells
    exact ⟨c, halike.isOpen.trans hc, csuccessor.trans hsuccessor⟩
  · obtain ⟨hx1, hx2⟩ : (s.slot x).state = .active ∧ ∀ c, (s.ctx c).isOpen = true → (s.ctx c).subject ≠ some x := by
      rcases hlist.listed e he x hx with ⟨d, hd, hdx⟩ | hnew
      · exact h.listed hd hdx
      · exact hnew
    refine ⟨hactive x hx1 hx2, fun c hc => ?_⟩
    obtain ⟨halike, hcs⟩ := hopen hc
    obtain ⟨-, -, -, csubject, -⟩ := halike.tells
    rw [csubject]
    exact hx2 c hcs

/-- Exchanges stand where contexts and the slots they name say the same, and every STAGED key was one before. -/
theorem State.ExchangeLaw.congr (h : s.ExchangeLaw) (hctx : ∀ c, (s.ctx c).Alike (t.ctx c))
    (hslot : ∀ c x, (s.ctx c).isOpen = true → (s.ctx c).subject = some x ∨ (s.ctx c).successor = some x →
      (s.slot x).LinksAs (t.slot x))
    (hbound : (t.chan 0).current = none → (s.chan 0).current = none)
    (hnext : t.messenger.nextExchange = s.messenger.nextExchange)
    (hstaged : ∀ y, (t.slot y).state = .staged → (s.slot y).state = .staged)
    (hactive : ∀ x, (s.slot x).state = .active → (∀ c, (s.ctx c).isOpen = true → (s.ctx c).subject ≠ some x) →
      (t.slot x).state = .active)
    (hlist : s.ListAlike t) : t.ExchangeLaw :=
  h.freed (fun c => .inl (hctx c)) (fun c x hc _ => hslot c x hc) hbound hnext
    (fun y hy => ⟨hstaged y hy, fun c _ _ => hctx c⟩) hactive hlist

/-- The law stands over alike states. -/
theorem State.Alike.law (k : s.Alike t) (h : s.KeyLaw) : t.KeyLaw :=
  ⟨h.references.alike k, h.aliases.alike k,
    h.links.congr k.links (fun x _ hx => (k.spent x).trans hx) k.empty,
    h.exchanges.congr k.ctx (fun _ x _ _ => k.links x) (fun h0 => (k.current 0).symm.trans h0) k.next
      (fun y hy => (k.slot_state y).symm.trans hy) (fun x hx _ => (k.slot_state x).trans hx) k.list⟩

end

end Sys2Proof.Machine
end

section
/-! PROOFS. The operations over which the law of keys says the same: updates of the tables that touch none of what it reads,
triggers and the request list, compositions, counts and windows, the timers of the other blocks. -/

namespace Sys2Proof.Machine

/-! ### How it is shown -/

/-- None of what the law reads has changed. -/
theorem State.Alike.same {s t : State} (h : t.chans = s.chans ∧ t.slots = s.slots ∧ t.renewal.contexts = s.renewal.contexts
    ∧ t.renewal.list = s.renewal.list ∧ t.messenger.nextExchange = s.messenger.nextExchange) : s.Alike t := by
  obtain ⟨hchans, hslots, hcontexts, hlist, hnext⟩ := h
  exact ⟨fun i => by rw [State.chan_congr hchans], fun x => by rw [State.slot_congr hslots],
    fun x hx => by rw [State.slot_congr hslots, hx], fun c => by rw [State.ctx_congr hcontexts]; exact .refl _, hnext, .same hlist⟩

/-- Channels and slots say the same; all else stands. -/
theorem State.Alike.of_tables {s t : State} (hchan : ∀ i, (t.chan i).tells = (s.chan i).tells)
    (hslot : ∀ x, (t.slot x).tells = (s.slot x).tells) (hempty : ∀ x, s.slot x = {} → t.slot x = {})
    (h : t.renewal.contexts = s.renewal.contexts ∧ t.renewal.list = s.renewal.list
      ∧ t.messenger.nextExchange = s.messenger.nextExchange) : s.Alike t := by
  obtain ⟨hcontexts, hlist, hnext⟩ := h
  exact ⟨hchan, hslot, hempty, fun c => by rw [State.ctx_congr hcontexts]; exact .refl _, hnext, .same hlist⟩

theorem State.updSlot_alike {x : Nat} {f : Slot → Slot} {s : State} (h : (f (s.slot x)).tells = (s.slot x).tells)
    (hempty : s.slot x = {} → f (s.slot x) = {}) : s.Alike (s.updSlot x f) := by
  refine .of_tables (fun i => by simp) (fun y => ?_) (fun y hy => ?_) (by simp)
  · rw [State.slot_updSlot]
    split
    next hyx => rw [hyx.1]; exact h
    next => rfl
  · rw [State.slot_updSlot]
    split
    next hyx => exact hempty (by rw [← hyx.1]; exact hy)
    next => exact hy

/-- A change of a slot that is not EMPTY. -/
theorem State.updSlot_alike_of_kept {x : Nat} {f : Slot → Slot} {s : State} (hx : (s.slot x).state ≠ .empty)
    (h : (f (s.slot x)).tells = (s.slot x).tells) : s.Alike (s.updSlot x f) :=
  State.updSlot_alike h fun hempty => absurd (by rw [hempty]) hx

theorem State.mapSlots_alike {f : Nat → Slot → Slot} {s : State} (h : ∀ x, (f x (s.slot x)).tells = (s.slot x).tells)
    (hempty : ∀ x, f x {} = {}) : s.Alike (s.mapSlots f) := by
  refine .of_tables (fun i => by simp) (fun y => ?_) (fun y hy => ?_) (by simp)
  · rw [State.slot_mapSlots]
    split
    · exact h y
    next hout => rw [State.slot_out s y hout]
  · rw [State.slot_mapSlots]
    split
    · rw [hy, hempty]
    · rfl

theorem State.updChan_alike {i : Nat} {f : Channel → Channel} {s : State} (h : (f (s.chan i)).tells = (s.chan i).tells) :
    s.Alike (s.updChan i f) := by
  refine .of_tables (fun j => ?_) (fun x => by simp) (fun x hx => by simpa using hx) (by simp)
  rw [State.chan_updChan]
  split
  next hj => rw [hj.1]; exact h
  next => rfl

theorem State.mapChans_alike {f : Nat → Channel → Channel} {s : State} (h : ∀ i, (f i (s.chan i)).tells = (s.chan i).tells) :
    s.Alike (s.mapChans f) := by
  refine .of_tables (fun j => ?_) (fun x => by simp) (fun x hx => by simpa using hx) (by simp)
  rw [State.chan_mapChans]
  split
  · exact h j
  next hout => rw [State.chan_out s j hout]

theorem State.updCtx_alike {c : Nat} {f : Context → Context} {s : State} (h : (s.ctx c).Alike (f (s.ctx c))) :
    s.Alike (s.updCtx c f) := by
  refine ⟨fun i => by simp, fun x => by simp, fun x hx => by simpa using hx, fun d => ?_, by simp, .same (by simp)⟩
  rw [State.ctx_updCtx]
  split
  next hd => rw [hd.1]; exact h
  next => exact .refl _

theorem Context.Alike.of_open {c d : Context} (hc : c.isOpen = true)
    (htells : d.state = c.state ∧ d.exchange = c.exchange ∧ d.kind = c.kind ∧ d.subject = c.subject ∧ d.successor = c.successor)
    (hbounds : 1 ≤ c.attempt ∧ c.attempt ≤ 3 ∧ c.reply ≤ 16 → 1 ≤ d.attempt ∧ d.attempt ≤ 3 ∧ d.reply ≤ 16) : c.Alike d :=
  ⟨htells, fun hfree => absurd (hfree ▸ hc) (by decide), hbounds⟩

/-! ### Triggers and the request list -/

/-- A trigger of o may be listed: its slot is ACTIVE, and no open context serves it. -/
def State.Listable (s : State) (o : Option Nat) : Prop :=
  ∀ x, o = some x → (s.slot x).state = .active ∧ ∀ c, (s.ctx c).isOpen = true → (s.ctx c).subject ≠ some x

theorem State.ListAlike.insert {s t : State} {o : Option Nat} {f : Entry} {l : List Entry} (hl : l.Sublist s.renewal.list)
    (hnew : ∀ e ∈ l, e.slot ≠ o) (hf : f.slot = o) (ho : s.Listable o) (ht : t.renewal.list = insertEntry f l) :
    s.ListAlike t := by
  refine ⟨fun h => ?_, fun e he x hx => ?_⟩
  · rw [ht, ((insertEntry_perm f l).map _).nodup_iff, List.map_cons, List.nodup_cons, hf]
    refine ⟨fun hmem => ?_, h.sublist (hl.map _)⟩
    obtain ⟨e, he, heo⟩ := List.mem_map.mp hmem
    exact hnew e he heo
  · rw [ht, (insertEntry_perm f l).mem_iff, List.mem_cons] at he
    rcases he with rfl | he
    · exact .inr (ho x (hf.symm.trans hx))
    · exact .inl ⟨e, hl.subset he, hx⟩

/-- The request list alone has changed. -/
theorem State.Alike.of_list {s t : State} (hlist : s.ListAlike t) (h : t.chans = s.chans ∧ t.slots = s.slots
    ∧ t.renewal.contexts = s.renewal.contexts ∧ t.messenger.nextExchange = s.messenger.nextExchange) : s.Alike t := by
  obtain ⟨hchans, hslots, hcontexts, hnext⟩ := h
  exact ⟨fun i => by rw [State.chan_congr hchans], fun x => by rw [State.slot_congr hslots],
    fun x hx => by rw [State.slot_congr hslots, hx], fun c => by rw [State.ctx_congr hcontexts]; exact .refl _, hnext, hlist⟩

theorem State.clearRequested_alike (o : Option Nat) (s : State) : s.Alike (s.setRequested o false) := by
  cases o with
  | none => exact .refl s
  | some x => exact State.updSlot_alike (f := fun v => { v with requested := false }) rfl fun hx => by rw [hx]

theorem State.setRequested_alike {x : Nat} (b : Bool) {s : State} (hx : (s.slot x).state ≠ .empty) :
    s.Alike (s.setRequested (some x) b) :=
  State.updSlot_alike_of_kept (f := fun v => { v with requested := b }) hx rfl

theorem State.listNew_alike {o : Option Nat} (r : Reason) {s : State} (ho : s.Listable o)
    (hnew : ∀ e ∈ s.renewal.list, e.slot ≠ o) : s.Alike (s.listNew o r).1 := by
  unfold State.listNew
  dsimp only
  split
  · exact .of_list (.insert (.refl _) hnew rfl ho rfl) (by simp)
  · split
    · split
      · exact .trans (.of_list (.insert (List.dropLast_sublist _) (fun e he => hnew e (List.dropLast_subset _ he)) rfl ho rfl)
          (by simp)) (State.clearRequested_alike ..)
      · exact .trans (.same (by simp)) (State.clearRequested_alike ..)
    · exact .refl s

theorem State.listTrigger_alike {o : Option Nat} (r : Reason) {s : State} (ho : s.Listable o) :
    s.Alike (s.listTrigger o r).1 := by
  unfold State.listTrigger
  split
  next e he =>
    have hslot : e.slot = o := by simpa using List.find?_some he
    split
    · exact .of_list (.insert (f := { e with urgency := r.urgency, reason := r }) (l := s.renewal.list.filter fun d => d.slot != o) List.filter_sublist (by simp) hslot ho rfl) (by simp)
    · exact .refl s
  next hnone => exact State.listNew_alike r ho (by simpa using hnone)

theorem State.listable_of_unserved {s : State} {o : Option Nat} (hunserved : (s.findCtx (Context.serves o)).isSome = false)
    (hactive : ∀ x, o = some x → (s.slot x).state = .active) : s.Listable o := by
  rintro x rfl
  refine ⟨hactive x rfl, fun c hc hsubject => ?_⟩
  have hserves := State.findCtx_none (Option.isNone_iff_eq_none.mp (by simpa using hunserved)) c (State.isOpen_lt hc)
  rw [Context.serves, hc, hsubject] at hserves
  simp at hserves

theorem State.receiveTrigger_alike (o : Option Nat) (r : Reason) (s : State) : s.Alike (s.receiveTrigger o r).1 := by
  have hcount : s.Alike s.countTrigger := .same ⟨rfl, rfl, rfl, rfl, rfl⟩
  unfold State.receiveTrigger
  rw [show (s.updRenewal fun n => { n with received := satInc 65535 n.received }) = s.countTrigger from rfl]
  dsimp only
  generalize s.countTrigger = t at *
  split
  · exact hcount
  next hunserved =>
    have hunserved := Bool.eq_false_iff.mpr hunserved
    cases o with
    | none =>
      dsimp only
      split
      · exact hcount
      · exact hcount.trans (State.listTrigger_alike _ (State.listable_of_unserved hunserved nofun))
    | some x =>
      dsimp only
      split
      · exact hcount.trans (State.clearRequested_alike (some x) t)
      next hactive =>
        have hlistable := State.listable_of_unserved hunserved fun y hy => by
          rw [← Option.some.inj hy]
          exact not_not.mp hactive
        split
        · split
          · exact hcount.trans (.trans (.same (by simp)) (State.listTrigger_alike (s := t.setBackoff x {}) _ hlistable))
          · exact hcount
        · exact hcount.trans (State.listTrigger_alike _ hlistable)

theorem State.sendTrigger_alike {x : Nat} (r : Reason) {s : State} (hx : (s.slot x).state = .active) :
    s.Alike (s.sendTrigger x r) :=
  .trans (State.setRequested_alike true (by rw [hx]; nofun)) (State.receiveTrigger_alike ..)

theorem State.sendBoot_alike (s : State) : s.Alike s.sendBoot := State.receiveTrigger_alike none .boot s

/-! ### The Account Unit's visits -/

theorem State.softTest_alike {x : Nat} {s : State} (hx : (s.slot x).state = .active) : s.Alike (s.softTest x) :=
  .ite (fun _ => State.sendTrigger_alike .soft hx) fun _ => .refl s

theorem State.reevaluateSlot_alike {x : Nat} {s : State} (hx : (s.slot x).state = .active) : s.Alike (s.reevaluateSlot x) := by
  unfold State.reevaluateSlot
  dsimp only
  exact .ite (fun _ => .ite (fun _ => State.sendTrigger_alike _ hx) fun _ => .ite (fun _ => State.sendTrigger_alike _ hx) fun _ =>
    .ite (fun _ => State.sendTrigger_alike _ hx) fun _ => .refl s) fun _ => .refl s

theorem State.visitSlot_alike (s : State) (x : Nat) : s.Alike (s.visitSlot x) := by
  unfold State.visitSlot
  refine .ite (fun hx => ?_) fun _ => .refl s
  have hrate : s.Alike (s.rateUpdate x) :=
    State.updSlot_alike_of_kept (f := fun v => { v with rate := nextRate v.rate v.intervalCharge, intervalCharge := 0 })
      (by rw [hx]; nofun) rfl
  have hactive := (hrate.slot_state x).trans hx
  exact hrate.trans (.ite (fun _ => State.sendTrigger_alike _ hactive) fun _ => State.reevaluateSlot_alike hactive)

theorem State.drawCounter_alike {x : Nat} {s : State} (hx : (s.slot x).state ≠ .empty) : s.Alike (s.drawCounter x).1 :=
  State.updSlot_alike_of_kept (f := fun v => { v with txCounter := v.txCounter + 1 }) hx rfl

/-! ### Compositions -/

theorem Context.composed_alike {c : Context} (done : Bool) (n : Nat) (hc : c.isOpen = true) : c.Alike (c.composed done n) := by
  unfold Context.composed
  split <;> exact .of_open hc ⟨rfl, rfl, rfl, rfl, rfl⟩ id

theorem State.compose_alike (bs : List Byte) (s : State) : s.Alike (s.compose bs).1 := by
  unfold State.compose
  split
  · exact .refl s
  · split
    · exact .same (by simp)
    · split
      · exact .refl s
      · exact .same ⟨rfl, rfl, rfl, rfl, rfl⟩

theorem State.composeContext_alike {c : Nat} {s : State} (hc : (s.ctx c).isOpen = true) : s.Alike (s.composeContext c) := by
  rw [State.composeContext_eq]
  have hcompose := State.compose_alike (s.contextMessage (s.ctx c)) s
  exact hcompose.trans (State.updCtx_alike (Context.composed_alike _ _ ((hcompose.ctx c).isOpen.trans hc)))

theorem State.reportPlaced_alike (n : Nat) (s : State) : s.Alike (s.reportPlaced n) := by
  unfold State.reportPlaced
  split
  next c hfind =>
    obtain ⟨-, hfound⟩ := State.findCtx_some hfind
    simp only [Bool.and_eq_true] at hfound
    obtain ⟨⟨hopen, -⟩, -⟩ := hfound
    exact State.updCtx_alike (.of_open hopen ⟨rfl, rfl, rfl, rfl, rfl⟩ fun ⟨hlow, hhigh, _⟩ => ⟨hlow, hhigh, Nat.le_refl _⟩)
  next => exact .refl s

theorem State.retryCompose_alike (c : Nat) (s : State) : s.Alike (s.retryCompose c) := by
  unfold State.retryCompose
  refine .ite (fun hdue => ?_) fun _ => .refl s
  unfold State.retryDue at hdue
  simp only [Bool.and_eq_true] at hdue
  obtain ⟨⟨hopen, -⟩, -⟩ := hdue
  exact State.composeContext_alike hopen

/-- A reply timer that expires below attempt 3. -/
theorem State.composeAgain_alike {c : Nat} {s : State} (hopen : (s.ctx c).isOpen = true) (hattempt : (s.ctx c).attempt < 3) :
    s.Alike ((s.updCtx c fun y =>
      { y with attempt := y.attempt + 1, send := .compose, latest := none, retryDue := false }).composeContext c) := by
  have hupd : s.Alike (s.updCtx c fun y =>
      { y with attempt := y.attempt + 1, send := .compose, latest := none, retryDue := false }) :=
    State.updCtx_alike (.of_open hopen ⟨rfl, rfl, rfl, rfl, rfl⟩ fun ⟨_, _, hreply⟩ => ⟨Nat.le_add_left .., hattempt, hreply⟩)
  exact hupd.trans (State.composeContext_alike ((hupd.ctx c).isOpen.trans hopen))

/-! ### Ticks and timers -/

theorem Slot.tick_tells (v : Slot) : v.tick.tells = v.tells := by
  unfold Slot.tick
  split <;> rfl

theorem Context.tick_alike (quiesced : Bool) (c : Context) : c.Alike (c.tick quiesced) := by
  unfold Context.tick
  split
  · exact .refl c
  next hopen =>
    have hopen : c.isOpen = true := by simpa using hopen
    split
    · split
      · exact .refl c
      · exact .of_open hopen ⟨rfl, rfl, rfl, rfl, rfl⟩ fun ⟨hlow, hhigh, hreply⟩ =>
          ⟨hlow, hhigh, Nat.le_trans (Nat.sub_le ..) hreply⟩
    · exact .of_open hopen ⟨rfl, rfl, rfl, rfl, rfl⟩ id
    · exact .refl c

theorem State.tickRenewal_ctx (quiesced : Bool) (c : Nat) (s : State) :
    (s.updRenewal (Renewal.tick quiesced)).ctx c = (s.ctx c).tick quiesced := by
  by_cases hc : c < 4
  · simp [State.ctx, Renewal.tick, hc]
  · rw [State.ctx_out _ c hc, State.ctx_out _ c hc]
    rfl

theorem State.tickAll_alike (s : State) : s.Alike s.tickAll := by
  have hclock : s.Alike { s with
      tick := (s.tick + 1) % 4294967296
      intervalTicks := s.intervalTicks + 1
      eraseWindow := s.eraseWindow.map fun (w : Port × Nat) => (w.1, w.2 - 1) } := .same ⟨rfl, rfl, rfl, rfl, rfl⟩
  have hrenewal : ∀ (b : Bool) (t : State), t.Alike (t.updRenewal (Renewal.tick b)) := fun b t =>
    ⟨fun _ => rfl, fun _ => rfl, fun _ => id, fun c => by rw [State.tickRenewal_ctx]; exact Context.tick_alike .., rfl, .same rfl⟩
  exact .trans (.trans (.trans hclock (State.mapSlots_alike (f := fun _ v => v.tick) (fun x => Slot.tick_tells _) fun _ => rfl))
    (hrenewal (s.partState == .quiesced) _)) (.same ⟨rfl, rfl, rfl, rfl, rfl⟩)

theorem State.ageTest_alike (x : Nat) (s : State) : s.Alike (s.ageTest x) := by
  unfold State.ageTest
  dsimp only
  refine .ite (fun ⟨_, hx⟩ => ?_) fun _ => .refl s
  have hmade : s.Alike (s.updSlot x fun w => { w with ageTestDue := false }) :=
    State.updSlot_alike_of_kept (by rw [hx]; nofun) rfl
  exact .ite (fun _ => hmade.trans (State.sendTrigger_alike _ ((hmade.slot_state x).trans hx))) fun _ => hmade

theorem State.endBurst_alike (s : State) (x : Nat) : s.Alike (s.endBurst x) := by
  unfold State.endBurst
  exact .ite (fun _ => .same (by simp)) fun _ => .refl s

theorem State.endOverrun_alike (p : Port) (s : State) : s.Alike (s.endOverrun p) := by
  unfold State.endOverrun
  exact .ite (fun _ => .same (by simp)) fun _ => .ite (fun _ => .same (by simp)) fun _ => .refl s

theorem State.updLink_alike (f : LinkWatch → LinkWatch) (s : State) : s.Alike (s.updLink f) := .same ⟨rfl, rfl, rfl, rfl, rfl⟩

theorem State.clearFault_alike (k : FaultKind) (x : Subject) (s : State) : s.Alike (s.clearFault k x) := .same (by simp)

theorem State.endLink_alike (s : State) : s.Alike s.endLink := by
  unfold State.endLink
  exact .trans (.ite (fun _ => (State.updLink_alike ..).trans (State.clearFault_alike ..)) fun _ => .refl s)
    (State.updLink_alike ..)

theorem State.clearIntervalCounts_alike (s : State) : s.Alike s.clearIntervalCounts :=
  State.mapSlots_alike (f := fun _ v => { v with tagFailures := 0, replays := 0 }) (fun _ => rfl) fun _ => rfl

theorem State.endInterval_alike (s : State) : s.Alike s.endInterval := by
  unfold State.endInterval
  refine .ite (fun _ => ?_) fun _ => .refl s
  have htaken : s.Alike { s with intervalTicks := s.intervalTicks - 8 } := .same ⟨rfl, rfl, rfl, rfl, rfl⟩
  generalize ({ s with intervalTicks := s.intervalTicks - 8 } : State) = t at *
  exact (((((htaken.trans (.foldl State.visitSlot_alike ..)).trans (.foldl State.endBurst_alike ..)).trans
    (State.clearIntervalCounts_alike _)).trans (State.endOverrun_alike ..)).trans (State.endOverrun_alike ..)).trans
    (State.endLink_alike _)

theorem State.expireQuiet_alike (s : State) : s.Alike s.expireQuiet := by
  unfold State.expireQuiet
  exact .ite (fun _ => .same (by simp)) fun _ => .refl s

theorem State.endBackoff_alike (x : Nat) (s : State) : s.Alike (s.endBackoff x) := by
  unfold State.endBackoff
  exact .ite (fun _ => .trans (.same (by simp)) (State.clearRequested_alike (some x) (s.setBackoff x {}))) fun _ => .refl s

theorem State.endBootBackoff_alike (s : State) : s.Alike s.endBootBackoff := by
  have hended : s.Alike (s.updRenewal fun n => { n with bootBackoff := {} }) := .same ⟨rfl, rfl, rfl, rfl, rfl⟩
  unfold State.endBootBackoff
  dsimp only
  exact .ite (fun _ => .ite (fun _ => hended.trans (State.sendBoot_alike _)) fun _ => hended) fun _ => .refl s

theorem State.relistBoot_alike (s : State) : s.Alike s.relistBoot := by
  have hidle : s.Alike (s.updRenewal fun n => { n with bootRelist := .idle }) := .same ⟨rfl, rfl, rfl, rfl, rfl⟩
  unfold State.relistBoot
  dsimp only
  exact .ite (fun _ => .ite (fun _ => hidle.trans (State.sendBoot_alike _)) fun _ => hidle) fun _ => .refl s

theorem State.endCycle_alike (s : State) : s.Alike s.endCycle := by
  have hask : s.Alike s.askReport.1 := by
    have hcompose := State.compose_alike (faultReportBytes s.beacon.nextReport s.faults.overflow s.reportRecords) s
    unfold State.askReport
    dsimp only
    split
    · exact hcompose.trans (.same ⟨rfl, rfl, rfl, rfl, rfl⟩)
    · exact hcompose
  have hreport : s.Alike s.cycleReport := by
    unfold State.cycleReport
    exact .ite (fun _ => .ite (fun _ => hask.trans (.same (by simp))) fun _ => hask) fun _ => .refl s
  unfold State.endCycle
  exact .ite (fun _ => hreport.trans (.same (by simp))) fun _ => .refl s

end Sys2Proof.Machine
end

section
/-! PROOFS. The law of keys over the operations of the Channel Table: a key is spent (R20, R48), a channel opened (R11, R12),
closed (R14, R15) or emptied once its frame has left the engine (R15, R23). -/

namespace Sys2Proof.Machine

/-- Channels and references have changed, within their own laws. -/
theorem State.KeyLaw.of_channels {s t : State} (h : s.KeyLaw) (hreferences : t.ReferenceLaw) (haliases : t.AliasLaw)
    (hlinks : ∀ x, (s.slot x).LinksAs (t.slot x))
    (hspent : ∀ x, (s.slot x).state = .staged → (s.slot x).spent = false → (t.slot x).spent = false)
    (hempty : ∀ x, s.slot x = {} → t.slot x = {}) (hbound : (t.chan 0).current = none → (s.chan 0).current = none)
    (hrest : t.renewal = s.renewal ∧ t.messenger = s.messenger) : t.KeyLaw := by
  obtain ⟨hrenewal, hmessenger⟩ := hrest
  refine ⟨hreferences, haliases, h.links.congr hlinks hspent hempty, h.exchanges.congr (fun c => ?_) (fun _ x _ _ => hlinks x)
    hbound (by rw [hmessenger]) (fun y hy => ?_) (fun x hx _ => ?_) (.same (by rw [hrenewal]))⟩
  · rw [State.ctx_congr (by rw [hrenewal])]
    exact .refl _
  · obtain ⟨hstate, -⟩ := hlinks y
    rwa [hstate] at hy
  · obtain ⟨hstate, -⟩ := hlinks x
    exact hstate.trans hx

/-! ### A key is spent (R20, R48, R56) -/

section
variable {s : State} {x : Nat}

theorem State.spentKey_chan (x i : Nat) (s : State) : ∃ st, (s.spentKey x).chan i = { s.chan i with state := st }
    ∧ (s.exhaustedWith x i → st = .exhausted) ∧ (¬ s.exhaustedWith x i → st = (s.chan i).state) := by
  by_cases hi : s.exhaustedWith x i
  · exact ⟨.exhausted, State.chan_markExhausted_of (s := s.updSlot x fun v => { v with spent := true }) hi, fun _ => rfl,
      fun hn => absurd hi hn⟩
  · exact ⟨(s.chan i).state, State.chan_markExhausted_not (s := s.updSlot x fun v => { v with spent := true }) hi,
      fun h => absurd h hi, fun _ => rfl⟩

/-- A descriptor that names its key is exhausted with its own current slot alone. -/
theorem State.exhaustedWith_namesKey {i : Nat} (hi : (s.chan i).kind ≠ .aliased) :
    s.exhaustedWith x i ↔ (s.chan i).currentIs x = true ∧ (s.chan i).state = .opened :=
  or_iff_left fun ⟨_, hkind, _⟩ => hi hkind

theorem Channel.currentIs_iff {c : Channel} : c.currentIs x = true ↔ c.namesKey = true ∧ c.current = some x := by
  rw [Channel.currentIs, Bool.and_eq_true, beq_iff_eq]

/-- An ALIAS descriptor is exhausted with a slot exactly when its target is. -/
theorem State.exhaustedWith_aliased {i g : Nat} (hi : (s.chan i).kind = .aliased)
    (htarget : (s.chan i).target = some g) (hg : (s.chan g).kind = .data) : s.exhaustedWith x i ↔ s.exhaustedWith x g := by
  rw [State.exhaustedWith_namesKey (i := g) (by rw [hg]; nofun)]
  refine ⟨fun hx => ?_, fun hx => .inr ⟨g, hi, htarget, hx⟩⟩
  rcases hx with ⟨hcurrent, -⟩ | ⟨r, -, hr, hhit⟩
  · obtain ⟨hnames, -⟩ := Channel.currentIs_iff.mp hcurrent
    rw [Channel.namesKey, hi] at hnames
    nomatch hnames
  · obtain rfl : r = g := Option.some.inj (hr.symm.trans htarget)
    exact hhit

theorem State.KeyLaw.spentKey_references (h : s.KeyLaw) (hx : (s.slot x).state = .active) : (s.spentKey x).ReferenceLaw := by
  have hbounds := State.slot_bounds (s := s) (x := x) (by rw [hx]; nofun)
  have hslot := s.spentKey_slot x
  have hchan := s.spentKey_chan x
  obtain ⟨hothers, hkind, hlevel, hopened⟩ := h.references.control
  generalize s.spentKey x = t at *
  have hfields : ∀ i, (t.chan i).current = (s.chan i).current ∧ (t.chan i).alternate = (s.chan i).alternate
      ∧ (t.chan i).kind = (s.chan i).kind ∧ (t.chan i).level = (s.chan i).level := fun i => by
    obtain ⟨st, hst, -⟩ := hchan i
    rw [hst]
    exact ⟨rfl, rfl, rfl, rfl⟩
  have hsame : ∀ y, (t.slot y).refs = (s.slot y).refs ∧ (t.slot y).state = (s.slot y).state
      ∧ (t.slot y).level = (s.slot y).level ∧ (t.slot y).predecessor = (s.slot y).predecessor := fun y => by
    rw [hslot]
    split
    next hy => rw [hy.1]; exact ⟨rfl, rfl, rfl, rfl⟩
    next => exact ⟨rfl, rfl, rfl, rfl⟩
  refine ⟨fun y h1 h23 => ?_, fun i y hi => ?_, fun i y hi => ?_, fun i hdata hi => ?_, fun i hi => ?_, ?_, ?_, fun h0 => ?_⟩
  · obtain ⟨hrefs, -⟩ := hsame y
    have hcurrent : t.countChans (fun c => c.current == some y) = s.countChans fun c => c.current == some y :=
      State.countChans_congr fun i => by rw [(hfields i).1]
    have halternate : t.countChans (fun c => c.alternate == some y) = s.countChans fun c => c.alternate == some y :=
      State.countChans_congr fun i => by rw [(hfields i).2.1]
    rw [hrefs, hcurrent, halternate]
    exact h.references.counts ⟨h1, h23⟩
  · obtain ⟨hcurrent, -, hk, hl⟩ := hfields i
    obtain ⟨-, hstate, hlev, -⟩ := hsame y
    rw [hcurrent] at hi
    obtain ⟨hnames, hactive, hchanState, hlevels⟩ := h.references.current hi
    refine ⟨by rwa [Channel.namesKey, hk, ← Channel.namesKey], hstate.trans hactive, ?_, by rw [hlev, hl, hlevels]⟩
    obtain ⟨st, hst, hhit, hmiss⟩ := hchan i
    have halias : (s.chan i).kind ≠ .aliased := fun hkind => by rw [Channel.namesKey, hkind] at hnames; nomatch hnames
    by_cases hy : y = x
    · subst hy
      have hspent : (t.slot y).spent = true := by rw [hslot, if_pos ⟨rfl, hbounds⟩]
      rw [hst, hspent]
      refine Eq.trans ?_ (if_pos rfl).symm
      by_cases hopen : (s.chan i).state = .opened
      · exact hhit ((State.exhaustedWith_namesKey halias).mpr ⟨Channel.currentIs_iff.mpr ⟨hnames, hi⟩, hopen⟩)
      · have hexhausted : (s.chan i).state = .exhausted := by
          rw [hchanState] at hopen ⊢
          split at hopen
          next hspent => exact if_pos hspent
          next => exact absurd rfl hopen
        by_cases hwith : s.exhaustedWith y i
        · exact hhit hwith
        · exact (hmiss hwith).trans hexhausted
    · have hother : t.slot y = s.slot y := (hslot y).trans (if_neg fun hyx => hy hyx.1)
      rw [hst, hother]
      refine (hmiss fun hwith => ?_).trans hchanState
      obtain ⟨hcurrentIs, -⟩ := (State.exhaustedWith_namesKey halias).mp hwith
      obtain ⟨-, hix⟩ := Channel.currentIs_iff.mp hcurrentIs
      exact hy (Option.some.inj (hi.symm.trans hix))
  · obtain ⟨hcurrent, halternate, -⟩ := hfields i
    rw [halternate] at hi
    obtain ⟨z, hz, hzy⟩ := h.references.alternate hi
    obtain ⟨-, -, -, hpredecessor⟩ := hsame z
    exact ⟨z, hcurrent.trans hz, hpredecessor.trans hzy⟩
  · obtain ⟨hcurrent, -, hk, -⟩ := hfields i
    rw [hk] at hdata
    rw [hcurrent] at hi
    obtain ⟨st, hst, -, hmiss⟩ := hchan i
    rw [hst]
    refine (hmiss fun hwith => ?_).trans (h.references.unbound hdata hi)
    obtain ⟨hcurrentIs, -⟩ := (State.exhaustedWith_namesKey (by rw [hdata]; nofun)).mp hwith
    obtain ⟨-, hix⟩ := Channel.currentIs_iff.mp hcurrentIs
    nomatch hi.symm.trans hix
  · obtain ⟨-, -, hk, -⟩ := hfields i
    rw [hk]
    exact hothers i hi
  · obtain ⟨-, -, hk, -⟩ := hfields 0
    exact hk.trans hkind
  · obtain ⟨-, -, -, hl⟩ := hfields 0
    exact hl.trans hlevel
  · obtain ⟨hcurrent, -⟩ := hfields 0
    rw [hcurrent] at h0
    obtain ⟨st, hst, -, hmiss⟩ := hchan 0
    rw [hst]
    refine (hmiss fun hwith => ?_).trans (hopened h0)
    obtain ⟨hcurrentIs, -⟩ := (State.exhaustedWith_namesKey (by rw [hkind]; nofun)).mp hwith
    obtain ⟨-, hix⟩ := Channel.currentIs_iff.mp hcurrentIs
    nomatch h0.symm.trans hix

theorem State.KeyLaw.spentKey_aliases (h : s.KeyLaw) : (s.spentKey x).AliasLaw := by
  have hchan := s.spentKey_chan x
  generalize s.spentKey x = t at *
  have hfields : ∀ i, (t.chan i).kind = (s.chan i).kind ∧ (t.chan i).target = (s.chan i).target
      ∧ (t.chan i).aliasCount = (s.chan i).aliasCount := fun i => by
    obtain ⟨st, hst, -⟩ := hchan i
    rw [hst]
    exact ⟨rfl, rfl, rfl⟩
  refine ⟨fun i hi => ?_, fun g hg => ?_⟩
  · obtain ⟨hk, htarget, -⟩ := hfields i
    rw [hk] at hi
    obtain ⟨g, hg, hdata, hstate, hclosing⟩ := h.aliases.target hi
    obtain ⟨hkg, -⟩ := hfields g
    refine ⟨g, htarget.trans hg, hkg.trans hdata, ?_⟩
    obtain ⟨si, hsi, hhit, hmiss⟩ := hchan i
    obtain ⟨sg, hsg, hhitg, hmissg⟩ := hchan g
    rw [hsi, hsg]
    by_cases hwith : s.exhaustedWith x i
    · rw [hhit hwith, hhitg ((State.exhaustedWith_aliased hi hg hdata).mp hwith)]
      exact ⟨rfl, nofun⟩
    · rw [hmiss hwith, hmissg fun hn => hwith ((State.exhaustedWith_aliased hi hg hdata).mpr hn)]
      exact ⟨hstate, hclosing⟩
  · obtain ⟨hk, -, hcount⟩ := hfields g
    rw [Channel.namesKey, hk, ← Channel.namesKey] at hg
    rw [hcount, h.aliases.count hg]
    refine (State.countChans_congr fun i => ?_).symm
    obtain ⟨hki, htarget, -⟩ := hfields i
    rw [Channel.aliasTo, hki, htarget, Channel.aliasTo]

theorem State.KeyLaw.spentKey (h : s.KeyLaw) (hx : (s.slot x).state = .active) : (s.spentKey x).KeyLaw := by
  have hslot := s.spentKey_slot x
  refine h.of_channels (h.spentKey_references hx) h.spentKey_aliases (fun y => ?_) (fun y hy hspent => ?_) (fun y hy => ?_)
    (fun h0 => ?_) (by simp [State.spentKey])
  · rw [hslot]
    split
    next hyx => rw [hyx.1]; exact ⟨rfl, rfl, rfl, rfl⟩
    next => exact .refl _
  · rw [hslot, if_neg fun hyx => by rw [hyx.1, hx] at hy; nomatch hy]
    exact hspent
  · rw [hslot, if_neg fun hyx => by rw [hyx.1] at hy; rw [hy] at hx; nomatch hx]
    exact hy
  · obtain ⟨st, hst, -⟩ := s.spentKey_chan x 0
    rw [hst] at h0
    exact h0

theorem State.KeyLaw.spendSlot (h : s.KeyLaw) (k : FaultKind) (hx : (s.slot x).state = .active) :
    (s.spendSlot x k).KeyLaw := by
  have hraised : (s.spentKey x).Alike ((s.spentKey x).raiseFault k (.slot x)) := .same (by simp)
  have hactive : ((s.spentKey x).slot x).state = .active := by
    rw [State.spentKey_slot]
    split <;> exact hx
  exact (hraised.trans (State.sendTrigger_alike .spent ((hraised.slot_state x).trans hactive))).law (h.spentKey hx)

theorem State.KeyLaw.charge (h : s.KeyLaw) (c : Nat) (hx : (s.slot x).state = .active) : (s.charge x c).1.KeyLaw := by
  unfold State.charge
  dsimp only
  split
  · exact h
  · split
    · exact h.spendSlot .keySpent hx
    · have hcharged : s.Alike (s.updSlot x fun w =>
          { w with used := w.used + c, intervalCharge := min (w.intervalCharge + c) 4294967295 }) :=
        State.updSlot_alike_of_kept (by rw [hx]; nofun) rfl
      exact (hcharged.trans (State.softTest_alike ((hcharged.slot_state x).trans hx))).law h

theorem State.KeyLaw.graceTest (h : s.KeyLaw) (x : Nat) : (s.graceTest x).KeyLaw := by
  unfold State.graceTest
  dsimp only
  split
  next hx =>
    obtain ⟨-, hx⟩ := hx
    have hmade : s.Alike (s.updSlot x fun w => { w with graceTestDue := false }) :=
      State.updSlot_alike_of_kept (by rw [hx]; nofun) rfl
    split
    · exact (hmade.law h).spendSlot .keyAgeOver ((hmade.slot_state x).trans hx)
    · exact hmade.law h
  next => exact h

end

end Sys2Proof.Machine
end

section
/-! PROOFS. The law of keys when a channel is opened (R11, R12), closed (R14, R15), or emptied once its frame has left the
engine (R15, R23). -/

namespace Sys2Proof.Machine

/-! ### Opening (R11, R12) -/

/-- What an open request that passes every check can rely on. -/
inductive State.OpenPasses (s : State) (q : OpenRequest) : Prop where
  | data (kind : q.kind = 1) (low : 1 ≤ q.index) (high : q.index ≤ 47) (empty : (s.chan q.index).kind = .empty)
      (slot : 1 ≤ q.ref ∧ q.ref ≤ 23) (active : (s.slot q.ref).state = .active) (unspent : (s.slot q.ref).spent = false)
      (level : (s.slot q.ref).level = q.level)
  | aliased (kind : q.kind ≠ 1) (low : 1 ≤ q.index) (high : q.index ≤ 47) (empty : (s.chan q.index).kind = .empty)
      (target : 1 ≤ q.ref ∧ q.ref ≤ 47) (names : (s.chan q.ref).kind ≠ .empty ∧ (s.chan q.ref).kind ≠ .aliased)
      (closing : (s.chan q.ref).state ≠ .closing)

/-- A chain of checks passes where its first check does not fail and the rest of it passes. -/
theorem ite_some_eq_none {p : Prop} [Decidable p] {st : Status} {rest : Option Status} :
    (if p then some st else rest) = none ↔ ¬p ∧ rest = none := by
  by_cases hp : p
  · rw [if_pos hp]
    exact iff_of_false nofun fun ⟨hn, _⟩ => hn hp
  · rw [if_neg hp]
    exact (and_iff_right hp).symm

theorem State.openPasses_of_check {s : State} {office : Bool} {q : OpenRequest} (h : s.openCheck office q = none) :
    s.OpenPasses q := by
  unfold State.openCheck at h
  obtain ⟨-, h⟩ := ite_some_eq_none.mp h
  obtain ⟨hindex, h⟩ := ite_some_eq_none.mp h
  obtain ⟨-, h⟩ := ite_some_eq_none.mp h
  obtain ⟨-, h⟩ := ite_some_eq_none.mp h
  obtain ⟨hempty, h⟩ := ite_some_eq_none.mp h
  have hempty : (s.chan q.index).kind = .empty := not_not.mp hempty
  by_cases hkind : q.kind = 1
  · rw [if_pos hkind] at h
    obtain ⟨hslot, h⟩ := ite_some_eq_none.mp h
    obtain ⟨-, h⟩ := ite_some_eq_none.mp h
    obtain ⟨hactive, h⟩ := ite_some_eq_none.mp h
    obtain ⟨hlevel, -⟩ := ite_some_eq_none.mp h
    obtain ⟨hstate, hspent⟩ := not_or.mp hactive
    exact .data hkind (by omega) (by omega) hempty (by omega) (not_not.mp hstate) (Bool.eq_false_iff.mpr hspent)
      (not_not.mp hlevel)
  · rw [if_neg hkind] at h
    obtain ⟨hrange, h⟩ := ite_some_eq_none.mp h
    obtain ⟨hsome, h⟩ := ite_some_eq_none.mp h
    obtain ⟨haliased, h⟩ := ite_some_eq_none.mp h
    obtain ⟨-, h⟩ := ite_some_eq_none.mp h
    obtain ⟨hclosing, -⟩ := ite_some_eq_none.mp h
    exact .aliased hkind (by omega) (by omega) hempty (by omega) ⟨hsome, haliased⟩ hclosing

section
variable {s t : State} {i : Nat}

/-- No ALIAS descriptor has a target that is not DATA. -/
theorem State.AliasLaw.count_zero (h : s.AliasLaw) (hi : (s.chan i).kind ≠ .data) : s.countChans (Channel.aliasTo i) = 0 := by
  refine State.countChans_eq_zero fun j _ => ?_
  by_contra hj
  simp only [Channel.aliasTo, Bool.not_eq_false, Bool.and_eq_true, beq_iff_eq] at hj
  obtain ⟨hkind, htarget⟩ := hj
  obtain ⟨g, hg, hdata, -⟩ := h.target hkind
  obtain rfl : g = i := Option.some.inj (hg.symm.trans htarget)
  exact hi hdata

/-- A descriptor EMPTY before is opened as DATA on an ACTIVE slot. -/
theorem State.KeyLaw.opened {c : Channel} {x : Nat} (h : s.KeyLaw) (hi : 1 ≤ i ∧ i ≤ 47) (hempty : (s.chan i).kind = .empty)
    (hc : c.kind = .data ∧ c.state = .opened ∧ c.current = some x ∧ c.alternate = none ∧ c.aliasCount = 0
      ∧ c.level = (s.slot x).level)
    (hactive : (s.slot x).state = .active) (hspent : (s.slot x).spent = false) : ((s.setChan i c).addRefs x 1).KeyLaw := by
  obtain ⟨ckind, cstate, ccurrent, calternate, ccount, clevel⟩ := hc
  have hbounds := State.slot_bounds (s := s) (x := x) (by rw [hactive]; nofun)
  have hchan : ∀ j, ((s.setChan i c).addRefs x 1).chan j = if j = i then c else s.chan j := fun j => by
    have hsame : ((s.setChan i c).addRefs x 1).chan j = (s.setChan i c).chan j := by simp [State.addRefs]
    rw [hsame, State.chan_setChan]
    exact if_congr (and_iff_left (by omega)) rfl rfl
  have hslot : ∀ y, ((s.setChan i c).addRefs x 1).slot y = if y = x then { s.slot x with refs := (s.slot x).refs + 1 }
      else s.slot y := fun y => by
    rw [State.addRefs, State.slot_updSlot]
    simp [hbounds]
  have hrest : ((s.setChan i c).addRefs x 1).renewal = s.renewal ∧ ((s.setChan i c).addRefs x 1).messenger = s.messenger :=
    ⟨rfl, rfl⟩
  generalize (s.setChan i c).addRefs x 1 = t at *
  have hself : t.chan i = c := by rw [hchan, if_pos rfl]
  have hother : ∀ j, j ≠ i → t.chan j = s.chan j := fun j hj => by rw [hchan, if_neg hj]
  obtain ⟨oldCurrent, oldAlternate⟩ := h.unnamed (i := i) (by rw [Channel.namesKey, hempty]; rfl)
  have hlinks : ∀ y, (s.slot y).LinksAs (t.slot y) := fun y => by
    rw [hslot]
    split
    next hy => rw [hy]; exact ⟨rfl, rfl, rfl, rfl⟩
    next => exact .refl _
  have hspents : ∀ y, (t.slot y).spent = (s.slot y).spent := fun y => by
    rw [hslot]
    split
    next hy => rw [hy]
    next => rfl
  have hcount : ∀ q : Channel → Bool, q (s.chan i) = false → t.countChans q = s.countChans q + (q c).toNat := fun q hq => by
    have hupdate := State.countChans_update (s := s) (t := t) (q := q) (i := i) (by omega) fun j hj => by rw [hother j hj]
    rw [hq, hself] at hupdate
    simpa using hupdate
  obtain ⟨hothers, hkind0, hlevel0, hopened0⟩ := h.references.control
  have h0 : t.chan 0 = s.chan 0 := hother 0 (by omega)
  refine h.of_channels ⟨fun y h1 h23 => ?_, fun j y hj => ?_, fun j y hj => ?_, fun j hdata hj => ?_, fun j hj => ?_, ?_, ?_,
    fun hnone => ?_⟩ ⟨fun j hj => ?_, fun g hg => ?_⟩ hlinks (fun y _ hy => (hspents y).trans hy) (fun y hy => ?_)
    (fun hnone => by rwa [h0] at hnone) hrest
  · rw [hcount (fun c => c.current == some y) (by rw [oldCurrent]; rfl),
      hcount (fun c => c.alternate == some y) (by rw [oldAlternate]; rfl), ccurrent, calternate, hslot]
    have hold := h.references.counts ⟨h1, h23⟩
    by_cases hy : y = x
    · subst hy
      rw [if_pos rfl, show (some y == some y) = true from beq_self_eq_true _]
      exact (congrArg (· + 1) hold).trans (Nat.add_right_comm ..)
    · rw [if_neg hy, hold]
      simp [Ne.symm hy]
  · obtain ⟨hstate, hlevel, -, -⟩ := hlinks y
    rw [hstate, hlevel, hspents]
    by_cases hji : j = i
    · subst hji
      rw [hself] at hj ⊢
      obtain rfl : x = y := Option.some.inj (ccurrent.symm.trans hj)
      exact ⟨by rw [Channel.namesKey, ckind]; rfl, hactive, by rw [cstate, hspent]; rfl, clevel.symm⟩
    · rw [hother j hji] at hj ⊢
      exact h.references.current hj
  · have hji : j ≠ i := fun hji => by rw [hji, hself, calternate] at hj; nomatch hj
    rw [hother j hji] at hj ⊢
    obtain ⟨z, hz, hzy⟩ := h.references.alternate hj
    obtain ⟨-, -, hfirst, -⟩ := hlinks z
    exact ⟨z, hz, hfirst.trans hzy⟩
  · have hji : j ≠ i := fun hji => by rw [hji, hself, ccurrent] at hj; nomatch hj
    rw [hother j hji] at hdata hj ⊢
    exact h.references.unbound hdata hj
  · by_cases hji : j = i
    · rw [hji, hself, ckind]
      nofun
    · rw [hother j hji]
      exact hothers j hj
  · rw [h0]; exact hkind0
  · rw [h0]; exact hlevel0
  · rw [h0] at hnone ⊢
    exact hopened0 hnone
  · have hji : j ≠ i := fun hji => by rw [hji, hself, ckind] at hj; nomatch hj
    rw [hother j hji] at hj ⊢
    obtain ⟨g, hg, hdata, hstate, hclosing⟩ := h.aliases.target hj
    have hgi : g ≠ i := fun hgi => by rw [hgi, hempty] at hdata; nomatch hdata
    exact ⟨g, hg, by rwa [hother g hgi], by rwa [hother g hgi], hclosing⟩
  · rw [hcount (Channel.aliasTo g) (by rw [Channel.aliasTo, hempty]; rfl), Channel.aliasTo, ckind]
    by_cases hgi : g = i
    · rw [hgi, hself, ccount, h.aliases.count_zero (by rw [hempty]; nofun)]
      rfl
    · rw [hother g hgi] at hg ⊢
      exact h.aliases.count hg
  · rw [hslot]
    split
    next hyx => rw [hyx] at hy; rw [hy] at hactive; nomatch hactive
    next => exact hy

/-- Channels that name no slot have changed: the law of references stands. -/
theorem State.ReferenceLaw.of_unnamed (h : s.ReferenceLaw) (hcurrent : ∀ j, (t.chan j).current = (s.chan j).current)
    (halternate : ∀ j, (t.chan j).alternate = (s.chan j).alternate)
    (hnamed : ∀ j, (s.chan j).current ≠ none → (t.chan j).namesKey = (s.chan j).namesKey ∧ (t.chan j).state = (s.chan j).state
      ∧ (t.chan j).level = (s.chan j).level)
    (hdata : ∀ j, (t.chan j).kind = .data → (s.chan j).current = none → (t.chan j).state = .closing)
    (hcontrol : ∀ j, j ≠ 0 → (t.chan j).kind ≠ .control)
    (h0 : (t.chan 0).kind = (s.chan 0).kind ∧ (t.chan 0).level = (s.chan 0).level ∧ (t.chan 0).state = (s.chan 0).state)
    (hslot : ∀ x, (t.slot x).tells = (s.slot x).tells) : t.ReferenceLaw := by
  obtain ⟨-, hkind, hlevel, hopened⟩ := h.control
  obtain ⟨kkind, klevel, kstate⟩ := h0
  refine ⟨fun x h1 h23 => ?_, fun j x hj => ?_, fun j x hj => ?_, fun j hk hj => ?_, hcontrol, kkind.trans hkind,
    klevel.trans hlevel, fun hj => ?_⟩
  · obtain ⟨-, -, -, -, hrefs, -⟩ := Slot.tells_eq (hslot x)
    have hcounts : t.countChans (fun c => c.current == some x) = s.countChans fun c => c.current == some x :=
      State.countChans_congr fun j => by rw [hcurrent]
    have hcounts' : t.countChans (fun c => c.alternate == some x) = s.countChans fun c => c.alternate == some x :=
      State.countChans_congr fun j => by rw [halternate]
    rw [hrefs, hcounts, hcounts']
    exact h.counts ⟨h1, h23⟩
  · obtain ⟨sstate, slevel, -, -, -, sspent⟩ := Slot.tells_eq (hslot x)
    rw [hcurrent] at hj
    obtain ⟨jnames, jstate, jlevel⟩ := hnamed j (by rw [hj]; nofun)
    rw [sstate, slevel, sspent, jnames, jstate, jlevel]
    exact h.current hj
  · rw [halternate] at hj
    obtain ⟨y, hy, hyx⟩ := h.alternate hj
    obtain ⟨-, -, sfirst, -⟩ := Slot.tells_eq (hslot y)
    exact ⟨y, (hcurrent j).trans hy, sfirst.trans hyx⟩
  · rw [hcurrent] at hj
    exact hdata j hk hj
  · rw [hcurrent] at hj
    exact kstate.trans (hopened hj)

/-- The law stands when channels that name no slot change within it. -/
theorem State.KeyLaw.of_unnamed (h : s.KeyLaw) (hcurrent : ∀ j, (t.chan j).current = (s.chan j).current)
    (halternate : ∀ j, (t.chan j).alternate = (s.chan j).alternate)
    (hnamed : ∀ j, (s.chan j).current ≠ none → (t.chan j).namesKey = (s.chan j).namesKey ∧ (t.chan j).state = (s.chan j).state
      ∧ (t.chan j).level = (s.chan j).level)
    (hdata : ∀ j, (t.chan j).kind = .data → (s.chan j).current = none → (t.chan j).state = .closing)
    (hcontrol : ∀ j, j ≠ 0 → (t.chan j).kind ≠ .control)
    (h0 : (t.chan 0).kind = (s.chan 0).kind ∧ (t.chan 0).level = (s.chan 0).level ∧ (t.chan 0).state = (s.chan 0).state)
    (haliases : t.AliasLaw) (hrest : t.slots = s.slots ∧ t.renewal = s.renewal ∧ t.messenger = s.messenger) : t.KeyLaw := by
  obtain ⟨hslots, hrest⟩ := hrest
  have hslot : ∀ x, t.slot x = s.slot x := State.slot_congr hslots
  refine h.of_channels (h.references.of_unnamed hcurrent halternate hnamed hdata hcontrol h0 fun x => by rw [hslot]) haliases
    (fun x => by rw [hslot]; exact .refl _) (fun x _ hx => by rw [hslot, hx]) (fun x hx => by rw [hslot, hx])
    (fun hnone => (hcurrent 0).symm.trans hnone) hrest

/-- A descriptor EMPTY before is opened as an ALIAS of a DATA descriptor. -/
theorem State.KeyLaw.openedAlias {c : Channel} {g : Nat} (h : s.KeyLaw) (hi : 1 ≤ i ∧ i ≤ 47) (hempty : (s.chan i).kind = .empty)
    (hg : g ≤ 47) (hc : c.kind = .aliased ∧ c.state = (s.chan g).state ∧ c.target = some g ∧ c.current = none ∧ c.alternate = none)
    (hdata : (s.chan g).kind = .data) (hclosing : (s.chan g).state ≠ .closing) :
    ((s.setChan i c).updChan g fun d => { d with aliasCount := d.aliasCount + 1 }).KeyLaw := by
  obtain ⟨ckind, cstate, ctarget, ccurrent, calternate⟩ := hc
  have hgi : g ≠ i := fun hgi => by rw [hgi, hempty] at hdata; nomatch hdata
  have hset : ∀ j, (s.setChan i c).chan j = if j = i then c else s.chan j := fun j => by
    rw [State.chan_setChan]
    exact if_congr (and_iff_left (by omega)) rfl rfl
  have hchan : ∀ j, ((s.setChan i c).updChan g fun d => { d with aliasCount := d.aliasCount + 1 }).chan j =
      if j = g then { s.chan g with aliasCount := (s.chan g).aliasCount + 1 } else if j = i then c else s.chan j := fun j => by
    rw [State.chan_updChan, hset, hset, if_neg hgi]
    exact if_congr (and_iff_left (by omega)) rfl rfl
  have hrest : ((s.setChan i c).updChan g fun d => { d with aliasCount := d.aliasCount + 1 }).slots = s.slots
      ∧ ((s.setChan i c).updChan g fun d => { d with aliasCount := d.aliasCount + 1 }).renewal = s.renewal
      ∧ ((s.setChan i c).updChan g fun d => { d with aliasCount := d.aliasCount + 1 }).messenger = s.messenger :=
    ⟨rfl, rfl, rfl⟩
  generalize (s.setChan i c).updChan g (fun d => { d with aliasCount := d.aliasCount + 1 }) = t at *
  have hself : t.chan i = c := by rw [hchan, if_neg (Ne.symm hgi), if_pos rfl]
  have htells : ∀ j, j ≠ i → (t.chan j).kind = (s.chan j).kind ∧ (t.chan j).state = (s.chan j).state
      ∧ (t.chan j).level = (s.chan j).level ∧ (t.chan j).current = (s.chan j).current
      ∧ (t.chan j).alternate = (s.chan j).alternate ∧ (t.chan j).target = (s.chan j).target := fun j hj => by
    rw [hchan]
    by_cases hjg : j = g
    · rw [if_pos hjg, hjg]
      exact ⟨rfl, rfl, rfl, rfl, rfl, rfl⟩
    · rw [if_neg hjg, if_neg hj]
      exact ⟨rfl, rfl, rfl, rfl, rfl, rfl⟩
  obtain ⟨oldCurrent, oldAlternate⟩ := h.unnamed (i := i) (by rw [Channel.namesKey, hempty]; rfl)
  obtain ⟨hothers, -⟩ := h.references.control
  refine h.of_unnamed (fun j => ?_) (fun j => ?_) (fun j hj => ?_) (fun j hk hj => ?_) (fun j hj => ?_) ?_
    ⟨fun j hj => ?_, fun d hd => ?_⟩ hrest
  · by_cases hji : j = i
    · rw [hji, hself, ccurrent, oldCurrent]
    · obtain ⟨-, -, -, hsame, -⟩ := htells j hji
      exact hsame
  · by_cases hji : j = i
    · rw [hji, hself, calternate, oldAlternate]
    · obtain ⟨-, -, -, -, hsame, -⟩ := htells j hji
      exact hsame
  · obtain ⟨hkind, hstate, hlevel, -⟩ := htells j fun hji => hj (by rw [hji, oldCurrent])
    exact ⟨by rw [Channel.namesKey, hkind, Channel.namesKey], hstate, hlevel⟩
  · have hji : j ≠ i := fun hji => by rw [hji, hself, ckind] at hk; nomatch hk
    obtain ⟨hkind, hstate, -⟩ := htells j hji
    exact hstate.trans (h.references.unbound (hkind.symm.trans hk) hj)
  · by_cases hji : j = i
    · rw [hji, hself, ckind]
      nofun
    · obtain ⟨hkind, -⟩ := htells j hji
      rw [hkind]
      exact hothers j hj
  · obtain ⟨hkind, hstate, hlevel, -⟩ := htells 0 (by omega)
    exact ⟨hkind, hlevel, hstate⟩
  · by_cases hji : j = i
    · obtain ⟨hkind, hstate, -⟩ := htells g hgi
      rw [hji, hself]
      exact ⟨g, ctarget, hkind.trans hdata, hstate.trans cstate.symm, by rwa [cstate]⟩
    · obtain ⟨hkind, hstate, -, -, -, htarget⟩ := htells j hji
      obtain ⟨d, hd, hdKind, hdState, hdClosing⟩ := h.aliases.target (hkind.symm.trans hj)
      obtain ⟨dkind, dstate, -⟩ := htells d fun hdi => by rw [hdi, hempty] at hdKind; nomatch hdKind
      exact ⟨d, htarget.trans hd, dkind.trans hdKind, by rw [dstate, hstate, hdState], by rwa [hstate]⟩
  · have hdi : d ≠ i := fun hdi => by rw [hdi, hself, Channel.namesKey, ckind] at hd; nomatch hd
    have hupdate := State.countChans_update (s := s) (t := t) (q := Channel.aliasTo d) (i := i) (by omega) fun j hj => by
      obtain ⟨hkind, -, -, -, -, htarget⟩ := htells j hj
      rw [Channel.aliasTo, hkind, htarget, Channel.aliasTo]
    have hold : Channel.aliasTo d (s.chan i) = false := by rw [Channel.aliasTo, hempty]; rfl
    have hnew : Channel.aliasTo d (t.chan i) = (some g == some d) := by rw [hself, Channel.aliasTo, ckind, ctarget]; rfl
    obtain ⟨hkind, -⟩ := htells d hdi
    rw [Channel.namesKey, hkind, ← Channel.namesKey] at hd
    rw [hold, hnew, Bool.toNat_false, Nat.add_zero, ← h.aliases.count hd] at hupdate
    rw [hupdate, hchan]
    by_cases hdg : d = g
    · rw [if_pos hdg, hdg, beq_self_eq_true]
      rfl
    · rw [if_neg hdg, if_neg hdi]
      simp [Ne.symm hdg]

theorem State.KeyLaw.openChannel (h : s.KeyLaw) {office : Bool} {q : OpenRequest} (hq : s.openCheck office q = none) :
    (s.openChannel q).KeyLaw := by
  unfold State.openChannel
  cases State.openPasses_of_check hq with
  | data hkind hlow hhigh hempty _ hactive hspent hlevel =>
    rw [if_pos hkind]
    exact h.opened ⟨hlow, hhigh⟩ hempty ⟨rfl, rfl, rfl, rfl, rfl, hlevel.symm⟩ hactive hspent
  | aliased hkind hlow hhigh hempty htarget hnames hclosing =>
    rw [if_neg hkind]
    obtain ⟨hothers, -⟩ := h.references.control
    have hdata : (s.chan q.ref).kind = .data := by
      cases hk : (s.chan q.ref).kind with
      | data => rfl
      | empty => exact absurd hk hnames.1
      | aliased => exact absurd hk hnames.2
      | control => exact absurd hk (hothers q.ref (by omega))
    exact h.openedAlias ⟨hlow, hhigh⟩ hempty htarget.2 ⟨rfl, rfl, rfl, rfl, rfl⟩ hdata hclosing

end

end Sys2Proof.Machine
end

section
/-! PROOFS. The law of keys when a channel is closed (R14, R15), and when one that was CLOSING is emptied after its frame has
left the engine (R15, R23). -/

namespace Sys2Proof.Machine

section
variable {s t : State} {i : Nat}

theorem Channel.aliasTo_iff {c : Channel} {g : Nat} : c.aliasTo g = true ↔ c.kind = .aliased ∧ c.target = some g := by
  rw [Channel.aliasTo, Bool.and_eq_true, beq_iff_eq, beq_iff_eq]

/-! ### DATA (R14) -/

theorem Channel.closed_says (c : Channel) (hc : c.kind = .data) : (c.closed.kind = .data ∧ c.closed.state = .closing
    ∨ c.closed.kind = .empty) ∧ c.closed.current = none ∧ c.closed.alternate = none ∧ c.closed.aliasCount = 0 := by
  unfold Channel.closed
  split
  · exact ⟨.inl ⟨hc, rfl⟩, rfl, rfl, rfl⟩
  · exact ⟨.inr rfl, rfl, rfl, rfl⟩

theorem State.KeyLaw.unbound (h : s.KeyLaw) (hi : i ≤ 47) (hdata : (s.chan i).kind = .data) : (s.unbound i).KeyLaw := by
  have halias : (s.chan i).kind ≠ .aliased := by rw [hdata]; nofun
  obtain ⟨hself, hothers⟩ := State.unbound_chan hi halias
  have hslot := State.unbound_slot (s := s) (i := i) halias
  have hrest : (s.unbound i).renewal = s.renewal ∧ (s.unbound i).messenger = s.messenger := by
    rw [State.unbound_state]
    exact ⟨rfl, rfl⟩
  generalize s.unbound i = t at *
  obtain ⟨hkind, hcurrent, halternate, haliasCount⟩ := Channel.closed_says _ hdata
  rw [← hself] at hkind hcurrent halternate haliasCount
  obtain ⟨hcontrols, hkind0, hlevel0, hopened0⟩ := h.references.control
  have hi0 : i ≠ 0 := fun h0 => by rw [h0, hkind0] at hdata; nomatch hdata
  have hkept : ∀ j, j ≠ i → (s.chan j).aliasTo i = false → t.chan j = s.chan j := fun j hj hto => by
    rw [hothers j hj, hto]
    rfl
  have hgone : ∀ j, j ≠ i → (s.chan j).aliasTo i = true → t.chan j = {} := fun j hj hto => by
    rw [hothers j hj, hto]
    rfl
  -- an ALIAS descriptor names no slot, so the descriptors that name one are those of before but i
  have hnames : ∀ j, j ≠ i → (t.chan j).current = (s.chan j).current ∧ (t.chan j).alternate = (s.chan j).alternate :=
    fun j hj => by
      by_cases hto : (s.chan j).aliasTo i = true
      · obtain ⟨hk, -⟩ := Channel.aliasTo_iff.mp hto
        obtain ⟨hc, ha⟩ := h.unnamed (i := j) (by rw [Channel.namesKey, hk]; rfl)
        rw [hgone j hj hto, hc, ha]
        exact ⟨rfl, rfl⟩
      · rw [hkept j hj (Bool.eq_false_iff.mpr hto)]
        exact ⟨rfl, rfl⟩
  have hstands : ∀ j, j ≠ i → (t.chan j).kind ≠ .empty → t.chan j = s.chan j := fun j hj hk => by
    by_cases hto : (s.chan j).aliasTo i = true
    · rw [hgone j hj hto] at hk
      exact absurd rfl hk
    · exact hkept j hj (Bool.eq_false_iff.mpr hto)
  have h0 : t.chan 0 = s.chan 0 := hkept 0 (Ne.symm hi0) (by rw [Channel.aliasTo, hkind0]; rfl)
  have hlinks : ∀ y, (s.slot y).LinksAs (t.slot y) := fun y => by rw [hslot]; exact ⟨rfl, rfl, rfl, rfl⟩
  have hspents : ∀ y, (t.slot y).spent = (s.slot y).spent := fun y => by rw [hslot]
  refine h.of_channels ⟨fun y h1 h23 => ?_, fun j y hj => ?_, fun j y hj => ?_, fun j hk hj => ?_, fun j hj => ?_, ?_, ?_,
    fun hnone => ?_⟩ ⟨fun j hj => ?_, fun g hg => ?_⟩ hlinks (fun y _ hy => (hspents y).trans hy) (fun y hy => ?_)
    (fun hnone => by rwa [h0] at hnone) hrest
  · have hold := h.references.counts ⟨h1, h23⟩
    have hcurrents := State.countChans_update (s := s) (t := t) (q := fun c => c.current == some y) (i := i) (by omega)
      fun j hj => by rw [(hnames j hj).1]
    have halternates := State.countChans_update (s := s) (t := t) (q := fun c => c.alternate == some y) (i := i) (by omega)
      fun j hj => by rw [(hnames j hj).2]
    simp only [hcurrent, halternate] at hcurrents halternates
    have hone : ∀ o : Option Nat, (o == some y).toNat = if o = some y then 1 else 0 := fun o => by
      by_cases ho : o = some y <;> simp [ho]
    simp only [hone, reduceCtorEq, if_false] at hcurrents halternates
    rw [hslot]
    dsimp only
    rw [hold]
    omega
  · have hji : j ≠ i := fun hji => by rw [hji, hcurrent] at hj; nomatch hj
    have hsame : t.chan j = s.chan j := hstands j hji fun hk => by
      rw [(hnames j hji).1] at hj
      obtain ⟨hnamesKey, -⟩ := h.references.current hj
      by_cases hto : (s.chan j).aliasTo i = true
      · obtain ⟨hka, -⟩ := Channel.aliasTo_iff.mp hto
        rw [Channel.namesKey, hka] at hnamesKey
        nomatch hnamesKey
      · rw [hkept j hji (Bool.eq_false_iff.mpr hto)] at hk
        rw [Channel.namesKey, hk] at hnamesKey
        nomatch hnamesKey
    obtain ⟨hstate, hlevel, -, -⟩ := hlinks y
    rw [hstate, hlevel, hspents, hsame]
    rw [hsame] at hj
    exact h.references.current hj
  · have hji : j ≠ i := fun hji => by rw [hji, halternate] at hj; nomatch hj
    obtain ⟨hc, ha⟩ := hnames j hji
    rw [ha] at hj
    obtain ⟨z, hz, hzy⟩ := h.references.alternate hj
    obtain ⟨-, -, hfirst, -⟩ := hlinks z
    exact ⟨z, hc.trans hz, hfirst.trans hzy⟩
  · by_cases hji : j = i
    · subst hji
      rcases hkind with ⟨-, hclosing⟩ | hempty
      · exact hclosing
      · nomatch hempty.symm.trans hk
    · have hsame := hstands j hji (by rw [hk]; nofun)
      rw [hsame] at hk hj ⊢
      exact h.references.unbound hk hj
  · by_cases hji : j = i
    · subst hji
      rcases hkind with ⟨hk, -⟩ | hk <;> rw [hk] <;> nofun
    · intro hk
      rw [hstands j hji (by rw [hk]; nofun)] at hk
      exact hcontrols j hj hk
  · rw [h0]; exact hkind0
  · rw [h0]; exact hlevel0
  · rw [h0] at hnone ⊢
    exact hopened0 hnone
  · have hji : j ≠ i := fun hji => by
      subst hji
      rcases hkind with ⟨hk, -⟩ | hk <;> nomatch hk.symm.trans hj
    have hsame := hstands j hji (by rw [hj]; nofun)
    rw [hsame] at hj ⊢
    obtain ⟨g, hg, hgdata, hstate, hclosing⟩ := h.aliases.target hj
    have hgi : g ≠ i := fun hgi => by
      have hto : (s.chan j).aliasTo i = true := Channel.aliasTo_iff.mpr ⟨hj, by rw [hg, hgi]⟩
      rw [hgone j hji hto] at hsame
      rw [← hsame] at hj
      nomatch hj
    have hgsame : t.chan g = s.chan g := hkept g hgi (by rw [Channel.aliasTo, hgdata]; rfl)
    exact ⟨g, hg, by rwa [hgsame], by rwa [hgsame], hclosing⟩
  · have hto : ∀ j, j ≠ i → (t.chan j).aliasTo g = true → (s.chan j).aliasTo g = true ∧ (s.chan j).aliasTo i = false :=
      fun j hj hjg => by
        obtain ⟨hk, -⟩ := Channel.aliasTo_iff.mp hjg
        by_cases hti : (s.chan j).aliasTo i = true
        · rw [hgone j hj hti] at hk
          nomatch hk
        · have hti := Bool.eq_false_iff.mpr hti
          rw [hkept j hj hti] at hjg
          exact ⟨hjg, hti⟩
    have hself' : (t.chan i).aliasTo g = false := by
      rcases hkind with ⟨hk, -⟩ | hk <;> rw [Channel.aliasTo, hk] <;> rfl
    by_cases hgi : g = i
    · subst hgi
      rw [haliasCount]
      refine (State.countChans_eq_zero fun j _ => ?_).symm
      by_cases hj : j = g
      · rw [hj]; exact hself'
      · by_contra hjg
        obtain ⟨hyes, hno⟩ := hto j hj (by simpa using hjg)
        exact Bool.false_ne_true (hno.symm.trans hyes)
    · have hgsame : t.chan g = s.chan g := hstands g hgi fun hk => by rw [Channel.namesKey, hk] at hg; nomatch hg
      rw [hgsame] at hg ⊢
      rw [h.aliases.count hg]
      refine (State.countChans_congr fun j => ?_).symm
      by_cases hj : j = i
      · rw [hj, hself', Channel.aliasTo, hdata]
        rfl
      · by_cases hti : (s.chan j).aliasTo i = true
        · obtain ⟨-, htarget⟩ := Channel.aliasTo_iff.mp hti
          rw [hgone j hj hti, Channel.aliasTo, Channel.aliasTo, htarget]
          simp [Ne.symm hgi]
        · rw [hkept j hj (Bool.eq_false_iff.mpr hti)]
  · rw [hslot, hy]
    simp

/-! ### ALIAS (R15) -/

theorem State.KeyLaw.closedAlias {g : Nat} (h : s.KeyLaw) (hi : i ≤ 47) (hkind : (s.chan i).kind = .aliased)
    (hg : (s.chan i).target = some g) :
    ((s.setChan i {}).updChan g fun c => { c with aliasCount := c.aliasCount - 1 }).KeyLaw := by
  obtain ⟨d, hd, hdata, hstate, hclosing⟩ := h.aliases.target hkind
  obtain rfl : d = g := Option.some.inj (hd.symm.trans hg)
  have hgi : d ≠ i := fun hgi => by rw [hgi, hkind] at hdata; nomatch hdata
  have hset : ∀ j, (s.setChan i {}).chan j = if j = i then {} else s.chan j := fun j => by
    rw [State.chan_setChan]
    exact if_congr (and_iff_left (by omega)) rfl rfl
  have hd47 : d < 48 := by
    by_contra hout
    rw [State.chan_out s d hout] at hdata
    nomatch hdata
  have hchan : ∀ j, ((s.setChan i {}).updChan d fun c => { c with aliasCount := c.aliasCount - 1 }).chan j =
      if j = d then { s.chan d with aliasCount := (s.chan d).aliasCount - 1 } else if j = i then {} else s.chan j := fun j => by
    rw [State.chan_updChan, hset, hset, if_neg hgi]
    exact if_congr (and_iff_left hd47) rfl rfl
  have hrest : ((s.setChan i {}).updChan d fun c => { c with aliasCount := c.aliasCount - 1 }).slots = s.slots
      ∧ ((s.setChan i {}).updChan d fun c => { c with aliasCount := c.aliasCount - 1 }).renewal = s.renewal
      ∧ ((s.setChan i {}).updChan d fun c => { c with aliasCount := c.aliasCount - 1 }).messenger = s.messenger :=
    ⟨rfl, rfl, rfl⟩
  generalize (s.setChan i {}).updChan d (fun c => { c with aliasCount := c.aliasCount - 1 }) = t at *
  have hself : t.chan i = {} := by rw [hchan, if_neg (Ne.symm hgi), if_pos rfl]
  have htells : ∀ j, j ≠ i → (t.chan j).kind = (s.chan j).kind ∧ (t.chan j).state = (s.chan j).state
      ∧ (t.chan j).level = (s.chan j).level ∧ (t.chan j).current = (s.chan j).current
      ∧ (t.chan j).alternate = (s.chan j).alternate ∧ (t.chan j).target = (s.chan j).target := fun j hj => by
    rw [hchan]
    by_cases hjg : j = d
    · rw [if_pos hjg, hjg]
      exact ⟨rfl, rfl, rfl, rfl, rfl, rfl⟩
    · rw [if_neg hjg, if_neg hj]
      exact ⟨rfl, rfl, rfl, rfl, rfl, rfl⟩
  obtain ⟨oldCurrent, oldAlternate⟩ := h.unnamed (i := i) (by rw [Channel.namesKey, hkind]; rfl)
  obtain ⟨hcontrols, hkind0, -⟩ := h.references.control
  have hi0 : 0 ≠ i := fun h0 => by rw [← h0, hkind0] at hkind; nomatch hkind
  refine h.of_unnamed (fun j => ?_) (fun j => ?_) (fun j hj => ?_) (fun j hk hj => ?_) (fun j hj => ?_) ?_
    ⟨fun j hj => ?_, fun b hb => ?_⟩ hrest
  · by_cases hji : j = i
    · rw [hji, hself, oldCurrent]
    · obtain ⟨-, -, -, hsame, -⟩ := htells j hji
      exact hsame
  · by_cases hji : j = i
    · rw [hji, hself, oldAlternate]
    · obtain ⟨-, -, -, -, hsame, -⟩ := htells j hji
      exact hsame
  · obtain ⟨jkind, jstate, jlevel, -⟩ := htells j fun hji => hj (by rw [hji, oldCurrent])
    exact ⟨by rw [Channel.namesKey, jkind, Channel.namesKey], jstate, jlevel⟩
  · have hji : j ≠ i := fun hji => by rw [hji, hself] at hk; nomatch hk
    obtain ⟨jkind, jstate, -⟩ := htells j hji
    exact jstate.trans (h.references.unbound (jkind.symm.trans hk) hj)
  · by_cases hji : j = i
    · rw [hji, hself]
      nofun
    · obtain ⟨jkind, -⟩ := htells j hji
      rw [jkind]
      exact hcontrols j hj
  · obtain ⟨jkind, jstate, jlevel, -⟩ := htells 0 hi0
    exact ⟨jkind, jlevel, jstate⟩
  · have hji : j ≠ i := fun hji => by rw [hji, hself] at hj; nomatch hj
    obtain ⟨jkind, jstate, -, -, -, jtarget⟩ := htells j hji
    obtain ⟨b, hb, bdata, bstate, bclosing⟩ := h.aliases.target (jkind.symm.trans hj)
    obtain ⟨bkind, bsame, -⟩ := htells b fun hbi => by rw [hbi, hkind] at bdata; nomatch bdata
    exact ⟨b, jtarget.trans hb, bkind.trans bdata, by rw [bsame, jstate, bstate], by rwa [jstate]⟩
  · have hbi : b ≠ i := fun hbi => by rw [hbi, hself] at hb; nomatch hb
    have hupdate := State.countChans_update (s := s) (t := t) (q := Channel.aliasTo b) (i := i) (by omega) fun j hj => by
      obtain ⟨jkind, -, -, -, -, jtarget⟩ := htells j hj
      rw [Channel.aliasTo, jkind, jtarget, Channel.aliasTo]
    have hnew : Channel.aliasTo b (t.chan i) = false := by rw [hself]; rfl
    have hold : Channel.aliasTo b (s.chan i) = (some d == some b) := by rw [Channel.aliasTo, hkind, hg]; rfl
    obtain ⟨bkind, -⟩ := htells b hbi
    rw [Channel.namesKey, bkind, ← Channel.namesKey] at hb
    rw [hold, hnew, Bool.toNat_false, Nat.add_zero, ← h.aliases.count hb] at hupdate
    rw [hchan]
    by_cases hbd : b = d
    · rw [hbd] at hupdate
      rw [if_pos hbd, hbd]
      simp only [beq_self_eq_true, Bool.toNat_true] at hupdate
      exact (Nat.eq_sub_of_add_eq hupdate).symm
    · rw [if_neg hbd, if_neg hbi]
      rw [Option.some_beq_some, beq_eq_false_iff_ne.mpr (Ne.symm hbd)] at hupdate
      exact hupdate.symm

theorem State.KeyLaw.closeChannel (h : s.KeyLaw) (h0 : i ≠ 0) (hi : i ≤ 47) (hempty : (s.chan i).kind ≠ .empty) :
    (s.closeChannel i).KeyLaw := by
  have hframes : ∀ q : ShopFrame → Bool, s.Alike (s.removeShopFrames q) := fun q => .same (by simp)
  by_cases hkind : (s.chan i).kind = .aliased
  · rw [State.closeChannel_aliased hkind]
    unfold State.closeAlias
    have hk := (hframes fun f => f.channel == i).law h
    have hchan := (s.removeShopFrames_reads fun f => f.channel == i).1
    generalize s.removeShopFrames (fun f => f.channel == i) = t at *
    obtain ⟨g, hg, -⟩ := h.aliases.target hkind
    dsimp only
    rw [hchan, hg]
    exact hk.closedAlias hi (by rwa [hchan]) ((congrArg Channel.target (hchan i)).trans hg)
  · have hdata : (s.chan i).kind = .data := by
      obtain ⟨hcontrols, -⟩ := h.references.control
      cases hk : (s.chan i).kind with
      | data => rfl
      | empty => exact absurd hk hempty
      | aliased => exact absurd hk hkind
      | control => exact absurd hk (hcontrols i h0)
    rw [State.closeChannel_data hdata, State.closeData_eq]
    have hk := (hframes (s.closesFrame i)).law h
    exact hk.unbound hi ((hframes (s.closesFrame i)).kind i |>.trans hdata)

/-! ### A CLOSING descriptor becomes EMPTY (R15, R23) -/

/-- Descriptors that were CLOSING may have become EMPTY; all else that the law reads stands. -/
theorem State.KeyLaw.cleared (h : s.KeyLaw)
    (hchan : ∀ j, (t.chan j).tells = (s.chan j).tells ∨ (s.chan j).state = .closing ∧ t.chan j = {})
    (hrest : t.slots = s.slots ∧ t.renewal = s.renewal ∧ t.messenger = s.messenger) : t.KeyLaw := by
  obtain ⟨hcontrols, -⟩ := h.references.control
  refine h.of_unnamed (fun j => ?_) (fun j => ?_) (fun j hj => ?_) (fun j hk hj => ?_) (fun j hj => ?_) ?_
    ⟨fun j hj => ?_, fun g hg => ?_⟩ hrest
  · rcases hchan j with hsame | ⟨hclosing, hgone⟩
    · obtain ⟨-, -, -, hcurrent, -⟩ := Channel.tells_eq hsame
      exact hcurrent
    · obtain ⟨-, hcurrent, -⟩ := h.closing hclosing
      rw [hgone, hcurrent]
  · rcases hchan j with hsame | ⟨hclosing, hgone⟩
    · obtain ⟨-, -, -, -, halternate, -⟩ := Channel.tells_eq hsame
      exact halternate
    · obtain ⟨-, -, halternate, -⟩ := h.closing hclosing
      rw [hgone, halternate]
  · rcases hchan j with hsame | ⟨hclosing, -⟩
    · obtain ⟨hkind, hlevel, hstate, -⟩ := Channel.tells_eq hsame
      exact ⟨by rw [Channel.namesKey, hkind, Channel.namesKey], hstate, hlevel⟩
    · obtain ⟨-, hcurrent, -⟩ := h.closing hclosing
      exact absurd hcurrent hj
  · rcases hchan j with hsame | ⟨-, hgone⟩
    · obtain ⟨hkind, -, hstate, -⟩ := Channel.tells_eq hsame
      exact hstate.trans (h.references.unbound (hkind.symm.trans hk) hj)
    · rw [hgone] at hk
      nomatch hk
  · rcases hchan j with hsame | ⟨-, hgone⟩
    · obtain ⟨hkind, -⟩ := Channel.tells_eq hsame
      rw [hkind]
      exact hcontrols j hj
    · rw [hgone]
      nofun
  · rcases hchan 0 with hsame | ⟨hclosing, -⟩
    · obtain ⟨hkind, hlevel, hstate, -⟩ := Channel.tells_eq hsame
      exact ⟨hkind, hlevel, hstate⟩
    · obtain ⟨h0, -⟩ := h.closing hclosing
      exact absurd rfl h0
  · rcases hchan j with hsame | ⟨-, hgone⟩
    · obtain ⟨hkind, -, hstate, -, -, htarget, -⟩ := Channel.tells_eq hsame
      obtain ⟨g, hg, gdata, gstate, gclosing⟩ := h.aliases.target (hkind.symm.trans hj)
      rcases hchan g with gsame | ⟨gclosed, -⟩
      · obtain ⟨gkind, -, gst, -⟩ := Channel.tells_eq gsame
        exact ⟨g, htarget.trans hg, gkind.trans gdata, by rw [gst, hstate, gstate], by rwa [hstate]⟩
      · exact absurd (gstate.symm.trans gclosed) gclosing
    · rw [hgone] at hj
      nomatch hj
  · have hto : ∀ j, (t.chan j).aliasTo g = (s.chan j).aliasTo g := fun j => by
      rcases hchan j with hsame | ⟨hclosing, hgone⟩
      · obtain ⟨hkind, -, -, -, -, htarget, -⟩ := Channel.tells_eq hsame
        rw [Channel.aliasTo, hkind, htarget, Channel.aliasTo]
      · obtain ⟨-, -, -, halias⟩ := h.closing hclosing
        rw [hgone]
        refine (Bool.eq_false_iff.mpr fun hyes => ?_).symm
        exact halias (Channel.aliasTo_iff.mp hyes).1
    rcases hchan g with hsame | ⟨-, hgone⟩
    · obtain ⟨hkind, -, -, -, -, -, hcount⟩ := Channel.tells_eq hsame
      rw [Channel.namesKey, hkind, ← Channel.namesKey] at hg
      rw [hcount, State.countChans_congr hto, h.aliases.count hg]
    · rw [hgone] at hg
      nomatch hg

end

end Sys2Proof.Machine
end

section
/-! PROOFS. The law of keys when slots are emptied: a STAGED successor discarded with its exchange (R31, R137, R140), a drain
end (R22, R35). -/

namespace Sys2Proof.Machine

/-! ### What emptying slots leaves -/

/-- A name dropped where it names one of the slots given. -/
def dropNames (p : Nat → Bool) (o : Option Nat) : Option Nat := if o.any p then none else o

theorem dropNames_eq_some {p : Nat → Bool} {o : Option Nat} {x : Nat} :
    dropNames p o = some x ↔ o = some x ∧ p x = false := by
  cases o with
  | none => simp [dropNames]
  | some y =>
    by_cases hy : p y = true
    · simp only [dropNames, Option.any_some, hy, if_true, reduceCtorEq, Option.some.injEq, false_iff, not_and]
      rintro rfl
      simp [hy]
    · rw [dropNames, Option.any_some, if_neg hy, Option.some.injEq]
      exact ⟨fun h => ⟨h, by rw [← h]; exact Bool.eq_false_iff.mpr hy⟩, And.left⟩

/-- Between s and t the slots of p have been emptied, with every link and alternate that named them; contexts that named them,
and it may be others without a successor, have become FREE. -/
structure State.Vacated (p : Nat → Bool) (s t : State) : Prop where
  chan : ∀ i, (t.chan i).tells = { (s.chan i).tells with alternate := dropNames p (s.chan i).alternate }
  emptied : ∀ x, p x = true → t.slot x = {}
  kept : ∀ x, p x = false → (t.slot x).tells = { (s.slot x).tells with
    predecessor := dropNames p (s.slot x).predecessor, successor := dropNames p (s.slot x).successor }
  empty : ∀ x, s.slot x = {} → t.slot x = {}
  ctx : ∀ c, (s.ctx c).Alike (t.ctx c) ∨ t.ctx c = {}
  freed : ∀ c y, (s.ctx c).isOpen = true → (s.ctx c).successor = some y → p y = true → t.ctx c = {}
  stands : ∀ c y, (s.ctx c).isOpen = true → (s.ctx c).successor = some y → (s.slot y).state = .staged → p y = false →
    (s.ctx c).Alike (t.ctx c)
  next : t.messenger.nextExchange = s.messenger.nextExchange
  list : s.ListAlike t

section
variable {s t : State} {p : Nat → Bool}

theorem State.Vacated.chan_eq (k : s.Vacated p t) (i : Nat) : (t.chan i).kind = (s.chan i).kind
    ∧ (t.chan i).level = (s.chan i).level ∧ (t.chan i).state = (s.chan i).state ∧ (t.chan i).current = (s.chan i).current
    ∧ (t.chan i).alternate = dropNames p (s.chan i).alternate ∧ (t.chan i).target = (s.chan i).target
    ∧ (t.chan i).aliasCount = (s.chan i).aliasCount := by
  simpa [Channel.tells] using k.chan i

theorem State.Vacated.slot_eq (k : s.Vacated p t) {x : Nat} (hx : p x = false) : (t.slot x).state = (s.slot x).state
    ∧ (t.slot x).level = (s.slot x).level ∧ (t.slot x).predecessor = dropNames p (s.slot x).predecessor
    ∧ (t.slot x).successor = dropNames p (s.slot x).successor ∧ (t.slot x).refs = (s.slot x).refs
    ∧ (t.slot x).spent = (s.slot x).spent := by
  simpa [Slot.tells] using k.kept x hx

theorem State.Vacated.kept_of_state (k : s.Vacated p t) {x : Nat} (hx : (t.slot x).state ≠ .empty) : p x = false := by
  by_contra hp
  exact hx (by rw [k.emptied x (by simpa using hp)])

theorem State.Vacated.successor (k : s.Vacated p t) (x y : Nat) :
    (t.slot x).successor = some y ↔ p x = false ∧ p y = false ∧ (s.slot x).successor = some y := by
  by_cases hx : p x = true
  · rw [k.emptied x hx, hx]
    exact ⟨nofun, nofun⟩
  · have hx := Bool.eq_false_iff.mpr hx
    obtain ⟨-, -, -, hlast, -⟩ := k.slot_eq hx
    rw [hlast, dropNames_eq_some]
    exact ⟨fun ⟨hy, hpy⟩ => ⟨hx, hpy, hy⟩, fun ⟨_, hpy, hy⟩ => ⟨hy, hpy⟩⟩

theorem State.Vacated.predecessor (k : s.Vacated p t) (x y : Nat) :
    (t.slot y).predecessor = some x ↔ p x = false ∧ p y = false ∧ (s.slot y).predecessor = some x := by
  by_cases hy : p y = true
  · rw [k.emptied y hy, hy]
    exact ⟨nofun, nofun⟩
  · have hy := Bool.eq_false_iff.mpr hy
    obtain ⟨-, -, hfirst, -⟩ := k.slot_eq hy
    rw [hfirst, dropNames_eq_some]
    exact ⟨fun ⟨hx, hpx⟩ => ⟨hpx, hy, hx⟩, fun ⟨hpx, _, hx⟩ => ⟨hx, hpx⟩⟩

theorem State.Vacated.links (k : s.Vacated p t) (h : s.LinkLaw) : t.LinkLaw := by
  refine ⟨fun x y => ?_, fun x y hxy => ?_, fun x y hxy => ?_, fun x hx => ?_, fun x hx => ?_⟩
  · rw [k.successor, k.predecessor, h.mutual]
  · obtain ⟨hx, hy, hlink⟩ := (k.successor x y).mp hxy
    obtain ⟨xstate, -⟩ := k.slot_eq hx
    obtain ⟨ystate, -⟩ := k.slot_eq hy
    rw [xstate, ystate]
    exact h.states hlink
  · obtain ⟨hx, hy, hlink⟩ := (k.successor x y).mp hxy
    obtain ⟨-, xlevel, -⟩ := k.slot_eq hx
    obtain ⟨-, ylevel, -⟩ := k.slot_eq hy
    rw [xlevel, ylevel]
    exact h.level hlink
  · obtain ⟨hstate, -, -, -, -, hspent⟩ := k.slot_eq (k.kept_of_state (by rw [hx]; nofun))
    exact hspent.trans (h.unspent (hstate.symm.trans hx))
  · by_cases hp : p x = true
    · exact k.emptied x hp
    · obtain ⟨hstate, -⟩ := k.slot_eq (Bool.eq_false_iff.mpr hp)
      exact k.empty x (h.empty (hstate.symm.trans hx))

theorem State.Vacated.references (k : s.Vacated p t) (h : s.KeyLaw) (hp : ∀ x, p x = true → (s.slot x).state ≠ .active) :
    t.ReferenceLaw := by
  obtain ⟨hothers, hkind, hlevel, hopened⟩ := h.references.control
  have hactive : ∀ {x}, (s.slot x).state = .active → p x = false := fun {x} hx => by
    by_contra hpx
    exact hp x (by simpa using hpx) hx
  refine ⟨fun x h1 h23 => ?_, fun i x hi => ?_, fun i x hi => ?_, fun i hdata hi => ?_, fun i hi => ?_, ?_, ?_, fun h0 => ?_⟩
  · by_cases hx : p x = true
    · have hcurrent : t.countChans (fun c => c.current == some x) = 0 := State.countChans_eq_zero fun i _ => by
        obtain ⟨-, -, -, hcurrent, -⟩ := k.chan_eq i
        rw [hcurrent]
        exact beq_eq_false_iff_ne.mpr fun hi => hp x hx (h.current_active hi)
      have halternate : t.countChans (fun c => c.alternate == some x) = 0 := State.countChans_eq_zero fun i _ => by
        obtain ⟨-, -, -, -, halternate, -⟩ := k.chan_eq i
        rw [halternate]
        exact beq_eq_false_iff_ne.mpr fun hi => Bool.false_ne_true ((dropNames_eq_some.mp hi).2.symm.trans hx)
      rw [k.emptied x hx, hcurrent, halternate]
    · have hx := Bool.eq_false_iff.mpr hx
      obtain ⟨-, -, -, -, hrefs, -⟩ := k.slot_eq hx
      have hcurrent : t.countChans (fun c => c.current == some x) = s.countChans fun c => c.current == some x :=
        State.countChans_congr fun i => by
          obtain ⟨-, -, -, hcurrent, -⟩ := k.chan_eq i
          rw [hcurrent]
      have halternate : t.countChans (fun c => c.alternate == some x) = s.countChans fun c => c.alternate == some x :=
        State.countChans_congr fun i => by
          obtain ⟨-, -, -, -, halternate, -⟩ := k.chan_eq i
          rw [halternate, Bool.eq_iff_iff, beq_iff_eq, beq_iff_eq, dropNames_eq_some]
          exact and_iff_left hx
      rw [hrefs, hcurrent, halternate]
      exact h.references.counts ⟨h1, h23⟩
  · obtain ⟨ikind, ilevel, istate, icurrent, -⟩ := k.chan_eq i
    rw [icurrent] at hi
    obtain ⟨hnames, hstate, hexhausted, hlevels⟩ := h.references.current hi
    obtain ⟨xstate, xlevel, -, -, -, xspent⟩ := k.slot_eq (hactive hstate)
    rw [Channel.namesKey, ikind, ← Channel.namesKey, xstate, istate, xspent, xlevel, ilevel]
    exact ⟨hnames, hstate, hexhausted, hlevels⟩
  · obtain ⟨-, -, -, icurrent, ialternate, -⟩ := k.chan_eq i
    rw [ialternate, dropNames_eq_some] at hi
    obtain ⟨hi, hx⟩ := hi
    obtain ⟨y, hy, hxy⟩ := h.references.alternate hi
    exact ⟨y, icurrent.trans hy, (k.predecessor x y).mpr ⟨hx, hactive (h.current_active hy), hxy⟩⟩
  · obtain ⟨ikind, -, istate, icurrent, -⟩ := k.chan_eq i
    exact istate.trans (h.references.unbound (ikind.symm.trans hdata) (icurrent.symm.trans hi))
  · obtain ⟨ikind, -⟩ := k.chan_eq i
    rw [ikind]
    exact hothers i hi
  · obtain ⟨ikind, -⟩ := k.chan_eq 0
    exact ikind.trans hkind
  · obtain ⟨-, ilevel, -⟩ := k.chan_eq 0
    exact ilevel.trans hlevel
  · obtain ⟨-, -, istate, icurrent, -⟩ := k.chan_eq 0
    exact istate.trans (hopened (icurrent.symm.trans h0))

theorem State.Vacated.aliases (k : s.Vacated p t) (h : s.AliasLaw) : t.AliasLaw := by
  refine ⟨fun i hi => ?_, fun g hg => ?_⟩
  · obtain ⟨ikind, -, istate, -, -, itarget, -⟩ := k.chan_eq i
    obtain ⟨g, hg, hdata, hstate, hclosing⟩ := h.target (ikind.symm.trans hi)
    obtain ⟨gkind, -, gstate, -⟩ := k.chan_eq g
    exact ⟨g, itarget.trans hg, gkind.trans hdata, by rw [gstate, istate, hstate], by rwa [istate]⟩
  · obtain ⟨gkind, -, -, -, -, -, gcount⟩ := k.chan_eq g
    rw [Channel.namesKey, gkind, ← Channel.namesKey] at hg
    rw [gcount, h.count hg]
    refine (State.countChans_congr fun i => ?_).symm
    obtain ⟨ikind, -, -, -, -, itarget, -⟩ := k.chan_eq i
    rw [Channel.aliasTo, ikind, itarget, Channel.aliasTo]

/-- A context that is open after says what it did, and its successor has not been emptied. -/
theorem State.Vacated.open_of (k : s.Vacated p t) {c : Nat} (hc : (t.ctx c).isOpen = true) :
    (s.ctx c).Alike (t.ctx c) ∧ (s.ctx c).isOpen = true ∧ ∀ y, (s.ctx c).successor = some y → p y = false := by
  have hnot : t.ctx c ≠ {} := fun hfree => by rw [hfree] at hc; nomatch hc
  have halike := (k.ctx c).resolve_right hnot
  have hopen := halike.isOpen.symm.trans hc
  refine ⟨halike, hopen, fun y hy => ?_⟩
  by_contra hp
  exact hnot (k.freed c y hopen hy (by simpa using hp))

theorem State.Vacated.agrees (k : s.Vacated p t) (h : s.KeyLaw) (hp : ∀ x, p x = true → (s.slot x).state ≠ .active)
    {c : Nat} (hc : (t.ctx c).isOpen = true) : t.contextAgrees (t.ctx c) := by
  obtain ⟨halike, hopen, hsuccessors⟩ := k.open_of hc
  obtain ⟨cstate, -, ckind, csubject, csuccessor⟩ := halike.tells
  have hactive : ∀ {x}, (s.slot x).state = .active → p x = false := fun {x} hx => by
    by_contra hpx
    exact hp x (by simpa using hpx) hx
  rw [State.contextAgrees_iff]
  cases h.contextIs hopen with
  | asking x kind state subject active first last successor =>
    obtain ⟨xstate, -, xfirst, xlast, -⟩ := k.slot_eq (hactive active)
    exact .asking x (ckind.trans kind) (cstate.trans state) (csubject.trans subject) (xstate.trans active)
      (by rw [xfirst, first]; rfl) (by rw [xlast, last]; rfl) (csuccessor.trans successor)
  | renewing x y kind state subject active first link successor =>
    obtain ⟨xstate, -, xfirst, -⟩ := k.slot_eq (hactive active)
    exact .renewing x y (ckind.trans kind) (cstate.trans state) (csubject.trans subject) (xstate.trans active)
      (by rw [xfirst, first]; rfl) ((k.successor x y).mpr ⟨hactive active, hsuccessors y successor, link⟩)
      (csuccessor.trans successor)
  | booting kind state subject successor =>
    exact .booting (ckind.trans kind) (cstate.trans state) (csubject.trans subject) (csuccessor.trans successor)
  | installing y kind state subject successor staged unlinked level =>
    obtain ⟨ystate, ylevel, yfirst, -⟩ := k.slot_eq (hsuccessors y successor)
    obtain ⟨-, -, -, hbound, -⟩ := k.chan_eq 0
    exact .installing y (by rwa [ckind]) (cstate.trans state) (csubject.trans subject) (csuccessor.trans successor)
      (ystate.trans staged) (by rw [yfirst, unlinked]; rfl) fun hnone => ylevel.trans (level (hbound.symm.trans hnone))
  | root kind state subject successor =>
    exact .root (ckind.trans kind) (cstate.trans state) (csubject.trans subject) (csuccessor.trans successor)

theorem State.Vacated.exchanges (k : s.Vacated p t) (h : s.KeyLaw) (hp : ∀ x, p x = true → (s.slot x).state ≠ .active) :
    t.ExchangeLaw := by
  have hx := h.exchanges
  refine ⟨by rw [k.next]; exact hx.next, fun c hc => ?_, fun c hc => ?_, fun c d hcd hc hd => ?_, fun y hy => ?_,
    k.list.nodup hx.nodup, fun e he x hex => ?_⟩
  · rcases k.ctx c with halike | hfree
    · exact halike.free (hx.free (halike.isOpen.symm.trans hc))
    · exact hfree
  · obtain ⟨halike, hopen, -⟩ := k.open_of hc
    obtain ⟨-, hexchange, -⟩ := halike.tells
    exact ⟨k.agrees h hp hc, by rw [hexchange]; exact hx.exchange hopen, halike.bounds (hx.bounds hopen)⟩
  · obtain ⟨calike, copen, -⟩ := k.open_of hc
    obtain ⟨dalike, dopen, -⟩ := k.open_of hd
    obtain ⟨-, cexchange, -, csubject, csuccessor⟩ := calike.tells
    obtain ⟨-, dexchange, -, dsubject, dsuccessor⟩ := dalike.tells
    rw [cexchange, dexchange, csubject, dsubject, csuccessor, dsuccessor]
    exact hx.different hcd copen dopen
  · have hpy := k.kept_of_state (x := y) (by rw [hy]; nofun)
    obtain ⟨ystate, -⟩ := k.slot_eq hpy
    have hstaged := ystate.symm.trans hy
    obtain ⟨c, hopen, hsuccessor⟩ := hx.staged hstaged
    have halike := k.stands c y hopen hsuccessor hstaged hpy
    obtain ⟨-, -, -, -, csuccessor⟩ := halike.tells
    exact ⟨c, halike.isOpen.trans hopen, csuccessor.trans hsuccessor⟩
  · have hlisted : (s.slot x).state = .active ∧ ∀ c, (s.ctx c).isOpen = true → (s.ctx c).subject ≠ some x := by
      rcases k.list.listed e he x hex with ⟨d, hd, hdx⟩ | hnew
      · exact hx.listed hd hdx
      · exact hnew
    obtain ⟨hactive, hserved⟩ := hlisted
    obtain ⟨xstate, -⟩ := k.slot_eq (x := x) (Bool.eq_false_iff.mpr fun hpx => hp x hpx hactive)
    refine ⟨xstate.trans hactive, fun c hc => ?_⟩
    obtain ⟨halike, hopen, -⟩ := k.open_of hc
    obtain ⟨-, -, -, csubject, -⟩ := halike.tells
    rw [csubject]
    exact hserved c hopen

/-- Slots that are not ACTIVE may be emptied. -/
theorem State.Vacated.law (k : s.Vacated p t) (h : s.KeyLaw) (hp : ∀ x, p x = true → (s.slot x).state ≠ .active) : t.KeyLaw :=
  ⟨k.references h hp, k.aliases h.aliases, k.links h.links, k.exchanges h hp⟩

end

end Sys2Proof.Machine
end

section
/-! PROOFS. The law of keys over the ends of an exchange without its key (R137, R140), over a drain end (R35), and over the end of
a flight (R96). -/

namespace Sys2Proof.Machine

section
variable {s t : State}

/-! ### Slots emptied one at a time (R33) -/

/-- The slots of p have been emptied where one of them at most has. -/
theorem dropNames_single (x : Nat) (o : Option Nat) : dropNames (· == x) o = if o = some x then none else o := by
  cases o with
  | none => rfl
  | some y =>
    by_cases hy : y = x
    · simp [dropNames, hy]
    · simp [dropNames, hy]

theorem dropNames_none (o : Option Nat) : dropNames (fun _ => false) o = o := by
  cases o <;> rfl

theorem State.emptySlot_tells {x y : Nat} (hx : 1 ≤ x ∧ x ≤ 23) (hy : (y == x) = false) (s : State) :
    ((s.emptySlot x).slot y).tells = { (s.slot y).tells with
      predecessor := dropNames (· == x) (s.slot y).predecessor, successor := dropNames (· == x) (s.slot y).successor } := by
  rw [State.emptySlot_slot x y s hx, if_neg (by simpa using hy), dropNames_single, dropNames_single]
  rfl

theorem State.emptySlot_empty {x y : Nat} (hx : 1 ≤ x ∧ x ≤ 23) (hy : s.slot y = {}) : (s.emptySlot x).slot y = {} := by
  rw [State.emptySlot_slot x y s hx, hy]
  simp

/-! ### Exchanges that end without their key (R137, R140) -/

/-- The slot that the end of the exchange of context c discards. -/
def State.discards (s : State) (c y : Nat) : Bool := (s.ctx c).successor == some y && (s.slot y).state == .staged

theorem State.discards_iff {c y : Nat} : s.discards c y = true ↔ (s.ctx c).successor = some y ∧ (s.slot y).state = .staged := by
  simp [State.discards]

/-- The staged successor of context c is emptied; no slot changes for a context without one. -/
theorem State.discardSuccessor_slotwise (c : Nat) (s : State) :
    (∃ y, 1 ≤ y ∧ y ≤ 23 ∧ s.discards c = (· == y) ∧ s.discardSuccessor c = s.emptySlot y)
      ∨ s.discards c = (fun _ => false) ∧ (s.discardSuccessor c).slots = s.slots := by
  by_cases hy : ∃ y, s.discards c y = true
  · obtain ⟨y, hy⟩ := hy
    obtain ⟨hsuccessor, hstaged⟩ := State.discards_iff.mp hy
    have hrange := State.slot_bounds (s := s) (x := y) (by rw [hstaged]; nofun)
    refine .inl ⟨y, hrange.1, hrange.2, ?_, ?_⟩
    · funext z
      by_cases hz : z = y
      · rw [hz, hy]
        simp
      · simp only [State.discards, hsuccessor, Option.some_beq_some, beq_eq_false_iff_ne.mpr hz,
          beq_eq_false_iff_ne.mpr (Ne.symm hz), Bool.false_and]
    · simp only [State.discardSuccessor, hsuccessor, if_neg (show ¬ y = 0 by omega), State.discardSlot, if_pos hstaged]
  · refine .inr ⟨funext fun z => Bool.eq_false_iff.mpr fun hz => hy ⟨z, hz⟩, ?_⟩
    unfold State.discardSuccessor
    split
    next z hsuccessor =>
      have hz : ¬ (s.slot z).state = .staged := fun hz => hy ⟨z, State.discards_iff.mpr ⟨hsuccessor, hz⟩⟩
      rw [State.discardSlot, if_neg hz]
      split <;> rfl
    next => rfl

/-- The end of the exchange of context c, whatever else it does to the part. -/
structure State.EndsContext (s t : State) (c : Nat) : Prop where
  chans : t.chans = s.chans
  slots : t.slots = (s.discardSuccessor c).slots
  self : t.ctx c = {}
  others : ∀ d, d ≠ c → t.ctx d = s.ctx d
  next : t.messenger.nextExchange = s.messenger.nextExchange
  list : t.renewal.list = s.renewal.list

theorem State.EndsContext.vacated {c : Nat} (k : s.EndsContext t c) (h : s.KeyLaw) (hc : (s.ctx c).isOpen = true) :
    s.Vacated (s.discards c) t := by
  have hslot : ∀ x, t.slot x = (s.discardSuccessor c).slot x := State.slot_congr k.slots
  have halternate : ∀ i, dropNames (s.discards c) (s.chan i).alternate = (s.chan i).alternate := fun i => by
    cases hi : (s.chan i).alternate with
    | none => rfl
    | some x =>
      refine dropNames_eq_some.mpr ⟨rfl, Bool.eq_false_iff.mpr fun hx => ?_⟩
      obtain ⟨-, hstaged⟩ := State.discards_iff.mp hx
      nomatch (h.alternate_draining hi).symm.trans hstaged
  have hctx : ∀ d, (s.ctx d).Alike (t.ctx d) ∨ t.ctx d = {} := fun d => by
    by_cases hd : d = c
    · exact .inr (hd ▸ k.self)
    · rw [k.others d hd]
      exact .inl (.refl _)
  have hslots : (∀ x, s.discards c x = true → (s.discardSuccessor c).slot x = {})
      ∧ (∀ x, s.discards c x = false → ((s.discardSuccessor c).slot x).tells = { (s.slot x).tells with
          predecessor := dropNames (s.discards c) (s.slot x).predecessor
          successor := dropNames (s.discards c) (s.slot x).successor })
      ∧ ∀ x, s.slot x = {} → (s.discardSuccessor c).slot x = {} := by
    rcases s.discardSuccessor_slotwise c with ⟨y, h1, h23, hp, heq⟩ | ⟨hp, hslots⟩
    · rw [hp, heq]
      refine ⟨fun x hx => ?_, fun x hx => State.emptySlot_tells ⟨h1, h23⟩ hx s, fun x hx => State.emptySlot_empty ⟨h1, h23⟩ hx⟩
      rw [State.emptySlot_slot y x s ⟨h1, h23⟩, if_pos (by simpa using hx)]
    · rw [hp]
      refine ⟨nofun, fun x _ => ?_, fun x hx => (State.slot_congr hslots x).trans hx⟩
      rw [State.slot_congr hslots x, dropNames_none, dropNames_none]
      rfl
  obtain ⟨hgone, hkept, hempty⟩ := hslots
  refine ⟨fun i => ?_, fun x hx => (hslot x).trans (hgone x hx), fun x hx => ?_, fun x hx => (hslot x).trans (hempty x hx), hctx,
    fun d y hd hy hp => ?_, fun d y hd hy hstaged hp => ?_, k.next, .same k.list⟩
  · rw [State.chan_congr k.chans, halternate]
    rfl
  · rw [hslot]
    exact hkept x hx
  · obtain ⟨hsuccessor, hstaged⟩ := State.discards_iff.mp hp
    by_cases hdc : d = c
    · exact hdc ▸ k.self
    · obtain ⟨-, -, hdifferent⟩ := h.exchanges.different hdc hd hc
      exact absurd hsuccessor (hdifferent y (State.slot_bounds (s := s) (by rw [hstaged]; nofun)).1 hy)
  · by_cases hdc : d = c
    · rw [hdc] at hy
      exact absurd hp (by simp [State.discards, hy, hstaged])
    · rw [k.others d hdc]
      exact .refl _

theorem State.EndsContext.law {c : Nat} (k : s.EndsContext t c) (h : s.KeyLaw) (hc : (s.ctx c).isOpen = true) : t.KeyLaw :=
  (k.vacated h hc).law h fun x hx hactive => by
    obtain ⟨-, hstaged⟩ := State.discards_iff.mp hx
    nomatch hactive.symm.trans hstaged

theorem State.KeyLaw.endExchange (h : s.KeyLaw) {c : Nat} (k : FaultKind) (hc : (s.ctx c).isOpen = true) :
    (s.endExchange k c).KeyLaw := by
  obtain ⟨e, he, -⟩ := h.exchanges.exchange hc
  obtain ⟨hself, hothers⟩ := State.endExchange_ctx (State.isOpen_lt hc) k he
  obtain ⟨-, hchans, -⟩ := State.endExchange_same k he
  refine State.EndsContext.law ⟨hchans, State.endExchange_slots k he, hself, hothers, ?_, ?_⟩ h hc
  · rw [State.endExchange_messenger k he]
  · rw [State.endExchange_renewal k he]

theorem State.KeyLaw.failContext (h : s.KeyLaw) {c : Nat} (hc : (s.ctx c).isOpen = true) : (s.failContext c).KeyLaw :=
  State.Alike.law (s := s.endExchange .renewalFailed c) (.same (by simp [State.failContext_eq])) (h.endExchange .renewalFailed hc)

theorem State.KeyLaw.refuseContext (h : s.KeyLaw) {c : Nat} (hc : (s.ctx c).isOpen = true) : (s.refuseContext c).KeyLaw :=
  State.Alike.law (s := s.endExchange .renewalRefused c) (.same (by simp [State.refuseContext_eq]))
    (h.endExchange .renewalRefused hc)

theorem State.KeyLaw.expireReply (h : s.KeyLaw) (c : Nat) : (s.expireReply c).KeyLaw := by
  unfold State.expireReply
  split
  next hdue =>
    unfold State.replyDue at hdue
    simp only [Bool.and_eq_true] at hdue
    obtain ⟨⟨⟨hopen, -⟩, -⟩, -⟩ := hdue
    split
    next hattempt => exact (State.composeAgain_alike hopen hattempt).law h
    next => exact h.failContext hopen
  next => exact h

/-! ### A drain end (R22, R35) -/

theorem State.drained_vacated (h : s.KeyLaw) {x : Nat} (hx : (s.slot x).state = .draining) :
    s.Vacated (· == x) ((s.dropAlternate x).emptySlot x) := by
  have hbounds := State.slot_bounds (s := s) (x := x) (by rw [hx]; nofun)
  have hslot : ∀ y, y ≠ x → (s.dropAlternate x).slot y = s.slot y := fun y hy => State.dropAlternate_slot x y s hy
  have hctx : ∀ c, ((s.dropAlternate x).emptySlot x).ctx c = s.ctx c := State.ctx_congr (by simp)
  refine ⟨fun i => ?_, fun y hy => ?_, fun y hy => ?_, fun y hy => ?_, fun c => .inl ?_, fun c y hc hy hyx => ?_,
    fun c y _ _ _ _ => ?_, by simp, .same (by simp)⟩
  · simp only [State.emptySlot_reads, State.dropAlternate_chan, dropNames_single]
    rfl
  · rw [State.emptySlot_slot x y _ hbounds, if_pos (by simpa using hy)]
  · rw [State.emptySlot_tells hbounds hy, hslot y (by simpa using hy)]
  · exact State.emptySlot_empty hbounds ((hslot y fun hyx => by rw [hyx] at hy; rw [hy] at hx; nomatch hx).trans hy)
  · rw [hctx]
    exact .refl _
  · obtain rfl : y = x := by simpa using hyx
    rcases h.successor_staged hc hy with rfl | hstaged
    · exact absurd hbounds.1 (by decide)
    · nomatch hstaged.symm.trans hx
  · rw [hctx]
    exact .refl _

theorem State.KeyLaw.endDrain (h : s.KeyLaw) (x : Nat) : (s.endDrain x).KeyLaw := by
  unfold State.endDrain
  dsimp only
  split
  next hx =>
    obtain ⟨hx, -⟩ := hx
    refine (State.drained_vacated h hx).law h fun y hy => ?_
    rw [show y = x by simpa using hy, hx]
    nofun
  next => exact h

/-! ### The end of a flight (R15, R23, R96) -/

theorem State.KeyLaw.flightMarks (h : s.KeyLaw) (i : Nat) :
    (s.updChan i fun c => if c.state = .closing then {} else { c with inEngine := false }).KeyLaw := by
  refine h.cleared (fun j => ?_) ⟨rfl, rfl, rfl⟩
  rw [State.chan_updChan]
  split
  next hj =>
    rw [hj.1]
    split
    next hclosing => exact .inr ⟨hclosing, rfl⟩
    next => exact .inl rfl
  next => exact .inl rfl

theorem State.KeyLaw.endFlight (h : s.KeyLaw) (i : Nat) (k : KeyRef) : (s.endFlight i k).KeyLaw := by
  have hcleared := h.flightMarks i
  cases k with
  | root =>
    rw [State.endFlight_of_root]
    exact State.Alike.law (.same ⟨rfl, rfl, rfl, rfl, rfl⟩) hcleared
  | slot x =>
    have hmarks : (s.marksCleared i x).KeyLaw :=
      (State.updSlot_alike (f := fun v => { v with engineUse := false }) rfl fun hx => by rw [hx]).law hcleared
    exact State.Alike.law (s := (s.marksCleared i x).endDrain x) (.same ⟨rfl, rfl, rfl, rfl, rfl⟩) (hmarks.endDrain x)

end

end Sys2Proof.Machine
end

section
/-! PROOFS. The law of keys over the switch of keys (R21, R29), as a KEY COMMIT of a renewal or an implicit commit makes it. -/

namespace Sys2Proof.Machine

section
variable {s t : State} {c x y : Nat}

/-- What the law says of the slots of a RENEWAL context that waits for its commit. -/
structure State.Renews (s : State) (c x y : Nat) : Prop where
  isOpen : (s.ctx c).isOpen = true
  subject : (s.ctx c).subject = some x
  successor : (s.ctx c).successor = some y
  active : (s.slot x).state = .active
  staged : (s.slot y).state = .staged
  link : (s.slot x).successor = some y
  back : (s.slot y).predecessor = some x
  first : (s.slot x).predecessor = none
  last : (s.slot y).successor = none
  level : (s.slot y).level = (s.slot x).level
  unspent : (s.slot y).spent = false

theorem State.KeyLaw.renews (h : s.KeyLaw) (hc : (s.ctx c).isOpen = true) (hkind : (s.ctx c).kind = some .renewal)
    (hstate : (s.ctx c).state = .awaitCommit) : ∃ x y, s.Renews c x y := by
  cases h.contextIs hc with
  | asking _ _ hwrong => nomatch hwrong.symm.trans hstate
  | renewing x y _ _ subject active first link successor =>
    have hback := (h.links.mutual x y).mp link
    have hstaged : (s.slot y).state = .staged := by
      rcases h.links.states link with ⟨-, hstaged⟩ | ⟨hdraining, -⟩
      · exact hstaged
      · nomatch hdraining.symm.trans active
    refine ⟨x, y, hc, subject, successor, active, hstaged, link, hback, first, ?_, h.links.level link, h.links.unspent hstaged⟩
    by_contra hsome
    obtain ⟨z, hz⟩ := Option.ne_none_iff_exists'.mp hsome
    rcases h.links.states hz with ⟨hy, -⟩ | ⟨hy, -⟩ <;> nomatch hy.symm.trans hstaged
  | booting hwrong => nomatch hwrong.symm.trans hkind
  | installing _ hwrong =>
    rcases hwrong with hwrong | hwrong <;> nomatch hwrong.symm.trans hkind
  | root hwrong => nomatch hwrong.symm.trans hkind

/-- Context c has switched the keys of its slots x and y, and has become FREE. -/
structure State.Renewed (s t : State) (c x y : Nat) : Prop where
  switched : s.Switched t x y
  self : t.ctx c = {}
  others : ∀ d, d ≠ c → t.ctx d = s.ctx d
  next : t.messenger.nextExchange = s.messenger.nextExchange
  list : t.renewal.list = s.renewal.list

theorem State.Renews.ne (r : s.Renews c x y) : x ≠ y := fun hxy => by
  have hactive := r.active
  rw [hxy, r.staged] at hactive
  nomatch hactive

theorem State.KeyLaw.currentIs (h : s.KeyLaw) (i : Nat) : (s.chan i).currentIs x = true ↔ (s.chan i).current = some x := by
  rw [Channel.currentIs_iff]
  refine and_iff_right_of_imp fun hi => ?_
  obtain ⟨hnames, -⟩ := h.references.current hi
  exact hnames

/-- A slot after the switch, but for its state and its references. -/
theorem State.Renewed.slot_eq (k : s.Renewed t c x y) (z : Nat) : (t.slot z).level = (s.slot z).level
    ∧ (t.slot z).predecessor = (s.slot z).predecessor ∧ (t.slot z).successor = (s.slot z).successor
    ∧ (t.slot z).spent = (s.slot z).spent := by
  by_cases hzx : z = x
  · rw [hzx, k.switched.old]
    exact ⟨rfl, rfl, rfl, rfl⟩
  · by_cases hzy : z = y
    · rw [hzy, k.switched.new]
      exact ⟨rfl, rfl, rfl, rfl⟩
    · rw [k.switched.slots z hzx hzy]
      exact ⟨rfl, rfl, rfl, rfl⟩

/-- A descriptor after the switch, but for the states of aliases. -/
theorem State.Renewed.chan_eq (k : s.Renewed t c x y) (h : s.KeyLaw) (i : Nat) : (t.chan i).kind = (s.chan i).kind ∧ (t.chan i).level = (s.chan i).level
    ∧ (t.chan i).target = (s.chan i).target ∧ (t.chan i).aliasCount = (s.chan i).aliasCount
    ∧ (t.chan i).current = (if (s.chan i).current = some x then some y else (s.chan i).current)
    ∧ (t.chan i).alternate = (if (s.chan i).current = some x then some x else (s.chan i).alternate) := by
  rw [k.switched.chan, State.reboundChan]
  by_cases hi : (s.chan i).current = some x
  · rw [if_pos ((h.currentIs i).mpr hi), if_pos hi, if_pos hi]
    exact ⟨rfl, rfl, rfl, rfl, rfl, rfl⟩
  · rw [if_neg fun hcurrent => hi ((h.currentIs i).mp hcurrent), if_neg hi, if_neg hi]
    split <;> exact ⟨rfl, rfl, rfl, rfl, rfl, rfl⟩

theorem State.Renewed.state_of_names (k : s.Renewed t c x y) (h : s.KeyLaw) {i : Nat} (hi : (s.chan i).kind ≠ .aliased) :
    (t.chan i).state = if (s.chan i).current = some x then .opened else (s.chan i).state := by
  rw [k.switched.chan]
  by_cases hx : (s.chan i).current = some x
  · obtain ⟨-, -, hstate, -⟩ := h.references.current hx
    rw [State.reboundChan_current y ((h.currentIs i).mpr hx), if_pos hx]
    dsimp only
    rw [hstate]
    cases (s.slot x).spent <;> rfl
  · rw [State.reboundChan_other y (Bool.eq_false_iff.mpr fun hcurrent => hx ((h.currentIs i).mp hcurrent))
      fun _ hk => absurd hk hi, if_neg hx]

/-- An ALIAS descriptor goes with its target. -/
theorem State.Renewed.state_of_alias (k : s.Renewed t c x y) (h : s.KeyLaw) {i g : Nat} (hi : (s.chan i).kind = .aliased) (hg : (s.chan i).target = some g)
    (hdata : (s.chan g).kind = .data) (hstate : (s.chan g).state = (s.chan i).state) :
    (t.chan i).state = (t.chan g).state := by
  have hnames : (s.chan g).kind ≠ .aliased := by rw [hdata]; nofun
  rw [k.state_of_names h hnames]
  rw [k.switched.chan]
  have hown : (s.chan i).currentIs x = false := by rw [Channel.currentIs, Channel.namesKey, hi]; rfl
  by_cases hx : (s.chan g).current = some x
  · obtain ⟨-, -, hspent, -⟩ := h.references.current hx
    rw [State.reboundChan_alias y hi hg ((h.currentIs g).mpr hx), if_pos hx]
    dsimp only
    rw [← hstate, hspent]
    cases (s.slot x).spent <;> rfl
  · rw [State.reboundChan_other y hown fun d _ hd => ?_, if_neg hx, hstate]
    obtain rfl : d = g := Option.some.inj (hd.symm.trans hg)
    exact Bool.eq_false_iff.mpr fun hcurrent => hx ((h.currentIs d).mp hcurrent)

theorem State.Renewed.aliases (k : s.Renewed t c x y) (h : s.KeyLaw) : t.AliasLaw := by
  refine ⟨fun i hi => ?_, fun g hg => ?_⟩
  · obtain ⟨ikind, -, itarget, -⟩ := k.chan_eq h i
    rw [ikind] at hi
    obtain ⟨g, hg, hdata, hstate, hclosing⟩ := h.aliases.target hi
    obtain ⟨gkind, -⟩ := k.chan_eq h g
    have hsame := k.state_of_alias h hi hg hdata hstate
    refine ⟨g, itarget.trans hg, gkind.trans hdata, hsame.symm, ?_⟩
    rw [hsame, k.state_of_names h (by rw [hdata]; nofun)]
    split
    · nofun
    · rwa [hstate]
  · obtain ⟨gkind, -, -, gcount, -⟩ := k.chan_eq h g
    rw [Channel.namesKey, gkind, ← Channel.namesKey] at hg
    rw [gcount, h.aliases.count hg]
    refine (State.countChans_congr fun i => ?_).symm
    obtain ⟨ikind, -, itarget, -⟩ := k.chan_eq h i
    rw [Channel.aliasTo, ikind, itarget, Channel.aliasTo]

section
variable (h : s.KeyLaw) (r : s.Renews c x y) (k : s.Renewed t c x y)
include h r

theorem State.Renews.unnamed (i : Nat) : (s.chan i).current ≠ some y ∧ (s.chan i).alternate ≠ some y :=
  h.unreferenced (by rw [r.staged]; nofun) (by rw [r.staged]; nofun) i

theorem State.Renews.alternate (i : Nat) : (s.chan i).alternate ≠ some x := fun hi => by
  nomatch (h.alternate_draining hi).symm.trans r.active

/-- No other channel has an alternate, for the subject has no predecessor. -/
theorem State.Renews.alternate_none {i : Nat} (hi : (s.chan i).current = some x) : (s.chan i).alternate = none := by
  by_contra hsome
  obtain ⟨z, hz⟩ := Option.ne_none_iff_exists'.mp hsome
  obtain ⟨w, hw, hwz⟩ := h.references.alternate hz
  obtain rfl : w = x := Option.some.inj (hw.symm.trans hi)
  nomatch r.first.symm.trans hwz

include k

theorem State.Renewed.counts {z : Nat} (hz : 1 ≤ z ∧ z ≤ 23) : (t.slot z).refs =
    t.countChans (fun c => c.current == some z) + t.countChans (fun c => c.alternate == some z) := by
  have hold := h.references.counts hz
  have hmoved : ∀ (i : Nat) (o : Option Nat), ((t.chan i).current == o)
      = ((if (s.chan i).current = some x then some y else (s.chan i).current) == o) := fun i o => by
    obtain ⟨-, -, -, -, hcurrent, -⟩ := k.chan_eq h i
    rw [hcurrent]
  have hkept : ∀ (i : Nat) (o : Option Nat), ((t.chan i).alternate == o)
      = ((if (s.chan i).current = some x then some x else (s.chan i).alternate) == o) := fun i o => by
    obtain ⟨-, -, -, -, -, halternate⟩ := k.chan_eq h i
    rw [halternate]
  by_cases hzx : z = x
  · subst hzx
    have hcurrent : t.countChans (fun c => c.current == some z) = 0 := State.countChans_eq_zero fun i _ => by
      rw [hmoved, beq_eq_false_iff_ne]
      split
      · exact fun hyz => r.ne (Option.some.inj hyz).symm
      next hi => exact hi
    have halternate : t.countChans (fun c => c.alternate == some z) = s.countChans fun c => c.current == some z :=
      State.countChans_congr fun i => by
        rw [hkept]
        split
        next hi => rw [hi]
        next hi => rw [beq_eq_false_iff_ne.mpr (r.alternate h i), beq_eq_false_iff_ne.mpr hi]
    have hnone : s.countChans (fun c => c.alternate == some z) = 0 := State.countChans_eq_zero fun i _ =>
      beq_eq_false_iff_ne.mpr (r.alternate h i)
    rw [k.switched.old, hcurrent, halternate]
    dsimp only
    omega
  · by_cases hzy : z = y
    · subst hzy
      have hcurrent : t.countChans (fun c => c.current == some z) = s.countChans (Channel.currentIs x) :=
        State.countChans_congr fun i => by
          rw [hmoved, Bool.eq_iff_iff, h.currentIs, beq_iff_eq]
          split
          next hi => exact iff_of_true rfl hi
          next hi => exact iff_of_false (r.unnamed h i).1 hi
      have halternate : t.countChans (fun c => c.alternate == some z) = 0 := State.countChans_eq_zero fun i _ => by
        rw [hkept, beq_eq_false_iff_ne]
        split
        · exact fun hxz => r.ne (Option.some.inj hxz)
        next => exact (r.unnamed h i).2
      have hnone : s.countChans (fun c => c.current == some z) = 0 := State.countChans_eq_zero fun i _ =>
        beq_eq_false_iff_ne.mpr (r.unnamed h i).1
      have hnone' : s.countChans (fun c => c.alternate == some z) = 0 := State.countChans_eq_zero fun i _ =>
        beq_eq_false_iff_ne.mpr (r.unnamed h i).2
      rw [k.switched.new, hcurrent, halternate]
      dsimp only
      omega
    · have hcurrent : t.countChans (fun c => c.current == some z) = s.countChans fun c => c.current == some z :=
        State.countChans_congr fun i => by
          rw [hmoved]
          split
          next hi =>
            rw [hi, beq_eq_false_iff_ne.mpr fun hyz => hzy (Option.some.inj hyz).symm,
              beq_eq_false_iff_ne.mpr fun hxz => hzx (Option.some.inj hxz).symm]
          next => rfl
      have halternate : t.countChans (fun c => c.alternate == some z) = s.countChans fun c => c.alternate == some z :=
        State.countChans_congr fun i => by
          rw [hkept]
          split
          next hi =>
            rw [r.alternate_none h hi, beq_eq_false_iff_ne.mpr fun hxz => hzx (Option.some.inj hxz).symm]
            rfl
          next => rfl
      rw [k.switched.slots z hzx hzy, hcurrent, halternate]
      exact hold

theorem State.Renewed.references : t.ReferenceLaw := by
  obtain ⟨hothers, hkind0, hlevel0, hopened0⟩ := h.references.control
  refine ⟨fun z h1 h23 => k.counts h r ⟨h1, h23⟩, fun i z hi => ?_, fun i z hi => ?_, fun i hdata hi => ?_, fun i hi => ?_, ?_, ?_,
    fun h0 => ?_⟩
  · obtain ⟨ikind, ilevel, -, -, icurrent, -⟩ := k.chan_eq h i
    rw [icurrent] at hi
    split at hi
    next hx =>
      obtain rfl := Option.some.inj hi
      obtain ⟨hnames, -, -, hlevel⟩ := h.references.current hx
      obtain ⟨ylevel, -, -, yspent⟩ := k.slot_eq y
      refine ⟨by rwa [Channel.namesKey, ikind, ← Channel.namesKey], by rw [k.switched.new], ?_,
        by rw [ylevel, ilevel, r.level, hlevel]⟩
      rw [k.state_of_names h (fun ha => by rw [Channel.namesKey, ha] at hnames; nomatch hnames), if_pos hx, yspent, r.unspent]
      rfl
    next hx =>
      obtain ⟨hnames, hactive, hstate, hlevel⟩ := h.references.current hi
      have hz : t.slot z = s.slot z := k.switched.slots z (fun hzx => hx (by rw [hi, hzx]))
        fun hzy => (r.unnamed h i).1 (by rw [hi, hzy])
      refine ⟨by rwa [Channel.namesKey, ikind, ← Channel.namesKey], by rwa [hz], ?_, by rw [hz, ilevel, hlevel]⟩
      rw [k.state_of_names h (fun ha => by rw [Channel.namesKey, ha] at hnames; nomatch hnames), if_neg hx, hz, hstate]
  · obtain ⟨-, -, -, -, icurrent, ialternate⟩ := k.chan_eq h i
    rw [ialternate] at hi
    split at hi
    next hx =>
      obtain rfl := Option.some.inj hi
      obtain ⟨-, yfirst, -⟩ := k.slot_eq y
      exact ⟨y, icurrent.trans (if_pos hx), yfirst.trans r.back⟩
    next hx =>
      obtain ⟨w, hw, hwz⟩ := h.references.alternate hi
      obtain ⟨-, wfirst, -⟩ := k.slot_eq w
      exact ⟨w, (icurrent.trans (if_neg hx)).trans hw, wfirst.trans hwz⟩
  · obtain ⟨ikind, -, -, -, icurrent, -⟩ := k.chan_eq h i
    rw [ikind] at hdata
    rw [icurrent] at hi
    split at hi
    · nomatch hi
    next hx =>
      rw [k.state_of_names h (by rw [hdata]; nofun), if_neg hx]
      exact h.references.unbound hdata hi
  · obtain ⟨ikind, -⟩ := k.chan_eq h i
    rw [ikind]
    exact hothers i hi
  · obtain ⟨ikind, -⟩ := k.chan_eq h 0
    exact ikind.trans hkind0
  · obtain ⟨-, ilevel, -⟩ := k.chan_eq h 0
    exact ilevel.trans hlevel0
  · obtain ⟨-, -, -, -, icurrent, -⟩ := k.chan_eq h 0
    rw [icurrent] at h0
    split at h0
    · nomatch h0
    next hx =>
      rw [k.state_of_names h (by rw [hkind0]; nofun), if_neg hx]
      exact hopened0 h0

theorem State.Renewed.links : t.LinkLaw := by
  have hold : (t.slot x).state = .draining := by rw [k.switched.old]
  have hnew : (t.slot y).state = .active := by rw [k.switched.new]
  have hrest : ∀ {z}, (t.slot z).state = .staged ∨ (t.slot z).state = .empty → t.slot z = s.slot z := fun {z} hz =>
    k.switched.slots z (fun hzx => by rw [hzx, hold] at hz; rcases hz with hz | hz <;> nomatch hz)
      fun hzy => by rw [hzy, hnew] at hz; rcases hz with hz | hz <;> nomatch hz
  refine ⟨fun a b => ?_, fun a b hab => ?_, fun a b hab => ?_, fun z hz => ?_, fun z hz => ?_⟩
  · obtain ⟨-, -, alast, -⟩ := k.slot_eq a
    obtain ⟨-, bfirst, -⟩ := k.slot_eq b
    rw [alast, bfirst]
    exact h.links.mutual a b
  · obtain ⟨-, -, alast, -⟩ := k.slot_eq a
    rw [alast] at hab
    by_cases hax : a = x
    · obtain rfl : y = b := Option.some.inj (r.link.symm.trans (hax ▸ hab))
      exact .inr ⟨hax ▸ hold, hnew⟩
    · have hay : a ≠ y := fun hay => by rw [hay, r.last] at hab; nomatch hab
      have hback := (h.links.mutual a b).mp hab
      have hbx : b ≠ x := fun hbx => by rw [hbx, r.first] at hback; nomatch hback
      have hby : b ≠ y := fun hby => by rw [hby, r.back] at hback; exact hax (Option.some.inj hback).symm
      rw [k.switched.slots a hax hay, k.switched.slots b hbx hby]
      exact h.links.states hab
  · obtain ⟨alevel, -, alast, -⟩ := k.slot_eq a
    obtain ⟨blevel, -⟩ := k.slot_eq b
    rw [alast] at hab
    rw [alevel, blevel]
    exact h.links.level hab
  · have hsame := hrest (.inl hz)
    rw [hsame] at hz ⊢
    exact h.links.unspent hz
  · have hsame := hrest (.inr hz)
    rw [hsame] at hz ⊢
    exact h.links.empty hz

theorem State.Renewed.exchanges : t.ExchangeLaw := by
  refine h.exchanges.freed (fun d => ?_) (fun d z hs ht hz => ?_) (fun h0 => ?_) k.next (fun z hz => ?_) (fun z hz hserved => ?_)
    (.same k.list)
  · by_cases hd : d = c
    · exact .inr (hd ▸ k.self)
    · rw [k.others d hd]
      exact .inl (.refl _)
  · have hd : d ≠ c := fun hd => by rw [hd, k.self] at ht; nomatch ht
    obtain ⟨-, hsubjects, hsuccessors⟩ := h.exchanges.different hd hs r.isOpen
    have hsubject : (s.ctx d).subject ≠ some x := fun hx => hsubjects (by rw [hx]; nofun) (hx.trans r.subject.symm)
    have hsuccessor : (s.ctx d).successor ≠ some y := fun hy =>
      hsuccessors y (State.slot_bounds (s := s) (by rw [r.staged]; nofun)).1 hy r.successor
    have hne : z ≠ x ∧ z ≠ y := by
      refine ⟨?_, ?_⟩ <;> rintro rfl
      · rcases hz with hz | hz
        · exact hsubject hz
        · rcases h.successor_staged hs hz with rfl | hstaged
          · have hactive := r.active
            rw [State.slot_zero] at hactive
            nomatch hactive
          · nomatch hstaged.symm.trans r.active
      · rcases hz with hz | hz
        · nomatch (h.subject_active hs hz).symm.trans r.staged
        · exact hsuccessor hz
    rw [k.switched.slots z hne.1 hne.2]
    exact .refl _
  · obtain ⟨-, -, -, -, hcurrent, -⟩ := k.chan_eq h 0
    rw [hcurrent] at h0
    split at h0
    · nomatch h0
    · exact h0
  · have hzx : z ≠ x := fun hzx => by rw [hzx, k.switched.old] at hz; nomatch hz
    have hzy : z ≠ y := fun hzy => by rw [hzy, k.switched.new] at hz; nomatch hz
    rw [k.switched.slots z hzx hzy] at hz
    refine ⟨hz, fun d _ hd => ?_⟩
    rw [k.others d fun hdc => hzy (by rw [hdc, r.successor] at hd; exact (Option.some.inj hd).symm)]
    exact .refl _
  · rw [k.switched.slots z (fun hzx => hserved c r.isOpen (hzx ▸ r.subject)) fun hzy => by
      rw [hzy, r.staged] at hz; nomatch hz]
    exact hz

/-- The law stands over the switch of keys. -/
theorem State.Renewed.law : t.KeyLaw := ⟨k.references h r, k.aliases h, k.links h r, k.exchanges h r⟩

end

theorem State.finishContext_keeps (c : Nat) (s : State) :
    (s.finishContext c).messenger.nextExchange = s.messenger.nextExchange
      ∧ (s.finishContext c).renewal.list = s.renewal.list := by
  rw [State.finishContext, State.freeContext_state]
  exact ⟨rfl, rfl⟩

theorem State.KeyLaw.completeRenewal (h : s.KeyLaw) (hc : (s.ctx c).isOpen = true) (hkind : (s.ctx c).kind = some .renewal)
    (hstate : (s.ctx c).state = .awaitCommit) : (s.completeRenewal c).KeyLaw := by
  obtain ⟨x, y, r⟩ := h.renews hc hkind hstate
  obtain ⟨e, he, -⟩ := h.exchanges.exchange hc
  have hx := State.slot_bounds (s := s) (x := x) (by rw [r.active]; nofun)
  have hy := State.slot_bounds (s := s) (x := y) (by rw [r.staged]; nofun)
  obtain ⟨hswitched, hself, hothers, -⟩ :=
    State.completeRenewal_switched (State.isOpen_lt hc) he r.subject r.successor hx hy r.active r.staged
  have hkept : (s.completeRenewal c).messenger.nextExchange = s.messenger.nextExchange
      ∧ (s.completeRenewal c).renewal.list = s.renewal.list := by
    obtain ⟨hnext, hlist⟩ :=
      (((s.switchSlots x y).renewalCleared x).setBackoff x {}).finishContext_keeps c
    rw [State.completeRenewal_eq r.subject r.successor, hnext, hlist]
    simp [State.renewalCleared, State.clearRenewalFaults]
  exact State.Renewed.law h r ⟨hswitched, hself, hothers, hkept.1, hkept.2⟩

end

end Sys2Proof.Machine
end

section
/-! PROOFS. The law of keys over the commits of a KEY COMMIT (R30, R40, R123, R143, R144). -/

namespace Sys2Proof.Machine

section
variable {s t : State} {c y : Nat}

/-! ### The commit of a BOOT or INSTALL (R30, R143) -/

/-- Context c has installed the staged key of slot y, has bound channel 0 to it if it had none, and has become FREE. -/
structure State.Installed (s t : State) (c y : Nat) : Prop where
  new : (t.slot y).state = .active ∧ (t.slot y).level = (s.slot y).level ∧ (t.slot y).predecessor = none
    ∧ (t.slot y).successor = (s.slot y).successor ∧ (t.slot y).spent = (s.slot y).spent
    ∧ (t.slot y).refs = (s.slot y).refs + if (s.chan 0).current = none then 1 else 0
  slots : ∀ z, z ≠ y → t.slot z = s.slot z
  chan : t.chan 0 = if (s.chan 0).current = none then { s.chan 0 with current := some y } else s.chan 0
  chans : ∀ j, j ≠ 0 → t.chan j = s.chan j
  self : t.ctx c = {}
  others : ∀ d, d ≠ c → t.ctx d = s.ctx d ∨ t.ctx d = {} ∧ (s.ctx d).kind = some .boot ∧ (s.ctx d).state = .awaitDelivery
  next : t.messenger.nextExchange = s.messenger.nextExchange
  list : s.ListAlike t

/-- What the law says of the slot of a BOOT or INSTALL context that waits for its commit. -/
structure State.Installs (s : State) (c y : Nat) : Prop where
  isOpen : (s.ctx c).isOpen = true
  successor : (s.ctx c).successor = some y
  staged : (s.slot y).state = .staged
  first : (s.slot y).predecessor = none
  last : (s.slot y).successor = none
  unspent : (s.slot y).spent = false
  level : (s.chan 0).current = none → (s.slot y).level = 0

theorem State.KeyLaw.installs (h : s.KeyLaw) (hc : (s.ctx c).isOpen = true)
    (hkind : (s.ctx c).kind = some .boot ∨ (s.ctx c).kind = some .install) (hstate : (s.ctx c).state = .awaitCommit) :
    ∃ y, s.Installs c y := by
  have hother : ∀ {k : CtxKind}, k ≠ .boot → k ≠ .install → (s.ctx c).kind ≠ some k := fun hb hi hk => by
    rw [hk] at hkind
    rcases hkind with hkind | hkind
    · exact hb (Option.some.inj hkind)
    · exact hi (Option.some.inj hkind)
  cases h.contextIs hc with
  | asking _ hwrong => exact absurd hwrong (hother nofun nofun)
  | renewing _ _ hwrong => exact absurd hwrong (hother nofun nofun)
  | booting _ hwrong => nomatch hwrong.symm.trans hstate
  | installing y _ _ _ successor staged unlinked level =>
    refine ⟨y, hc, successor, staged, unlinked, ?_, h.links.unspent staged, level⟩
    by_contra hsome
    obtain ⟨z, hz⟩ := Option.ne_none_iff_exists'.mp hsome
    rcases h.links.states hz with ⟨hy, -⟩ | ⟨hy, -⟩ <;> nomatch hy.symm.trans staged
  | root hwrong => exact absurd hwrong (hother nofun nofun)

theorem State.Installed.chan_eq (k : s.Installed t c y) (i : Nat) : (t.chan i).kind = (s.chan i).kind
    ∧ (t.chan i).level = (s.chan i).level ∧ (t.chan i).state = (s.chan i).state
    ∧ (t.chan i).alternate = (s.chan i).alternate ∧ (t.chan i).target = (s.chan i).target
    ∧ (t.chan i).aliasCount = (s.chan i).aliasCount := by
  by_cases hi : i = 0
  · rw [hi, k.chan]
    split <;> exact ⟨rfl, rfl, rfl, rfl, rfl, rfl⟩
  · rw [k.chans i hi]
    exact ⟨rfl, rfl, rfl, rfl, rfl, rfl⟩

/-- A descriptor keeps its current slot, or it is descriptor 0 and had none. -/
theorem State.Installed.current (k : s.Installed t c y) (i : Nat) : (t.chan i).current = (s.chan i).current
    ∨ i = 0 ∧ (s.chan 0).current = none ∧ (t.chan 0).current = some y := by
  by_cases hi : i = 0
  · rw [hi, k.chan]
    split
    next hnone => exact .inr ⟨rfl, hnone, rfl⟩
    next => exact .inl rfl
  · rw [k.chans i hi]
    exact .inl rfl

theorem State.Installed.aliases (k : s.Installed t c y) (h : s.KeyLaw) : t.AliasLaw := by
  refine ⟨fun i hi => ?_, fun g hg => ?_⟩
  · obtain ⟨ikind, -, istate, -, itarget, -⟩ := k.chan_eq i
    obtain ⟨g, hg, hdata, hstate, hclosing⟩ := h.aliases.target (ikind.symm.trans hi)
    obtain ⟨gkind, -, gstate, -⟩ := k.chan_eq g
    exact ⟨g, itarget.trans hg, gkind.trans hdata, by rw [gstate, istate, hstate], by rwa [istate]⟩
  · obtain ⟨gkind, -, -, -, -, gcount⟩ := k.chan_eq g
    rw [Channel.namesKey, gkind, ← Channel.namesKey] at hg
    rw [gcount, h.aliases.count hg]
    refine (State.countChans_congr fun i => ?_).symm
    obtain ⟨ikind, -, -, -, itarget, -⟩ := k.chan_eq i
    rw [Channel.aliasTo, ikind, itarget, Channel.aliasTo]

section
variable (k : s.Installed t c y) (h : s.KeyLaw) (r : s.Installs c y)
include k h r

theorem State.Installed.counts {z : Nat} (hz : 1 ≤ z ∧ z ≤ 23) : (t.slot z).refs =
    t.countChans (fun c => c.current == some z) + t.countChans (fun c => c.alternate == some z) := by
  have hold := h.references.counts hz
  obtain ⟨-, -, -, -, -, hrefs⟩ := k.new
  have halternate : t.countChans (fun c => c.alternate == some z) = s.countChans fun c => c.alternate == some z :=
    State.countChans_congr fun i => by
      obtain ⟨-, -, -, ialternate, -⟩ := k.chan_eq i
      rw [ialternate]
  have hcurrents := State.countChans_update (s := s) (t := t) (q := fun c => c.current == some z) (i := 0) (by decide)
    fun j hj => by rw [k.chans j hj]
  rw [k.chan] at hcurrents
  by_cases hnone : (s.chan 0).current = none
  · rw [if_pos hnone] at hcurrents hrefs
    by_cases hzy : z = y
    · subst hzy
      simp only [hnone, beq_self_eq_true, Bool.toNat_true, Option.none_beq_some, Bool.toNat_false] at hcurrents
      rw [hrefs, halternate, hold]
      omega
    · simp only [hnone, Option.none_beq_some, Option.some_beq_some, beq_eq_false_iff_ne.mpr (Ne.symm hzy), Bool.toNat_false]
        at hcurrents
      rw [k.slots z hzy, halternate, hold]
      omega
  · rw [if_neg hnone] at hcurrents hrefs
    have hsame : (t.slot z).refs = (s.slot z).refs := by
      by_cases hzy : z = y
      · rw [hzy]
        exact hrefs
      · rw [k.slots z hzy]
    rw [hsame, halternate, hold]
    omega

theorem State.Installed.references : t.ReferenceLaw := by
  obtain ⟨hothers, hkind0, hlevel0, hopened0⟩ := h.references.control
  obtain ⟨yactive, ylevel, -, -, yspent, -⟩ := k.new
  have hunnamed := h.unreferenced (x := y) (by rw [r.staged]; nofun) (by rw [r.staged]; nofun)
  refine ⟨fun z h1 h23 => k.counts h r ⟨h1, h23⟩, fun i z hi => ?_, fun i z hi => ?_, fun i hdata hi => ?_, fun i hi => ?_, ?_, ?_,
    fun h0 => ?_⟩
  · obtain ⟨ikind, ilevel, istate, -⟩ := k.chan_eq i
    rcases k.current i with hsame | ⟨rfl, hnone, hbound⟩
    · rw [hsame] at hi
      have hz : t.slot z = s.slot z := k.slots z fun hzy => (hunnamed i).1 (hzy ▸ hi)
      rw [Channel.namesKey, ikind, ← Channel.namesKey, hz, istate, ilevel]
      exact h.references.current hi
    · obtain rfl : y = z := Option.some.inj (hbound.symm.trans hi)
      refine ⟨by rw [Channel.namesKey, ikind, hkind0]; rfl, yactive, ?_, by rw [ylevel, ilevel, hlevel0, r.level hnone]⟩
      rw [istate, yspent, r.unspent]
      exact hopened0 hnone
  · obtain ⟨-, -, -, ialternate, -⟩ := k.chan_eq i
    rw [ialternate] at hi
    obtain ⟨w, hw, hwz⟩ := h.references.alternate hi
    rcases k.current i with hsame | ⟨rfl, hnone, -⟩
    · exact ⟨w, hsame.trans hw, by rw [k.slots w fun hwy => (hunnamed i).1 (hwy ▸ hw)]; exact hwz⟩
    · nomatch hnone.symm.trans hw
  · obtain ⟨ikind, -, istate, -⟩ := k.chan_eq i
    rcases k.current i with hsame | ⟨rfl, -, hbound⟩
    · exact istate.trans (h.references.unbound (ikind.symm.trans hdata) (hsame.symm.trans hi))
    · nomatch hbound.symm.trans hi
  · obtain ⟨ikind, -⟩ := k.chan_eq i
    rw [ikind]
    exact hothers i hi
  · obtain ⟨ikind, -⟩ := k.chan_eq 0
    exact ikind.trans hkind0
  · obtain ⟨-, ilevel, -⟩ := k.chan_eq 0
    exact ilevel.trans hlevel0
  · obtain ⟨-, -, istate, -⟩ := k.chan_eq 0
    rcases k.current 0 with hsame | ⟨-, -, hbound⟩
    · exact istate.trans (hopened0 (hsame.symm.trans h0))
    · nomatch hbound.symm.trans h0

theorem State.Installed.links : t.LinkLaw := by
  obtain ⟨yactive, ylevel, yfirst, ylast, yspent, -⟩ := k.new
  have hfields : ∀ z, (t.slot z).level = (s.slot z).level ∧ (t.slot z).predecessor = (s.slot z).predecessor
      ∧ (t.slot z).successor = (s.slot z).successor := fun z => by
    by_cases hz : z = y
    · rw [hz]
      exact ⟨ylevel, yfirst.trans r.first.symm, ylast⟩
    · rw [k.slots z hz]
      exact ⟨rfl, rfl, rfl⟩
  have hrest : ∀ {z}, (t.slot z).state ≠ .active → t.slot z = s.slot z := fun {z} hz =>
    k.slots z fun hzy => hz (hzy ▸ yactive)
  refine ⟨fun a b => ?_, fun a b hab => ?_, fun a b hab => ?_, fun z hz => ?_, fun z hz => ?_⟩
  · obtain ⟨-, -, alast⟩ := hfields a
    obtain ⟨-, bfirst, -⟩ := hfields b
    rw [alast, bfirst]
    exact h.links.mutual a b
  · obtain ⟨-, -, alast⟩ := hfields a
    rw [alast] at hab
    have hay : a ≠ y := fun hay => by rw [hay, r.last] at hab; nomatch hab
    have hback := (h.links.mutual a b).mp hab
    have hby : b ≠ y := fun hby => by rw [hby, r.first] at hback; nomatch hback
    rw [k.slots a hay, k.slots b hby]
    exact h.links.states hab
  · obtain ⟨alevel, -, alast⟩ := hfields a
    obtain ⟨blevel, -⟩ := hfields b
    rw [alast] at hab
    rw [alevel, blevel]
    exact h.links.level hab
  · have hsame := hrest (z := z) (by rw [hz]; nofun)
    rw [hsame] at hz ⊢
    exact h.links.unspent hz
  · have hsame := hrest (z := z) (by rw [hz]; nofun)
    rw [hsame] at hz ⊢
    exact h.links.empty hz

theorem State.Installed.exchanges : t.ExchangeLaw := by
  obtain ⟨yactive, -⟩ := k.new
  have hstaged : ∀ z, (t.slot z).state = .staged → z ≠ y := fun z hz hzy => by
    rw [hzy, yactive] at hz
    nomatch hz
  refine h.exchanges.freed (fun d => ?_) (fun d z hs ht hz => ?_) (fun h0 => ?_) k.next (fun z hz => ?_) (fun z hz _ => ?_) k.list
  · by_cases hd : d = c
    · exact .inr (hd ▸ k.self)
    · rcases k.others d hd with hsame | ⟨hfree, -⟩
      · rw [hsame]
        exact .inl (.refl _)
      · exact .inr hfree
  · have hd : d ≠ c := fun hd => by rw [hd, k.self] at ht; nomatch ht
    obtain ⟨-, -, hsuccessors⟩ := h.exchanges.different hd hs r.isOpen
    have hsuccessor : (s.ctx d).successor ≠ some y := fun hy =>
      hsuccessors y (State.slot_bounds (s := s) (by rw [r.staged]; nofun)).1 hy r.successor
    have hsubject : (s.ctx d).subject ≠ some y := fun hy => by nomatch (h.subject_active hs hy).symm.trans r.staged
    rw [k.slots z (by rintro rfl; exact hz.elim hsubject hsuccessor)]
    exact .refl _
  · rcases k.current 0 with hsame | ⟨-, -, hbound⟩
    · exact hsame.symm.trans h0
    · nomatch hbound.symm.trans h0
  · have hzy := hstaged z hz
    rw [k.slots z hzy] at hz
    refine ⟨hz, fun d hd hsuccessor => ?_⟩
    have hdc : d ≠ c := fun hdc => hzy (by rw [hdc, r.successor] at hsuccessor; exact (Option.some.inj hsuccessor).symm)
    rcases k.others d hdc with hsame | ⟨-, hkind, hstate⟩
    · rw [hsame]
      exact .refl _
    · cases h.contextIs hd with
      | asking _ _ _ _ _ _ _ hnone => nomatch hnone.symm.trans hsuccessor
      | renewing _ _ _ hwrong => nomatch hwrong.symm.trans hstate
      | booting _ _ _ hnone => nomatch hnone.symm.trans hsuccessor
      | installing _ _ hwrong => nomatch hwrong.symm.trans hstate
      | root _ hwrong => nomatch hwrong.symm.trans hstate
  · rw [k.slots z fun hzy => by rw [hzy, r.staged] at hz; nomatch hz]
    exact hz

theorem State.Installed.law : t.KeyLaw := ⟨k.references h r, k.aliases h, k.links h r, k.exchanges h r⟩

end

theorem State.ListAlike.sublist (h : t.renewal.list.Sublist s.renewal.list) : s.ListAlike t :=
  ⟨fun hnodup => hnodup.sublist (h.map _), fun e he _ hx => .inl ⟨e, h.subset he, hx⟩⟩

theorem State.completeInstall_installed {e : Nat} (hc : c < 4) (he : (s.ctx c).exchange = some e)
    (hsuccessor : (s.ctx c).successor = some y) (hstaged : (s.slot y).state = .staged) :
    s.Installed (s.completeInstall c) c y := by
  have hy := State.slot_bounds (s := s) (x := y) (by rw [hstaged]; nofun)
  rw [State.completeInstall_eq hsuccessor hstaged]
  have hslot : ∀ z, (s.activated y).slot z = if z = y then
      { s.slot z with state := .active, predecessor := none, rate := 0, used := 0, intervalCharge := 0, age := 0 }
      else s.slot z := State.activated_slot hy
  have hself := State.bindControl_ctx_self c y (s.activated y)
  have hstate := State.bindControl_state c y (s.activated y)
  have hbinds := State.bindControl_binds (s := s.activated y) c (y := y) hy
  have hbound := State.bindControl_of_bound (s := s.activated y) c y
  generalize (s.activated y).bindControl c y = b at *
  have hfinish := State.finishContext_finishes (b := b) hc (by rw [hself]; exact he) (.slot 0)
  generalize (b.clearRenewalFaults (.slot 0)).finishContext c = t at *
  have hnext : t.messenger.nextExchange = s.messenger.nextExchange := by
    rw [hfinish.state, hstate]
    rfl
  obtain ⟨hlist, -⟩ := hfinish.requests
  by_cases h0 : (s.chan 0).current = none
  · have hb := hbinds h0
    refine ⟨?_, fun z hz => ?_, ?_, fun j hj => ?_, hfinish.self, fun d hd => ?_, hnext, .sublist ?_⟩
    · rw [hfinish.slot, hb.slot, hslot, if_pos rfl, if_pos h0]
      exact ⟨rfl, rfl, rfl, rfl, rfl, rfl⟩
    · rw [hfinish.slot, hb.slots z hz, hslot, if_neg hz]
    · rw [hfinish.chan, hb.chan, if_pos h0]
      rfl
    · rw [hfinish.chan, hb.chans j hj]
      rfl
    · rw [hfinish.others d hd, hb.ctx]
      split
      next hfind =>
        have hwaits := List.find?_some hfind
        simp only [State.waitsBoot, Bool.and_eq_true, beq_iff_eq] at hwaits
        obtain ⟨⟨-, hkind⟩, hawaits⟩ := hwaits
        exact .inr ⟨rfl, hkind, hawaits⟩
      next => exact .inl rfl
    · rw [hlist, hb.list]
      exact List.filter_sublist
  · rw [hbound h0] at hfinish hlist
    refine ⟨?_, fun z hz => ?_, ?_, fun j hj => ?_, hfinish.self, fun d hd => ?_, hnext, .sublist ?_⟩
    · rw [hfinish.slot, hslot, if_pos rfl, if_neg h0]
      exact ⟨rfl, rfl, rfl, rfl, rfl, rfl⟩
    · rw [hfinish.slot, hslot, if_neg hz]
    · rw [hfinish.chan, if_neg h0]
      rfl
    · rw [hfinish.chan]
      rfl
    · rw [hfinish.others d hd]
      exact .inl rfl
    · rw [hlist]
      exact .refl _

theorem State.KeyLaw.completeInstall (h : s.KeyLaw) (hc : (s.ctx c).isOpen = true)
    (hkind : (s.ctx c).kind = some .boot ∨ (s.ctx c).kind = some .install) (hstate : (s.ctx c).state = .awaitCommit) :
    (s.completeInstall c).KeyLaw := by
  obtain ⟨y, r⟩ := h.installs hc hkind hstate
  obtain ⟨e, he, -⟩ := h.exchanges.exchange hc
  exact (State.completeInstall_installed (State.isOpen_lt hc) he r.successor r.staged).law h r

/-! ### The commit of a ROOT (R40, R144) -/

/-- Contexts without a staged key have become FREE, and nothing else has changed that the law reads. -/
theorem State.KeyLaw.freeing (h : s.KeyLaw) (hchans : t.chans = s.chans) (hslots : t.slots = s.slots)
    (hctx : ∀ d, t.ctx d = s.ctx d ∨ t.ctx d = {} ∧ ∀ y, (s.ctx d).successor = some y → (s.slot y).state ≠ .staged)
    (hnext : t.messenger.nextExchange = s.messenger.nextExchange) (hlist : s.ListAlike t) : t.KeyLaw := by
  have k : s.Vacated (fun _ => false) t := by
    refine ⟨fun i => ?_, nofun, fun x _ => ?_, fun x hx => (State.slot_congr hslots x).trans hx, fun d => ?_, nofun,
      fun d y hd hy hstaged _ => ?_, hnext, hlist⟩
    · rw [State.chan_congr hchans, dropNames_none]
      rfl
    · rw [State.slot_congr hslots, dropNames_none, dropNames_none]
      rfl
    · rcases hctx d with hsame | ⟨hfree, -⟩
      · rw [hsame]
        exact .inl (.refl _)
      · exact .inr hfree
    · rcases hctx d with hsame | ⟨-, hkept⟩
      · rw [hsame]
        exact .refl _
      · exact absurd hstaged (hkept y hy)
  exact k.law h nofun

theorem State.KeyLaw.completeRoot (h : s.KeyLaw) (hc : (s.ctx c).isOpen = true) (hkind : (s.ctx c).kind = some .root) :
    (s.completeRoot c).KeyLaw := by
  have hsuccessor : (s.ctx c).successor = some 0 := by
    cases h.contextIs hc with
    | asking _ hwrong => nomatch hwrong.symm.trans hkind
    | renewing _ _ hwrong => nomatch hwrong.symm.trans hkind
    | booting hwrong => nomatch hwrong.symm.trans hkind
    | installing _ hwrong =>
      rcases hwrong with hwrong | hwrong <;> nomatch hwrong.symm.trans hkind
    | root _ _ _ hsuccessor => exact hsuccessor
  obtain ⟨e, he, -⟩ := h.exchanges.exchange hc
  unfold State.completeRoot
  dsimp only
  have hfreed : ∀ u : State, u.chans = s.chans ∧ u.slots = s.slots ∧ u.renewal = s.renewal ∧ u.messenger = s.messenger →
      (u.finishContext c).KeyLaw := fun u ⟨hchans, hslots, hrenewal, hmessenger⟩ => by
    have hctx : ∀ d, u.ctx d = s.ctx d := State.ctx_congr (by rw [hrenewal])
    obtain ⟨hself, hothers⟩ := State.finishContext_ctx (State.isOpen_lt hc) (show (u.ctx c).exchange = some e by rw [hctx, he])
    obtain ⟨hnext, hlist⟩ := u.finishContext_keeps c
    refine h.freeing (by simp [hchans]) (by simp [hslots]) (fun d => ?_) (by rw [hnext, hmessenger]) (.same (by rw [hlist, hrenewal]))
    by_cases hd : d = c
    · refine .inr ⟨hd ▸ hself, fun y hy => ?_⟩
      rw [hd, hsuccessor] at hy
      rw [← Option.some.inj hy, State.slot_zero]
      nofun
    · exact .inl ((hothers d hd).trans (hctx d))
  split
  · exact hfreed _ (by simp [State.clearRenewalFaults])
  · exact hfreed _ (by simp [State.clearRenewalFaults])

theorem State.KeyLaw.commitContext (h : s.KeyLaw) (hc : (s.ctx c).isOpen = true) (hstate : (s.ctx c).state = .awaitCommit) :
    (s.commitContext c).KeyLaw := by
  unfold State.commitContext
  split
  next hkind => exact h.completeRenewal hc hkind hstate
  next hkind => exact h.completeInstall hc (.inl hkind) hstate
  next hkind => exact h.completeInstall hc (.inr hkind) hstate
  next hkind => exact h.completeRoot hc hkind
  next => exact h

end

end Sys2Proof.Machine
end

section
/-! PROOFS. The law of keys when an exchange starts (R134) and when a KEY DELIVERY is taken (R28, R120, R121, R139). -/

namespace Sys2Proof.Machine

section
variable {s t : State} {c : Nat} {x : Context}

/-! ### A context enters a new state of its exchange -/

/-- Between s and t context c alone has changed, and has become x, open under an exchange number, a subject and a staged key of
its own; other contexts stand as the slots they name do. -/
structure State.Enters (s t : State) (c : Nat) (x : Context) : Prop where
  self : t.ctx c = x
  others : ∀ d, d ≠ c → t.ctx d = s.ctx d
  isOpen : x.isOpen = true
  agrees : t.ContextIs x
  exchange : ∃ e, x.exchange = some e ∧ (1 ≤ e ∧ e ≤ 255) ∧ ∀ d, d ≠ c → (s.ctx d).isOpen = true → (s.ctx d).exchange ≠ some e
  bounds : 1 ≤ x.attempt ∧ x.attempt ≤ 3 ∧ x.reply ≤ 16
  subject : ∀ a, x.subject = some a → ∀ d, d ≠ c → (s.ctx d).isOpen = true → (s.ctx d).subject ≠ some a
  successor : ∀ y, 1 ≤ y → x.successor = some y → ∀ d, d ≠ c → (s.ctx d).isOpen = true → (s.ctx d).successor ≠ some y
  links : ∀ d z, d ≠ c → (s.ctx d).isOpen = true → (s.ctx d).subject = some z ∨ (s.ctx d).successor = some z →
    (s.slot z).LinksAs (t.slot z)
  bound : (t.chan 0).current = none → (s.chan 0).current = none
  next : 1 ≤ t.messenger.nextExchange ∧ t.messenger.nextExchange ≤ 255
  staged : ∀ z, (t.slot z).state = .staged → x.successor = some z
    ∨ (s.slot z).state = .staged ∧ ((s.ctx c).isOpen = true → (s.ctx c).successor ≠ some z)
  list : t.renewal.list.Sublist s.renewal.list
  listed : ∀ e ∈ t.renewal.list, ∀ a, e.slot = some a → (t.slot a).state = .active ∧ x.subject ≠ some a

theorem State.Enters.exchanges (k : s.Enters t c x) (h : s.KeyLaw) : t.ExchangeLaw := by
  have hx := h.exchanges
  obtain ⟨e, he, hrange, hnew⟩ := k.exchange
  refine ⟨k.next, fun d hd => ?_, fun d hd => ?_, fun b d hbd hb hd => ?_, fun y hy => ?_, hx.nodup.sublist (k.list.map _),
    fun f hf a ha => ?_⟩
  · by_cases hdc : d = c
    · rw [hdc, k.self, k.isOpen] at hd
      nomatch hd
    · rw [k.others d hdc] at hd ⊢
      exact hx.free hd
  · by_cases hdc : d = c
    · rw [hdc, k.self]
      exact ⟨(State.contextAgrees_iff ..).mpr k.agrees, ⟨e, he, hrange⟩, k.bounds⟩
    · rw [k.others d hdc] at hd ⊢
      exact ⟨(h.contextIs hd).congr (.refl _) (fun z hz => k.links d z hdc hd hz) k.bound, hx.exchange hd, hx.bounds hd⟩
  · by_cases hbc : b = c
    · have hdc : d ≠ c := fun hdc => hbd (hbc.trans hdc.symm)
      rw [k.others d hdc] at hd
      rw [hbc, k.self, k.others d hdc]
      refine ⟨fun hed => hnew d hdc hd (hed.symm.trans he), fun hsome heq => ?_, fun y hy hsuccessor =>
        k.successor y hy hsuccessor d hdc hd⟩
      obtain ⟨a, ha⟩ := Option.ne_none_iff_exists'.mp hsome
      exact k.subject a ha d hdc hd (heq.symm.trans ha)
    · rw [k.others b hbc] at hb
      by_cases hdc : d = c
      · rw [hdc, k.self, k.others b hbc]
        refine ⟨fun hbe => hnew b hbc hb (hbe.trans he), fun hsome heq => ?_, fun y hy hsuccessor hxy =>
          k.successor y hy hxy b hbc hb hsuccessor⟩
        obtain ⟨a, ha⟩ := Option.ne_none_iff_exists'.mp hsome
        exact k.subject a (heq.symm.trans ha) b hbc hb ha
      · rw [k.others d hdc] at hd
        rw [k.others b hbc, k.others d hdc]
        exact hx.different hbd hb hd
  · rcases k.staged y hy with hxy | ⟨hstaged, hnot⟩
    · exact ⟨c, by rw [k.self]; exact k.isOpen, by rw [k.self]; exact hxy⟩
    · obtain ⟨d, hd, hsuccessor⟩ := hx.staged hstaged
      have hdc : d ≠ c := fun hdc => hnot (hdc ▸ hd) (hdc ▸ hsuccessor)
      exact ⟨d, by rwa [k.others d hdc], by rwa [k.others d hdc]⟩
  · obtain ⟨hactive, hself⟩ := k.listed f hf a ha
    refine ⟨hactive, fun d hd => ?_⟩
    by_cases hdc : d = c
    · rw [hdc, k.self]
      exact hself
    · rw [k.others d hdc] at hd ⊢
      obtain ⟨-, hserved⟩ := hx.listed (k.list.subset hf) ha
      exact hserved d hd

theorem State.firstExchange.new {n : Nat} (h : s.firstExchange n) {d : Nat} (hd : (s.ctx d).isOpen = true) :
    (s.ctx d).exchange ≠ some n := h.1 d hd

theorem State.ReferenceLaw.of_slots (h : s.KeyLaw) (hchans : t.chans = s.chans)
    (hrefs : ∀ x, (t.slot x).refs = (s.slot x).refs)
    (hactive : ∀ x, (s.slot x).state = .active → (t.slot x).state = .active ∧ (t.slot x).spent = (s.slot x).spent
      ∧ (t.slot x).level = (s.slot x).level ∧ (t.slot x).predecessor = (s.slot x).predecessor) : t.ReferenceLaw := by
  have hchan := State.chan_congr hchans
  have hcount : ∀ q, t.countChans q = s.countChans q := fun q => State.countChans_congr fun i => by rw [hchan]
  obtain ⟨hothers, hzero⟩ := h.references.control
  refine ⟨fun z h1 h23 => ?_, fun i z hi => ?_, fun i z hi => ?_, fun i hdata hi => ?_, fun i hi => ?_, ?_⟩
  · rw [hrefs, hcount, hcount]
    exact h.references.counts ⟨h1, h23⟩
  · rw [hchan] at hi ⊢
    obtain ⟨hnames, hstate, hexhausted, hlevel⟩ := h.references.current hi
    obtain ⟨zstate, zspent, zlevel, -⟩ := hactive z hstate
    exact ⟨hnames, zstate, by rw [zspent, hexhausted], by rw [zlevel, hlevel]⟩
  · rw [hchan] at hi ⊢
    obtain ⟨w, hw, hwz⟩ := h.references.alternate hi
    obtain ⟨-, -, -, wfirst⟩ := hactive w (h.current_active hw)
    exact ⟨w, hw, wfirst.trans hwz⟩
  · rw [hchan] at hdata hi ⊢
    exact h.references.unbound hdata hi
  · rw [hchan]
    exact hothers i hi
  · rw [hchan]
    exact hzero

theorem State.AliasLaw.of_chans (h : s.AliasLaw) (hchans : t.chans = s.chans) : t.AliasLaw := by
  have hchan := State.chan_congr hchans
  refine ⟨fun i hi => ?_, fun g hg => ?_⟩
  · rw [hchan] at hi ⊢
    obtain ⟨g, hg⟩ := h.target hi
    exact ⟨g, by rwa [hchan]⟩
  · rw [hchan] at hg ⊢
    rw [h.count hg]
    exact (State.countChans_congr fun i => by rw [hchan]).symm

/-- A context enters where slots and descriptors stand. -/
theorem State.Enters.law_of_tables (k : s.Enters t c x) (h : s.KeyLaw) (hchans : t.chans = s.chans) (hslots : t.slots = s.slots) :
    t.KeyLaw := by
  have hslot := State.slot_congr hslots
  refine ⟨.of_slots h hchans (fun z => by rw [hslot]) (fun z hz => ?_), h.aliases.of_chans hchans, h.links.congr (fun z => ?_)
    (fun z _ hz => ?_) (fun z hz => (hslot z).trans hz), k.exchanges h⟩
  · rw [hslot]
    exact ⟨hz, rfl, rfl, rfl⟩
  · rw [hslot]
    exact .refl _
  · rwa [hslot]

/-! ### The start of an exchange (R134) -/

theorem takeEligible_perm {q : Entry → Bool} {l rest : List Entry} {e : Entry} (h : takeEligible q l = some (e, rest)) :
    q e = true ∧ l.Perm (e :: rest) := by
  induction l generalizing rest with
  | nil => nomatch h
  | cons f l ih =>
    unfold takeEligible at h
    split at h
    next hf =>
      simp only [Option.some.injEq, Prod.mk.injEq] at h
      obtain ⟨rfl, rfl⟩ := h
      exact ⟨hf, .refl _⟩
    next =>
      rw [Option.map_eq_some_iff] at h
      obtain ⟨⟨d, tail⟩, htake, heq⟩ := h
      simp only [Prod.mk.injEq] at heq
      obtain ⟨rfl, rfl⟩ := heq
      obtain ⟨hd, hperm⟩ := ih htake
      exact ⟨hd, (hperm.cons f).trans (.swap ..)⟩

/-- An entry's slot has no successor, for a STAGED one would have an open context with that slot as subject. -/
theorem State.KeyLaw.unserved_successor (h : s.KeyLaw) {a : Nat} (hactive : (s.slot a).state = .active)
    (hserved : ∀ d, (s.ctx d).isOpen = true → (s.ctx d).subject ≠ some a) : (s.slot a).successor = none := by
  by_contra hsome
  obtain ⟨y, hy⟩ := Option.ne_none_iff_exists'.mp hsome
  rcases h.links.states hy with ⟨-, hstaged⟩ | ⟨hdraining, -⟩
  · obtain ⟨d, hd, -, -, hsubject, -⟩ := h.renewing_of_link hy hstaged
    exact hserved d hd hsubject
  · nomatch hdraining.symm.trans hactive

theorem State.KeyLaw.startExchange (h : s.KeyLaw) : s.startExchange.KeyLaw := by
  unfold State.startExchange
  split
  next c e rest hfind htake =>
    obtain ⟨hc, hfree⟩ := State.findCtx_some hfind
    have hfree : (s.ctx c).isOpen = false := by simpa using hfree
    obtain ⟨heligible, hperm⟩ := takeEligible_perm htake
    have hmem : e ∈ s.renewal.list := hperm.mem_iff.mpr List.mem_cons_self
    have hothers : ∀ d, (s.ctx d).isOpen = true → d ≠ c := fun d hd hdc => by rw [hdc, hfree] at hd; nomatch hd
    have hnodup := (hperm.map (·.slot)).nodup_iff.mp h.exchanges.nodup
    obtain ⟨hnotin, -⟩ := List.nodup_cons.mp hnodup
    dsimp only
    obtain ⟨t, n, heq, hfirst, hlow, hhigh, hstate, hself, hrest⟩ :=
      State.openContext_spec (s := s.updRenewal fun n => { n with list := rest }) hc e.context h.exchanges.next
    have hcontext : e.context.isOpen = true := rfl
    have hnew : ∀ d, (s.ctx d).isOpen = true → (s.ctx d).exchange ≠ some n := fun d hd =>
      State.firstExchange.new (s := s.updRenewal fun n => { n with list := rest }) hfirst hd
    have hslots : t.slots = s.slots := by rw [hstate]; rfl
    have hchans : t.chans = s.chans := by rw [hstate]; rfl
    have hslot := State.slot_congr hslots
    have hlist : t.renewal.list = rest := by rw [hstate]; rfl
    have hnext : t.messenger.nextExchange = if n = 255 then 1 else n + 1 := by rw [hstate]
    have k : s.Enters t c { e.context with exchange := some n } := by
      refine ⟨hself, hrest, rfl, ?_, ⟨n, rfl, ⟨hlow, hhigh⟩, fun d _ hd => hnew d hd⟩, ⟨Nat.le_refl 1, (by decide : 1 ≤ 3), Nat.zero_le 16⟩,
        fun a ha d _ hd => (h.exchanges.listed hmem ha).2 d hd, fun _ _ => nofun, fun d z _ _ _ => ?_, fun h0 => ?_, ?_,
        fun z hz => .inr ⟨?_, fun hopen => ?_⟩, ?_, fun f hf a ha => ?_⟩
      · cases he : e.slot with
        | none =>
          exact .booting (congrArg some (if_pos he)) rfl he rfl
        | some a =>
          obtain ⟨hactive, hserved⟩ := h.exchanges.listed hmem he
          unfold State.eligible at heligible
          rw [he] at heligible
          simp only [Bool.and_eq_true, beq_iff_eq] at heligible
          obtain ⟨⟨-, hfirst⟩, -⟩ := heligible
          exact .asking a (congrArg some (if_neg (by rw [he]; nofun))) rfl he (by rwa [hslot]) (by rwa [hslot])
            (by rw [hslot]; exact h.unserved_successor hactive hserved) rfl
      · rw [hslot]
        exact .refl _
      · rwa [State.chan_congr hchans] at h0
      · rw [hnext]
        split <;> omega
      · rwa [hslot] at hz
      · rw [hfree] at hopen
        nomatch hopen
      · rw [hlist]
        exact takeEligible_sublist htake
      · rw [hlist] at hf
        obtain ⟨hactive, -⟩ := h.exchanges.listed (hperm.mem_iff.mpr (List.mem_cons_of_mem _ hf)) ha
        refine ⟨by rwa [hslot], fun hea => hnotin (List.mem_map.mpr ⟨f, hf, ?_⟩)⟩
        exact ha.trans hea.symm
    change (((s.updRenewal fun n => { n with list := rest }).openContext c e.context).composeContext c).KeyLaw
    rw [heq]
    exact (State.composeContext_alike (by rw [hself]; rfl)).law (k.law_of_tables h hchans hslots)
  next => exact h

end

end Sys2Proof.Machine
end

section
/-! PROOFS. The law of keys when a KEY DELIVERY is taken (R28, R120, R121, R139). -/

namespace Sys2Proof.Machine

section
variable {s t : State} {c y : Nat} {x : Context} {d : Delivery}

/-! ### A key is staged (R28) -/

/-- Between s and t the delivery has been staged in slot y, under its predecessor, and descriptors stand. -/
structure State.StagesAt (s t : State) (y : Nat) (d : Delivery) : Prop where
  new : (t.slot y).state = .staged ∧ (t.slot y).level = d.level ∧ (t.slot y).predecessor = d.predecessor
    ∧ (t.slot y).successor = none ∧ (t.slot y).refs = 0 ∧ (t.slot y).spent = false
  linked : ∀ a, d.predecessor = some a → t.slot a = { s.slot a with successor := some y }
  slots : ∀ a, a ≠ y → d.predecessor ≠ some a → t.slot a = s.slot a
  chans : t.chans = s.chans

/-- What a delivery that may be staged in slot y relies on. -/
structure State.Stageable (s : State) (y : Nat) (d : Delivery) : Prop where
  bounds : 1 ≤ y ∧ y ≤ 23
  empty : (s.slot y).state = .empty
  active : ∀ a, d.predecessor = some a → (s.slot a).state = .active
  last : ∀ a, d.predecessor = some a → (s.slot a).successor = none
  level : ∀ a, d.predecessor = some a → d.level = (s.slot a).level

theorem State.Stageable.ne (g : s.Stageable y d) {a : Nat} (ha : d.predecessor = some a) : a ≠ y := fun hay => by
  have hactive := g.active a ha
  rw [hay, g.empty] at hactive
  nomatch hactive

theorem State.stageSlot_stagesAt (g : s.Stageable y d) (key : Block) : s.StagesAt (s.stageSlot d key y) y d := by
  have hset : ∀ a, (s.setSlot y (d.slot key)).slot a = if a = y then d.slot key else s.slot a := fun a => by
    rw [State.slot_setSlot]
    exact if_congr (and_iff_left g.bounds) rfl rfl
  have hlinked : s.StagesAt ((s.setSlot y (d.slot key)).linkSuccessor d.predecessor y) y d := by
    cases hp : d.predecessor with
    | none =>
      refine ⟨?_, fun a ha => ?_, fun a ha _ => (hset a).trans (if_neg ha), rfl⟩
      · rw [State.linkSuccessor, hset, if_pos rfl]
        exact ⟨rfl, rfl, rfl, rfl, rfl, rfl⟩
      · nomatch hp.symm.trans ha
    | some p =>
      have hpy := g.ne hp
      have hpb := State.slot_bounds (s := s) (x := p) (by rw [g.active p hp]; nofun)
      have hslot : ∀ a, ((s.setSlot y (d.slot key)).linkSuccessor (some p) y).slot a =
          if a = p then { s.slot p with successor := some y } else if a = y then d.slot key else s.slot a := fun a => by
        rw [State.linkSuccessor, State.slot_updSlot, hset, hset, if_neg hpy]
        exact if_congr (and_iff_left hpb) rfl rfl
      refine ⟨?_, fun a ha => ?_, fun a ha hpa => ?_, rfl⟩
      · rw [hslot, if_neg (Ne.symm hpy), if_pos rfl]
        exact ⟨rfl, rfl, rfl, rfl, rfl, rfl⟩
      · obtain rfl : p = a := Option.some.inj (hp.symm.trans ha)
        rw [hslot, if_pos rfl]
      · rw [hslot, if_neg fun hap => hpa (by rw [hp, hap]), if_neg ha]
  rw [State.stageSlot_eq]
  split
  · exact ⟨by simpa using hlinked.new, fun a ha => by simpa using hlinked.linked a ha,
      fun a hay ha => by simpa using hlinked.slots a hay ha, by simpa using hlinked.chans⟩
  · exact hlinked

section
variable (k : s.StagesAt t y d) (h : s.KeyLaw) (g : s.Stageable y d)
include k h g

theorem State.StagesAt.references : t.ReferenceLaw := by
  obtain ⟨-, -, -, -, yrefs, -⟩ := k.new
  refine .of_slots h k.chans (fun z => ?_) (fun z hz => ?_)
  · by_cases hzy : z = y
    · rw [hzy, yrefs, h.links.empty g.empty]
    · by_cases hp : d.predecessor = some z
      · rw [k.linked z hp]
      · rw [k.slots z hzy hp]
  · have hzy : z ≠ y := fun hzy => by rw [hzy, g.empty] at hz; nomatch hz
    by_cases hp : d.predecessor = some z
    · rw [k.linked z hp]
      exact ⟨hz, rfl, rfl, rfl⟩
    · rw [k.slots z hzy hp]
      exact ⟨hz, rfl, rfl, rfl⟩

/-- A slot beside y and its predecessor keeps its links, which name neither. -/
theorem State.StagesAt.links : t.LinkLaw := by
  obtain ⟨ystate, ylevel, yfirst, ylast, -, yspent⟩ := k.new
  have hunlinked := h.links.unlinked g.empty
  have hstate : ∀ z, z ≠ y → (t.slot z).state = (s.slot z).state ∧ (t.slot z).level = (s.slot z).level
      ∧ (t.slot z).predecessor = (s.slot z).predecessor ∧ (t.slot z).spent = (s.slot z).spent := fun z hz => by
    by_cases hp : d.predecessor = some z
    · rw [k.linked z hp]
      exact ⟨rfl, rfl, rfl, rfl⟩
    · rw [k.slots z hz hp]
      exact ⟨rfl, rfl, rfl, rfl⟩
  -- the links after: that of the predecessor to y, and those of before
  have hlink : ∀ a b, (t.slot a).successor = some b ↔ d.predecessor = some a ∧ b = y ∨ (s.slot a).successor = some b :=
    fun a b => by
      by_cases hp : d.predecessor = some a
      · rw [k.linked a hp, g.last a hp]
        exact ⟨fun hb => .inl ⟨hp, (Option.some.inj hb).symm⟩, fun hb => hb.elim (fun hb => by rw [hb.2]) nofun⟩
      · by_cases hay : a = y
        · rw [hay, ylast]
          refine ⟨nofun, fun hb => hb.elim (fun hb => absurd hb.1 (hay ▸ hp)) fun hb => ?_⟩
          rw [h.links.empty g.empty] at hb
          nomatch hb
        · rw [k.slots a hay hp]
          exact ⟨.inr, fun hb => hb.elim (fun hb => absurd hb.1 hp) id⟩
  refine ⟨fun a b => ?_, fun a b hab => ?_, fun a b hab => ?_, fun z hz => ?_, fun z hz => ?_⟩
  · rw [hlink]
    by_cases hby : b = y
    · rw [hby, yfirst]
      exact ⟨fun ha => ha.elim And.left fun ha => absurd ha (hunlinked a).1, fun ha => .inl ⟨ha, rfl⟩⟩
    · obtain ⟨-, -, bfirst, -⟩ := hstate b hby
      rw [bfirst, ← h.links.mutual]
      exact ⟨fun ha => ha.elim (fun ha => absurd ha.2 hby) id, .inr⟩
  · rcases (hlink a b).mp hab with ⟨hp, rfl⟩ | hab
    · rw [k.linked a hp]
      exact .inl ⟨g.active a hp, ystate⟩
    · obtain ⟨astate, -⟩ := hstate a fun hay => by rw [hay, h.links.empty g.empty] at hab; nomatch hab
      obtain ⟨bstate, -⟩ := hstate b fun hby => (hunlinked a).1 (hby ▸ hab)
      rw [astate, bstate]
      exact h.links.states hab
  · rcases (hlink a b).mp hab with ⟨hp, rfl⟩ | hab
    · rw [ylevel, g.level a hp, k.linked a hp]
    · obtain ⟨-, alevel, -⟩ := hstate a fun hay => by rw [hay, h.links.empty g.empty] at hab; nomatch hab
      obtain ⟨-, blevel, -⟩ := hstate b fun hby => (hunlinked a).1 (hby ▸ hab)
      rw [alevel, blevel]
      exact h.links.level hab
  · by_cases hzy : z = y
    · rw [hzy, yspent]
    · obtain ⟨zstate, -, -, zspent⟩ := hstate z hzy
      exact zspent.trans (h.links.unspent (zstate.symm.trans hz))
  · have hzy : z ≠ y := fun hzy => by rw [hzy, ystate] at hz; nomatch hz
    by_cases hp : d.predecessor = some z
    · rw [k.linked z hp, g.active z hp] at hz
      nomatch hz
    · rw [k.slots z hzy hp] at hz ⊢
      exact h.links.empty hz

theorem State.StagesAt.law (e : s.Enters t c x) : t.KeyLaw :=
  ⟨k.references h g, h.aliases.of_chans k.chans, k.links h g, e.exchanges h⟩

end

/-! ### The context of a delivery (R120 step 1, R139) -/

/-- The context a delivery belongs to, or opens. -/
inductive State.DeliversTo (s : State) (d : Delivery) (c : Nat) : Prop where
  | opens (exchange : d.exchange = 0) (predecessor : d.predecessor = none) (low : c < 4) (free : (s.ctx c).isOpen = false)
  | forwards (exchange : d.exchange ≠ 0) (isOpen : (s.ctx c).isOpen = true) (state : (s.ctx c).state = .awaitDelivery)
      (subject : (s.ctx c).subject = d.predecessor)

theorem State.deliversTo_of_context (hc : s.deliveryContext d = some c) : s.DeliversTo d c := by
  unfold State.deliveryContext at hc
  split at hc
  next hexchange =>
    split at hc
    next hpredecessor =>
      obtain ⟨hlow, hfree⟩ := State.findCtx_some hc
      exact .opens hexchange hpredecessor hlow (by simpa using hfree)
    next => nomatch hc
  next hexchange =>
    obtain ⟨-, hfound⟩ := State.findCtx_some hc
    simp only [Bool.and_eq_true, beq_iff_eq] at hfound
    obtain ⟨⟨hopen, -⟩, hstate, hsubject⟩ := hfound
    exact .forwards hexchange hopen hstate hsubject

/-- What the later checks assure (R120 steps 2 and 4). -/
theorem State.deliveryCheck_assures (h : s.deliveryCheck d = none) : (d.target = .slot 0 → d.exchange = 0)
    ∧ (∀ a, d.predecessor = some a → d.level = (s.slot a).level)
    ∧ (d.predecessor = none → d.target ≠ .slot 0 → (s.chan 0).current = none → d.level = 0) := by
  unfold State.deliveryCheck at h
  refine ⟨fun hroot => ?_, fun a ha => ?_, fun hnone hroot hunbound => ?_⟩
  · by_contra hexchange
    simp [hroot, hexchange] at h
  · by_contra hne
    simp [ha, hne] at h
    split_ifs at h
  · by_contra hne
    simp [hnone, hroot, hunbound, hne] at h
    split_ifs at h

/-- Between s and t the delivery has been staged in slot y, and context c has become x, which waits for the commit of y. -/
theorem State.enters_of_staged (h : s.KeyLaw) (g : s.Stageable y d) (k : s.StagesAt t y d) (hself : t.ctx c = x)
    (hothers : ∀ b, b ≠ c → t.ctx b = s.ctx b) (hopen : x.isOpen = true) (hsubject : x.subject = d.predecessor)
    (hsuccessor : x.successor = some y) (hagrees : t.ContextIs x)
    (hexchange : ∃ e, x.exchange = some e ∧ (1 ≤ e ∧ e ≤ 255) ∧ ∀ b, b ≠ c → (s.ctx b).isOpen = true → (s.ctx b).exchange ≠ some e)
    (hbounds : 1 ≤ x.attempt ∧ x.attempt ≤ 3 ∧ x.reply ≤ 16)
    (hold : d.predecessor = none ∨ (s.ctx c).isOpen = true ∧ (s.ctx c).subject = d.predecessor)
    (hnone : (s.ctx c).isOpen = true → (s.ctx c).successor = none)
    (hnext : 1 ≤ t.messenger.nextExchange ∧ t.messenger.nextExchange ≤ 255) (hlist : t.renewal.list = s.renewal.list) :
    s.Enters t c x := by
  obtain ⟨ystate, -⟩ := k.new
  have hserves : ∀ a, d.predecessor = some a → ∀ b, b ≠ c → (s.ctx b).isOpen = true → (s.ctx b).subject ≠ some a :=
    fun a ha b hbc hb hba => by
      rcases hold with hnone | ⟨hc, hcs⟩
      · nomatch hnone.symm.trans ha
      · obtain ⟨-, hdifferent, -⟩ := h.exchanges.different hbc hb hc
        exact hdifferent (by rw [hba]; nofun) (hba.trans (hcs.trans ha).symm)
  refine ⟨hself, hothers, hopen, hagrees, hexchange, hbounds, fun a ha => hserves a (hsubject.symm.trans ha),
    fun z hz hxz b _ hb hbz => ?_, fun b z hbc hb hz => ?_, fun h0 => by rwa [State.chan_congr k.chans] at h0, hnext,
    fun z hz => ?_, by rw [hlist], fun e he a ha => ?_⟩
  · obtain rfl : y = z := Option.some.inj (hsuccessor.symm.trans hxz)
    rcases h.successor_staged hb hbz with rfl | hstaged
    · exact absurd hz (by decide)
    · nomatch hstaged.symm.trans g.empty
  · by_cases hz0 : z = 0
    · rw [hz0, State.slot_zero, State.slot_zero]
      exact .refl _
    · have hkept : z ≠ y ∧ d.predecessor ≠ some z := by
        rcases hz with hz | hz
        · exact ⟨fun hzy => (by nomatch (hzy ▸ h.subject_active hb hz).symm.trans g.empty), fun hp => hserves z hp b hbc hb hz⟩
        · have hstaged := (h.successor_staged hb hz).resolve_left hz0
          exact ⟨fun hzy => (by nomatch (hzy ▸ hstaged).symm.trans g.empty), fun hp => by
            nomatch hstaged.symm.trans (g.active z hp)⟩
      rw [k.slots z hkept.1 hkept.2]
      exact .refl _
  · by_cases hzy : z = y
    · exact .inl (hzy ▸ hsuccessor)
    · have hp : d.predecessor ≠ some z := fun hp => by rw [k.linked z hp, g.active z hp] at hz; nomatch hz
      rw [k.slots z hzy hp] at hz
      exact .inr ⟨hz, fun hc => by rw [hnone hc]; nofun⟩
  · rw [hlist] at he
    obtain ⟨hactive, hserved⟩ := h.exchanges.listed he ha
    have hp : d.predecessor ≠ some a := fun hp => by
      rcases hold with hnone | ⟨hc, hcs⟩
      · nomatch hnone.symm.trans hp
      · exact hserved c hc (hcs.trans hp)
    rw [k.slots a (fun hay => by rw [hay, g.empty] at hactive; nomatch hactive) hp, hsubject]
    exact ⟨hactive, hp⟩

/-! ### Deliveries accepted (R121, R139) -/

theorem State.stageSlot_rest (d : Delivery) (key : Block) (y : Nat) (s : State) :
    (∀ b, (s.stageSlot d key y).ctx b = s.ctx b)
      ∧ (s.stageSlot d key y).messenger.nextExchange = s.messenger.nextExchange
      ∧ (s.stageSlot d key y).renewal.list = s.renewal.list := by
  refine ⟨fun b => by simp, ?_, by simp⟩
  rw [State.stageSlot_eq]
  have hlinked : ((s.setSlot y (d.slot key)).linkSuccessor d.predecessor y).messenger = s.messenger := by
    cases d.predecessor <;> rfl
  split
  · simp [hlinked]
  · rw [hlinked]

/-- The key of an exchange under way is staged, and its context waits for the commit. -/
theorem State.KeyLaw.forwarded (h : s.KeyLaw) (g : s.Stageable y d) (key : Block) (hexchange : d.exchange ≠ 0)
    (hc : (s.ctx c).isOpen = true) (hstate : (s.ctx c).state = .awaitDelivery) (hsubject : (s.ctx c).subject = d.predecessor)
    (hlevel : d.predecessor = none → (s.chan 0).current = none → d.level = 0) :
    ((s.stageSlot d key y).acceptDelivery d c y).KeyLaw := by
  have hc4 := State.isOpen_lt hc
  obtain ⟨hctx, hnext, hlist⟩ := s.stageSlot_rest d key y
  have k := State.stageSlot_stagesAt g key
  have hframe : ∀ f : Context → Context, ((s.stageSlot d key y).updCtx c f).slots = (s.stageSlot d key y).slots := fun f => rfl
  rw [State.acceptDelivery, if_neg hexchange]
  generalize s.stageSlot d key y = u at *
  have kt : s.StagesAt (u.updCtx c fun x => { x with
      state := .awaitCommit, successor := some y, attempt := 1, send := .compose, reply := 0, latest := none, retryDue := false })
      y d := ⟨k.new, k.linked, k.slots, k.chans⟩
  obtain ⟨ystate, ylevel, yfirst, -⟩ := kt.new
  have hself : (u.updCtx c fun x => { x with state := .awaitCommit, successor := some y, attempt := 1, send := .compose
                                             reply := 0, latest := none, retryDue := false }).ctx c =
      { s.ctx c with state := .awaitCommit, successor := some y, attempt := 1, send := .compose, reply := 0, latest := none
                     retryDue := false } := by
    rw [State.ctx_updCtx, if_pos ⟨rfl, hc4⟩, hctx]
  have hothers : ∀ b, b ≠ c → (u.updCtx c fun x => { x with state := .awaitCommit, successor := some y, attempt := 1
                                                            send := .compose, reply := 0, latest := none
                                                            retryDue := false }).ctx b = s.ctx b := fun b hb => by
    rw [State.ctx_updCtx, if_neg fun hbc => hb hbc.1, hctx]
  have htnext : (u.updCtx c fun x => { x with state := .awaitCommit, successor := some y, attempt := 1, send := .compose
                                              reply := 0, latest := none
                                              retryDue := false }).messenger.nextExchange = s.messenger.nextExchange := hnext
  have htlist : (u.updCtx c fun x => { x with state := .awaitCommit, successor := some y, attempt := 1, send := .compose
                                              reply := 0, latest := none, retryDue := false }).renewal.list
      = s.renewal.list := hlist
  generalize (u.updCtx c fun x => { x with state := .awaitCommit, successor := some y, attempt := 1, send := .compose
                                           reply := 0, latest := none, retryDue := false }) = t at *
  have hchan := State.chan_congr kt.chans
  obtain ⟨e, he, hrange⟩ := h.exchanges.exchange hc
  have hnone : (s.ctx c).successor = none := by
    cases h.contextIs hc with
    | asking _ _ _ _ _ _ _ hnone => exact hnone
    | renewing _ _ _ hwrong => nomatch hwrong.symm.trans hstate
    | booting _ _ _ hnone => exact hnone
    | installing _ _ hwrong => nomatch hwrong.symm.trans hstate
    | root _ hwrong => nomatch hwrong.symm.trans hstate
  have hagrees : t.ContextIs { s.ctx c with
      state := .awaitCommit, successor := some y, attempt := 1, send := .compose, reply := 0, latest := none
      retryDue := false } := by
    cases h.contextIs hc with
    | asking a hkind _ ha hactive hfirst hlast _ =>
      have hp := hsubject.symm.trans ha
      exact .renewing a y hkind rfl ha (by rw [kt.linked a hp]; exact hactive) (by rw [kt.linked a hp]; exact hfirst)
        (by rw [kt.linked a hp]) rfl
    | renewing _ _ _ hwrong => nomatch hwrong.symm.trans hstate
    | booting hkind _ hs _ =>
      have hp := hsubject.symm.trans hs
      exact .installing y (.inl hkind) rfl hs rfl ystate (yfirst.trans hp) fun h0 =>
        ylevel.trans (hlevel hp (by rwa [hchan] at h0))
    | installing _ _ hwrong => nomatch hwrong.symm.trans hstate
    | root _ hwrong => nomatch hwrong.symm.trans hstate
  have hentered := State.enters_of_staged h g kt hself hothers rfl hsubject rfl hagrees
    ⟨e, he, hrange, fun b hbc hb hbe => (h.exchanges.different hbc hb hc).1 (hbe.trans he.symm)⟩
    ⟨Nat.le_refl 1, (by decide : 1 ≤ 3), Nat.zero_le 16⟩ (.inr ⟨hc, hsubject⟩) (fun _ => hnone)
    (by rw [htnext]; exact h.exchanges.next) htlist
  exact (State.composeContext_alike (by rw [hself]; rfl)).law (kt.law h g hentered)

/-- What the opening of a context by a delivery leaves. -/
theorem State.openContext_opened {u : State} (hc : c < 4) (x : Context) (hctx : ∀ b, u.ctx b = s.ctx b)
    (hnext : u.messenger.nextExchange = s.messenger.nextExchange) (hlist : u.renewal.list = s.renewal.list)
    (h : s.KeyLaw) : ∃ n, (u.openContext c x).ctx c = { x with exchange := some n }
      ∧ (∀ b, b ≠ c → (u.openContext c x).ctx b = s.ctx b) ∧ (1 ≤ n ∧ n ≤ 255)
      ∧ (∀ b, b ≠ c → (s.ctx b).isOpen = true → (s.ctx b).exchange ≠ some n)
      ∧ (1 ≤ (u.openContext c x).messenger.nextExchange ∧ (u.openContext c x).messenger.nextExchange ≤ 255)
      ∧ (u.openContext c x).renewal.list = s.renewal.list ∧ (u.openContext c x).slots = u.slots
      ∧ (u.openContext c x).chans = u.chans := by
  obtain ⟨t, n, rfl, hfirst, hlow, hhigh, hstate, hself, hrest⟩ :=
    State.openContext_spec (s := u) hc x (by rw [hnext]; exact h.exchanges.next)
  have htnext : (u.openContext c x).messenger.nextExchange = if n = 255 then 1 else n + 1 := by rw [hstate]
  refine ⟨n, hself, fun b hb => (hrest b hb).trans (hctx b), ⟨hlow, hhigh⟩, fun b _ hb => ?_, ?_, ?_, ?_, ?_⟩
  · rw [← hctx b] at hb ⊢
    exact hfirst.new hb
  · rw [htnext]
    split <;> omega
  · rw [← hlist, hstate]
  · rw [hstate]
  · rw [hstate]

/-- A key is staged under no predecessor, and a FREE context waits for its commit as INSTALL. -/
theorem State.KeyLaw.installing (h : s.KeyLaw) (g : s.Stageable y d) (key : Block) (hexchange : d.exchange = 0)
    (hc : c < 4) (hfree : (s.ctx c).isOpen = false) (hp : d.predecessor = none)
    (hlevel : (s.chan 0).current = none → d.level = 0) : ((s.stageSlot d key y).acceptDelivery d c y).KeyLaw := by
  obtain ⟨hctx, hnext, hlist⟩ := s.stageSlot_rest d key y
  have k := State.stageSlot_stagesAt g key
  have hy : y ≠ 0 := fun h0 => absurd g.bounds.1 (by rw [h0]; decide)
  rw [State.acceptDelivery, if_pos hexchange, if_neg hy]
  generalize s.stageSlot d key y = u at *
  obtain ⟨n, hself, hothers, hrange, hnew, htnext, htlist, hslots, hchans⟩ := State.openContext_opened hc
    { state := .awaitCommit, kind := some .install, successor := some y } hctx hnext hlist h
  generalize u.openContext c { state := .awaitCommit, kind := some .install, successor := some y } = t at *
  have hslot := State.slot_congr hslots
  have kt : s.StagesAt t y d := ⟨by rw [hslot]; exact k.new, fun a ha => (hslot a).trans (k.linked a ha),
    fun a hay ha => (hslot a).trans (k.slots a hay ha), hchans.trans k.chans⟩
  obtain ⟨ystate, ylevel, yfirst, -⟩ := kt.new
  have hagrees : t.ContextIs { state := .awaitCommit, exchange := some n, kind := some .install, successor := some y } :=
    .installing y (.inr rfl) rfl rfl rfl ystate (yfirst.trans hp) fun h0 =>
      ylevel.trans (hlevel (by rwa [State.chan_congr kt.chans] at h0))
  have hclosed : (s.ctx c).isOpen = true → (s.ctx c).successor = none := fun hopen => by
    rw [hfree] at hopen
    nomatch hopen
  have hentered := State.enters_of_staged h g kt hself hothers rfl hp.symm rfl hagrees ⟨n, rfl, hrange, hnew⟩
    ⟨Nat.le_refl 1, (by decide : 1 ≤ 3), Nat.zero_le 16⟩ (.inl hp) hclosed htnext htlist
  exact (State.composeContext_alike (by rw [hself]; rfl)).law (kt.law h g hentered)

/-- A root is delivered, and a FREE context waits for its commit as ROOT. -/
theorem State.KeyLaw.delivered_root (h : s.KeyLaw) (key : Block) (hexchange : d.exchange = 0) (hc : c < 4)
    (hfree : (s.ctx c).isOpen = false) :
    ((s.updRoot fun r => { r with pendingRoot := some key }).acceptDelivery d c 0).KeyLaw := by
  rw [State.acceptDelivery, if_pos hexchange, if_pos rfl]
  obtain ⟨n, hself, hothers, hrange, hnew, htnext, htlist, hslots, hchans⟩ :=
    State.openContext_opened (s := s) (u := s.updRoot fun r => { r with pendingRoot := some key }) hc
      { state := .awaitCommit, kind := some .root, successor := some 0 } (fun _ => rfl) rfl rfl h
  generalize (s.updRoot fun r => { r with pendingRoot := some key }).openContext c
    { state := .awaitCommit, kind := some .root, successor := some 0 } = t at *
  have hslots : t.slots = s.slots := hslots
  have hslot := State.slot_congr hslots
  have k : s.Enters t c { state := .awaitCommit, exchange := some n, kind := some .root, successor := some 0 } := by
    refine ⟨hself, hothers, rfl, .root rfl rfl rfl rfl, ⟨n, rfl, hrange, hnew⟩,
      ⟨Nat.le_refl 1, (by decide : 1 ≤ 3), Nat.zero_le 16⟩, nofun, fun y hy h0 => ?_, fun _ z _ _ _ => ?_, fun h0 => ?_, htnext,
      fun z hz => .inr ⟨?_, fun hopen => ?_⟩, by rw [htlist], fun e he a ha => ?_⟩
    · rw [← Option.some.inj h0] at hy
      exact absurd hy (by decide)
    · rw [hslot]
      exact .refl _
    · rwa [State.chan_congr hchans] at h0
    · rwa [hslot] at hz
    · rw [hfree] at hopen
      nomatch hopen
    · rw [htlist] at he
      obtain ⟨hactive, -⟩ := h.exchanges.listed he ha
      exact ⟨by rwa [hslot], nofun⟩
  exact (State.composeContext_alike (by rw [hself]; rfl)).law (k.law_of_tables h hchans hslots)

theorem State.rejectDelivery_alike (d : Delivery) (r : Reject) (s : State) : s.Alike (s.rejectDelivery d r) := by
  have hcount : s.Alike (s.updMessenger fun m => m.countReject r) := .same (by cases r <;> exact ⟨rfl, rfl, rfl, rfl, rfl⟩)
  have hraised : s.Alike (if r = .noSlot then
      ((s.updMessenger fun m => m.countReject r).raiseFault .noKeySlot .nothing).updMessenger
        fun m => { m with noSlotMark := true }
      else s.updMessenger fun m => m.countReject r) :=
    .ite (fun _ => hcount.trans (.same (by simp))) fun _ => hcount
  have hcompose := hraised.trans (State.compose_alike (keyRejectBytes (BitVec.ofNat 8 d.exchange) d.targetCode r) _)
  exact .ite (fun _ => hcompose) fun _ => hcompose.trans (.same ⟨rfl, rfl, rfl, rfl, rfl⟩)

/-- A key is staged for the context its delivery belongs to, or opens. -/
theorem State.KeyLaw.delivered (h : s.KeyLaw) (key : Block) (hto : s.DeliversTo d c) (hbounds : 1 ≤ y ∧ y ≤ 23)
    (hempty : (s.slot y).state = .empty) (hlevel : ∀ a, d.predecessor = some a → d.level = (s.slot a).level)
    (hunbound : d.predecessor = none → (s.chan 0).current = none → d.level = 0) :
    ((s.stageSlot d key y).acceptDelivery d c y).KeyLaw := by
  cases hto with
  | opens hexchange hp hc hfree =>
    have hno : ∀ {q : Nat → Prop} a, d.predecessor = some a → q a := fun a ha => by nomatch hp.symm.trans ha
    exact h.installing ⟨hbounds, hempty, hno, hno, hlevel⟩ key hexchange hc hfree hp (hunbound hp)
  | forwards hexchange hopen hstate hsubject =>
    have hasking : ∀ a, d.predecessor = some a → (s.slot a).state = .active ∧ (s.slot a).successor = none :=
        fun a ha => by
      cases h.contextIs hopen with
      | asking b _ _ hb hactive _ hlast _ =>
        obtain rfl : b = a := Option.some.inj (hb.symm.trans (hsubject.trans ha))
        exact ⟨hactive, hlast⟩
      | renewing _ _ _ hwrong => nomatch hwrong.symm.trans hstate
      | booting _ _ hnone => nomatch hnone.symm.trans (hsubject.trans ha)
      | installing _ _ hwrong => nomatch hwrong.symm.trans hstate
      | root _ hwrong => nomatch hwrong.symm.trans hstate
    exact h.forwarded ⟨hbounds, hempty, fun a ha => (hasking a ha).1, fun a ha => (hasking a ha).2, hlevel⟩ key hexchange hopen hstate hsubject hunbound

theorem State.KeyLaw.takeDelivery (h : s.KeyLaw) (hd : ∀ a, d.target = .slot a → a ≤ 23) : (s.takeDelivery d).KeyLaw := by
  unfold State.takeDelivery
  split
  · exact (State.rejectDelivery_alike ..).law h
  next c hcontext =>
  split
  · exact (State.rejectDelivery_alike ..).law h
  next hcheck =>
  split
  · exact (State.rejectDelivery_alike ..).law h
  next key _ =>
  obtain ⟨hrootOpens, hlevel, hunbound⟩ := State.deliveryCheck_assures hcheck
  have hto := State.deliversTo_of_context hcontext
  split
  next hroot =>
    cases hto with
    | opens hexchange _ hc hfree => exact h.delivered_root key hexchange hc hfree
    | forwards hexchange => exact absurd (hrootOpens hroot) hexchange
  next hroot =>
    have hstaged : ∀ y, (1 ≤ y ∧ y ≤ 23) → (s.slot y).state = .empty → ((s.stageSlot d key y).acceptDelivery d c y).KeyLaw :=
      fun y hbounds hempty => h.delivered key hto hbounds hempty hlevel fun hp => hunbound hp hroot
    refine hstaged _ ?_ (State.deliveryCheck_target hcheck hroot)
    cases htarget : d.target with
    | slot a =>
      have ha : a ≠ 0 := fun h0 => hroot (by rw [htarget, h0])
      exact ⟨Nat.one_le_iff_ne_zero.mpr ha, hd a htarget⟩
    | anyFree =>
      cases hlow : s.lowestEmpty with
      | none =>
        unfold State.deliveryCheck at hcheck
        simp [htarget, hlow] at hcheck
      | some y => exact (mem_workingSlots y).mp (List.mem_of_find?_eq_some hlow)

end

end Sys2Proof.Machine
end

section
/-! PROOFS. The law of keys over the messages of head office (R119 to R126) and over the compositions that fall together with an
inbound completion (R109). -/

namespace Sys2Proof.Machine

section
variable {s t : State}

theorem State.updMessenger_alike (f : Messenger → Messenger) (hf : (f s.messenger).nextExchange = s.messenger.nextExchange) :
    s.Alike (s.updMessenger f) := .same ⟨rfl, rfl, rfl, rfl, hf⟩

theorem State.countOrder_alike (b : Bool) (s : State) : s.Alike (s.countOrder b) :=
  State.updMessenger_alike _ (by cases b <;> rfl)

theorem State.countStale_alike (s : State) : s.Alike s.countStale := State.updMessenger_alike _ rfl

theorem Messenger.countHanded_nextExchange (m : Messenger) (q : Message) : (m.countHanded q).nextExchange = m.nextExchange := by
  cases q <;> rfl

theorem State.holder_some {e c : Nat} {q : Context → Bool} (h : s.holder e q = some c) :
    (s.ctx c).isOpen = true ∧ q (s.ctx c) = true := by
  obtain ⟨-, hfound⟩ := State.findCtx_some h
  simp only [Bool.and_eq_true] at hfound
  obtain ⟨⟨hopen, -⟩, hq⟩ := hfound
  exact ⟨hopen, hq⟩

theorem State.KeyLaw.takeCommit (h : s.KeyLaw) (e : Nat) : (s.takeCommit e).KeyLaw := by
  unfold State.takeCommit
  split
  next c hholder =>
    obtain ⟨hopen, hstate⟩ := State.holder_some hholder
    exact h.commitContext hopen (by simpa using hstate)
  next => exact s.countStale_alike.law h

theorem State.KeyLaw.takeRefuse (h : s.KeyLaw) (e r : Nat) : (s.takeRefuse e r).KeyLaw := by
  unfold State.takeRefuse
  split
  next c hholder =>
    obtain ⟨hopen, -⟩ := State.holder_some hholder
    exact State.KeyLaw.refuseContext (s := s.updMessenger fun m => { m with lastRefusal := some (e, r) })
      ((State.updMessenger_alike (fun m => { m with lastRefusal := some (e, r) }) rfl).law h) hopen
  next => exact s.countStale_alike.law h

theorem State.takeRenew_alike (x : Nat) (s : State) : s.Alike (s.takeRenew x) := by
  unfold State.takeRenew
  exact .ite (fun ⟨_, hx⟩ => (State.sendTrigger_alike .order hx).trans (State.countOrder_alike ..))
    fun _ => State.countOrder_alike ..

theorem State.KeyLaw.takeOrder (h : s.KeyLaw) (opens : Bool) (q : OpenRequest) : (s.takeOrder opens q).KeyLaw := by
  unfold State.takeOrder
  split
  · split
    · exact (s.countOrder_alike _).law h
    next hq => exact (State.countOrder_alike ..).law (h.openChannel hq)
  · split
    next happlies =>
      obtain ⟨⟨h1, h47⟩, hkind, -⟩ := (s.orderedCloseApplies_iff _).mp happlies
      exact (State.countOrder_alike ..).law (h.closeChannel (Nat.one_le_iff_ne_zero.mp h1) h47 hkind)
    next => exact (s.countOrder_alike _).law h

theorem State.takeAck_alike (n : Nat) (ps : List (Nat × Nat)) (s : State) : s.Alike (s.takeAck n ps) := by
  have hpairs : s.Alike (ps.foldl State.takePair s) := .foldl (fun _ _ => .same (by simp)) ..
  unfold State.takeAck
  exact .ite (fun _ => hpairs.trans (.same ⟨rfl, rfl, rfl, rfl, rfl⟩)) fun _ => hpairs

theorem State.takeProbe_alike (n f : Nat) (bs : List Byte) (s : State) : s.Alike (s.takeProbe n f bs) := by
  unfold State.takeProbe
  exact .ite (fun _ => State.updLink_alike ..) fun _ => .ite (fun _ => (State.compose_alike ..).trans (State.updLink_alike ..))
    fun _ => (State.compose_alike ..).trans (State.updLink_alike ..)

/-- The target of a parsed delivery is a slot the part has, or any free one (R184). -/
theorem parseDelivery_target {bs : List Byte} {d : Delivery} (h : parseDelivery bs = some (.delivery d)) {a : Nat}
    (ha : d.target = .slot a) : a ≤ 23 := by
  unfold parseDelivery at h
  split at h
  · nomatch h
  split at h
  next x p htarget _ =>
    split at h
    · nomatch h
    · obtain rfl := Message.delivery.inj (Option.some.inj h)
      dsimp only at ha
      rw [ha] at htarget
      unfold targetOf at htarget
      split at htarget
      next hle =>
        rw [← Target.slot.inj (Option.some.inj htarget)]
        exact hle
      next =>
        split at htarget <;> nomatch htarget
  next => nomatch h

theorem parseMessage_delivers {bs : List Byte} {d : Delivery} (h : parseMessage bs = some (.delivery d)) :
    parseDelivery bs = some (.delivery d) := by
  unfold parseMessage at h
  split at h
  · exact h
  · split at h <;> nomatch h
  · split at h <;> nomatch h
  · split at h <;> nomatch h
  · unfold parseOrder at h
    split at h
    · nomatch h
    · dsimp only at h
      split at h <;> nomatch h
  · unfold parseAck at h
    dsimp only at h
    split at h <;> nomatch h
  · unfold parseProbe at h
    dsimp only at h
    split_ifs at h <;> nomatch h
  · nomatch h

theorem State.KeyLaw.takeMessage (h : s.KeyLaw) (m : Message) (hm : ∀ d a, m = .delivery d → d.target = .slot a → a ≤ 23) :
    (s.takeMessage m).KeyLaw := by
  cases m with
  | delivery d =>
    unfold State.takeMessage
    dsimp only
    split
    · exact s.countStale_alike.law h
    · exact h.takeDelivery fun a => hm d a rfl
  | commit e => exact h.takeCommit e
  | refuse e r => exact h.takeRefuse e r
  | renew x => exact (s.takeRenew_alike x).law h
  | order o q => exact h.takeOrder o q
  | ack n ps => exact (s.takeAck_alike n ps).law h
  | probe n f bs => exact (s.takeProbe_alike n f bs).law h

theorem State.KeyLaw.handleControl (h : s.KeyLaw) (bs : List Byte) : (s.handleControl bs).KeyLaw := by
  unfold State.handleControl
  split
  next m hparse =>
    refine State.KeyLaw.takeMessage ((State.updMessenger_alike _ (Messenger.countHanded_nextExchange _ m)).law h) m ?_
    rintro d a rfl
    exact parseDelivery_target (parseMessage_delivers hparse)
  next => exact (State.updMessenger_alike _ rfl).law h

/-! ### Compositions (R69, R109) -/

theorem State.KeyLaw.compositionEvent (h : s.KeyLaw) (i : Instr) : (s.compositionEvent i).KeyLaw := by
  unfold State.compositionEvent
  split
  · exact h.startExchange
  · exact (State.retryCompose_alike ..).law h
  · exact h.expireReply _
  · exact s.endCycle_alike.law h
  · exact h

theorem State.KeyLaw.takeComposition (h : s.KeyLaw) : s.takeComposition.KeyLaw := by
  obtain ⟨i, -, -, hi⟩ | ⟨-, hsame⟩ := s.takeComposition_cases
  · rw [hi]
    exact h.compositionEvent i
  · rwa [hsame]

end

end Sys2Proof.Machine
end

section
/-! PROOFS. The law of keys over the starts and completions of the engine (R82 to R100, R111). -/

namespace Sys2Proof.Machine

section
variable {s t : State}

/-! ### Outbound starts (R82, R84) -/

theorem State.updEngine_alike (f : Engine → Engine) (s : State) : s.Alike (s.updEngine f) := .same ⟨rfl, rfl, rfl, rfl, rfl⟩

theorem State.setWork_alike (w : Option Work) (s : State) : s.Alike (s.setWork w) := State.updEngine_alike ..

theorem State.returnBuffer_alike (s : State) : s.Alike s.returnBuffer := .same (by simp)

theorem State.markSlot_alike {x : Nat} (hx : (s.slot x).state ≠ .empty) : s.Alike (s.markSlot x) :=
  State.updSlot_alike_of_kept (f := fun v => { v with engineUse := true }) hx rfl

theorem State.markChannel_alike (i : Nat) (s : State) : s.Alike (s.markChannel i) :=
  State.updChan_alike (f := fun c => { c with inEngine := true }) rfl

theorem State.charge_taken_alike {x n : Nat} (hx : (s.slot x).state = .active) (h : (s.charge x n).2 = true) :
    s.Alike (s.charge x n).1 := by
  unfold State.charge at h ⊢
  dsimp only at h ⊢
  split at h
  · nomatch h
  next hspent =>
  split at h
  · nomatch h
  next hhard =>
  rw [if_neg hspent, if_neg hhard]
  have hcharged : s.Alike (s.updSlot x fun w =>
      { w with used := w.used + n, intervalCharge := min (w.intervalCharge + n) 4294967295 }) :=
    State.updSlot_alike_of_kept (by rw [hx]; nofun) rfl
  exact hcharged.trans (State.softTest_alike ((hcharged.slot_state x).trans hx))

/-- The slot charged has its counter drawn and its mark set. -/
theorem State.charged_alike {x n : Nat} (hx : (s.slot x).state = .active) (h : (s.charge x n).2 = true) :
    s.Alike (((s.charge x n).1.drawCounter x).1.markSlot x) := by
  have hcharged := State.charge_taken_alike hx h
  have hkept : ((s.charge x n).1.slot x).state ≠ .empty := by
    rw [hcharged.slot_state, hx]
    nofun
  have hdrawn := State.drawCounter_alike hkept
  exact (hcharged.trans hdrawn).trans (State.markSlot_alike (by rwa [hdrawn.slot_state]))

theorem State.noticeOrFree_alike (f : ShopFrame) (r : RefuseReason) (s : State) : s.Alike (s.noticeOrFree f r) := .same (by simp)

theorem State.refuseFrame_alike (f : ShopFrame) (r : RefuseReason) (s : State) : s.Alike (s.refuseFrame f r) := by
  unfold State.refuseFrame
  have hcount : s.Alike (if s.isOpenIndex f.channel ∧ r ≠ .noChannel then
      s.updChan f.channel fun c => { c with refused := satInc 4294967295 c.refused } else s) :=
    .ite (fun _ => State.updChan_alike rfl) fun _ => .refl s
  exact hcount.trans (State.noticeOrFree_alike ..)

theorem State.resolve_current {f : ShopFrame} {i : Nat} (h : s.resolve f = .ok i) : ∃ x, (s.chan i).current = some x := by
  unfold State.resolve at h
  dsimp only at h
  split_ifs at h
  next hsome =>
    cases h
    exact Option.ne_none_iff_exists'.mp hsome
  next hsome =>
    cases h
    exact Option.ne_none_iff_exists'.mp hsome

theorem State.KeyLaw.startFrame (h : s.KeyLaw) (f : ShopFrame) : (s.startFrame f).KeyLaw := by
  unfold State.startFrame
  split
  · exact (State.refuseFrame_alike ..).law h
  next i hresolve =>
    obtain ⟨x, hx⟩ := State.resolve_current hresolve
    have hactive := h.current_active hx
    rw [hx]
    dsimp only [Option.getD_some]
    split
    next htaken =>
      have hmarked := State.charged_alike hactive htaken
      exact (((hmarked.trans (State.markChannel_alike ..)).trans (State.updChan_alike rfl)).trans (State.setWork_alike ..)).law h
    next => exact (State.refuseFrame_alike ..).law (h.charge _ hactive)

theorem State.KeyLaw.startData (h : s.KeyLaw) : s.startData.KeyLaw := by
  unfold State.startData
  split
  · split
    · exact h
    next f rest _ =>
      have htaken : s.Alike ((s.updSIn fun _ => rest).setDirection .outbound) := .same ⟨rfl, rfl, rfl, rfl, rfl⟩
      dsimp only
      split
      · exact (htaken.law h).startFrame f
      · exact (State.refuseFrame_alike ..).law (htaken.law h)
  · exact h

theorem State.launchControl_alike (m : CtrlMsg) (k : WorkKey) (n : Nat) (s : State) : s.Alike (s.launchControl m k n) :=
  .trans (.trans (State.markChannel_alike 0 s) (State.updChan_alike (f := fun c => { c with sent := satInc 4294967295 c.sent }) rfl))
    (State.setWork_alike ..)

theorem State.startUnderRoot_alike (m : CtrlMsg) (s : State) : s.Alike (s.startUnderRoot m) := by
  have hdrawn : s.Alike s.drawRootCounter.1 := .same ⟨rfl, rfl, rfl, rfl, rfl⟩
  unfold State.startUnderRoot
  exact .ite (fun _ => (s.returnBuffer_alike.trans (State.updEngine_alike ..)).trans (State.reportPlaced_alike ..))
    fun _ => hdrawn.trans (State.launchControl_alike ..)

theorem State.KeyLaw.startMessage (h : s.KeyLaw) (m : CtrlMsg) : (s.startMessage m).KeyLaw := by
  unfold State.startMessage
  split
  next x hx =>
    have hactive := h.current_active hx
    split
    · dsimp only
      split
      next htaken => exact ((State.charged_alike hactive htaken).trans (State.launchControl_alike ..)).law h
      next => exact (State.startUnderRoot_alike ..).law (h.charge _ hactive)
    · exact (s.startUnderRoot_alike m).law h
  next => exact (s.startUnderRoot_alike m).law h

theorem State.KeyLaw.startControl (h : s.KeyLaw) : s.startControl.KeyLaw := by
  unfold State.startControl
  split
  · split
    · exact h
    next m rest _ =>
      exact State.KeyLaw.startMessage (s := (s.updCtrl fun _ => rest).setDirection .outbound)
        (State.Alike.law (.same ⟨rfl, rfl, rfl, rfl, rfl⟩) h) m
  · exact h

/-! ### Inbound starts (R88 to R95) -/

theorem State.setAsidePlace_alike (b : Bool) (s : State) : s.Alike (s.setAsidePlace b) := .same ⟨rfl, rfl, rfl, rfl, rfl⟩

theorem State.countMalformed_alike (s : State) : s.Alike s.countMalformed := by
  unfold State.countMalformed
  exact .ite (fun _ => .same (by simp)) fun _ => State.updLink_alike ..

theorem State.countReplay_alike {x : Nat} (hx : (s.slot x).state ≠ .empty) : s.Alike (s.countReplay x) := by
  have hcounted : s.Alike (s.updSlot x fun v => { v with replays := satInc 255 (s.slot x).replays }) :=
    State.updSlot_alike_of_kept hx rfl
  unfold State.countReplay
  exact .ite (fun _ => hcounted.trans (.same (by simp))) fun _ => hcounted

theorem State.countTagFailure_alike {x : Nat} (hx : (s.slot x).state ≠ .empty) : s.Alike (s.countTagFailure x) := by
  have hcounted : s.Alike (s.updSlot x fun v => { v with tagFailures := satInc 255 (s.slot x).tagFailures }) :=
    State.updSlot_alike_of_kept hx rfl
  unfold State.countTagFailure
  dsimp only
  generalize s.updSlot x (fun v => { v with tagFailures := satInc 255 (s.slot x).tagFailures }) = t at *
  have hsuspect : s.Alike ((t.updSlot x fun v => { v with suspect := true }).raiseFault .tagFails (.slot x)) :=
    (hcounted.trans (State.updSlot_alike_of_kept (f := fun v => { v with suspect := true }) (by rwa [hcounted.slot_state])
      rfl)).trans (.same (by simp))
  exact .ite (fun _ => .ite (fun hactive => hsuspect.trans (State.sendTrigger_alike .suspect ((hsuspect.slot_state x).trans hactive)))
    fun _ => hsuspect) fun _ => hcounted

/-- A key found for a frame names a slot that is not EMPTY; the successor found is that of a RENEWAL context. -/
def State.FoundHolds (s : State) : FoundKey → Prop
  | .slot x => (s.slot x).state ≠ .empty
  | .successor _ y c => (s.slot y).state ≠ .empty ∧ (s.ctx c).isOpen = true ∧ (s.ctx c).kind = some .renewal
      ∧ (s.ctx c).state = .awaitCommit ∧ (s.ctx c).successor = some y
  | .root => True

theorem State.FoundHolds.slot {k : FoundKey} (h : s.FoundHolds k) {x : Nat} (hx : k.slot? = some x) :
    (s.slot x).state ≠ .empty := by
  cases k with
  | slot y =>
    obtain rfl := Option.some.inj hx
    exact h
  | successor _ y c =>
    obtain rfl := Option.some.inj hx
    exact h.1
  | root => nomatch hx

theorem State.FoundHolds.alike {k : FoundKey} (h : s.FoundHolds k) (a : s.Alike t) : t.FoundHolds k := by
  cases k with
  | slot x =>
    change (t.slot x).state ≠ .empty
    rw [a.slot_state]
    exact h
  | successor x y c =>
    obtain ⟨hy, hopen, hkind, hstate, hsuccessor⟩ := h
    obtain ⟨cstate, -, ckind, -, csuccessor⟩ := (a.ctx c).tells
    exact ⟨by rwa [a.slot_state], (a.ctx c).isOpen.trans hopen, ckind.trans hkind, cstate.trans hstate,
      csuccessor.trans hsuccessor⟩
  | root => trivial

theorem State.KeyLaw.found (h : s.KeyLaw) {i : Nat} {header : LineHeader} {k : FoundKey} (hk : s.findKey i header = some k) :
    s.FoundHolds k := by
  unfold State.findKey at hk
  dsimp only at hk
  split at hk
  · obtain ⟨x, hx, rfl⟩ := Option.map_eq_some_iff.mp hk
    change (s.slot x).state ≠ .empty
    rw [h.current_active hx]
    nofun
  split at hk
  · obtain ⟨x, hx, rfl⟩ := Option.map_eq_some_iff.mp hk
    change (s.slot x).state ≠ .empty
    rw [h.alternate_draining hx]
    nofun
  split at hk
  next x y c hstaged =>
    split at hk
    · obtain rfl := Option.some.inj hk
      obtain ⟨-, hlink, hy, hcontext⟩ := State.stagedSuccessor_some hstaged
      obtain ⟨-, hfound⟩ := State.findCtx_some hcontext
      simp only [Bool.and_eq_true, beq_iff_eq] at hfound
      obtain ⟨hstate, hsuccessor⟩ := hfound
      have hopen : (s.ctx c).isOpen = true := by rw [Context.isOpen, hstate]; rfl
      refine ⟨by rw [hy]; nofun, hopen, ?_, hstate, hsuccessor⟩
      have hback := (h.links.mutual x y).mp hlink
      cases h.contextIs hopen with
      | asking _ _ hwrong => nomatch hwrong.symm.trans hstate
      | renewing _ _ hkind => exact hkind
      | booting _ hwrong => nomatch hwrong.symm.trans hstate
      | installing z _ _ _ hz _ hunlinked =>
        obtain rfl : z = y := Option.some.inj (hz.symm.trans hsuccessor)
        nomatch hunlinked.symm.trans hback
      | root _ _ _ hz =>
        obtain rfl : 0 = y := Option.some.inj (hz.symm.trans hsuccessor)
        rw [State.slot_zero] at hy
        nomatch hy
    · split at hk
      · obtain rfl := Option.some.inj hk
        trivial
      · nomatch hk
  next =>
    split at hk
    · obtain rfl := Option.some.inj hk
      trivial
    · nomatch hk

theorem State.discardExtra_alike (r : Discard) {k : Option FoundKey}
    (hk : ∀ x, k.bind FoundKey.slot? = some x → (s.slot x).state ≠ .empty) : s.Alike (s.discardExtra r k) := by
  unfold State.discardExtra
  split
  · exact s.countMalformed_alike
  · exact State.updLink_alike ..
  next x hx => exact State.countReplay_alike (hk x hx)
  next x hx => exact State.countTagFailure_alike (hk x hx)
  · exact .refl s

theorem State.discardFrame_alike (r : Discard) (i : Nat) {k : Option FoundKey} (hk : ∀ f, k = some f → s.FoundHolds f) :
    s.Alike (s.discardFrame r i k) := by
  have hcounted : s.Alike ((s.returnBuffer.setAsidePlace false).updEngine fun e => { e with discards := e.discards.add r }) :=
    (s.returnBuffer_alike.trans (State.setAsidePlace_alike ..)).trans (State.updEngine_alike ..)
  unfold State.discardFrame
  dsimp only
  generalize (s.returnBuffer.setAsidePlace false).updEngine (fun e => { e with discards := e.discards.add r }) = t at *
  have hchannel : s.Alike (if (r.onChannel && s.isOpenIndex i) = true then
      t.updChan i fun c => { c with discarded := satInc 4294967295 c.discarded } else t) :=
    .ite (fun _ => hcounted.trans (State.updChan_alike rfl)) fun _ => hcounted
  refine hchannel.trans (State.discardExtra_alike r fun x hx => ?_)
  obtain ⟨f, hf, hfx⟩ := Option.bind_eq_some_iff.mp hx
  exact ((hk f hf).alike hchannel).slot hfx

theorem State.KeyLaw.discardFrame (h : s.KeyLaw) (r : Discard) (i : Nat) : (s.discardFrame r i none).KeyLaw :=
  (State.discardFrame_alike r i (k := none) fun _ hnone => nomatch hnone).law h

theorem State.completeRenewal_active (h : s.KeyLaw) {c y : Nat} (hc : (s.ctx c).isOpen = true)
    (hkind : (s.ctx c).kind = some .renewal) (hstate : (s.ctx c).state = .awaitCommit) (hy : (s.ctx c).successor = some y) :
    ((s.completeRenewal c).slot y).state = .active := by
  obtain ⟨x, z, r⟩ := h.renews hc hkind hstate
  obtain rfl : z = y := Option.some.inj (r.successor.symm.trans hy)
  obtain ⟨e, he, -⟩ := h.exchanges.exchange hc
  obtain ⟨hswitched, -⟩ := State.completeRenewal_switched (State.isOpen_lt hc) he r.subject r.successor
    (State.slot_bounds (s := s) (by rw [r.active]; nofun)) (State.slot_bounds (s := s) (by rw [r.staged]; nofun)) r.active
    r.staged
  rw [hswitched.new]

theorem State.KeyLaw.launchInbound (h : s.KeyLaw) {k : FoundKey} (hk : s.FoundHolds k) (f : LineIn) (i : Nat) :
    (s.launchInbound f k i).KeyLaw := by
  have hflight : ∀ (t : State) w, t.Alike ((t.markChannel i).setWork w) := fun t w =>
    (State.markChannel_alike i t).trans (State.setWork_alike ..)
  cases k with
  | slot x => exact ((State.markSlot_alike hk).trans (hflight _ _)).law h
  | successor x y c =>
    obtain ⟨-, hopen, hkind, hstate, hsuccessor⟩ := hk
    have hactive := State.completeRenewal_active h hopen hkind hstate hsuccessor
    exact ((State.markSlot_alike (s := s.completeRenewal c) (by rw [hactive]; nofun)).trans (hflight _ _)).law
      (h.completeRenewal hopen hkind hstate)
  | root => exact (hflight s _).law h

theorem State.validated_alike {k : FoundKey} (hk : s.FoundHolds k) (n : Nat) : s.Alike (s.updateWindow k n).reportValid := by
  have hwindow : s.Alike (s.updateWindow k n) := by
    unfold State.updateWindow
    split
    next x hx => exact State.updSlot_alike_of_kept (hk.slot hx) rfl
    next => exact .refl s
  refine hwindow.trans ?_
  unfold State.reportValid
  exact .ite (fun _ => .same (by simp)) fun _ => State.updLink_alike ..

theorem State.KeyLaw.checkKey (h : s.KeyLaw) (f : LineIn) (i : Nat) : (s.checkKey f i).KeyLaw := by
  unfold State.checkKey
  dsimp only
  split
  · exact h.discardFrame ..
  next k hfind =>
    have hk := h.found hfind
    have hdiscard : ∀ {t : State}, s.Alike t → ∀ r, (t.discardFrame r i (some k)).KeyLaw := fun ht r =>
      (ht.trans (State.discardFrame_alike r i fun f hf => Option.some.inj hf ▸ hk.alike ht)).law h
    have hvalid := State.validated_alike hk f.parts.header.counter.toNat
    split
    · exact hdiscard (.refl s) _
    split
    · exact hdiscard (.refl s) _
    split
    · exact hdiscard (.refl s) _
    split
    · exact hdiscard hvalid _
    · exact (hvalid.law h).launchInbound (hk.alike hvalid) f i

theorem State.KeyLaw.checkInbound (h : s.KeyLaw) (f : LineIn) : (s.checkInbound f).KeyLaw := by
  unfold State.checkInbound
  dsimp only
  split
  · exact h.discardFrame ..
  split
  · exact h.discardFrame ..
  split
  · exact h.discardFrame ..
  split
  · exact h.discardFrame ..
  split
  · exact h.discardFrame ..
  · exact h.checkKey ..

theorem State.KeyLaw.startInbound (h : s.KeyLaw) : s.startInbound.KeyLaw := by
  unfold State.startInbound
  split
  · split
    · exact h
    next f rest _ =>
      exact State.KeyLaw.checkInbound (s := ((s.updLRx fun _ => rest).setDirection .inbound).setAsidePlace true)
        (State.Alike.law (.same ⟨rfl, rfl, rfl, rfl, rfl⟩) h) f
  · exact h

theorem State.startTest_alike (s : State) : s.Alike s.startTest := by
  unfold State.startTest
  split
  · split
    · exact .same ⟨rfl, rfl, rfl, rfl, rfl⟩
    · exact .refl s
  · exact .refl s

theorem State.startSelfCheck_alike (s : State) : s.Alike s.startSelfCheck := by
  unfold State.startSelfCheck
  exact .ite (fun _ => .same ⟨rfl, rfl, rfl, rfl, rfl⟩) fun _ => .refl s

/-! ### Completions (R96, R97, R111) -/

theorem State.KeyLaw.completeOutbound (h : s.KeyLaw) : s.completeOutbound.KeyLaw := by
  have hplace : ∀ b, s.Alike (s.updLTx fun l => l ++ [b]) := fun b => .same ⟨rfl, rfl, rfl, rfl, rfl⟩
  unfold State.completeOutbound
  split
  next => exact ((hplace _).law h).endFlight ..
  next => exact (((hplace _).trans (State.reportPlaced_alike ..)).law h).endFlight ..
  all_goals exact h

theorem State.deliverData_alike (f : LineIn) (k : WorkKey) (i : Nat) (s : State) : s.Alike (s.deliverData f k i) := by
  have hplace : ∀ g, s.Alike ((s.setAsidePlace false).updSOut g) := fun g => .same ⟨rfl, rfl, rfl, rfl, rfl⟩
  unfold State.deliverData
  exact .ite (fun _ => hplace _) fun _ => (hplace _).trans (State.updChan_alike rfl)

theorem State.KeyLaw.deliverControl (h : s.KeyLaw) (f : LineIn) (k : WorkKey) : (s.deliverControl f k).KeyLaw := by
  have hreleased : ∀ t : State, t.Alike ((t.returnBuffer.setAsidePlace false).updChan 0 fun d =>
      { d with received := satInc 4294967295 d.received }) := fun t =>
    (t.returnBuffer_alike.trans (State.setAsidePlace_alike ..)).trans (State.updChan_alike rfl)
  have hacted := h.handleControl (f.payload k.material)
  unfold State.deliverControl
  refine (hreleased _).law ?_
  split
  · exact hacted.takeComposition
  · exact hacted

theorem State.KeyLaw.completeInbound (h : s.KeyLaw) : s.completeInbound.KeyLaw := by
  unfold State.completeInbound
  split
  next f k n i hw =>
    dsimp only
    split
    · exact (h.deliverControl f k).endFlight ..
    · exact ((s.deliverData_alike f k i).law h).endFlight ..
  all_goals exact h

theorem State.respond_alike (p : Port) (st : Status) (ws : List Word) (s : State) : s.Alike (s.respond p st ws) := .same (by simp)

theorem State.endTest_alike (t : TestRecord) (s : State) : s.Alike (s.endTest t) := by
  unfold State.endTest
  have hanswer := s.respond_alike .l .done [word4 t.requested t.run t.passed (numberCode t.firstFail)]
  exact (hanswer.trans (.ite (fun _ => .same (by simp)) fun _ => .ite (fun _ => .same (by simp)) fun _ => .refl _)).trans
    (State.updLink_alike ..)

theorem State.completeTest_alike (a : BitVec 64) (b : BitVec 512) (s : State) : s.Alike (s.completeTest a b) := by
  unfold State.completeTest
  split
  · exact (s.setWork_alike none).trans (.ite (fun _ => State.updLink_alike ..) fun _ => State.endTest_alike ..)
  · exact .refl s

end

end Sys2Proof.Machine
end

section
/-! PROOFS. The law of keys over power-on, erase, PART RESET and the write of LOAD ROOT (R43, R44, R146, R176, R178, R181). -/

namespace Sys2Proof.Machine

section
variable {s t : State}

/-! ### Power-on and erase (R43, R176, R182) -/

theorem State.keyLaw_reset : State.reset.KeyLaw :=
  ⟨State.referenceLaw_reset, State.aliasLaw_reset, State.linkLaw_reset, State.exchangeLaw_reset⟩

theorem State.keyLaw_powerOn (written : Bool) (s : State) : (s.powerOn written).KeyLaw :=
  State.Alike.law (s := State.reset) (.same ⟨rfl, rfl, rfl, rfl, rfl⟩) State.keyLaw_reset

theorem State.keyLaw_executeErase (p : Port) (s : State) : (s.executeErase p).KeyLaw := by
  have herased : ∀ u : State, State.reset.Alike u.eraseBlocks := fun u => .same (by simp [State.eraseBlocks])
  exact State.Alike.law ((herased _).trans (State.respond_alike ..)) State.keyLaw_reset

theorem State.KeyLaw.executeWaitingErase (h : s.KeyLaw) : s.executeWaitingErase.KeyLaw := by
  unfold State.executeWaitingErase
  split
  · exact State.keyLaw_executeErase ..
  · exact h

theorem State.setPartState_alike (p : PartState) (s : State) : s.Alike (s.setPartState p) := .same (by simp)

theorem State.enterBootstrap_alike (s : State) : s.Alike s.enterBootstrap :=
  (s.setPartState_alike .bootstrap).trans (State.sendBoot_alike _)

theorem State.KeyLaw.completeSelfCheck (h : s.KeyLaw) (upset : Block) : (s.completeSelfCheck upset).KeyLaw := by
  unfold State.completeSelfCheck
  split
  · refine State.KeyLaw.executeWaitingErase (State.Alike.law ((s.setWork_alike none).trans ?_) h)
    exact .ite (fun _ => State.setPartState_alike ..) fun _ => .ite (fun _ => State.enterBootstrap_alike _)
      fun _ => State.setPartState_alike ..
  all_goals exact h

theorem State.updRoot_alike (f : Root → Root) (s : State) : s.Alike (s.updRoot f) := .same ⟨rfl, rfl, rfl, rfl, rfl⟩

theorem State.KeyLaw.completeLoadRoot (h : s.KeyLaw) : s.completeLoadRoot.KeyLaw := by
  unfold State.completeLoadRoot
  split
  · exact State.KeyLaw.executeWaitingErase
      (((State.updRoot_alike ..).trans ((State.respond_alike ..).trans (State.enterBootstrap_alike _))).law h)
  all_goals exact h

/-! ### PART RESET (R44, R146, R181) -/

theorem State.KeyLaw.abandonWork (h : s.KeyLaw) : s.abandonWork.KeyLaw := by
  have hcleared : (s.mapChans fun _ c => if c.state = .closing then {} else { c with inEngine := false }).KeyLaw := by
    refine h.cleared (fun j => ?_) ⟨rfl, rfl, rfl⟩
    rw [State.chan_mapChans]
    split
    · split
      next hclosing => exact .inr ⟨hclosing, rfl⟩
      next => exact .inl rfl
    next hout =>
      rw [State.chan_out s j hout]
      exact .inl rfl
  have hmarks := (State.mapSlots_alike (f := fun _ v => { v with engineUse := false }) (fun _ => rfl) fun _ => rfl).law hcleared
  exact State.Alike.law (.same ⟨rfl, rfl, rfl, rfl, rfl⟩) hmarks

theorem State.KeyLaw.endOpen (h : s.KeyLaw) (c : Nat) : (s.endOpen c).KeyLaw := by
  unfold State.endOpen
  split
  next hc =>
    have hctx := fun d => (s.discardSuccessor c).freeContext_ctx c d
    have hstate := (s.discardSuccessor c).freeContext_state c
    refine State.EndsContext.law (s := s) (c := c) ⟨?_, ?_, ?_, fun d hd => ?_, ?_, ?_⟩ h hc
    · rw [hstate]
      simp
    · rw [hstate]
    · rw [hctx, if_pos ⟨rfl, State.isOpen_lt hc⟩]
    · rw [hctx, if_neg fun h => hd h.1]
      simp
    · rw [hstate]
      simp
    · rw [hstate]
      simp
  next => exact h

theorem State.KeyLaw.endContexts (h : s.KeyLaw) : s.endContexts.KeyLaw := by
  rw [State.endContexts_eq]
  generalize contextNumbers = cs
  induction cs generalizing s with
  | nil => exact h
  | cons c cs ih => exact ih (h.endOpen c)

theorem State.endContexts_closed (s : State) (c : Nat) : (s.endContexts.ctx c).isOpen = false := by
  obtain ⟨hctx, -⟩ := State.foldl_endOpen (cs := contextNumbers) (by decide) s
  rw [State.endContexts_eq, hctx]
  split
  · rfl
  next hnot =>
    by_contra hopen
    have hopen : (s.ctx c).isOpen = true := by simpa using hopen
    exact hnot ⟨List.mem_range.mpr (State.isOpen_lt hopen), hopen⟩

/-- Every context ends and the list is emptied; no STAGED key is left. -/
theorem State.KeyLaw.resetRenewal (h : s.KeyLaw) : s.resetRenewal.KeyLaw ∧ ∀ y, (s.resetRenewal.slot y).state ≠ .staged := by
  have hended := h.endContexts
  have hclosed := s.endContexts_closed
  unfold State.resetRenewal
  generalize s.endContexts = t at *
  refine ⟨State.Alike.law (s := t) (.of_list (.sublist (List.nil_sublist _)) ⟨rfl, rfl, rfl, rfl⟩) hended, fun y hy => ?_⟩
  obtain ⟨c, hc, -⟩ := hended.exchanges.staged (y := y) hy
  exact Bool.false_ne_true ((hclosed c).symm.trans hc)

theorem State.discardStaged_none (h : ∀ y, (s.slot y).state ≠ .staged) :
    s.discardStaged = s.updRoot fun r => { r with pendingRoot := none } := by
  have hfold : ∀ xs : List Nat, xs.foldl (fun t x => t.discardSlot x) s = s := fun xs => by
    induction xs with
    | nil => rfl
    | cons x xs ih => rw [List.foldl_cons, State.discardSlot, if_neg (h x), ih]
  rw [State.discardStaged, hfold]

theorem State.restartDrains_alike (s : State) : s.Alike s.restartDrains :=
  State.mapSlots_alike (f := fun _ v => { v with requested := false, drain := if v.state = .draining then 32 else v.drain })
    (fun _ => rfl) fun _ => rfl

theorem State.reraiseSlot_alike (s : State) (x : Nat) : s.Alike (s.reraiseSlot x) := by
  have hraise : ∀ (t : State) k, t.Alike (t.raiseFault k (.slot x)) := fun t k => .same (by simp)
  have hspent : s.Alike (if (s.slot x).state = .active ∧ (s.slot x).spent then
      if (s.slot x).maxAge + 256 ≤ (s.slot x).age then s.raiseFault .keyAgeOver (.slot x) else s.raiseFault .keySpent (.slot x)
      else s) := .ite (fun _ => .ite (fun _ => hraise ..) fun _ => hraise ..) fun _ => .refl s
  unfold State.reraiseSlot
  exact .ite (fun _ => hspent.trans (hraise ..)) fun _ => hspent

theorem State.resendTriggers_alike (s : State) : s.Alike s.resendTriggers := by
  unfold State.resendTriggers
  refine .trans (.foldl (fun t x => .ite (fun hx => State.sendTrigger_alike .spent hx.1) fun _ => .refl t) ..)
    (.foldl (fun t x => .ite (fun hx => State.sendTrigger_alike .suspect hx.1) fun _ => .refl t) ..)

theorem State.KeyLaw.partResetBlocks (h : s.KeyLaw) : s.partResetBlocks.KeyLaw := by
  obtain ⟨hreset, hnone⟩ := h.abandonWork.resetRenewal
  unfold State.partResetBlocks
  rw [State.discardStaged_none hnone]
  dsimp only
  generalize s.abandonWork.resetRenewal = t at *
  have hpool : t.Alike (t.updRoot fun r => { r with pendingRoot := none }).resetPool := .same ⟨rfl, rfl, rfl, rfl, rfl⟩
  have hports : ∀ u : State, u.Alike
      (((u.updMessenger fun m => { m with noSlotMark := false }).setWindow none).resetPorts.resetFaults .restarted) :=
    fun u => .same (by simp)
  have hcut := (hpool.trans (State.restartDrains_alike _)).trans (hports _)
  have hraised := (hcut.trans (.foldl State.reraiseSlot_alike workingSlots _)).trans (State.resendTriggers_alike _)
  refine State.Alike.law (hraised.trans ?_) hreset
  have hpart : ∀ (u : State) (f : LinkWatch → LinkWatch) p, u.Alike ((u.updLink f).setPartState p) := fun u f p =>
    (State.updLink_alike ..).trans (State.setPartState_alike ..)
  exact .ite (fun _ => (hpart ..).trans (State.sendBoot_alike _)) fun _ => hpart ..

end

end Sys2Proof.Machine
end

section
/-! PROOFS. The law of keys over the access points, the commands and every step (O7). -/

namespace Sys2Proof.Machine

section
variable {s t : State}

/-! ### The access points -/

theorem State.updPort_alike (p : Port) (f : PortState → PortState) (s : State) : s.Alike (s.updPort p f) := by
  cases p <;> exact .same ⟨rfl, rfl, rfl, rfl, rfl⟩

theorem State.takeDescriptor_alike (p : Port) (w : Word) (s : State) : s.Alike (s.takeDescriptor p w) := by
  have hignore : ∀ (t : State) n, t.Alike (t.ignorePush p n) := fun t n =>
    .trans (State.updPort_alike ..) (State.updPort_alike ..)
  have hoverrun : s.Alike (s.countOverrun p) := by cases p <;> exact .same ⟨rfl, rfl, rfl, rfl, rfl⟩
  have hjoin : s.Alike (s.takeBuffer.joinIn p w) := by cases p <;> exact .same ⟨rfl, rfl, rfl, rfl, rfl⟩
  unfold State.takeDescriptor
  exact .ite (fun _ => hignore ..) fun _ => .ite (fun _ => hjoin.trans (State.updPort_alike ..))
    fun _ => hoverrun.trans (hignore ..)

theorem State.writeFrameIn_alike (p : Port) (w : Word) (s : State) : s.Alike (s.writeFrameIn p w) := by
  unfold State.writeFrameIn
  split
  · exact s.takeDescriptor_alike p w
  · refine .trans ?_ (State.updPort_alike ..)
    cases p <;> exact .same ⟨rfl, rfl, rfl, rfl, rfl⟩
  · exact State.updPort_alike ..

theorem State.readFrameOut_alike (p : Port) (s : State) : s.Alike (s.readFrameOut p) := by
  have hread : ∀ w, s.Alike (s.returnWord p w) := fun w => State.updPort_alike ..
  have hpop : ∀ t : State, t.Alike (t.popOut p) := fun t => by
    cases p with
    | s => exact .trans (t := t.updSOut List.tail) (.same ⟨rfl, rfl, rfl, rfl, rfl⟩) (State.returnBuffer_alike _)
    | l => exact .trans (t := t.updLTx List.tail) (.same ⟨rfl, rfl, rfl, rfl, rfl⟩) (State.returnBuffer_alike _)
  unfold State.readFrameOut
  split
  · exact hread 0
  · exact .trans (hread _) (.ite (fun _ => (hpop _).trans (State.updPort_alike ..)) fun _ => State.updPort_alike ..)

theorem State.readResponse_alike (p : Port) (s : State) : s.Alike (s.readResponse p) :=
  .ite (fun _ => State.updPort_alike ..) fun _ => .trans (State.updPort_alike ..) (State.updPort_alike ..)

theorem State.completeMail_alike (p : Port) (n : Nat) (ws : List Word) (s : State) : s.Alike (s.completeMail p n ws) :=
  .trans (State.updPort_alike ..) (State.updPort_alike ..)

theorem State.writeMailbox_alike (p : Port) (w : Word) (s : State) : s.Alike (s.writeMailbox p w) := by
  unfold State.writeMailbox
  dsimp only
  split
  · exact .ite (fun _ => .trans (State.updPort_alike ..) (State.updPort_alike ..)) fun _ =>
      .ite (fun _ => State.completeMail_alike ..) fun _ => State.updPort_alike ..
  · exact .ite (fun _ => State.completeMail_alike ..) fun _ => State.updPort_alike ..
  · exact State.updPort_alike ..

theorem State.readMailbox_alike (p : Port) (s : State) : s.Alike (s.readMailbox p) :=
  .ite (fun _ => .trans (.trans (State.updPort_alike ..) (State.updPort_alike ..)) (State.updPort_alike ..))
    fun _ => .trans (State.updPort_alike ..) (State.updPort_alike ..)

theorem State.readStatus_alike (p : Port) (s : State) : s.Alike (s.readStatus p) :=
  .trans (State.updPort_alike ..) (State.updPort_alike ..)

/-! ### The commands -/

/-- What a channel command that passes every check can rely on (R14, R18). -/
theorem State.channelCheck_assures {i : Nat} (h : s.channelCheck i = none) :
    (1 ≤ i ∧ i ≤ 47) ∧ (s.chan i).kind ≠ .empty ∧ (s.chan i).state ≠ .closing := by
  unfold State.channelCheck at h
  split_ifs at h with _ hindex hkind _ hclosing
  exact ⟨by omega, hkind, hclosing⟩

theorem State.KeyLaw.channelClose (h : s.KeyLaw) (p : Port) (w : Word) : (channelClose p w s).KeyLaw := by
  unfold Machine.channelClose
  split
  · exact (State.respond_alike ..).law h
  next hcheck =>
    obtain ⟨⟨h1, h47⟩, hkind, -⟩ := State.channelCheck_assures hcheck
    exact (State.respond_alike ..).law (h.closeChannel (Nat.one_le_iff_ne_zero.mp h1) h47 hkind)

theorem State.KeyLaw.channelOpen (h : s.KeyLaw) (p : Port) (w2 w3 : Word) : (channelOpen p w2 w3 s).KeyLaw := by
  unfold Machine.channelOpen
  split
  · exact (State.respond_alike ..).law h
  next hcheck => exact (State.respond_alike ..).law (h.openChannel hcheck)

/-- The state that CHANNEL RESET sets from the key is the one the descriptor has. -/
theorem State.KeyLaw.stateFromKey (h : s.KeyLaw) {i : Nat} (hi : i ≠ 0) (hkind : (s.chan i).kind ≠ .empty)
    (hclosing : (s.chan i).state ≠ .closing) : s.stateFromKey (s.chan i) = (s.chan i).state := by
  unfold State.stateFromKey
  split
  next haliased =>
    obtain ⟨g, hg, -, hstate, -⟩ := h.aliases.target haliased
    rw [hg]
    exact hstate
  next haliased =>
    have hdata : (s.chan i).kind = .data := by
      obtain ⟨hcontrols, -⟩ := h.references.control
      cases hk : (s.chan i).kind with
      | data => rfl
      | empty => exact absurd hk hkind
      | aliased => exact absurd hk haliased
      | control => exact absurd hk (hcontrols i hi)
    cases hx : (s.chan i).current with
    | none => exact absurd (h.references.unbound hdata hx) hclosing
    | some x =>
      obtain ⟨-, -, hstate, -⟩ := h.references.current hx
      exact hstate.symm

theorem State.KeyLaw.channelReset (h : s.KeyLaw) (p : Port) (w : Word) : (channelReset p w s).KeyLaw := by
  unfold Machine.channelReset
  split
  · exact (State.respond_alike ..).law h
  next hcheck =>
    obtain ⟨⟨h1, -⟩, hkind, hclosing⟩ := State.channelCheck_assures hcheck
    have hstate := h.stateFromKey (Nat.one_le_iff_ne_zero.mp h1) hkind hclosing
    refine State.Alike.law (.trans (State.updChan_alike ?_) (State.respond_alike ..)) h
    dsimp only
    rw [hstate]
    rfl

theorem State.KeyLaw.erase (h : s.KeyLaw) (p : Port) : (erase p s).KeyLaw := by
  have hwindow : ∀ w, s.Alike (s.setWindow w) := fun w => .same ⟨rfl, rfl, rfl, rfl, rfl⟩
  unfold Machine.erase
  split
  · exact ((hwindow _).trans (State.respond_alike ..)).law h
  · split
    · exact ((hwindow _).trans (State.respond_alike ..)).law h
    · split
      · exact ((hwindow _).trans (State.updPort_alike ..)).law h
      · exact State.keyLaw_executeErase ..

theorem queueReset_alike (p : Port) (w : Word) (s : State) : s.Alike (queueReset p w s) := by
  have hbuffers : ∀ (n : Nat) (t : State), t.Alike (t.returnBuffers n) := fun n t => .same (by simp)
  have hends : ∀ t : State, t.Alike (t.endPush p) := fun t => .same (by simp)
  unfold queueReset
  split
  · refine .trans (.trans (.trans ?_ (hends _)) (hbuffers ..)) (State.respond_alike ..)
    cases p <;> exact .same ⟨rfl, rfl, rfl, rfl, rfl⟩
  · refine .trans (.trans (.trans ?_ (State.updPort_alike ..)) (hbuffers ..)) (State.respond_alike ..)
    cases p <;> exact .same ⟨rfl, rfl, rfl, rfl, rfl⟩
  · exact State.respond_alike ..

theorem renewNow_alike (p : Port) (w : Word) (s : State) : s.Alike (renewNow p w s) := by
  have hrefuse : ∀ st, s.Alike (s.refuse p st) := fun st => State.respond_alike ..
  unfold renewNow
  exact .ite (fun _ => hrefuse _) fun _ => .ite (fun _ => hrefuse _) fun _ => .ite (fun _ => hrefuse _) fun hx =>
    .trans (.trans (State.setRequested_alike true (by rw [not_not.mp hx]; nofun)) (State.receiveTrigger_alike ..))
      (State.respond_alike ..)

theorem State.updBeacon_alike (f : Beacon → Beacon) (s : State) : s.Alike (s.updBeacon f) := .same ⟨rfl, rfl, rfl, rfl, rfl⟩

theorem State.KeyLaw.runCommand (h : s.KeyLaw) (c : Command) (p : Port) (a : Nat → Word) : (runCommand c p a s).KeyLaw := by
  have hrefuse : ∀ st, s.Alike (s.refuse p st) := fun st => State.respond_alike ..
  have hanswer : ∀ st ws, s.Alike (s.respond p st ws) := fun st ws => State.respond_alike ..
  cases c with
  | channelOpen => exact h.channelOpen ..
  | channelClose => exact h.channelClose ..
  | channelFlags =>
    refine State.Alike.law (.ite (fun _ => hrefuse _) fun _ => .trans (State.mapChans_alike fun i => ?_)
      (State.respond_alike ..)) h
    split <;> rfl
  | channelReset => exact h.channelReset ..
  | channelRead => exact State.Alike.law (.ite (fun _ => hrefuse _) fun _ => hanswer ..) h
  | keyStatus => exact State.Alike.law (.ite (fun _ => hrefuse _) fun _ => hanswer ..) h
  | faultRead => exact State.Alike.law (.ite (fun _ => hrefuse _) fun _ => hanswer ..) h
  | partRead =>
    change (partRead p (a 2) s).KeyLaw
    unfold partRead
    split
    · exact (hanswer ..).law h
    · exact (hrefuse _).law h
  | renewNow => exact (renewNow_alike ..).law h
  | queueLimits =>
    have hlimits : ∀ f, s.Alike (s.updPoolPort p f) := fun f => by cases p <;> exact .same ⟨rfl, rfl, rfl, rfl, rfl⟩
    exact (((hlimits _).trans (State.updPort_alike ..)).trans (State.respond_alike ..)).law h
  | queueReset => exact (queueReset_alike ..).law h
  | faultDismiss =>
    change (faultDismiss p (a 2) s).KeyLaw
    unfold faultDismiss
    split
    · exact (hrefuse _).law h
    · exact State.Alike.law (.ite (fun _ => hrefuse _) fun _ => .trans (.same (by simp)) (State.respond_alike ..)) h
  | beaconSet =>
    change (beaconSet p (a 2) s).KeyLaw
    unfold beaconSet
    split
    · exact (hrefuse _).law h
    · exact ((State.updBeacon_alike ..).trans (State.respond_alike ..)).law h
  | beaconCommit => exact ((State.updBeacon_alike ..).trans (State.respond_alike ..)).law h
  | beaconHalt => exact ((State.updBeacon_alike ..).trans (State.respond_alike ..)).law h
  | loadRoot => exact State.Alike.law (.ite (fun _ => hrefuse _) fun _ => State.updPort_alike ..) h
  | partReset =>
    change (partReset p s).KeyLaw
    unfold partReset
    split
    · exact (hrefuse _).law h
    · exact (State.respond_alike ..).law h.partResetBlocks
  | quiesce =>
    exact State.Alike.law (.ite (fun _ => hrefuse _) fun _ => .trans
      ((s.setPartState_alike .quiesced).trans (State.updLink_alike ..)) (State.respond_alike ..)) h
  | resume =>
    exact State.Alike.law (.ite (fun _ => hrefuse _) fun _ => .trans
      ((s.setPartState_alike .run).trans (State.updLink_alike ..)) (State.respond_alike ..)) h
  | localLoop =>
    exact State.Alike.law (.ite (fun _ => hrefuse _) fun _ => .ite (fun _ => hrefuse _) fun _ =>
      .trans (State.updLink_alike ..) (State.updPort_alike ..)) h
  | erase => exact h.erase p

/-! ### Gathering -/

theorem State.KeyLaw.takeCommand (h : s.KeyLaw) (p : Port) (ws : List Word) : (s.takeCommand p ws).KeyLaw := by
  have hidle := (s.updPort_alike p fun q => { q with cmd := .idle }).law h
  have hrefuse : ∀ st, ((s.updPort p fun q => { q with cmd := .idle }).refuse p st).KeyLaw := fun st =>
    (State.respond_alike ..).law hidle
  unfold State.takeCommand
  dsimp only
  split
  · exact hrefuse _
  · split_ifs
    · exact hrefuse _
    · exact hidle.runCommand ..
    · exact hrefuse _

theorem State.KeyLaw.writeCommand (h : s.KeyLaw) (p : Port) (w : Word) : (s.writeCommand p w).KeyLaw := by
  unfold State.writeCommand
  split
  · exact State.Alike.law (State.updPort_alike ..) h
  · split_ifs
    · exact h.takeCommand p _
    · exact State.Alike.law (State.updPort_alike ..) h
  · dsimp only
    split_ifs
    · exact h.takeCommand p _
    · exact State.Alike.law (State.updPort_alike ..) h

theorem State.KeyLaw.writeCommandWords (h : s.KeyLaw) (p : Port) (ws : List Word) : (s.writeCommandWords p ws).KeyLaw := by
  induction ws generalizing s with
  | nil => exact h
  | cons w ws ih => exact ih (h.writeCommand p w)

theorem State.KeyLaw.writeAccess (h : s.KeyLaw) (p : Port) (sel : BitVec 3) (w : Word) : (s.writeAccess p sel w).KeyLaw := by
  unfold State.writeAccess
  split
  · exact (s.writeFrameIn_alike p w).law h
  · exact h.writeCommand p w
  · exact (s.writeMailbox_alike p w).law h
  · exact h

theorem State.readAccess_alike (p : Port) (sel : BitVec 3) (s : State) : s.Alike (s.readAccess p sel) := by
  unfold State.readAccess
  split
  · exact s.readFrameOut_alike p
  · exact s.readResponse_alike p
  · exact s.readMailbox_alike p
  · exact s.readStatus_alike p
  · exact State.updPort_alike ..

/-! ### Every command -/

theorem State.expireWindow_alike (s : State) : s.Alike s.expireWindow := by
  unfold State.expireWindow
  split
  · exact .same ⟨rfl, rfl, rfl, rfl, rfl⟩
  all_goals exact .refl s

theorem State.KeyLaw.of_next {u : State} (hu : u.KeyLaw)
    (ht : (Host.Outcome.next u : Host.Outcome State Fault Refusal) = .next t) : t.KeyLaw := by
  rwa [← Host.Outcome.next.inj ht]

/-- Every command keeps the law of keys. -/
theorem exec_keyLaw (i : Instr) (h : exec i s = .next t) (hs : s.KeyLaw) : t.KeyLaw := by
  have hcommand : ∀ p ws, (s.writeCommandWords p ws).KeyLaw := hs.writeCommandWords
  cases i with
  | powerOn written => exact (s.keyLaw_powerOn written).of_next h
  | tick => exact (s.tickAll_alike.law hs).of_next h
  | keyAgeLimit slot => exact onSlot_next h ▸ (s.ageTest_alike slot).law hs
  | keyGraceExpiry slot => exact onSlot_next h ▸ hs.graceTest slot
  | accountIntervalEnd => exact (s.endInterval_alike.law hs).of_next h
  | drainEnd slot => exact onSlot_next h ▸ hs.endDrain slot
  | eraseWindowExpiry => exact (s.expireWindow_alike.law hs).of_next h
  | quietWatchExpiry => exact (s.expireQuiet_alike.law hs).of_next h
  | replyTimerExpiry context => exact onContext_next h ▸ hs.expireReply context
  | backoffEnd slot => exact onSlot_next h ▸ (s.endBackoff_alike slot).law hs
  | bootBackoffEnd => exact (s.endBootBackoff_alike.law hs).of_next h
  | contextComposeRetry context => exact onContext_next h ▸ (s.retryCompose_alike context).law hs
  | bootTriggerRelisted => exact (s.relistBoot_alike.law hs).of_next h
  | beaconCycleEnd => exact (s.endCycle_alike.law hs).of_next h
  | exchangeStart => exact hs.startExchange.of_next h
  | selfCheckStart => exact (s.startSelfCheck_alike.law hs).of_next h
  | selfCheckCompletion upset => exact (hs.completeSelfCheck upset).of_next h
  | outboundDataStart => exact hs.startData.of_next h
  | outboundControlStart => exact hs.startControl.of_next h
  | inboundStart => exact hs.startInbound.of_next h
  | testStart => exact (s.startTest_alike.law hs).of_next h
  | outboundCompletion => exact hs.completeOutbound.of_next h
  | inboundCompletion => exact hs.completeInbound.of_next h
  | testCompletion tagUpset textUpset => exact ((s.completeTest_alike ..).law hs).of_next h
  | frameInWrite port w => exact ((s.writeFrameIn_alike port w).law hs).of_next h
  | frameOutRead port => exact ((s.readFrameOut_alike port).law hs).of_next h
  | responseRead port => exact ((s.readResponse_alike port).law hs).of_next h
  | mailboxWrite port w => exact ((s.writeMailbox_alike port w).law hs).of_next h
  | mailboxRead port => exact ((s.readMailbox_alike port).law hs).of_next h
  | statusRead port => exact ((s.readStatus_alike port).law hs).of_next h
  | registerWriteOther port select access =>
    cases access with
    | write w => exact (hs.writeAccess port select w).of_next h
    | read => exact ((s.readAccess_alike port select).law hs).of_next h
  | loadRootWriteComplete => exact hs.completeLoadRoot.of_next h
  | _ => exact (hcommand ..).of_next h

theorem step_keyLaw (h : step s = .next t) (hs : s.KeyLaw) : t.KeyLaw := by
  unfold step at h
  split at h
  · exact hs.of_next h
  next c rest _ => exact exec_keyLaw c h (State.Alike.law (s := s) (.same ⟨rfl, rfl, rfl, rfl, rfl⟩) hs)

end

/-- Settles O7: the marks are among what every step carries; each operation keeps the law of keys. -/
theorem stepKeepsMarksOfWork : Obligations.StepKeepsMarksOfWork := fun _ _ h =>
  ⟨(step_carries h).marks, step_keyLaw h⟩

end Sys2Proof.Machine
end
